-- ==== Sys2Proof/Word.lean ====
section
/-! DEFINITION. The words of the node: bytes of host memory and packets, and 32-bit and 64-bit register words (R7, R249). -/

namespace Sys2Proof

/-- One byte of a packet, a record or host memory (R7). -/
abbrev Byte := BitVec 8

/-- One 32-bit register (R249), or the bits of one REAL32 value (R94). -/
abbrev Word := BitVec 32

/-- One 64-bit register (R249). -/
abbrev DWord := BitVec 64

end Sys2Proof
end

