-- ==== Sys2Proof/Syntax.lean ====
section
/-! DEFINITION. The commands of the node, one constructor of `Instr` for each row of the operation table, and the
data they carry: command packets (R274), the readings the surroundings give a command, and ring frames.
Every constructor's first operand `dt` is the Node Time in ns since the command before it. -/

namespace Sys2Proof

/-- A command packet (R273, R274), but for its OPCODE. -/
structure Cmd where
  /-- R274; FLAGS bit 0 -/
  auth : Bool := false
  /-- R274; FLAGS bits [9:1], which must be 0 -/
  flagsRsv : Nat := 0
  /-- R274; FLAGS bits [15:10] -/
  target : Nat := 0
  /-- R274; 32 bits -/
  token : Nat := 0
  /-- R274; 16 bits -/
  session : Nat := 0
  /-- R274; 8 bits -/
  replyFlow : Nat := 0
  /-- R274; 8 bits: CLASS -/
  cls : Nat := 255
  /-- R274; 32 bits: PARAM_LEN -/
  paramLen : Nat := 0
  /-- R274; 64 bits -/
  cookie : Nat := 0
  /-- R274; 64 bits -/
  notBefore : Nat := 0
  /-- R274; header bytes 32 to 63 -/
  inl : List Byte := []
  /-- R273; extended parameters -/
  ext : List Byte := []
  /-- R277; trailer COUNTER -/
  counter : Nat := 0
  /-- R277; trailer bytes 8 to 31: reserved bytes and TAG -/
  tag : List Byte := []
  deriving DecidableEq, Repr

/-- What the surroundings answer while a command executes: nothing in it is state of the node. -/
structure Env where
  /-- bytes of host memory that the command reads at the address its packet names; none when the read fails -/
  dma : Option (List Byte) := none
  /-- bytes of host memory that the packets of a configuration read (R558), one list per packet -/
  dmas : List (List Byte) := []
  /-- switches, paths, parts or bands whose test fails, by number -/
  fails : List Nat := []
  /-- physical readings, in the order the owning rule takes them -/
  sense : List Int := []
  deriving DecidableEq, Repr

/-- Errors of the PCI Express link that the node reports (R268). -/
inductive PcieError where
  | unexpectedCompletion | poisonedWrite | fatalLink | internal
  deriving DecidableEq, Repr

/-- A record as a MIRROR frame carries it (R469, R481). -/
structure StoredRecord where
  /-- R469; 3 bits -/
  sev : Nat
  /-- R469; 8 bits -/
  fmt : Nat
  /-- R469; 32 bits -/
  rseq : Nat
  /-- R469; 64 bits -/
  time : Nat
  /-- R470 -/
  body : List Byte
  deriving DecidableEq, Repr

/-- R249; a read request of the host: offset in the function's registers and size in bytes. -/
structure RegRead where
  offset : Nat
  size : Nat
  deriving DecidableEq, Repr

/-- R81, R266; one waveform word's code, and the deviation of the excitation readback from the set level in ppm. -/
structure WaveReading where
  code : BitVec 24
  ppm : Nat
  deriving DecidableEq, Repr

/-- R40; a channel whose switches change, with the switches whose path test fails, by number. -/
structure SwitchedChan where
  ch : Fin 64
  fails : List Nat
  deriving DecidableEq, Repr

/-- R152, R420; a pin with the test current off: voltage in mV and current out of the pin in µA. -/
structure OffReading where
  mv : Nat
  ua : Nat
  deriving DecidableEq, Repr

/-- R152, R420; an on pin: current in mA and, after a turn-on, whether it reached 90 % of L+ within 300 µs. -/
structure OnReading where
  ma : Nat
  rose : Option Bool
  deriving DecidableEq, Repr

/-- R157; the spare driver's readback on a digital island, in mV. -/
structure RailReading where
  isl : Fin 6
  mv : Nat
  deriving DecidableEq, Repr

/-- R357; source and destination of a ring frame. -/
structure FrameNodes where
  src : Fin 33
  dst : Fin 33
  deriving DecidableEq, Repr

/-- What a cold start finds: lost journal segments (R460) and the switches whose path test fails (R40). -/
structure ColdLinks where
  lost : List (Fin 4096)
  fails : List Nat
  deriving DecidableEq, Repr

/-- What one precision conversion finds at the terminals of a channel (R53 to R58, R90, R97). -/
structure Reading where
  /-- R49; 24-bit code of the active slice -/
  code : BitVec 24
  /-- R57; deviation of the excitation readback from the set level, ppm -/
  readback : Nat
  /-- R97, R424: code of the joined spare slice -/
  spare : Option (BitVec 24)
  /-- R90; 0.001 °C: readings of CJ0 and CJ1 -/
  cj : Option (Int × Int)
  /-- R59; code of the second window of a RES3 sample -/
  second : BitVec 24 := 0
  /-- R40: switches whose path test fails, by number -/
  fails : List Nat := []
  deriving DecidableEq, Repr

/-- What one readback of an output finds (R118, R129, R420). -/
structure Readback where
  /-- R118; REAL32: current in mA -/
  rbi : Word
  /-- R118; REAL32: terminal voltage in V -/
  rbv : Word
  /-- R121: the stage is in its limit -/
  limit : Bool
  /-- R132; REAL32: internal stage sense of the first and second cell, mA or V -/
  cellA : Word
  cellB : Word
  /-- R118: code of the measuring slice -/
  code : BitVec 24
  deriving DecidableEq, Repr

/-- A frame as a ring port receives it (R355). -/
structure RingFrame where
  /-- R355; 3 bits: 0 T, 1 C, 2 A, 3 S, 4 M -/
  cls : Nat
  /-- R356; 5 bits -/
  typ : Nat
  src : Nat
  dst : Nat
  hops : Nat
  /-- R355, R383; 32 bits -/
  hopSeq : Nat
  /-- R355; FLAGS: direction, KEY_SLOT, FIRST, LAST -/
  dir : Nat
  keySlot : Nat
  first : Bool
  last : Bool
  /-- R355; 32 bits -/
  originSeq : Nat
  payload : List Byte
  /-- R382; 96-bit tag -/
  tag : List Byte
  /-- R355: the CRC matches -/
  crcOk : Bool
  deriving DecidableEq, Repr

/-- What a RING_EVENT frame says (R363); that a handover and a key switch travel in it too is the model's choice (R372, R384). -/
inductive RingEvent where
  | portDown (port : Nat) (detected : Nat)
  | handover (node : Nat) (time : Nat)
  | keySwitch (slot : Nat) (cycle : Nat)
  deriving DecidableEq, Repr

/-- Payload of a CYCLE frame, with its source (R365). -/
structure CycleFrame where
  src : Nat
  cycle : Nat
  time : Nat
  period : Nat
  cofs : Nat
  members : BitVec 32
  present : BitVec 32
  changeAt : Nat
  newPeriod : Nat
  newCofs : Nat
  standby : Nat
  deriving DecidableEq, Repr

/-- One value of an EXPORT frame (R308, R337): export slot, SQW and value. -/
structure ExportValue where
  slot : Nat
  sqw : BitVec 16
  value : Word
  deriving DecidableEq, Repr

/-- One value of an OUTPUT frame (R308, R337). -/
structure RemoteValue where
  node : Nat
  index : Nat
  set : Nat
  sqw : BitVec 16
  value : Word
  deriving DecidableEq, Repr

/-- One sample of a SAMPLES frame (R378). -/
structure PeerSample where
  kind : Nat
  index : Nat
  value : Word
  sqw : BitVec 16
  time : Nat
  deriving DecidableEq, Repr

/-- A record of a RECORD frame (R251, R379). -/
structure PeerRecord where
  typ : Nat
  time : Nat
  index : Nat
  subsys : Nat
  code : Nat
  payload : List Byte
  /-- R206; ns: decision instant at the member -/
  decided : Nat
  deriving DecidableEq, Repr


/-- The opcodes of R299, one for each command a packet can name. -/
inductive Opc where
  | deviceReset | modeSet | modeRead | startWordSet | roleSet | profileSet | dormantEnter | channelConfigure
  | channelRead | blankConfigure | crosspointTest | conditionConfigure | tableLoad | tableRead
  | outputConfigure | outputWrite | outputParallel | outputFaultClear | outputHoldSet | channelSimulate
  | channelCalibrate | pinConfigure | pinRead | digitalWrite | groupConfigure | digitalFaultClear
  | counterReset | digitalHoldSet | pinSimulate | pointConfigure | pointRead | alarmAck | alarmSilence
  | alarmShelve | pointService | alarmGroupConfigure | chainConfigure | callConfigure | dutySet
  | firstoutReset | tileBind | derivedConfigure | programLoad | programStart | programStop | programStatus
  | variableRead | variableForce | cycleConfigure | setConfigure | ringConfigure | ringStatus | ringKeySet
  | timeConfigure | pairConfigure | masterHandover | spareStatus | spareSwap | sparePolicy | spareApprove
  | wearRead | recordRead | recorderStatus | quotaSet | mirrorConfigure | recordMark | journalRead
  | panelConfigure | waveformLoad | panelWrite | panelUpdate | tileImageLoad | panelStatus | panelPower
  | clockRead | clockShift | clockAlarmSet | leapSet | trimCurveLoad | packageStage | packageActivate
  | updateWindowSet | provenSetAccept | healthRead | sensorRead | ownerKeyInstall | seal | retire | debugOpen
  | debugClose | securityStatus | tamperClear | ownerKeyRotate | sessionOpen | sessionClose | sessionRead
  | echo | flowOpen | flowClose | flowRead | streamOpen | streamClose | budgetRead
  deriving DecidableEq, Repr


/-- The commands of the node: one constructor for each row of the operation table (spec/opcode_table.json). -/
inductive Instr where
  /-- R260: Host writes a session doorbell; the node checks the value and fetches the announced slots, or stops the ring. -/
  | glbSesDbWrite (dt : Nat) (ses : Fin 64) (value : BitVec 16)
  /-- R261: A write of GLB_SES_CFG.EN from 0 to 1 resets HEAD and the doorbell count and restarts a stopped ring. -/
  | sessionRingEnable (dt : Nat) (ses : Fin 64) (value : Word)
  /-- R282: A fetched packet is copied into core memory, HEAD advances, and the fetch checks accept or refuse it. -/
  | commandFetch (dt : Nat) (ses : Fin 64) (opcode : BitVec 16) (c : Cmd) (err : Option (Fin 3))
  /-- R283: An accepted command starts at its start instant S, after any earlier command on the same object has completed. -/
  | commandStart (dt : Nat) (id : Nat) (env : Env)
  /-- R284: The work is unfinished at S + B, so the node abandons it and replies FAILED_HARDWARE BOUND_REACHED. -/
  | commandBoundReached (dt : Nat) (id : Nat)
  /-- R293: The target receives a forwarded command, applies checks 3, 7 and 8 and executes it. -/
  | forwardedCommandReceive (dt : Nat) (opcode : BitVec 16) (c : Cmd) (rights : BitVec 4)
  /-- R294: The master receives the answer from the target and returns it to the host, or discards it after FAILED_REMOTE. -/
  | forwardAnswerReceive (dt : Nat) (id : Nat) (code : Word) (payload : List Byte)
  /-- R294: No answer has arrived by S + B + 4 ms, so the master replies FAILED_REMOTE NO_ANSWER. -/
  | forwardNoAnswer (dt : Nat) (id : Nat)
  /-- R290: A duplicate-window entry reaches its keep time and leaves the window. -/
  | dupWindowExpiry (dt : Nat) (ses : Fin 64) (token : Word)
  /-- R287: The full reset is asserted once the DEVICE_RESET reply is delivered or its time limit passes. -/
  | deviceResetAssert (dt : Nat)
  /-- R228: The earliest-deadline item is written to host memory, with LOW_RESERVE set or the flow stalled as the free entries decide. -/
  | itemWriteDue (dt : Nat)
  /-- R210: A zero-length flushing read is issued behind written, undelivered items at least every 8 µs. -/
  | flushingReadIssue (dt : Nat) (pf : Fin 2)
  /-- R210: The completion of a flushing read marks every write before it as delivered and frees its journal slots. -/
  | flushingReadCompletion (dt : Nat) (pf : Fin 2)
  /-- R268: A flushing read ends in Completion Timeout; the node reissues it and writes record 0x002A. -/
  | flushReadTimeout (dt : Nat) (pf : Fin 2)
  /-- R253: Host writes a flow's head count; the node accepts or ignores it and updates the free entries. -/
  | flwHeadWrite (dt : Nat) (flow : Fin 256) (value : Word)
  /-- R257: Host re-arms a HELD flow; the node counts the entries already read and rewrites the remaining journaled items with LATE_RESET. -/
  | flwCtlArm (dt : Nat) (flow : Fin 256) (value : Word)
  /-- R256: A flow's delivered-item count or time threshold is reached and its MSI-X message is sent. -/
  | msixMessageDue (dt : Nat) (flow : Fin 256)
  /-- R256: A masked vector with a pending PBA bit is unmasked and its message is sent. -/
  | msixVectorUnmask (dt : Nat) (pf : Fin 3) (vector : Fin 264)
  /-- R206: The last word of a waveform block reaches core and the block is offered to its stream flow. -/
  | streamBlockComplete (dt : Nat) (flow : Fin 256)
  /-- R242: The link trains to a new speed or width; admission capacity changes and record 0x0033 is written. -/
  | linkWidthChange (dt : Nat) (speed : Fin 4) (width : Fin 5)
  /-- R244: The link goes down without a reset; flows with undelivered items stall and training restarts. -/
  | linkDown (dt : Nat)
  /-- R244: PERST_N is asserted and a full reset of the node follows. -/
  | perstAssert (dt : Nat) (low : Bool)
  /-- R244: A Hot Reset or Link Disable from upstream causes a full reset. -/
  | hotResetReceive (dt : Nat)
  /-- R244: Bus Master Enable is cleared in a function, which then issues no requests and its flows stall. -/
  | busMasterDisable (dt : Nat) (pf : Fin 3) (cleared : Bool)
  /-- R244: A function enters D3hot and behaves as with Bus Master Enable cleared until it returns to D0. -/
  | d3hotEntry (dt : Nat) (pf : Fin 3) (entered : Bool)
  /-- R244: Memory Space Enable is cleared and requests to that function's BARs complete with Unsupported Request. -/
  | memorySpaceDisable (dt : Nat) (pf : Fin 3) (cleared : Bool)
  /-- R243: The link has been idle for 20 µs with L1 allowed, so the node enters ASPM L1. -/
  | l1Entry (dt : Nat) (aspm : Bool)
  /-- R268: A correctable link error causes a link-level replay and is counted. -/
  | pcieCorrectableError (dt : Nat)
  /-- R268: An uncorrectable error is handled as its severity requires, sets GLB_ERR and writes record 0x0034. -/
  | pcieUncorrectableError (dt : Nat) (pf : Fin 3) (kind : PcieError) (status : Word) (header : List Byte)
  /-- R8: A write to a register that has no row of its own takes effect according to its access code. -/
  | registerWrite (dt : Nat) (pf : Fin 3) (offset : Nat) (size : Nat) (value : DWord)
  /-- R249: A read of the low half of a 64-bit register latches its high half. -/
  | register64LowRead (dt : Nat) (pf : Fin 3) (r : RegRead)
  /-- R112: A read of ACH_CH_RAW latches the SQW, TIME, ENG and CJVAL registers of the same sample. -/
  | achChRawRead (dt : Nat) (ch : Fin 64)
  /-- R118: A read of ACH_OUT_RBI latches ACH_OUT_RBV of the same readback sample. -/
  | achOutRbiRead (dt : Nat) (ch : Fin 64)
  /-- R165: A read of DCH_PIN_STATUS latches the pin's count, frequency, SQW and time registers. -/
  | dchPinStatusRead (dt : Nat) (pin : Fin 96)
  /-- R495: A read of RTC_SUBSEC latches a calendar snapshot and its Node Time. -/
  | rtcSubsecRead (dt : Nat)
  /-- R495: A write to RTC_SNAP latches a calendar snapshot and its Node Time. -/
  | rtcSnapWrite (dt : Nat) (value : Word)
  /-- R496: Writing 1 to RTC_CTL.HALT freezes the calendar, loads the staged fields and starts the elapsed count. -/
  | rtcHaltSet (dt : Nat)
  /-- R496: Writing 0 to HALT checks the staged fields and restarts the clock from them, or resumes it on an impossible date. -/
  | rtcHaltRelease (dt : Nat)
  /-- R496: A write to RTC_TIME or RTC_DATE updates the staged fields while halted, or is ignored with WERR. -/
  | rtcCalendarWrite (dt : Nat) (date : Bool) (value : Word)
  /-- R500: A write to RTC_SHIFT stages a sub-second advance or retard for the next second boundary. -/
  | rtcShiftWrite (dt : Nat) (value : Word)
  /-- R504: Writing 1 to SRC_RETRY starts a 1 s check of the primary crystal. -/
  | rtcSrcRetry (dt : Nat)
  /-- R467: Command: completes with OK and then asserts a full reset, with the islands powered or cycled. -/
  | deviceReset (dt : Nat) (c : Cmd) (env : Env)
  /-- R391: Command: stages a new commanded mode word for the next cycle boundary. -/
  | modeSet (dt : Nat) (c : Cmd) (env : Env)
  /-- R415: Command: returns the commanded, effective, forced, start and pending mode words. -/
  | modeRead (dt : Nat) (c : Cmd) (env : Env)
  /-- R394: Command: sets the start word MOD_START. -/
  | startWordSet (dt : Nat) (c : Cmd) (env : Env)
  /-- R403: Command: sets the cascade role. -/
  | roleSet (dt : Nat) (c : Cmd) (env : Env)
  /-- R404: Command: stores the management profile for the next full reset. -/
  | profileSet (dt : Nat) (c : Cmd) (env : Env)
  /-- R452: Command: completes and then leads the node into DORMANT with a wake mask. -/
  | dormantEnter (dt : Nat) (c : Cmd) (env : Env)
  /-- R74: Command: sets the kind, range, settings and terminals of an analogue channel. -/
  | channelConfigure (dt : Nat) (c : Cmd) (env : Env)
  /-- R75: Command: returns the last raw code, SQW, sequence number and time of a channel. -/
  | channelRead (dt : Nat) (c : Cmd) (env : Env)
  /-- R76: Command: sets an island's blanking configuration. -/
  | blankConfigure (dt : Nat) (c : Cmd) (env : Env)
  /-- R77: Command: runs the path test on the in-service switches of the masked terminals. -/
  | crosspointTest (dt : Nat) (c : Cmd) (env : Env)
  /-- R109: Command: sets curve, cold junction, autoranging and scaling of a channel. -/
  | conditionConfigure (dt : Nat) (c : Cmd) (env : Env)
  /-- R87: Command: loads a user table or a Steinhart-Hart set into a slot. -/
  | tableLoad (dt : Nat) (c : Cmd) (env : Env)
  /-- R110: Command: returns the format, count, CRC and points of a slot. -/
  | tableRead (dt : Nat) (c : Cmd) (env : Env)
  /-- R137: Command: makes a channel an output of a kind, with its flags and safe value. -/
  | outputConfigure (dt : Nat) (c : Cmd) (env : Env)
  /-- R125: Command: sends a set point to a host-owned output. -/
  | outputWrite (dt : Nat) (c : Cmd) (env : Env)
  /-- R128: Command: adds or removes a cell of an output pair, or moves the share between its cells. -/
  | outputParallel (dt : Nat) (c : Cmd) (env : Env)
  /-- R122: Command: clears FAIL_LATCH of an output. -/
  | outputFaultClear (dt : Nat) (c : Cmd) (env : Env)
  /-- R133: Command: sets the output hold time of an analogue island. -/
  | outputHoldSet (dt : Nat) (c : Cmd) (env : Env)
  /-- R396: Command: starts, replaces or ends the simulation of an analogue channel. -/
  | channelSimulate (dt : Nat) (c : Cmd) (env : Env)
  /-- R398: Command: runs a calibration step (begin, capture, commit, abort, clear or drive) on a channel. -/
  | channelCalibrate (dt : Nat) (c : Cmd) (env : Env)
  /-- R398: The capture window closes and a calibration point is recorded, or the capture is refused. -/
  | calCaptureEnd (dt : Nat) (ch : Fin 64)
  /-- R143: Command: sets the mode, flags, filter and safe mode of a digital pin. -/
  | pinConfigure (dt : Nat) (c : Cmd) (env : Env)
  /-- R164: Command: returns the state, level, SQW, count, frequency and diagnostics of a pin. -/
  | pinRead (dt : Nat) (c : Cmd) (env : Env)
  /-- R158: Command: sends commanded states to host-owned DO pins. -/
  | digitalWrite (dt : Nat) (c : Cmd) (env : Env)
  /-- R153: Command: joins or separates the pins of an aligned quad as pairs or a quad. -/
  | groupConfigure (dt : Nat) (c : Cmd) (env : Env)
  /-- R151: Command: clears LATCHED on the masked pins. -/
  | digitalFaultClear (dt : Nat) (c : Cmd) (env : Env)
  /-- R164: Command: zeroes the masked counters at its instant. -/
  | counterReset (dt : Nat) (c : Cmd) (env : Env)
  /-- R161: Command: sets the hold time of a digital island. -/
  | digitalHoldSet (dt : Nat) (c : Cmd) (env : Env)
  /-- R396: Command: starts, replaces or ends the simulation of a digital pin. -/
  | pinSimulate (dt : Nat) (c : Cmd) (env : Env)
  /-- R204: Command: writes the descriptor of an alarm point. -/
  | pointConfigure (dt : Nat) (c : Cmd) (env : Env)
  /-- R204: Command: returns the status or descriptor of a point. -/
  | pointRead (dt : Nat) (c : Cmd) (env : Env)
  /-- R183: Command: acknowledges a point, group, chain or all points. -/
  | alarmAck (dt : Nat) (c : Cmd) (env : Env)
  /-- R183: Command: silences a point, group, chain or all points for 30 s. -/
  | alarmSilence (dt : Nat) (c : Cmd) (env : Env)
  /-- R189: Command: starts or ends the shelving timer of a point. -/
  | alarmShelve (dt : Nat) (c : Cmd) (env : Env)
  /-- R190: Command: takes a point out of service or returns it. -/
  | pointService (dt : Nat) (c : Cmd) (env : Env)
  /-- R192: Command: sets a group's common output, mode, reflash and first-out settings. -/
  | alarmGroupConfigure (dt : Nat) (c : Cmd) (env : Env)
  /-- R194: Command: sets an escalation chain's times, call category and pins. -/
  | chainConfigure (dt : Nat) (c : Cmd) (env : Env)
  /-- R196: Command: assigns a cabin call pin, the all-engineers pin or the duty selector. -/
  | callConfigure (dt : Nat) (c : Cmd) (env : Env)
  /-- R196: Command: sets the duty cabin when DSRC is 0. -/
  | dutySet (dt : Nat) (c : Cmd) (env : Env)
  /-- R193: Command: re-arms the first-out record of a group or of all groups. -/
  | firstoutReset (dt : Nat) (c : Cmd) (env : Env)
  /-- R198: Command: binds a tile slot to a point, a group or nothing. -/
  | tileBind (dt : Nat) (c : Cmd) (env : Env)
  /-- R170: Command: sets the operator and operands of a derived slot. -/
  | derivedConfigure (dt : Nat) (c : Cmd) (env : Env)
  /-- R349: Command: loads and checks a program image into the slot that is not running. -/
  | programLoad (dt : Nat) (c : Cmd) (env : Env)
  /-- R342: Command: starts or switches to a slot at the next cycle boundary. -/
  | programStart (dt : Nat) (c : Cmd) (env : Env)
  /-- R342: Command: stops the program at the next boundary and drives its outputs to their safe values. -/
  | programStop (dt : Nat) (c : Cmd) (env : Env)
  /-- R348: Command: returns program state, cycle figures and overruns. -/
  | programStatus (dt : Nat) (c : Cmd) (env : Env)
  /-- R348: Command: returns up to three variables from the published copy. -/
  | variableRead (dt : Nat) (c : Cmd) (env : Env)
  /-- R345: Command: forces or releases a forceable variable while SIM is 1. -/
  | variableForce (dt : Nat) (c : Cmd) (env : Env)
  /-- R348: Command: sets the program period and the overrun limit. -/
  | cycleConfigure (dt : Nat) (c : Cmd) (env : Env)
  /-- R329: Command: defines a consistency set by member mask and REDUCE. -/
  | setConfigure (dt : Nat) (c : Cmd) (env : Env)
  /-- R385: Command: sets node number, priority and port enables. -/
  | ringConfigure (dt : Nat) (c : Cmd) (env : Env)
  /-- R385: Command: returns ring, port or directory status. -/
  | ringStatus (dt : Nat) (c : Cmd) (env : Env)
  /-- R384: Command: loads, activates or erases a ring key slot. -/
  | ringKeySet (dt : Nat) (c : Cmd) (env : Env)
  /-- R376: Command: sets the PPS settings or steps the master's Node Time. -/
  | timeConfigure (dt : Nat) (c : Cmd) (env : Env)
  /-- R381: Command: pairs or unpairs a local channel with a peer channel. -/
  | pairConfigure (dt : Nat) (c : Cmd) (env : Env)
  /-- R372: Command: hands the master role to an eligible node at a cycle boundary. -/
  | masterHandover (dt : Nat) (c : Cmd) (env : Env)
  /-- R440: Command: returns the roles and state of a spare pool instance. -/
  | spareStatus (dt : Nat) (c : Cmd) (env : Env)
  /-- R440: Command: starts a planned swap job for a part. -/
  | spareSwap (dt : Nat) (c : Cmd) (env : Env)
  /-- R423: Command: sets the swap policy of a pool. -/
  | sparePolicy (dt : Nat) (c : Cmd) (env : Env)
  /-- R440: Command: approves or rejects a swap proposal. -/
  | spareApprove (dt : Nat) (c : Cmd) (env : Env)
  /-- R440: Command: returns the wear index and metric of a part. -/
  | wearRead (dt : Nat) (c : Cmd) (env : Env)
  /-- R490: Command: writes matching stored records to host memory. -/
  | recordRead (dt : Nat) (c : Cmd) (env : Env)
  /-- R489: Command: returns recorder status and counts and ends the recorder fault source. -/
  | recorderStatus (dt : Nat) (c : Cmd) (env : Env)
  /-- R478: Command: sets the severity quotas of the store. -/
  | quotaSet (dt : Nat) (c : Cmd) (env : Env)
  /-- R481: Command: sets the mirroring partners, severity, rate and segment limit. -/
  | mirrorConfigure (dt : Nat) (c : Cmd) (env : Env)
  /-- R470: Command: stores a text mark in the recorder. -/
  | recordMark (dt : Nat) (c : Cmd) (env : Env)
  /-- R490: Command: copies bytes of a journal region to host memory. -/
  | journalRead (dt : Nat) (c : Cmd) (env : Env)
  /-- R511: Command: sets panel geometry, line timing and rail settings. -/
  | panelConfigure (dt : Nat) (c : Cmd) (env : Env)
  /-- R522: Command: loads and checks a DG-WFS waveform set. -/
  | waveformLoad (dt : Nat) (c : Cmd) (env : Env)
  /-- R525: Command: copies a pixel rectangle into the target image and journals it. -/
  | panelWrite (dt : Nat) (c : Cmd) (env : Env)
  /-- R526: Command: queues an update job of a rectangle in a named mode. -/
  | panelUpdate (dt : Nat) (c : Cmd) (env : Env)
  /-- R534: Command: places a tile area and loads its four images. -/
  | tileImageLoad (dt : Nat) (c : Cmd) (env : Env)
  /-- R536: Command: returns panel status, temperature, set and active regions. -/
  | panelStatus (dt : Nat) (c : Cmd) (env : Env)
  /-- R536: Command: sets RAIL_HOLD or runs a rail test. -/
  | panelPower (dt : Nat) (c : Cmd) (env : Env)
  /-- R508: Command: returns the calendar, status and trim from one latch. -/
  | clockRead (dt : Nat) (c : Cmd) (env : Env)
  /-- R500: Command: stages a sub-second shift and completes once it has taken effect. -/
  | clockShift (dt : Nat) (c : Cmd) (env : Env)
  /-- R505: Command: sets the value and mask of a clock alarm. -/
  | clockAlarmSet (dt : Nat) (c : Cmd) (env : Env)
  /-- R507: Command: schedules or cancels a leap second, or sets the leap count. -/
  | leapSet (dt : Nat) (c : Cmd) (env : Env)
  /-- R503: Command: loads a crystal trim curve or restores the factory curve. -/
  | trimCurveLoad (dt : Nat) (c : Cmd) (env : Env)
  /-- R557: Command: starts a job that verifies a package and writes it into the inactive bank. -/
  | packageStage (dt : Nat) (c : Cmd) (env : Env)
  /-- R567: Command: starts a job that activates the staged banks of the masked kinds. -/
  | packageActivate (dt : Nat) (c : Cmd) (env : Env)
  /-- R571: Command: sets or clears an update window. -/
  | updateWindowSet (dt : Nat) (c : Cmd) (env : Env)
  /-- R561: Command: accepts the running trial set as the proven set. -/
  | provenSetAccept (dt : Nat) (c : Cmd) (env : Env)
  /-- R571: Command: copies health log entries to host memory. -/
  | healthRead (dt : Nat) (c : Cmd) (env : Env)
  /-- R571: Command: returns up to eight sensor values. -/
  | sensorRead (dt : Nat) (c : Cmd) (env : Env)
  /-- R550: Command: installs the owner key and moves the lifecycle to COMMISSION. -/
  | ownerKeyInstall (dt : Nat) (c : Cmd) (env : Env)
  /-- R406: Command: moves COMMISSION to SEALED when its preconditions hold. -/
  | seal (dt : Nat) (c : Cmd) (env : Env)
  /-- R407: Command: forces all modes off, destroys the keys and moves the node to RETIRED. -/
  | retire (dt : Nat) (c : Cmd) (env : Env)
  /-- R410: Command: opens debug at OBSERVE or FULL, with a token in SEALED. -/
  | debugOpen (dt : Nat) (c : Cmd) (env : Env)
  /-- R412: Command: closes debug and revokes its token. -/
  | debugClose (dt : Nat) (c : Cmd) (env : Env)
  /-- R571: Command: returns security status, tamper state, sessions and key check values. -/
  | securityStatus (dt : Nat) (c : Cmd) (env : Env)
  /-- R555: Command: clears the latched tamper flag. -/
  | tamperClear (dt : Nat) (c : Cmd) (env : Env)
  /-- R550: Command: writes a new owner key into the next fuse slot. -/
  | ownerKeyRotate (dt : Nat) (c : Cmd) (env : Env)
  /-- R300: Command: verifies a grant, derives the session keys and opens a session. -/
  | sessionOpen (dt : Nat) (c : Cmd) (env : Env)
  /-- R301: Command: closes a session. -/
  | sessionClose (dt : Nat) (c : Cmd) (env : Env)
  /-- R302: Command: returns the state of a session. -/
  | sessionRead (dt : Nat) (c : Cmd) (env : Env)
  /-- R303: Command: returns the inline parameters and the Node Time of execution. -/
  | echo (dt : Nat) (c : Cmd) (env : Env)
  /-- R212: Command: admits and opens a record flow. -/
  | flowOpen (dt : Nat) (c : Cmd) (env : Env)
  /-- R235: Command: stops acceptance on a record flow and closes it once delivered or discarded. -/
  | flowClose (dt : Nat) (c : Cmd) (env : Env)
  /-- R235: Command: returns the state and counts of a flow. -/
  | flowRead (dt : Nat) (c : Cmd) (env : Env)
  /-- R218: Command: admits and opens a waveform stream flow. -/
  | streamOpen (dt : Nat) (c : Cmd) (env : Env)
  /-- R235: Command: stops acceptance on a stream flow and closes it. -/
  | streamClose (dt : Nat) (c : Cmd) (env : Env)
  /-- R237: Command: returns the admission demand and capacity at a window. -/
  | budgetRead (dt : Nat) (c : Cmd) (env : Env)
  /-- R301: A session's grant reaches NOT_AFTER and the node closes the session. -/
  | sessionGrantExpiry (dt : Nat) (ses : Fin 64)
  /-- R54: An island receives a strobe message and anchors the sample grid of a rate. -/
  | sampleStrobe (dt : Nat) (isl : Fin 8) (rate : Fin 17)
  /-- R80: At a sample instant the island conditions the decimator result into a value and an SQW and buffers it. -/
  | precisionSample (dt : Nat) (ch : Fin 64) (r : Reading)
  /-- R81: The waveform decimator produces a calibrated word at its sample instant. -/
  | waveformWord (dt : Nat) (ch : Fin 64) (r : WaveReading)
  /-- R71: The core receives an island link frame and accepts each sample once by sequence number. -/
  | sampleFrameReceive (dt : Nat) (isl : Fin 8) (count : Nat) (acked : Bool)
  /-- R23: A FIFO word fails parity; it is discarded and recovered by resend, retry or failure. -/
  | fifoParityError (dt : Nat) (crossing : Fin 11) (isl : Fin 14) (id : Nat)
  /-- R50: The island compares its three references and sets REF_DEGRADED or REF_FAULT as they agree. -/
  | referenceVote (dt : Nat) (isl : Fin 8) (dev : Vector Int 3)
  /-- R63: A terminal clamp starts to conduct; slice switches open and flags, blanking and record 0x0310 follow. -/
  | clampOnset (dt : Nat) (isl : Fin 8) (term : Fin 32)
  /-- R64: A terminal clamp stops conducting and its live bit clears. -/
  | clampEnd (dt : Nat) (isl : Fin 8) (term : Fin 32)
  /-- R63: The clamp has been quiet for 1 ms and the slice switches close again. -/
  | clampReclose (dt : Nat) (isl : Fin 8) (term : Fin 32)
  /-- R65: A BLANKn input asserts and its island starts blanking. -/
  | blankInputAssert (dt : Nat) (isl : Fin 8)
  /-- R65: A BLANKn input deasserts and its blanking source ends. -/
  | blankInputDeassert (dt : Nat) (isl : Fin 8)
  /-- R65: The HOLD extension after the last blanking source ends and the interval closes. -/
  | blankHoldExpiry (dt : Nat) (isl : Fin 8)
  /-- R69: Blanking has lasted 1 s and record 0x0313 is written. -/
  | longBlanking (dt : Nat) (isl : Fin 8)
  /-- R41: At least 20 µs after the old switches opened, the new switches close and the channel restarts at a sample boundary. -/
  | channelSwitchClose (dt : Nat) (ch : Fin 64)
  /-- R102: A deferred excitation change takes effect at the frame boundary, marking samples UNSETTLED. -/
  | excitationChange (dt : Nat) (c : SwitchedChan)
  /-- R57: A pulsed channel's source cell switches on at the lead time before its window. -/
  | pulseSourceOn (dt : Nat) (ch : Fin 64)
  /-- R58: The source readback is checked 10 µs before the window; repeated failures make the fault point active. -/
  | pulseReadbackCheck (dt : Nat) (ch : Fin 64) (ppm : Nat)
  /-- R57: The decimator resets and the conversion window opens. -/
  | pulseWindowOpen (dt : Nat) (ch : Fin 64)
  /-- R27: No link frames have come from an island for 50 µs; the island is declared lost. -/
  | islandLinkLost (dt : Nat) (isl : Fin 14)
  /-- R133: An island finds its link silent and starts holding its outputs. -/
  | islandLinkSilent (dt : Nat) (isl : Fin 14)
  /-- R133: The link returns to an island, which reports its state and keeps holding. -/
  | islandLinkRestored (dt : Nat) (isl : Fin 14)
  /-- R133: The analogue hold time ends and every output still held takes its safe value. -/
  | outputHoldExpiry (dt : Nat) (isl : Fin 8)
  /-- R118: An output's readback sample is taken and judged for compliance and open wire. -/
  | outputReadbackSample (dt : Nat) (ch : Fin 64) (r : Readback)
  /-- R126: The island applies a staged set point at its named instant. -/
  | setPointApply (dt : Nat) (ch : Fin 64)
  /-- R145: A pin level stays stable for FILTER and is accepted with the time of its first scan. -/
  | inputTransitionAccepted (dt : Nat) (pin : Fin 96) (level : Bool) (since : Nat)
  /-- R146: A DI or DO pin produces its 100 ms repeat sample. -/
  | inputPeriodicSample (dt : Nat) (pin : Fin 96)
  /-- R148: A COUNT pin's counter counts an edge chosen by EDGE. -/
  | countEdge (dt : Nat) (pin : Fin 96) (rising : Bool)
  /-- R148: A COUNT pin produces its 10 ms sample. -/
  | countSample (dt : Nat) (pin : Fin 96)
  /-- R148: A FREQ pin's gate ends and the frequency sample is computed. -/
  | freqGateEnd (dt : Nat) (pin : Fin 96)
  /-- R150: The island applies a new output state at its named instant, delayed by PRE where set. -/
  | doStateApply (dt : Nat) (pin : Fin 96)
  /-- R151: A pin's current reaches the limit and the 2 ms limit timer starts. -/
  | driverCurrentLimit (dt : Nat) (pin : Fin 96) (ma : Nat)
  /-- R151: A pin still in limit after 2 ms is turned off, SHORT is set and record 0x0321 is written. -/
  | shortLimitTimeout (dt : Nat) (pin : Fin 96) (still : Bool) (ma : Nat)
  /-- R151: A retry after a short falls due, or LATCHED is set after the last retry. -/
  | shortRetry (dt : Nat) (pin : Fin 96)
  /-- R152: A driver junction reaches 150 °C and the driver turns off. -/
  | thermalShutdown (dt : Nat) (pin : Fin 96)
  /-- R152: The junction cools to 135 °C and the driver is enabled again. -/
  | thermalReenable (dt : Nat) (pin : Fin 96)
  /-- R152: An on pin's current stays below 5 mA or above 10 mA for 50 ms, so OPEN_ON sets or clears. -/
  | openOnDetect (dt : Nat) (pin : Fin 96) (ma : Nat)
  /-- R152: The 50 ms off-state test judges OPEN_OFF and EXT_SUPPLY. -/
  | offStateTest (dt : Nat) (pin : Fin 96) (mvOn : Nat) (off : OffReading)
  /-- R152: The input current falls below 0.15 mA, or recovers, and WIRE_BREAK sets or clears. -/
  | wireBreakDetect (dt : Nat) (pin : Fin 96) (ua : Nat)
  /-- R152: A driver's on-resistance is measured and feeds its wear index. -/
  | ronMeasure (dt : Nat) (pin : Fin 96) (mohm : Nat) (m : OnReading)
  /-- R141: L+ enters a new state and record 0x0324 is written. -/
  | lplusStateChange (dt : Nat) (isl : Fin 6) (mv : Nat)
  /-- R155: The 1 ms group check turns off a deviating member and runs the group on degraded or latches it. -/
  | groupMemberCheck (dt : Nat) (isl : Fin 6) (quad : Fin 4) (cur : Vector Nat 4)
  /-- R157: A step of a driver swap onto the spare rail falls due. -/
  | railSwapStep (dt : Nat) (r : RailReading)
  /-- R161: The digital hold time ends; held pins take their safe values and record 0x0326 is written. -/
  | digitalHoldExpiry (dt : Nat) (isl : Fin 6)
  /-- R172: A sample reaches the Alarm Engine and is evaluated for every point it feeds. -/
  | alarmSample (dt : Nat)
  /-- R176: A run reaches its on-delay or off-delay and C changes. -/
  | delayExpiry (dt : Nat) (point : Fin 4096)
  /-- R175: No usable sample has come for STALE_TO, so the point holds its value with STALE. -/
  | staleTimeout (dt : Nat) (point : Fin 4096) (sup : Bool)
  /-- R179: The partner sample has not come within 2 ms, so that side is unusable for the instant. -/
  | votePartnerTimeout (dt : Nat) (point : Fin 4096)
  /-- R181: A fault source changes state, record 0x0205 is written and FAULT points are evaluated. -/
  | faultSourceChange (dt : Nat) (index : Fin 256)
  /-- R187: The suppression source has left its value for SUP_RELEASE and the cause ends. -/
  | suppressionRelease (dt : Nat) (point : Fin 4096)
  /-- R183: The 30 s silence ends and an AS point returns to AU. -/
  | silenceExpiry (dt : Nat) (point : Fin 4096)
  /-- R189: A shelving timer ends and the point unshelves. -/
  | shelveExpiry (dt : Nat) (point : Fin 4096)
  /-- R194: An escalation step falls due; horn, beacon or calls are driven and record 0x0203 is written. -/
  | escalationStepDue (dt : Nat) (point : Fin 4096)
  /-- R195: A rising edge on a chain's ACK pin acknowledges the chain's points. -/
  | ackPinEdge (dt : Nat) (chain : Fin 16)
  /-- R195: A rising edge on a chain's SILENCE pin silences the chain's points. -/
  | silencePinEdge (dt : Nat) (chain : Fin 16)
  /-- R196: A selector reading stable for 1 s sets the duty cabin and moves any step-2 call. -/
  | dutySelectorStable (dt : Nat)
  /-- R196: A selector reading invalid for 1 s sets ALM_DUTY.INVALID and fault source 178. -/
  | dutySelectorInvalid (dt : Nat)
  /-- R193: FO_WIN passes; the first-out record is decided and record 0x0202 is written. -/
  | firstOutDecide (dt : Nat) (group : Fin 256)
  /-- R192: The 1 s reflash gap ends and the common output turns on again. -/
  | reflashEnd (dt : Nat) (group : Fin 256)
  /-- R325: At a SNAP instant the node builds the input image and writes the system variables. -/
  | cycleSnap (dt : Nat)
  /-- R325: At the gather instant imports that have not arrived keep their values with STALE. -/
  | importGather (dt : Nat)
  /-- R327: The Block Engine solves the block list into a work copy and stages the outputs. -/
  | solve (dt : Nat)
  /-- R331: The deciding node judges GO or NOGO for each set from the READYs received. -/
  | setDecision (dt : Nat)
  /-- R331: At COMMIT outputs are applied or fall back per set, and the work copy is published. -/
  | cycleCommit (dt : Nat)
  /-- R340: SOLVE misses its deadline; the cycle is abandoned and every output falls back. -/
  | solveOverrun (dt : Nat)
  /-- R392: A staged mode word is applied at a cycle boundary, falling bits first. -/
  | modeWordApply (dt : Nat)
  /-- R390: A force whose cause has ended is released at the next cycle boundary. -/
  | modeForceRelease (dt : Nat)
  /-- R344: After a full reset an AUTOSTART slot runs again from its first SNAP. -/
  | programAutostart (dt : Nat)
  /-- R357: A ring frame is received, verified and forwarded by cut-through or stripped. -/
  | ringFrameReceive (dt : Nat) (port : Fin 2) (f : RingFrame)
  /-- R358: A port sends its periodic link word with ACK and credit. -/
  | linkWordSend (dt : Nat) (port : Fin 2)
  /-- R358: A link word is received and updates ACK, credits or requests a resend. -/
  | linkWordReceive (dt : Nat) (port : Fin 2) (word : BitVec 56)
  /-- R362: A ring port goes down for a listed cause and discards its buffers. -/
  | portDown (dt : Nat) (port : Fin 2) (cause : Fin 9)
  /-- R362: No valid link word has come for 10 µs and the port goes down. -/
  | linkWordTimeout (dt : Nat) (port : Fin 2)
  /-- R362: Block lock without high BER has held for 1 ms and LINK_UP exchange starts. -/
  | portLockStable (dt : Nat) (port : Fin 2)
  /-- R362: A LINK_UP frame exchange brings the port up with a new epoch, or fails it. -/
  | linkUpFrame (dt : Nat) (port : Fin 2) (node : Fin 33) (kcv : Word) (epoch : Word) (dup : Bool)
  /-- R383: HOP_SEQ nears 2^31 and the receiver chooses a new link epoch. -/
  | linkEpochRenew (dt : Nat) (port : Fin 2)
  /-- R363: A RING_EVENT reaches the master, which declares the ring BROKEN or SPLIT. -/
  | ringEventFrame (dt : Nat) (src : Fin 33) (ev : RingEvent)
  /-- R365: A member receives the CYCLE frame, sets its PRESENT bit and confirms membership. -/
  | cycleFrameReceive (dt : Nat) (port : Fin 2) (f : CycleFrame)
  /-- R330: An EXPORT frame delivers a peer's exported values. -/
  | exportFrameReceive (dt : Nat) (src : Fin 33) (cycle : Nat) (l : List ExportValue)
  /-- R330: An OUTPUT frame delivers REMOTE_OUT values to an accepting node. -/
  | outputFrameReceive (dt : Nat) (src : Fin 33) (cycle : Nat) (l : List RemoteValue)
  /-- R330: A READY frame reports a member's readiness and set signature. -/
  | readyFrameReceive (dt : Nat) (src : Fin 33) (cycle : Nat) (set : Fin 16) (signature : Word) (members : BitVec 32) (reduce : Bool)
  /-- R331: A member receives the GO or NOGO decisions for the cycle. -/
  | decisionFrameReceive (dt : Nat) (src : Fin 33) (cycle : Nat) (sets : BitVec 16) (go : BitVec 16) (mismatch : BitVec 16) (missing : BitVec 32)
  /-- R366: A member misses two cycle laps and is declared dropped. -/
  | memberDrop (dt : Nat) (node : Fin 33)
  /-- R366: A member misses two CYCLE frames and runs cut off. -/
  | masterLost (dt : Nat)
  /-- R370: The standby becomes master and sends CYCLE frame k + 3. -/
  | standbyTakeover (dt : Nat)
  /-- R367: A joining node sends its 1 ms ANNOUNCE frame. -/
  | announceSend (dt : Nat)
  /-- R367: The master admits a LOCKED node at a cycle boundary. -/
  | nodeAdmit (dt : Nat) (node : Fin 33)
  /-- R369: The 10 ms election window ends and master and standby are chosen. -/
  | electionEnd (dt : Nat)
  /-- R371: A master that sees a better master's CYCLE frame gives up its role. -/
  | splitHeal (dt : Nat)
  /-- R372: At the handover boundary the new master sends CYCLE frame j. -/
  | handoverSwitch (dt : Nat)
  /-- R384: At the named boundary every node sends under the new key slot. -/
  | ringKeySwitch (dt : Nat)
  /-- R384: Ten cycles after a key switch the old slot is no longer accepted. -/
  | ringKeyGraceEnd (dt : Nat)
  /-- R373: A port's 10 ms DLY_REQ/DLY_RESP exchange updates the hop delay and length. -/
  | delayExchange (dt : Nat) (port : Fin 2) (t1 : Nat) (t2 : Nat) (t3 : Nat) (t4 : Nat)
  /-- R374: The master sends SYNC every 1 ms. -/
  | syncSend (dt : Nat)
  /-- R374: A member disciplines or steps its Node Time from a SYNC. -/
  | syncReceive (dt : Nat) (dir : Fin 2) (src : Fin 33) (hops : Fin 32) (time : Nat)
  /-- R375: No SYNC for 4 ms while LOCKED puts time into HOLDOVER. -/
  | timeHoldoverTimeout (dt : Nat)
  /-- R375: Ten seconds in HOLDOVER puts time into FREE. -/
  | timeFreeTimeout (dt : Nat)
  /-- R376: A PPS_IN edge disciplines the master's Node Time. -/
  | ppsInEdge (dt : Nat) (falling : Bool)
  /-- R376: No PPS_IN edge for 1.5 s clears PPS_OK and writes record 0x050A. -/
  | ppsInLoss (dt : Nat)
  /-- R376: A 10 ms pulse is driven on PPS_OUT at each whole second. -/
  | ppsOutPulse (dt : Nat)
  /-- R378: A peer receives a SUBSCRIBE and starts publishing the source. -/
  | subscribeFrame (dt : Nat) (n : FrameNodes) (add : Bool) (kind : Nat) (index : Nat)
  /-- R378: A SAMPLES frame delivers subscribed peer samples to the Alarm Engine. -/
  | samplesFrame (dt : Nat) (src : Fin 33) (l : List PeerSample)
  /-- R379: The master accepts a member's RECORD onto its flow or discards it. -/
  | recordFrame (dt : Nat) (src : Fin 33) (flow : Fin 256) (sev : Fin 5) (r : PeerRecord)
  /-- R482: A partner places mirrored records in its staging ring and acknowledges them. -/
  | mirrorFrame (dt : Nat) (src : Fin 33) (recs : List StoredRecord)
  /-- R482: A MIRROR_ACK advances the mirror cursor. -/
  | mirrorAckFrame (dt : Nat) (src : Fin 33) (rseq : Word)
  /-- R482: No acknowledgement within 20 ms makes the sender resend from the cursor. -/
  | mirrorResend (dt : Nat)
  /-- R353: The node reads SFP+ identity and diagnostics once per second. -/
  | sfpDiagPoll (dt : Nat) (port : Fin 2) (diag : List Byte) (alarm : Bool)
  /-- R353: MOD_ABS or LOS changes and the port follows. -/
  | sfpModuleEvent (dt : Nat) (port : Fin 2) (absent : Bool) (los : Bool)
  /-- R421: A daily audit compares a spare slice with an in-service slice and charges wear. -/
  | sliceAudit (dt : Nat) (c : SwitchedChan) (excursion : Nat)
  /-- R421: A spare slice converts the island references through its check path. -/
  | spareReferenceCheck (dt : Nat) (isl : Fin 8) (slice : Fin 10) (pct : Nat)
  /-- R423: A proposal not approved within 24 h lapses. -/
  | proposalLapse (dt : Nat)
  /-- R426: At a frame boundary the worn slice is replaced by the spare without comparison. -/
  | directSwap (dt : Nat) (c : SwitchedChan)
  /-- R427: A hard failure of a slice starts a forced swap. -/
  | forcedSliceSwap (dt : Nat) (isl : Fin 8) (slice : Fin 10)
  /-- R429: A VOLT or loop-supply cell is swapped by switching at one clock edge. -/
  | cellSwapVolt (dt : Nat) (ch : Fin 64) (mv : Nat) (level : Nat) (env : Env)
  /-- R433: Processor lanes disagree; the vote decides or the node resets. -/
  | laneDisagreement (dt : Nat) (block : Fin 3) (lane : Option (Fin 3))
  /-- R433: An outvoted lane's self-test ends and it becomes the spare or retires. -/
  | laneSelfTestEnd (dt : Nat) (block : Fin 3) (lane : Fin 3) (ok : Bool)
  /-- R434: A corrected error is counted and a page with two in 24 h is retired. -/
  | pageCorrectedError (dt : Nat) (page : Fin 524544)
  /-- R434: An uncorrectable memory error asserts the full reset. -/
  | memoryUe (dt : Nat) (page : Fin 524544)
  /-- R420: The 1 s check of island supply phase shares updates wear or finds a lost phase. -/
  | supplyPhaseCheck (dt : Nat) (isl : Fin 14) (share : Fin 101) (ok : BitVec 2)
  /-- R443: P1 or P2 changes state and record 0x0002 is written. -/
  | supplyInputChange (dt : Nat) (input : Fin 2) (state : Fin 3) (mv : Nat)
  /-- R444: Both inputs have been lost for 10 ms and the node enters HOLDOVER. -/
  | holdoverEnter (dt : Nat) (ve : Nat)
  /-- R445: The daily measurement of HOLD pack capacitance runs. -/
  | holdCapMeasure (dt : Nat) (dv mv : Nat)
  /-- R445: HOLD is still below 4.75 V after its charge time and fault source 181 goes active. -/
  | holdLowCheck (dt : Nat) (mv : Nat)
  /-- R450: At t_h − 300 ms a running panel update is parked and the rails go down. -/
  | holdoverPanelPark (dt : Nat)
  /-- R450: At t_h − 200 ms the journal is sealed and record 0x0004 is accepted. -/
  | holdoverSeal (dt : Nat) (mj : Nat)
  /-- R449: HOLDOVER ends in DORMANT, VIGIL or a POWER_DIP reset. -/
  | holdoverEnd (dt : Nat) (mj : Nat)
  /-- R452: After the reply and the panel wait the node seals and switches off into DORMANT. -/
  | dormantShutdown (dt : Nat)
  /-- R454: An enabled wake source ends DORMANT with a reset of cause WAKE. -/
  | dormantWake (dt : Nat) (src : Fin 6)
  /-- R449: HOLD reaches 2.2 V in DORMANT and the node falls to VIGIL. -/
  | dormantHoldExhausted (dt : Nat)
  /-- R455: An input becomes IN_RANGE in VIGIL and the node starts. -/
  | vigilPowerOn (dt : Nat)
  /-- R448: VBAT falls below 2.2 V with main power and record 0x0002 is written. -/
  | vbatLow (dt : Nat) (mv : Nat)
  /-- R456: RESET_N is held low for 10 µs and a full reset follows. -/
  | resetNPin (dt : Nat) (low : Bool)
  /-- R456: Core firmware is silent for 50 ms and the MSS asserts a full reset. -/
  | watchdogTimeout (dt : Nat)
  /-- R456: A core rail is out of regulation for 10 µs and a full reset follows. -/
  | coreSupplyFault (dt : Nat)
  /-- R27: The MSS detects loss of the core clock and asserts the full reset. -/
  | coreClockLoss (dt : Nat) (mj : Nat)
  /-- R27: REFCLK is lost; the link goes down and flows stall. -/
  | hostRefclkLoss (dt : Nat)
  /-- R27: The ring transmit clock is lost and both ports stop transmitting. -/
  | ringTxClockLoss (dt : Nat)
  /-- R27: The MSS heartbeat stops; the core restarts the MSS alone. -/
  | mssHeartbeatLoss (dt : Nat)
  /-- R457: A full reset is asserted; NODE_OK opens, the panel rails go down and islands start holding. -/
  | fullResetAssert (dt : Nat) (cause : Fin 15)
  /-- R457: The reset is released 1–2 ms after assertion and the restart begins. -/
  | resetRelease (dt : Nat) (lanes : BitVec 9) (hashBad : BitVec 10)
  /-- R460: Island links come up and report their class I state; Node Time resumes. -/
  | restartLinksUp (dt : Nat) (answer : BitVec 14)
  /-- R460: The journal is restored and configuration is checked against the islands. -/
  | restartJournalRestore (dt : Nat) (header : Bool) (torn : Fin 65536) (lost : List (Fin 4096))
  /-- R460: Acquisition resumes and buffered samples are delivered in sequence order. -/
  | acquisitionResume (dt : Nat)
  /-- R460: Alarm evaluation resumes, steps that fell due are taken and tiles are recomputed. -/
  | alarmEvalResume (dt : Nat)
  /-- R461: The Alarm Engine has caught up with buffered samples. -/
  | catchupEnd (dt : Nat)
  /-- R246: The host port becomes ready with flows HELD and READY raised. -/
  | hostReady (dt : Nat)
  /-- R462: A power-on, wake or KIND 1 start brings up rails and islands cold. -/
  | powerOnSequence (dt : Nat) (lanes : BitVec 9) (hashBad : BitVec 10) (answer : BitVec 14) (header : Bool) (torn : Fin 65536) (cold : ColdLinks)
  /-- R479: The recorder copies staged records to NAND in RSEQ order. -/
  | recordCopyNand (dt : Nat) (count : Nat)
  /-- R478: Every 10 ms one over-quota segment is reclaimed after a quota change. -/
  | quotaReclaim (dt : Nat)
  /-- R484: A closed segment is read in the scrub and relocated when errors are high. -/
  | nandScrub (dt : Nat) (seg : Nat) (bits : Nat)
  /-- R485: A block fails program or erase, is retired and replaced by a spare. -/
  | nandBlockFail (dt : Nat) (block : Nat) (cause : Fin 3)
  /-- R488: The restart checkpoint is written every 100 ms. -/
  | checkpointWrite (dt : Nat)
  /-- R493: The calendar advances at a second boundary. -/
  | rtcSecond (dt : Nat)
  /-- R498: A halt reaches 1 h and ends with HABORT. -/
  | rtcHaltTimeout (dt : Nat)
  /-- R501: A 64 s window measures temperature and sets TRIM. -/
  | trimWindow (dt : Nat) (temp : Int)
  /-- R504: The running oscillator fails; the clock switches source and sets OSF. -/
  | rtcOscFail (dt : Nat) (xtal2 : Bool)
  /-- R504: The 1 s check of the primary crystal ends and the clock moves back if it passed. -/
  | rtcSrcRetryEnd (dt : Nat) (ok : Bool)
  /-- R516: The rails are raised in ORDER for a due update. -/
  | panelRailUp (dt : Nat) (mv : Vector Int 5) (ripple : Vector Nat 4)
  /-- R516: No update has run for RAIL_HOLD, so the rails are lowered. -/
  | panelRailDown (dt : Nat)
  /-- R518: A rail out of regulation triggers the emergency sequence and region recovery. -/
  | railFault (dt : Nat) (rail : Fin 5) (mv : Int)
  /-- R527: A queued update starts when its region, the rails and the region count allow. -/
  | panelUpdateStart (dt : Nat) (t : Option Int)
  /-- R527: A frame drives every active pixel with its sequence code and charges the ledger. -/
  | panelFrame (dt : Nat)
  /-- R526: An update not started by S + 3 s ends with DEADLINE_UNREACHABLE. -/
  | panelQueueTimeout (dt : Nat)
  /-- R523: The panel NTC is read every second and range changes are recorded. -/
  | panelTempRead (dt : Nat) (t : Option Int)
  /-- R523: After 60 s of sensor fault the temperature is treated as out of range. -/
  | panelSensorTimeout (dt : Nat)
  /-- R531: A frame memory band is scrubbed and rebuilt from the journal on a CRC mismatch. -/
  | frameMemoryScrub (dt : Nat) (band : Fin 24) (bad : Bool)
  /-- R541: The MSS samples a sensor and judges it against its limits. -/
  | sensorSample (dt : Nat) (index : Fin 40) (v : Option (BitVec 16))
  /-- R542: At each SUMMARY period a summary entry per sensor is logged. -/
  | logSummary (dt : Nat)
  /-- R543: Health log entries are written to NAND at least every 60 s. -/
  | logBatchWrite (dt : Nat)
  /-- R547: SMBus command 0x01 returns 8 status bytes. -/
  | smbusStatusRead (dt : Nat)
  /-- R547: SMBus command 0x10 with 0xA5 wakes the node from DORMANT. -/
  | smbusWake (dt : Nat) (data : Byte)
  /-- R555: TAMPER_N asserts; the event is latched and R408 is applied. -/
  | tamperAssert (dt : Nat)
  /-- R412: DBG_EN falls and debug closes. -/
  | dbgEnFall (dt : Nat)
  /-- R412: NOT_AFTER or 8 h after opening passes and debug closes. -/
  | debugExpiry (dt : Nat)
  /-- R561: A trial set runs 24 h without fault and is proven or proposed. -/
  | trialProven (dt : Nat)
  /-- R568: A granted window opens for a WHEN 1 activation, which starts once no point is unacknowledged. -/
  | updateWindowOpen (dt : Nat) (env : Env)
  /-- R568: The window or S + 3.5 h passes and the activation ends with OUTSIDE_WINDOW. -/
  | activationWindowExpiry (dt : Nat)
  /-- R557: A staging job finishes writing its bank and sends its final reply. -/
  | stageJobEnd (dt : Nat)
  /-- R567: An island finishes receiving an image and restarts, or returns to its old slot. -/
  | islandImageRestart (dt : Nat) (isl : Fin 14) (answered : Bool) (ms : Fin 201)
  /-- R447: The charging HOLD pack reaches 3.0 V, so waiting panel updates may raise the rails, and later its charged level, so fault source 181 goes inactive. -/
  | holdCharged (dt : Nat) (mv : Nat)
  /-- R181: TAMPER_N deasserts, SEC_TAMPER.LIVE clears and fault source 185 becomes inactive. -/
  | tamperNRelease (dt : Nat)
  /-- R286: A job is still unfinished at S + its job bound, so it ends, as for a source glide-over waiting below 6.5 mA or a boost-phase swap still waiting, with GLIDE_ABORTED detail 0x00C4. -/
  | jobBoundReached (dt : Nat) (id : Nat)
  deriving DecidableEq, Repr

end Sys2Proof
end

