-- ==== Sys2Proof/WellFormed.lean ====
section
/-! DEFINITION. Which commands a sender can form: every field within the width its layout gives it (R251, R274, R355, R365, R378,
R469). The operands typed `Fin` or `BitVec` are within theirs by type. -/

namespace Sys2Proof

/-- A packet whose fields fit the header of R274 and whose parameters have the lengths it names (R273). -/
def Cmd.wf (c : Cmd) : Bool :=
  decide (c.flagsRsv < 512) && decide (c.target < 64) && decide (c.token < 2 ^ 32) && decide (c.session < 65536) &&
  decide (c.replyFlow < 256) && decide (c.cls < 256) && decide (c.paramLen < 2 ^ 32) && decide (c.cookie < 2 ^ 64) &&
  decide (c.notBefore < 2 ^ 64) && decide (c.inl.length ≤ 32) && decide (c.ext.length ≤ c.paramLen) && decide (c.counter < 2 ^ 64) &&
  decide (c.tag.length ≤ 24)

/-- A record of a MIRROR frame within the widths of R469. -/
def StoredRecord.wf (r : StoredRecord) : Bool :=
  decide (r.sev < 8) && decide (r.fmt < 256) && decide (r.rseq < 2 ^ 32) && decide (r.time < 2 ^ 64) && decide (r.body.length ≤ 1008)

/-- A ring frame within the widths of R355. -/
def RingFrame.wf (f : RingFrame) : Bool :=
  decide (f.cls < 8) && decide (f.typ < 32) && decide (f.src < 256) && decide (f.dst < 256) && decide (f.hops < 64) &&
  decide (f.hopSeq < 2 ^ 32) && decide (f.dir < 2) && decide (f.keySlot < 2) && decide (f.originSeq < 2 ^ 32) &&
  decide (f.tag.length ≤ 12)

/-- A CYCLE frame within the widths of R365. -/
def CycleFrame.wf (f : CycleFrame) : Bool :=
  decide (f.src < 33) && decide (f.cycle < 2 ^ 64) && decide (f.time < 2 ^ 64) && decide (f.period < 2 ^ 32) && decide (f.cofs < 2 ^ 32) &&
  decide (f.changeAt < 2 ^ 64) && decide (f.newPeriod < 2 ^ 32) && decide (f.newCofs < 2 ^ 32) && decide (f.standby < 33)

/-- A sample of a SAMPLES frame within the widths of R378. -/
def PeerSample.wf (p : PeerSample) : Bool := decide (p.kind < 256) && decide (p.index < 65536) && decide (p.time < 2 ^ 64)

/-- A record of a RECORD frame within the widths of R251. -/
def PeerRecord.wf (r : PeerRecord) : Bool :=
  decide (r.typ < 65536) && decide (r.time < 2 ^ 64) && decide (r.index < 65536) && decide (r.subsys < 256) && decide (r.code < 2 ^ 32) &&
  decide (r.payload.length ≤ 40)

/-- A command that a sender can form. -/
def Instr.wf (i : Instr) : Bool :=
  match i with
  | .commandFetch _ _ _ c _ => c.wf && decide (c.session < 64)
  | .forwardedCommandReceive _ _ c _ => c.wf
  | .forwardAnswerReceive _ _ _ payload => decide (payload.length ≤ 40)
  | .msixVectorUnmask _ pf vector => decide (vector.val < if pf.val = 0 then 264 else if pf.val = 1 then 256 else 8)
  | .pcieUncorrectableError _ _ _ _ header => decide (header.length ≤ 16)
  | .registerWrite _ _ _ size _ => size = 4 || size = 8
  | .ringFrameReceive _ _ f => f.wf
  | .cycleFrameReceive _ _ f => f.wf
  | .exportFrameReceive _ _ _ l => l.all fun v => decide (v.slot < 256)
  | .outputFrameReceive _ _ _ l => l.all fun v => decide (v.node < 33 ∧ v.index < 256 ∧ v.set < 256)
  | .samplesFrame _ _ l => l.all PeerSample.wf
  | .recordFrame _ _ _ _ r => r.wf
  | .mirrorFrame _ _ recs => recs.all StoredRecord.wf
  | .deviceReset _ c _ => c.wf && decide (c.session < 64)
  | .modeSet _ c _ => c.wf && decide (c.session < 64)
  | .modeRead _ c _ => c.wf && decide (c.session < 64)
  | .startWordSet _ c _ => c.wf && decide (c.session < 64)
  | .roleSet _ c _ => c.wf && decide (c.session < 64)
  | .profileSet _ c _ => c.wf && decide (c.session < 64)
  | .dormantEnter _ c _ => c.wf && decide (c.session < 64)
  | .channelConfigure _ c _ => c.wf && decide (c.session < 64)
  | .channelRead _ c _ => c.wf && decide (c.session < 64)
  | .blankConfigure _ c _ => c.wf && decide (c.session < 64)
  | .crosspointTest _ c _ => c.wf && decide (c.session < 64)
  | .conditionConfigure _ c _ => c.wf && decide (c.session < 64)
  | .tableLoad _ c _ => c.wf && decide (c.session < 64)
  | .tableRead _ c _ => c.wf && decide (c.session < 64)
  | .outputConfigure _ c _ => c.wf && decide (c.session < 64)
  | .outputWrite _ c _ => c.wf && decide (c.session < 64)
  | .outputParallel _ c _ => c.wf && decide (c.session < 64)
  | .outputFaultClear _ c _ => c.wf && decide (c.session < 64)
  | .outputHoldSet _ c _ => c.wf && decide (c.session < 64)
  | .channelSimulate _ c _ => c.wf && decide (c.session < 64)
  | .channelCalibrate _ c _ => c.wf && decide (c.session < 64)
  | .pinConfigure _ c _ => c.wf && decide (c.session < 64)
  | .pinRead _ c _ => c.wf && decide (c.session < 64)
  | .digitalWrite _ c _ => c.wf && decide (c.session < 64)
  | .groupConfigure _ c _ => c.wf && decide (c.session < 64)
  | .digitalFaultClear _ c _ => c.wf && decide (c.session < 64)
  | .counterReset _ c _ => c.wf && decide (c.session < 64)
  | .digitalHoldSet _ c _ => c.wf && decide (c.session < 64)
  | .pinSimulate _ c _ => c.wf && decide (c.session < 64)
  | .pointConfigure _ c _ => c.wf && decide (c.session < 64)
  | .pointRead _ c _ => c.wf && decide (c.session < 64)
  | .alarmAck _ c _ => c.wf && decide (c.session < 64)
  | .alarmSilence _ c _ => c.wf && decide (c.session < 64)
  | .alarmShelve _ c _ => c.wf && decide (c.session < 64)
  | .pointService _ c _ => c.wf && decide (c.session < 64)
  | .alarmGroupConfigure _ c _ => c.wf && decide (c.session < 64)
  | .chainConfigure _ c _ => c.wf && decide (c.session < 64)
  | .callConfigure _ c _ => c.wf && decide (c.session < 64)
  | .dutySet _ c _ => c.wf && decide (c.session < 64)
  | .firstoutReset _ c _ => c.wf && decide (c.session < 64)
  | .tileBind _ c _ => c.wf && decide (c.session < 64)
  | .derivedConfigure _ c _ => c.wf && decide (c.session < 64)
  | .programLoad _ c _ => c.wf && decide (c.session < 64)
  | .programStart _ c _ => c.wf && decide (c.session < 64)
  | .programStop _ c _ => c.wf && decide (c.session < 64)
  | .programStatus _ c _ => c.wf && decide (c.session < 64)
  | .variableRead _ c _ => c.wf && decide (c.session < 64)
  | .variableForce _ c _ => c.wf && decide (c.session < 64)
  | .cycleConfigure _ c _ => c.wf && decide (c.session < 64)
  | .setConfigure _ c _ => c.wf && decide (c.session < 64)
  | .ringConfigure _ c _ => c.wf && decide (c.session < 64)
  | .ringStatus _ c _ => c.wf && decide (c.session < 64)
  | .ringKeySet _ c _ => c.wf && decide (c.session < 64)
  | .timeConfigure _ c _ => c.wf && decide (c.session < 64)
  | .pairConfigure _ c _ => c.wf && decide (c.session < 64)
  | .masterHandover _ c _ => c.wf && decide (c.session < 64)
  | .spareStatus _ c _ => c.wf && decide (c.session < 64)
  | .spareSwap _ c _ => c.wf && decide (c.session < 64)
  | .sparePolicy _ c _ => c.wf && decide (c.session < 64)
  | .spareApprove _ c _ => c.wf && decide (c.session < 64)
  | .wearRead _ c _ => c.wf && decide (c.session < 64)
  | .recordRead _ c _ => c.wf && decide (c.session < 64)
  | .recorderStatus _ c _ => c.wf && decide (c.session < 64)
  | .quotaSet _ c _ => c.wf && decide (c.session < 64)
  | .mirrorConfigure _ c _ => c.wf && decide (c.session < 64)
  | .recordMark _ c _ => c.wf && decide (c.session < 64)
  | .journalRead _ c _ => c.wf && decide (c.session < 64)
  | .panelConfigure _ c _ => c.wf && decide (c.session < 64)
  | .waveformLoad _ c _ => c.wf && decide (c.session < 64)
  | .panelWrite _ c _ => c.wf && decide (c.session < 64)
  | .panelUpdate _ c _ => c.wf && decide (c.session < 64)
  | .tileImageLoad _ c _ => c.wf && decide (c.session < 64)
  | .panelStatus _ c _ => c.wf && decide (c.session < 64)
  | .panelPower _ c _ => c.wf && decide (c.session < 64)
  | .clockRead _ c _ => c.wf && decide (c.session < 64)
  | .clockShift _ c _ => c.wf && decide (c.session < 64)
  | .clockAlarmSet _ c _ => c.wf && decide (c.session < 64)
  | .leapSet _ c _ => c.wf && decide (c.session < 64)
  | .trimCurveLoad _ c _ => c.wf && decide (c.session < 64)
  | .packageStage _ c _ => c.wf && decide (c.session < 64)
  | .packageActivate _ c _ => c.wf && decide (c.session < 64)
  | .updateWindowSet _ c _ => c.wf && decide (c.session < 64)
  | .provenSetAccept _ c _ => c.wf && decide (c.session < 64)
  | .healthRead _ c _ => c.wf && decide (c.session < 64)
  | .sensorRead _ c _ => c.wf && decide (c.session < 64)
  | .ownerKeyInstall _ c _ => c.wf && decide (c.session < 64)
  | .seal _ c _ => c.wf && decide (c.session < 64)
  | .retire _ c _ => c.wf && decide (c.session < 64)
  | .debugOpen _ c _ => c.wf && decide (c.session < 64)
  | .debugClose _ c _ => c.wf && decide (c.session < 64)
  | .securityStatus _ c _ => c.wf && decide (c.session < 64)
  | .tamperClear _ c _ => c.wf && decide (c.session < 64)
  | .ownerKeyRotate _ c _ => c.wf && decide (c.session < 64)
  | .sessionOpen _ c _ => c.wf && decide (c.session < 64)
  | .sessionClose _ c _ => c.wf && decide (c.session < 64)
  | .sessionRead _ c _ => c.wf && decide (c.session < 64)
  | .echo _ c _ => c.wf && decide (c.session < 64)
  | .flowOpen _ c _ => c.wf && decide (c.session < 64)
  | .flowClose _ c _ => c.wf && decide (c.session < 64)
  | .flowRead _ c _ => c.wf && decide (c.session < 64)
  | .streamOpen _ c _ => c.wf && decide (c.session < 64)
  | .streamClose _ c _ => c.wf && decide (c.session < 64)
  | .budgetRead _ c _ => c.wf && decide (c.session < 64)
  | .glbSesDbWrite _ _ _ | .sessionRingEnable _ _ _ | .commandStart _ _ _ | .commandBoundReached _ _ | .forwardNoAnswer _ _
  | .dupWindowExpiry _ _ _ | .deviceResetAssert _ | .itemWriteDue _ | .flushingReadIssue _ _ | .flushingReadCompletion _ _
  | .flushReadTimeout _ _ | .flwHeadWrite _ _ _ | .flwCtlArm _ _ _ | .msixMessageDue _ _ | .streamBlockComplete _ _
  | .linkWidthChange _ _ _ | .linkDown _ | .perstAssert _ _ | .hotResetReceive _ | .busMasterDisable _ _ _
  | .d3hotEntry _ _ _ | .memorySpaceDisable _ _ _ | .l1Entry _ _ | .pcieCorrectableError _ | .register64LowRead _ _ _
  | .achChRawRead _ _ | .achOutRbiRead _ _ | .dchPinStatusRead _ _ | .rtcSubsecRead _ | .rtcSnapWrite _ _ | .rtcHaltSet _
  | .rtcHaltRelease _ | .rtcCalendarWrite _ _ _ | .rtcShiftWrite _ _ | .rtcSrcRetry _ | .calCaptureEnd _ _
  | .sessionGrantExpiry _ _ | .sampleStrobe _ _ _ | .precisionSample _ _ _ | .waveformWord _ _ _
  | .sampleFrameReceive _ _ _ _ | .fifoParityError _ _ _ _ | .referenceVote _ _ _ | .clampOnset _ _ _ | .clampEnd _ _ _
  | .clampReclose _ _ _ | .blankInputAssert _ _ | .blankInputDeassert _ _ | .blankHoldExpiry _ _ | .longBlanking _ _
  | .channelSwitchClose _ _ | .excitationChange _ _ | .pulseSourceOn _ _ | .pulseReadbackCheck _ _ _ | .pulseWindowOpen _ _
  | .islandLinkLost _ _ | .islandLinkSilent _ _ | .islandLinkRestored _ _ | .outputHoldExpiry _ _
  | .outputReadbackSample _ _ _ | .setPointApply _ _ | .inputTransitionAccepted _ _ _ _ | .inputPeriodicSample _ _
  | .countEdge _ _ _ | .countSample _ _ | .freqGateEnd _ _ | .doStateApply _ _ | .driverCurrentLimit _ _ _
  | .shortLimitTimeout _ _ _ _ | .shortRetry _ _ | .thermalShutdown _ _ | .thermalReenable _ _ | .openOnDetect _ _ _
  | .offStateTest _ _ _ _ | .wireBreakDetect _ _ _ | .ronMeasure _ _ _ _ | .lplusStateChange _ _ _
  | .groupMemberCheck _ _ _ _ | .railSwapStep _ _ | .digitalHoldExpiry _ _ | .alarmSample _ | .delayExpiry _ _
  | .staleTimeout _ _ _ | .votePartnerTimeout _ _ | .faultSourceChange _ _ | .suppressionRelease _ _ | .silenceExpiry _ _
  | .shelveExpiry _ _ | .escalationStepDue _ _ | .ackPinEdge _ _ | .silencePinEdge _ _ | .dutySelectorStable _
  | .dutySelectorInvalid _ | .firstOutDecide _ _ | .reflashEnd _ _ | .cycleSnap _ | .importGather _ | .solve _
  | .setDecision _ | .cycleCommit _ | .solveOverrun _ | .modeWordApply _ | .modeForceRelease _ | .programAutostart _
  | .linkWordSend _ _ | .linkWordReceive _ _ _ | .portDown _ _ _ | .linkWordTimeout _ _ | .portLockStable _ _
  | .linkUpFrame _ _ _ _ _ _ | .linkEpochRenew _ _ | .ringEventFrame _ _ _ | .readyFrameReceive _ _ _ _ _ _ _
  | .decisionFrameReceive _ _ _ _ _ _ _ | .memberDrop _ _ | .masterLost _ | .standbyTakeover _ | .announceSend _
  | .nodeAdmit _ _ | .electionEnd _ | .splitHeal _ | .handoverSwitch _ | .ringKeySwitch _ | .ringKeyGraceEnd _
  | .delayExchange _ _ _ _ _ _ | .syncSend _ | .syncReceive _ _ _ _ _ | .timeHoldoverTimeout _ | .timeFreeTimeout _
  | .ppsInEdge _ _ | .ppsInLoss _ | .ppsOutPulse _ | .subscribeFrame _ _ _ _ _ | .mirrorAckFrame _ _ _ | .mirrorResend _
  | .sfpDiagPoll _ _ _ _ | .sfpModuleEvent _ _ _ _ | .sliceAudit _ _ _ | .spareReferenceCheck _ _ _ _ | .proposalLapse _
  | .directSwap _ _ | .forcedSliceSwap _ _ _ | .cellSwapVolt _ _ _ _ _ | .laneDisagreement _ _ _ | .laneSelfTestEnd _ _ _ _
  | .pageCorrectedError _ _ | .memoryUe _ _ | .supplyPhaseCheck _ _ _ _ | .supplyInputChange _ _ _ _ | .holdoverEnter _ _
  | .holdCapMeasure _ _ _ | .holdLowCheck _ _ | .holdoverPanelPark _ | .holdoverSeal _ _ | .holdoverEnd _ _
  | .dormantShutdown _ | .dormantWake _ _ | .dormantHoldExhausted _ | .vigilPowerOn _ | .vbatLow _ _ | .resetNPin _ _
  | .watchdogTimeout _ | .coreSupplyFault _ | .coreClockLoss _ _ | .hostRefclkLoss _ | .ringTxClockLoss _
  | .mssHeartbeatLoss _ | .fullResetAssert _ _ | .resetRelease _ _ _ | .restartLinksUp _ _ | .restartJournalRestore _ _ _ _
  | .acquisitionResume _ | .alarmEvalResume _ | .catchupEnd _ | .hostReady _ | .powerOnSequence _ _ _ _ _ _ _
  | .recordCopyNand _ _ | .quotaReclaim _ | .nandScrub _ _ _ | .nandBlockFail _ _ _ | .checkpointWrite _ | .rtcSecond _
  | .rtcHaltTimeout _ | .trimWindow _ _ | .rtcOscFail _ _ | .rtcSrcRetryEnd _ _ | .panelRailUp _ _ _ | .panelRailDown _
  | .railFault _ _ _ | .panelUpdateStart _ _ | .panelFrame _ | .panelQueueTimeout _ | .panelTempRead _ _
  | .panelSensorTimeout _ | .frameMemoryScrub _ _ _ | .sensorSample _ _ _ | .logSummary _ | .logBatchWrite _
  | .smbusStatusRead _ | .smbusWake _ _ | .tamperAssert _ | .dbgEnFall _ | .debugExpiry _ | .trialProven _
  | .updateWindowOpen _ _ | .activationWindowExpiry _ | .stageJobEnd _ | .islandImageRestart _ _ _ _ | .holdCharged _ _
  | .tamperNRelease _ | .jobBoundReached _ _ => true

end Sys2Proof
end

