-- ==== Sys2Proof/Decode.lean ====
section
/-! DEFINITION. The command that a word spells. The operation table gives no row any bits, so no word spells a command: commands reach
the block as register accesses, packets, frames and events (R239, R259), not as encoded instructions. -/

namespace Sys2Proof

/-- No row of the operation table has bits. -/
def decodeTableWord (_nbits _w : Nat) : Option Instr := none

end Sys2Proof
end

