-- ==== Sys2Proof/Config.lean ====
section
/-! DEFINITION. What an implementation fixes and what the spec leaves open: constants without a value. -/

namespace Sys2Proof.Config

/-- Free values, one for each use (log entry). -/
opaque freeNat : Nat → Nat
opaque freeByte : Nat → Nat → Byte
/-- R277: whether the tag of a packet is right for the session key of this session. -/
opaque gmacOk (key session counter : Nat) (bytes tag : List Byte) : Bool
/-- R23: TYPE of the parity record. -/
opaque parityRecord : BitVec 16
/-- R82: factory trim of a slice on a range. -/
opaque sliceGain (isl slice range : Nat) : Rat
opaque sliceOffset (isl slice range : Nat) : Rat
/-- R84: thermoelectric voltage of a curve in V at a temperature in °C (IEC 60584 is not in the spec). -/
opaque tcEmf (curve : Nat) (t : Rat) : Rat
/-- R84: error of the node's evaluation of a curve, to be bounded by the table of R84. -/
opaque curveErr (curve : Nat) (x : Rat) : Rat

/-- R316: state of a PULSE whose two times are 0. -/
opaque pulseZero : Int → Bool

/-- R548, R556: SHA-384 of a byte string, ECDSA P-384 verification under a public key, and the vendor's key. -/
opaque sha384 : List Byte → List Byte
opaque ecdsaOk (key msg sig : List Byte) : Bool
opaque vendorKey : List Byte
/-- R175: nominal sample period in ns of a peer's source: node, kind, index. -/
opaque peerPeriod (node kind index : Nat) : Nat
/-- R378, R218: items per second of a peer's source (kind 1 analogue, 2 digital), and its channels' waveform settings. -/
opaque peerRate (node kind index : Nat) : Rat
opaque peerWave (node channel : Nat) : Nat
/-- R373: calibrated latency of both ends' PCS and modules on a port, 0.1 ns. -/
opaque portLatency (port : Nat) : Nat
/-- R382, R384: the AES-GMAC tag under a ring key (none is the zero key) of an IV and data, and the unwrapping of a key. -/
opaque ringTag (key : Option Nat) (iv data : List Byte) : List Byte
opaque unwrapKey (kek : Option Nat) (wrapped : List Byte) : Option Nat
/-- R552, R553: the node's ephemeral P-384 key of one SESSION_OPEN, its signature under the device identity key, and the handle of
the keys derived from it, the nonce, the session and the host's ephemeral key. -/
opaque ephemeralKey (draw : Nat) : List Byte
opaque identitySign : List Byte → List Byte
opaque sessionKey (draw nonce session : Nat) (host : List Byte) : Nat
/-- R501: the points of the fitted crystal's factory curve: 0.1 °C, 0.01 ppm. -/
opaque factoryCurve : List (Int × Int)
/-- R545, R548: public key of the device identity, 97 bytes, and the vendor's certificate of it. -/
opaque identityKey : List Byte
opaque identityCert : List Byte
/-- R240: Device Serial Number of the node. -/
opaque serial : BitVec 64

end Sys2Proof.Config
end

