-- ==== Sys2Proof/Machine/F32.lean ====
section
/-! DEFINITION. REAL32 arithmetic (IEEE 754 binary32, round to nearest even, R94) in exact rationals, and the fixed-point
functions the curves of R84 need: square root, natural logarithm, inverses of monotone polynomials. -/

namespace Sys2Proof.Machine

/-- The quiet NaN of R95. -/
def nan32 : Word := 0x7FC00000#32

def f32One : Word := 0x3F800000#32

def f32Exp (w : Word) : Nat := w.toNat / 2 ^ 23 % 256
def f32Frac (w : Word) : Nat := w.toNat % 2 ^ 23
def f32Neg (w : Word) : Bool := decide (2 ^ 31 ≤ w.toNat)

/-- Finite: neither infinite nor NaN. -/
def f32Finite (w : Word) : Bool := decide (f32Exp w < 255)
def f32IsNaN (w : Word) : Bool := decide (f32Exp w = 255) && decide (f32Frac w ≠ 0)
def f32IsInf (w : Word) : Bool := decide (f32Exp w = 255) && decide (f32Frac w = 0)

/-- Exact value of a finite REAL32 (0 for the others). -/
def f32Rat (w : Word) : Rat :=
  if !f32Finite w then 0
  else
    let e := f32Exp w
    let m : Nat := if e = 0 then f32Frac w else f32Frac w + 2 ^ 23
    let e := max e 1
    let v : Rat := if 150 ≤ e then ((m * 2 ^ (e - 150) : Nat) : Rat) else mkRat m (2 ^ (150 - e))
    if f32Neg w then -v else v

/-- `n / d` to the nearest natural, ties to even. -/
def divRne (n d : Nat) : Nat :=
  let q := n / d
  let r := n % d
  if 2 * r < d then q else if d < 2 * r then q + 1 else if q % 2 = 0 then q else q + 1

/-- Rounding of a non-negative fraction `a / d` to the magnitude bits of a REAL32. -/
def f32Mag (a d : Nat) : Nat :=
  if a = 0 then 0
  else
    let e0 : Int := (Nat.log2 a : Int) - (Nat.log2 d : Int)
    -- 2^(e0-1) < a/d < 2^(e0+1)
    let lower : Bool := if 0 ≤ e0 then decide (a < d * 2 ^ e0.toNat) else decide (a * 2 ^ (-e0).toNat < d)
    let e := max (if lower then e0 - 1 else e0) (-126)
    let sh := 23 - e
    let m := if 0 ≤ sh then divRne (a * 2 ^ sh.toNat) d else divRne a (d * 2 ^ (-sh).toNat)
    let b := (e + 126).toNat * 2 ^ 23 + m
    if 0x7F800000 ≤ b then 0x7F800000 else b

/-- Nearest REAL32 of a rational; `neg` is the sign of a zero result. -/
def f32OfRat (q : Rat) (neg : Bool := false) : Word :=
  let m := f32Mag q.num.natAbs q.den
  if q.num < 0 || (q.num = 0 && neg) then BitVec.ofNat 32 (2 ^ 31 + m) else BitVec.ofNat 32 m

def f32Add (a b : Word) : Word :=
  if f32IsNaN a || f32IsNaN b then nan32
  else if f32IsInf a then (if f32IsInf b && f32Neg a != f32Neg b then nan32 else a)
  else if f32IsInf b then b
  else f32OfRat (f32Rat a + f32Rat b) (f32Neg a && f32Neg b)

def f32Opp (a : Word) : Word := a ^^^ 0x80000000#32

def f32Sub (a b : Word) : Word := f32Add a (f32Opp b)

def f32Mul (a b : Word) : Word :=
  let neg := f32Neg a != f32Neg b
  if f32IsNaN a || f32IsNaN b then nan32
  else if f32IsInf a || f32IsInf b then
    if (f32Finite a && f32Rat a = 0) || (f32Finite b && f32Rat b = 0) then nan32
    else if neg then 0xFF800000#32 else 0x7F800000#32
  else f32OfRat (f32Rat a * f32Rat b) neg

def f32Div (a b : Word) : Word :=
  let neg := f32Neg a != f32Neg b
  let inf : Word := if neg then 0xFF800000#32 else 0x7F800000#32
  if f32IsNaN a || f32IsNaN b then nan32
  else if f32IsInf a then (if f32IsInf b then nan32 else inf)
  else if f32IsInf b then (if neg then 0x80000000#32 else 0)
  else if f32Rat b = 0 then (if f32Rat a = 0 then nan32 else inf)
  else f32OfRat (f32Rat a / f32Rat b) neg

/-- Order of two REAL32 that are not NaN, infinities included. -/
def f32Lt (a b : Word) : Bool :=
  if f32IsNaN a || f32IsNaN b then false
  else if f32IsInf a && f32IsInf b then f32Neg a && !f32Neg b
  else if f32IsInf a then f32Neg a
  else if f32IsInf b then !f32Neg b
  else decide (f32Rat a < f32Rat b)

def f32Eq (a b : Word) : Bool :=
  if f32IsNaN a || f32IsNaN b then false
  else if f32Finite a && f32Finite b then decide (f32Rat a = f32Rat b)
  else a == b

def f32Le (a b : Word) : Bool := f32Lt a b || f32Eq a b

def f32Abs (a : Word) : Word := a &&& 0x7FFFFFFF#32

/-- A finite REAL32 towards zero, as an integer. -/
def f32Trunc (a : Word) : Int := Int.tdiv (f32Rat a).num (f32Rat a).den

/-- Integer square root by bits. -/
def isqrtAux (n : Nat) : Nat → Nat → Nat
  | 0, r => r
  | k + 1, r => if (r + 2 ^ k) * (r + 2 ^ k) ≤ n then isqrtAux n k (r + 2 ^ k) else isqrtAux n k r

def isqrt (n : Nat) : Nat := isqrtAux n (Nat.log2 n / 2 + 1) 0

/-- Square root of a non-negative rational to 2^-60. -/
def ratSqrt (q : Rat) : Rat := mkRat (isqrt (q.num.natAbs * 2 ^ 120 / q.den)) (2 ^ 60)

/-- Nearest REAL32 of a square root. -/
def f32Sqrt (a : Word) : Word :=
  if f32IsNaN a then nan32
  else if f32Finite a && f32Rat a = 0 then a
  else if f32Neg a then nan32
  else if f32IsInf a then a
  else f32OfRat (ratSqrt (f32Rat a))

/-- The greatest `x` in `[lo, lo + 2^k)` with `f x ≤ y` for a rising `f`, `lo` where none. -/
def bisect (f : Int → Rat) (y : Rat) : Nat → Int → Int
  | 0, lo => lo
  | k + 1, lo => if f (lo + 2 ^ k) ≤ y then bisect f y k (lo + 2 ^ k) else bisect f y k lo

/-- Terms of the series of `2 artanh z` in fixed point of 2^-64: `p` is `z^(2i+1)`. -/
def artanhAux (z2 : Int) : Nat → Int → Int → Int
  | 0, _, acc => acc
  | k + 1, p, acc => artanhAux z2 k (p * z2 / 2 ^ 64) (acc + 2 * p / (2 * (24 - (k : Int)) - 1))

/-- Natural logarithm of a positive rational in fixed point of 2^-64. -/
def lnFix (q : Rat) : Int :=
  let a := q.num.natAbs
  let e : Int := (Nat.log2 a : Int) - (Nat.log2 q.den : Int)
  -- m = q / 2^e lies in (1/2, 2)
  let m : Rat := if 0 ≤ e then mkRat a (q.den * 2 ^ e.toNat) else mkRat (a * 2 ^ (-e).toNat) q.den
  let z := (m - 1) / (m + 1)
  let zf : Int := z.num * 2 ^ 64 / z.den
  let ln2 : Int := 12786308645202655660
  e * ln2 + artanhAux (zf * zf / 2 ^ 64) 24 zf 0

end Sys2Proof.Machine
end

