-- ==== Sys2Proof/Machine/HostState.lean ====
section
/-! DEFINITION. The state of the host port, the delivery flows, the sessions and the commands in execution
(chapters "Host Port, Queues and Register Map", "Delivery Guarantee and the Slalom Scheduler",
"Command Packets, Sessions and Status"). Each field's docstring gives: rule; width; class. -/

namespace Sys2Proof.Machine

/-- One 64-byte event record of R251, before FLOW, SEQ, LATE_RESET and PHASE are laid over it. -/
structure Rec where
  /-- R251; 16 bits: TYPE -/
  typ : Nat := 0
  /-- R251; 64 bits: TIME, or the host cookie of a reply -/
  time : Nat := 0
  /-- R251; 8 bits: SOURCE node -/
  node : Nat := 0
  /-- R251; 8 bits: SOURCE subsystem -/
  subsys : Nat := 0
  /-- R251; 16 bits: SOURCE index -/
  index : Nat := 0
  /-- R251; 32 bits: CODE -/
  code : Nat := 0
  /-- R251; 1 bit: FLAGS.CONT -/
  cont : Bool := false
  /-- R251; 1 bit: FLAGS.MIRRORED -/
  mirrored : Bool := false
  /-- R251; 40 bytes: PAYLOAD (missing bytes are 0) -/
  payload : List Byte := []
  deriving DecidableEq, Repr

/-- One waveform block of R265. -/
structure Block where
  /-- R265; 64 bits: Node Time of word 0 -/
  time : Nat := 0
  /-- R265; 8 bits: originating node -/
  node : Nat := 0
  /-- R265; 16 bits: global analogue index -/
  chan : Nat := 0
  /-- R265; 8 bits: waveform setting -/
  rate : Nat := 0
  /-- R265; 8 bits: range code at word 0 -/
  range : Nat := 0
  /-- R265; 64 bits: index of word 0 since STREAM_OPEN -/
  wordIndex : Nat := 0
  /-- R265; 32 bits: words lost just before word 0 -/
  gapWords : Nat := 0
  /-- R265; 1 bit: FLAGS.GAP -/
  gap : Bool := false
  /-- R266; 32 bits each: the words -/
  words : List Word := []
  deriving DecidableEq, Repr

/-- What an outbound item carries (R207). -/
inductive Body where
  | record (r : Rec)
  | block (b : Block)
  deriving DecidableEq, Repr

/-- Where an accepted item stands on its way to delivered (R210). -/
inductive Stage where
  /-- accepted, not yet written to host memory -/
  | queued
  /-- written to its queue entry, no flushing read behind it yet -/
  | written
  /-- written, with flushing read number `read` outstanding behind it -/
  | flushing (read : Nat)
  /-- written, but the flushing read behind it was lost or could not be issued (R210) -/
  | lost
  deriving DecidableEq, Repr

/-- An item accepted by the Slalom Scheduler and not yet delivered (R209, R24). -/
structure Item where
  /-- R209; 32 bits: SEQ -/
  seq : Nat
  /-- R207: what it carries -/
  body : Body
  /-- R206; ns: absolute deadline -/
  deadline : Nat
  /-- R231: holds a delivery journal slot -/
  journaled : Bool
  /-- R229: waits in the backlog (a drain item in DRAINING, R230) -/
  backlog : Bool
  /-- R232: LATE_RESET -/
  late : Bool
  /-- R210 -/
  stage : Stage
  /-- R250; 32 bits: entry number it occupies, once written -/
  entry : Option Nat
  deriving DecidableEq, Repr

/-- FLW_STATE.STATE (R235, R272). -/
inductive FlowState where
  | closed | opened | stalled | draining | held
  deriving DecidableEq, Repr

/-- One of the 256 flows: its register set (R272) and its store. -/
structure Flow where
  /-- R272; 3 bits; class J -/
  state : FlowState := .closed
  /-- R272; 2 bits; class J: class in force, 0 A, 1 B, 2 C, 3 D -/
  cls : Nat := 0
  /-- R272; 2 bits; class J -/
  admitted : Nat := 0
  /-- R272; 1 bit; class J -/
  stream : Bool := false
  /-- R224; 1 bit; class J -/
  demoted : Bool := false
  /-- R223; 1 bit; class J -/
  suspended : Bool := false
  /-- R225; 1 bit: suspended for the ring rather than for the width -/
  suspRing : Bool := false
  /-- R232; 1 bit; class J -/
  lateReset : Bool := false
  /-- R232; ns: t_a - t_r -/
  lateExt : Nat := 0
  /-- R232; 32 bits: SEQ of the last item journaled at the ARM -/
  lateSeq : Nat := 0
  /-- R272; 5 bits; class J -/
  qlog2 : Nat := 0
  /-- R214; 1 bit; class J -/
  replies : Bool := false
  /-- R216; 1 bit; class J -/
  breakSafe : Bool := false
  /-- R272; 13 bits; class J -/
  burst : Nat := 0
  /-- R272; 20 bits; class J -/
  rate : Nat := 0
  /-- R227; 16 bits; class J -/
  reserve : Nat := 0
  /-- R272; 16 bits; class J: 64 for record flows -/
  size : Nat := 0
  /-- R250; 64 bits; class J -/
  qbase : Nat := 0
  /-- R253; 32 bits; class J -/
  head : Nat := 0
  /-- R250; 32 bits; class J: entries written -/
  tail : Nat := 0
  /-- R257; 32 bits; class J: tail just after the last delivered item -/
  dtail : Nat := 0
  /-- R209; 32 bits; class J: next SEQ -/
  seq : Nat := 0
  /-- R256; 1 bit; class J -/
  irqEn : Bool := true
  /-- R256; 12 bits; class J -/
  irqCount : Nat := 1
  /-- R256; 12 bits; class J: µs -/
  irqTime : Nat := 0
  /-- R216; class J: W' in ps; FLW_WINDOW reads it in ns -/
  window : Nat := 0
  /-- R212; 32 bits; class J -/
  origin : Nat := 0
  /-- R272; 32 bits; class V: items counted under R220 and R229 -/
  lost : Nat := 0
  /-- R253; 1 bit; class V -/
  headErr : Bool := false
  /-- R258; 1 bit; class V -/
  layoutErr : Bool := false
  /-- R228; 1 bit; class V -/
  lowSeen : Bool := false
  /-- R228; 1 bit; class V -/
  stallSeen : Bool := false
  /-- R209: items accepted and not delivered, in SEQ order -/
  items : List Item := []
  /-- R220; class V: tokens in units of 1e-9 token -/
  tokens : Nat := 0
  /-- R220; ns: instant the level stood at -/
  tokenAt : Nat := 0
  /-- R221; class V: refusal allowance in units of 1e-9 token -/
  allowance : Nat := 0
  /-- R221; ns -/
  allowanceAt : Nat := 0
  /-- R220; 32 bits; class V: items refused since the last 0x0026 -/
  overCount : Nat := 0
  /-- R220; ns: TIME of the first of them -/
  overFirst : Nat := 0
  /-- R220; ns: Node Time of the last 0x0026 -/
  overAt : Option Nat := none
  /-- R221; 32 bits; class V: refusals counted since the last 0x0028 -/
  refCount : Nat := 0
  /-- R221; ns: Node Time of the last 0x0028 -/
  refAt : Option Nat := none
  /-- R235; 32 bits; class V: refusals counted under R221 -/
  refTotal : Nat := 0
  /-- R256; 32 bits; class V: delivered and unannounced items -/
  unannounced : Nat := 0
  /-- R256; ns: delivery instant of the oldest unannounced item -/
  unannAt : Nat := 0
  /-- R228; ns: Node Time of the last 0x0027 -/
  lowAt : Option Nat := none
  /-- R230; 32 bits: items that waited in this stall -/
  waited : Nat := 0
  /-- R229; 32 bits: items counted in this stall -/
  stallLost : Nat := 0
  /-- R218; 8 bits: node of a stream's channel -/
  node : Nat := 0
  /-- R218; 6 bits: global analogue index of a stream -/
  chan : Nat := 0
  /-- R265; 64 bits: index of the stream's next word -/
  wordIndex : Nat := 0
  /-- R267; 32 bits: words lost since the last block accepted -/
  gapWords : Nat := 0
  /-- R264; class V: blocks in core and not yet offered, oldest first; the last one is being filled -/
  filling : List Block := []
  /-- R267; class J: instant and waveform setting of the stream's last word -/
  lastWord : Option (Nat × Nat) := none
  /-- R265; 1 bit; class V: the stream was suspended; its next word begins a block -/
  paused : Bool := false
  /-- R233: blocks accepted before a reset, to be rebuilt when acquisition resumes -/
  rebuilt : List Item := []
  /-- R235: a close is in progress; its command -/
  closing : Option Nat := none
  /-- R233; 32 bits: backlog items lost at the last full reset, with first and last SEQ -/
  resetLost : Option (Nat × Nat × Nat) := none
  deriving DecidableEq, Repr

/-- One operation the node performs on the PCI Express link, oldest first. -/
inductive BusOp where
  /-- a posted write of function `pf` into host memory (R252, R264, R490) -/
  | write (pf : Nat) (addr : Nat) (bytes : List Byte)
  /-- a zero-length flushing read (R210, R255) -/
  | flush (pf : Nat) (addr : Nat)
  /-- a fetch read of a command slot by PF0 (R259, R260) -/
  | fetch (addr : Nat) (len : Nat)
  /-- an MSI-X message (R256, R269) -/
  | msix (pf : Nat) (vector : Nat)
  /-- an MSS SMBus answer (R547) -/
  | smbus (bytes : List Byte)
  deriving DecidableEq, Repr

/-- Bytes of a command's answer in host memory, delivered before the command's reply is accepted (R300, R490). -/
structure HostAnswer where
  /-- R283: the command -/
  cmd : Nat
  /-- R490; 64 bits -/
  addr : Nat
  /-- R490: the bytes -/
  bytes : List Byte
  /-- R285; 40 bytes: PAYLOAD of the reply -/
  payload : List Byte
  /-- R210: where the write stands -/
  stage : Stage
  deriving DecidableEq, Repr

/-- A doorbell ring of one session (R259 to R261, R271). -/
structure SesRing where
  /-- R271; 64 bits; class V -/
  base : Nat := 0
  /-- R271; 1 bit; class V -/
  en : Bool := false
  /-- R271; 4 bits; class V -/
  rlog2 : Nat := 1
  /-- R271; 4 bits; class V -/
  slotLog2 : Nat := 7
  /-- R260; 16 bits; class V: the last accepted doorbell value -/
  db : Nat := 0
  /-- R260; 16 bits; class V -/
  head : Nat := 0
  /-- R261; 1 bit; class V -/
  dbErr : Bool := false
  /-- R261; 1 bit; class V -/
  stopped : Bool := false
  /-- R262; 1 bit; class V -/
  fetchErr : Bool := false
  deriving DecidableEq, Repr

/-- The host port (R239 to R272). -/
structure HostPort where
  /-- R246; 1 bit; class V -/
  ready : Bool := false
  /-- R242; 4 bits; class V: 0 down, 1 2.5, 2 5, 3 8 GT/s -/
  speed : Nat := 0
  /-- R242; 4 bits; class V -/
  width : Nat := 0
  /-- R271; 16 bits; class V -/
  retrains : Nat := 0
  /-- R271; 7 bits; class V -/
  irq : BitVec 7 := 0
  /-- R271; 7 bits; class V -/
  irqMask : BitVec 7 := 1
  /-- R271; 6 bits; class V -/
  err : BitVec 6 := 0
  /-- R271; 16 bits; class V -/
  corr : Nat := 0
  /-- R271; 16 bits; class V -/
  flushRetry : Nat := 0
  /-- R243; 1 bit: the link is in L1 -/
  inL1 : Bool := false
  /-- R244; 3 bits: Bus Master Enable of PF0 to PF2 -/
  bme : BitVec 3 := 0
  /-- R244; 3 bits: function in D3hot -/
  d3hot : BitVec 3 := 0
  /-- R244; 3 bits: Memory Space Enable -/
  mse : BitVec 3 := 0
  /-- R268; 3 bits: function stopped by an Uncorrectable Internal Error -/
  dead : BitVec 3 := 0
  /-- R210: flushing reads outstanding on PF0, oldest first -/
  flush0 : List Nat := []
  /-- R210: flushing reads outstanding on PF1, oldest first -/
  flush1 : List Nat := []
  /-- R210: number of the next flushing read -/
  flushNext : Nat := 0
  /-- R255; 64 bits: address of the last entry or header written through PF0, PF1 -/
  lastAddr : Nat × Nat := (0, 0)
  /-- R270; 32 bits: flushing read timeouts since the last 0x002A of PF0, PF1 -/
  flushTo : Nat × Nat := (0, 0)
  /-- R268; ns: last 0x002A of PF0, PF1 -/
  flushToAt : Option Nat × Option Nat := (none, none)
  /-- R249; 32 bits: high half latched by the last low read, with the register read -/
  latch64 : Nat × Nat := (0, 0)
  /-- R256; 1 bit per vector of a function (pf × 1024 + vector): unmasked by the host -/
  unmasked : List (Nat × Bool) := []
  /-- R256; 1 bit per vector: pending (PBA) -/
  pba : List (Nat × Bool) := []
  /-- R247; 32 bits each; class V: message address and data words of the MSI-X tables, by function × 4096 + 4 × vector + word -/
  msixTable : List (Nat × Word) := []
  /-- the model's own: the value that the last register read returned to the host -/
  readValue : Nat := 0
  /-- R270; per register (function × 2^24 + offset): Node Time of its last 0x0035 and ignored writes since -/
  rws : List (Nat × (Nat × Nat)) := []
  /-- R490; class V: answers being written into host memory, oldest first -/
  answers : List HostAnswer := []
  /-- R210, R252, R256: the operations performed on the link, oldest first -/
  bus : List BusOp := []
  deriving DecidableEq, Repr

/-- A stored final status of the duplicate window (R290). -/
structure DupEntry where
  /-- R290; 32 bits -/
  token : Nat
  /-- R290; 32 bits: CRC-32C digest of the packet without trailer -/
  digest : Nat
  /-- R290: identity of the command in execution, or none once final -/
  cmd : Nat
  /-- R290; 16 bits: final status, none while in execution -/
  status : Option Nat
  /-- R290; 40 bytes -/
  payload : List Byte
  /-- R291: a running job -/
  job : Bool
  /-- R290; ns: kept until, once final -/
  keep : Nat
  /-- R291: duplicate replies owed at completion (reply flow, cookie) -/
  owed : List (Nat × Nat)
  /-- R290: the journaled entry of a DEVICE_RESET -/
  isReset : Bool
  deriving DecidableEq, Repr

/-- One host session (R279 to R281, R300 to R302). -/
structure Session where
  /-- R279; 1 bit; class V: opened by SESSION_OPEN in SEALED -/
  opened : Bool := false
  /-- R300; 4 bits; class V: rights of the grant, bit 0 O, 1 C, 2 S, 3 K -/
  rights : BitVec 4 := 0
  /-- R281; class V: command key held, by its opaque handle -/
  key : Option Nat := none
  /-- R277; 64 bits; class V -/
  lastCounter : Nat := 0
  /-- R300; 64 bits; class V: grant expiry, Node Time -/
  notAfter : Nat := 0
  /-- R290; class V -/
  window : List DupEntry := []
  deriving DecidableEq, Repr

/-- Where an accepted command stands. -/
inductive CmdPhase where
  /-- accepted, waits for its start instant or its object (R283) -/
  | waiting
  /-- started, work not complete -/
  | running
  /-- ACCEPTED has been sent; runs as a job (R286) -/
  | job
  /-- forwarded to a peer, answer awaited (R293) -/
  | forwarded
  deriving DecidableEq, Repr

/-- A command between acceptance and its final reply (R282 to R288). -/
structure CmdEntry where
  /-- R283: fetch order -/
  id : Nat
  /-- R299: opcode -/
  op : Opc
  /-- R274: packet -/
  c : Cmd
  /-- R275: execution class in force -/
  cls : Nat
  /-- R276; ns: fetch instant -/
  fetched : Nat
  /-- R276; ns: start instant S -/
  start : Nat
  /-- R288: progress mark 0 to 3 -/
  mark : Nat
  phase : CmdPhase
  /-- R286; ns: end of its job bound -/
  jobEnd : Nat
  /-- R293: rights found by the master for a forwarded command received here; none for a local one -/
  fromMaster : Option Nat
  /-- progress data of a running command or job, laid out by its own meaning -/
  work : List Nat
  deriving DecidableEq, Repr

/-- The Command Processor and its sessions. -/
structure CmdProc where
  /-- R283: order given to the next accepted command -/
  nextId : Nat := 0
  /-- R283, R288; class J: commands in execution, in fetch order -/
  exec : List CmdEntry := []
  /-- R260; class V: session whose ring was served last -/
  turn : Nat := 63
  /-- R271, R259; 64 rings -/
  rings : List (Nat × SesRing) := []
  /-- R279; 64 sessions -/
  ses : List (Nat × Session) := []
  /-- R290; class J: journaled window entry of a DEVICE_RESET, with its session -/
  resetEntry : Option (Nat × DupEntry) := none
  /-- R287; ns: a DEVICE_RESET is pending: limit instant, KIND (2 once the phases of a KIND 1
  are off), flow and SEQ of its reply -/
  resetPending : Option (Nat × Nat × Nat × Nat) := none
  /-- R293: frames the command processor handed to the ring, oldest first: target, command id, packet opcode -/
  fwdOut : List (Nat × Nat × Nat) := []
  /-- R293: duplicate window of forwarded commands -/
  fwdWindow : List (Nat × DupEntry) := []
  /-- R293: answers handed to the ring for the master: command id, status, payload -/
  answers : List (Nat × Nat × List Byte) := []
  deriving DecidableEq, Repr

end Sys2Proof.Machine
end

