-- ==== Sys2Proof/Machine/RecState.lean ====
section
/-! DEFINITION. The state of the event recorder: staging ring, segments, quotas, mirroring, NAND blocks
(chapter "Event Recorder and Journal"). -/

namespace Sys2Proof.Machine

/-- One record as the recorder keeps it (R469, R470): header fields and body. -/
structure Stored where
  /-- R469; 3 bits -/
  sev : Nat
  /-- R469; 1 bit -/
  mirrored : Bool
  /-- R469; 8 bits: 0 event, 1 mark -/
  fmt : Nat
  /-- R469; 32 bits -/
  rseq : Nat
  /-- R469; 64 bits -/
  time : Nat
  /-- R470; 0 to 1,008 bytes -/
  body : List Byte
  deriving DecidableEq, Repr

/-- One 256 KiB segment of the store (R473). -/
structure Segment where
  /-- R473; 3 bits: severity it holds -/
  sev : Nat
  /-- R473; 1 bit: holds mirrored records -/
  mirrored : Bool
  /-- R473; 1 bit -/
  closed : Bool
  /-- R484; 16 bits: NAND block -/
  block : Nat
  /-- R473; 19 bits: bytes used -/
  used : Nat
  /-- records, oldest first -/
  recs : List Stored
  /-- R484; ns: last scrub -/
  scrubbed : Nat
  deriving DecidableEq, Repr

/-- A record that was overwritten or displaced (R475, R480), as RECORD_READ's GAP bit needs it (R490). -/
structure Gone where
  /-- R469; 1 bit -/
  mirrored : Bool
  /-- R469; 3 bits -/
  sev : Nat
  /-- R469; 32 bits -/
  rseq : Nat
  /-- R469; 64 bits -/
  time : Nat
  deriving DecidableEq, Repr

/-- The Recorder Controller (R469 to R492). -/
structure Recorder where
  /-- R470; 32 bits; class J: next RSEQ -/
  next : Nat := 0
  /-- R474; 16 bits each; class P: Q_0 to Q_4 -/
  quota : List Nat := [256, 512, 1024, 1024, 512]
  /-- R474; 14 bits; class P: MIRROR_MAX -/
  mirrorMax : Nat := 0
  /-- R476; 1 bit; class V: REC_STATUS.REFUSED -/
  refused : Bool := false
  /-- R476; 32 bits per severity; class J -/
  sevRefused : List Nat := [0, 0, 0, 0, 0]
  /-- R475; 32 bits per severity; class J -/
  sevOver : List Nat := [0, 0, 0, 0, 0]
  /-- R490; class J: the records overwritten or displaced, oldest loss first (the model's own list behind GAP) -/
  gone : List Gone := []
  /-- R491; 32 bits per severity: refused since the last 0x0701 -/
  refSince : List Nat := [0, 0, 0, 0, 0]
  /-- R476; ns per severity: last 0x0701 -/
  refAt : List (Option Nat) := [none, none, none, none, none]
  /-- R479; 512 KiB; class J: the staging ring, oldest first -/
  staging : List Stored := []
  /-- R480; 16 MiB; class V: the overflow area, oldest first -/
  overflow : List Stored := []
  /-- R480; 32 bits: records displaced from the overflow area -/
  displaced : Nat := 0
  /-- R480; ns: last 0x0705 for a beginning and for an end -/
  ovfAt : Option Nat := none
  /-- R479; 1 bit: the journal restore has been done -/
  restored : Bool := false
  /-- R479; class V: records produced before the journal restore -/
  waiting : List Stored := []
  /-- R479; 1 bit; class V: REC_STATUS.RING_CATCHUP, with the records still to be copied first -/
  catchup : Nat := 0
  /-- R473; 12,288 segments; class P -/
  segments : List Segment := []
  /-- R485; 14 bits; class P: segments lost to failed blocks -/
  segLost : Nat := 0
  /-- R485; 10 bits; class P: spare blocks left -/
  spares : Nat := 512
  /-- R485; class P: retired blocks -/
  retired : List Nat := []
  /-- R484: first block never used -/
  freshBlock : Nat := 0
  /-- R484: erased blocks that have been used before -/
  erased : List Nat := []
  /-- R484; class J: erase counts of blocks erased at least once -/
  erases : List (Nat × Nat) := []
  /-- R478; ns: last reclaimed segment -/
  reclaimAt : Nat := 0
  /-- R478: a quota change still to be reclaimed for -/
  reclaiming : Bool := false
  /-- R481; 6 bits; class P -/
  mirTo : Nat := 0
  /-- R481; 6 bits; class P -/
  mirFrom : Nat := 0
  /-- R481; 3 bits; class P -/
  mirSev : Nat := 3
  /-- R481; 32 bits; class P: RATE -/
  mirRate : Nat := 0
  /-- R482; 32 bits; class J: highest RSEQ acknowledged -/
  mirCursor : Nat := 0
  /-- R482; 1 bit; class J: the cursor holds a position -/
  mirSent : Bool := false
  /-- R482; 32 bits; class J -/
  mirSkipped : Nat := 0
  /-- R492; 2 bits; class V: 0 off, 1 current, 2 behind, 3 refused -/
  mirState : Nat := 0
  /-- R482; ns: instant of the oldest unacknowledged MIRROR frame -/
  mirWait : Option Nat := none
  /-- R482; ns: RATE allows no frame before -/
  mirFree : Nat := 0
  /-- R480: records in core memory were lost at the last full reset -/
  recLost : Bool := false
  /-- R488; ns; class J: Node Time of the restart checkpoint -/
  checkpoint : Nat := 0
  /-- R488; 1 bit; class J: half written last -/
  checkHalf : Bool := false
  /-- R488; class J: program state and CYCLE_COUNT in the checkpoint -/
  checkProg : Nat × Nat := (0, 0)
  /-- R487; 16 bits: torn entries found at the last restore -/
  torn : Nat := 0
  /-- R487, R486; 1 bit: the journal header matches this node -/
  headerOk : Bool := false
  deriving DecidableEq, Repr

end Sys2Proof.Machine
end

