-- ==== Sys2Proof/Machine/ModeState.lean ====
section
/-! DEFINITION. The state of the operating modes, the lifecycle, debug, the supplies and the restart
(chapters "Operating Modes, Power States, Lifecycle and Debug" and "Supplies, Reset, Holdover and What Survives"). -/

namespace Sys2Proof.Machine

/-- Lifecycle states (R405), class F. -/
inductive Lifecycle where
  | opened | commission | sealed | retired
  deriving DecidableEq, Repr

/-- Cascade roles (R403), class P. -/
inductive Role where
  | standalone | master | standbyMaster | member
  deriving DecidableEq, Repr

/-- Debug levels (R409). -/
inductive DebugLevel where
  | closed | observe | full
  deriving DecidableEq, Repr

/-- A running simulation (R396), class V. -/
structure Sim where
  /-- R415; REAL32 -/
  value : Word
  /-- R415; 24-bit two's complement -/
  raw : Int
  /-- R415; 16 bits -/
  qbits : BitVec 16
  deriving DecidableEq, Repr

/-- A calibration in progress (R398), class V. -/
structure Cal where
  /-- R398: at most two points (x, y), REAL32 -/
  points : List (Word × Word) := []
  /-- R398: SET last driven -/
  set : Option Word := none
  /-- R398: capture in progress: command, REF, its start instant, p0 values collected -/
  capture : Option (Nat × Word × Nat × List Word) := none
  deriving DecidableEq, Repr

/-- Operating modes, lifecycle and debug (R389 to R417). -/
structure Modes where
  /-- R389; 12 bits; class J: MOD_CMD -/
  cmd : BitVec 12 := 0
  /-- R390; 12 bits; class V: forced-off mask in force -/
  forced : BitVec 12 := 0
  /-- R394; 12 bits; class P: MOD_START -/
  start : BitVec 12 := 0
  /-- R391; 12 bits; class V: staged word, its boundary, the command and session that staged it -/
  pending : Option (BitVec 12 × Nat × Nat × Nat) := none
  /-- R393; ns: boundary at which the last MODE_SET applied -/
  applied : Option Nat := none
  /-- R390; ns: cycle boundary at which forces without a cause are released -/
  releaseAt : Option Nat := none
  /-- R403; 2 bits; class P -/
  role : Role := .standalone
  /-- R404; 1 bit; class V: profile in force, 1 Delegated -/
  profile : Nat := 0
  /-- R404; 1 bit; class P -/
  profileNext : Nat := 0
  /-- R394; 2 bits; class V: 0 journal, 1 start word, 2 HOLD_SAFE -/
  startSrc : Nat := 1
  /-- R390; 2 bits: HOLD_SAFE in force: 1 CTL and DRV, 2 also ACQ and ALM -/
  holdSafe : Nat := 0
  /-- R397; 1 bit; class P: MOD_CFG.FORCE_FIELD -/
  forceField : Bool := false
  /-- R396; class V: simulations by global index -/
  sims : List (Nat × Sim) := []
  /-- R398; class V: calibrations by analogue index -/
  cals : List (Nat × Cal) := []
  /-- R399; class P: field trims TG, TO by analogue index, where not (1.0, 0.0) -/
  trims : List (Nat × (Word × Word)) := []
  /-- R82, R398; class V: instant up to which the field trim before the present one conditions samples, and that trim -/
  trimsOld : List (Nat × (Nat × (Word × Word))) := []
  /-- R405; 2 bits; class F -/
  life : Lifecycle := .opened
  /-- R410; 1 bit; pin level -/
  dbgEn : Bool := false
  /-- R409; 2 bits; class V -/
  debug : DebugLevel := .closed
  /-- R417; 1 bit; class V -/
  dbgToken : Bool := false
  /-- R417; 7 bits; class V -/
  dbgSession : Nat := 0
  /-- R412; 3 bits; class V -/
  dbgCause : Nat := 0
  /-- R412; 64 bits; class V -/
  dbgExpiry : Nat := 0
  /-- R411; 64 bits; class V -/
  nonce : Nat := 0
  deriving DecidableEq, Repr

/-- States of one 24 V input (R443). -/
inductive InputState where
  | inRange | low | lost
  deriving DecidableEq, Repr

/-- Power states (R449). -/
inductive PowerState where
  | run | holdover | dormant | vigil
  deriving DecidableEq, Repr

/-- Where the restart of R460 or R462 stands. -/
inductive StartPhase where
  /-- reset asserted -/
  | asserted
  /-- released; firmware starting -/
  | released
  /-- island links up -/
  | links
  /-- journal restored -/
  | restored
  /-- acquisition resumed -/
  | acquiring
  /-- alarm evaluation resumed -/
  | evaluating
  deriving DecidableEq, Repr

/-- DORMANT being entered (R452). -/
structure DormantReq where
  /-- R452; 5 bits: WAKE_MASK -/
  mask : Nat
  /-- R452; 64 bits: WAKE_AT -/
  wakeAt : Nat
  /-- R452; ns: S + 2 ms + the deadline of REPLY_FLOW -/
  limit : Nat
  /-- R452: flow and SEQ of the reply that is waited for -/
  flow : Nat
  seq : Nat
  session : Nat
  deriving DecidableEq, Repr

/-- Supplies, power states and the restart path (R443 to R468). -/
structure Power where
  /-- R449: power state -/
  state : PowerState := .run
  /-- R443: P1 -/
  p1 : InputState := .lost
  /-- R443: P2 -/
  p2 : InputState := .lost
  /-- R444; ns: since when both inputs have been LOST -/
  bothLost : Option Nat := none
  /-- R445; mV: HOLD pack voltage -/
  holdMv : Nat := 0
  /-- R445; mF: last measured capacitance -/
  holdMf : Option Nat := none
  /-- R445; ns: instant the bus came up -/
  busUp : Nat := 0
  /-- R445; 1 bit: HOLD found below 4.75 V after its charge time -/
  holdLow : Bool := false
  /-- R445; ns: last measurement of the capacitance -/
  capAt : Option Nat := none
  /-- R445, R468; 1 bit: state of HOLD in its last record -/
  holdBad : Bool := false
  /-- R448; 1 bit: VBAT below 2.2 V with main power -/
  vbatLow : Bool := false
  /-- R448; 1 bit: VBAT fell below 2.0 V in VIGIL, class B lost -/
  vbatLost : Bool := false
  /-- R449: HOLDOVER entry instant and t_h in ns -/
  holdover : Option (Nat × Nat) := none
  /-- R446; mV: V_e at the last HOLDOVER entry -/
  holdVe : Nat := 0
  /-- R450; 1 bit: panel parked in this HOLDOVER, and journal sealed -/
  parked : Bool := false
  /-- R450; 8 bits: regions parked -/
  parkedRegions : Nat := 0
  /-- R450; 1 bit; class J: journal sealed -/
  sealed : Bool := false
  /-- R450; 64 bits; class J: seal instant -/
  sealAt : Nat := 0
  /-- R452 -/
  dormantGoing : Option DormantReq := none
  /-- R454; 5 bits: WAKE_MASK in force -/
  wakeMask : Nat := 0
  /-- R454; 64 bits: WAKE_AT -/
  wakeAt : Nat := 0
  /-- R465; 8 bits: source of the last wake -/
  wake : Nat := 0
  /-- R456; 8 bits: cause of the reset in force or of the last start -/
  cause : Nat := 14
  /-- R465; 8 bits: PRIOR -/
  prior : Nat := 3
  /-- R459; 16 bits: OTHER -/
  other : BitVec 16 := 0
  /-- R459; 8 bits: NESTED -/
  nested : Nat := 0
  /-- R459; ns: nested reset instants of the last 10 s -/
  nestedAt : List Nat := []
  /-- R459: consecutive CORE_SUPPLY causes -/
  coreSupplyRuns : Nat := 0
  /-- R459; 1 bit: node held in reset -/
  heldInReset : Bool := false
  /-- R460: phase of the restart -/
  phase : StartPhase := .asserted
  /-- R465; 64 bits: T_R -/
  tR : Nat := 0
  /-- R465; 64 bits: T_REL -/
  tRel : Nat := 0
  /-- R456; 1 bit: the islands kept power over this reset -/
  islandsKept : Bool := false
  /-- R459; 1 bit: PERST_N asserted -/
  perst : Bool := false
  /-- R456; 1 bit: RESET_N held low -/
  resetN : Bool := false
  /-- R461; ns: catch-up in progress since, and its end -/
  catchup : Bool := false
  /-- R465; 64 bits: CATCHUP_END -/
  catchupEnd : Nat := 0
  /-- R458; 1 bit: NODE_OK contact energised -/
  nodeOk : Bool := false
  /-- R457; ns: instant of the assertion -/
  assertedAt : Nat := 0
  /-- R394; 1 bit: this start counts as a power-on start -/
  powerOn : Bool := true
  /-- R435, R449; 1 bit: DORMANT runs on HOLD -/
  onHold : Bool := false
  /-- R465; 1 bit: the last end of power left the journal unsealed -/
  unsealed : Bool := false
  /-- R451; 1 bit: PERST_N was asserted in DORMANT -/
  perstSeen : Bool := false
  /-- R453, R587; 1 bit: WAKE_N asserted -/
  wakeN : Bool := false
  deriving DecidableEq, Repr

end Sys2Proof.Machine
end

