-- ==== Sys2Proof/Machine/AnalogState.lean ====
section
/-! DEFINITION. The state of the eight analogue islands: channels, conditioning, range handoff, outputs, clamps, blanking,
references, crosspoint paths and ride-through buffers (chapters "Analogue Islands", "Linearisation, Conditioning and Sample
Quality", "Analogue Outputs and Current Loops"). -/

namespace Sys2Proof.Machine

/-- One sample of a field point on its way to its consumers (R70, R75, R103, R112). -/
structure Sample where
  /-- R11: global index of the source -/
  src : Nat
  /-- R71; 16 bits -/
  seq : Nat := 0
  /-- R94; REAL32 engineering value -/
  value : Word
  /-- R103; 16 bits -/
  sqw : BitVec 16
  /-- R53; 64 bits: sample instant -/
  time : Nat
  /-- R75; 24-bit code -/
  raw : BitVec 24 := 0
  /-- R148; 32 bits: count of a COUNT sample -/
  num : Nat := 0
  /-- R111; REAL32: cold-junction temperature used -/
  cj : Word := 0x7FC00000
  /-- R118; REAL32: terminal voltage of a readback sample -/
  volts : Word := 0x7FC00000
  deriving DecidableEq, Repr

/-- One waveform word in a ride-through buffer (R70, R265, R266). -/
structure WaveWord where
  /-- R11; global analogue index -/
  chan : Nat
  /-- R53; 64 bits: sample instant -/
  time : Nat
  /-- R52; waveform setting it was sampled at -/
  rate : Nat
  /-- R47; range code it was sampled at -/
  range : Nat
  /-- R266; 32 bits -/
  word : Word
  deriving DecidableEq, Repr

/-- Measurement configuration of a channel (R74, R78), class P. -/
structure ChanCfg where
  /-- R46; 4 bits -/
  kind : Nat := 0
  /-- R47; 4 bits -/
  range : Nat := 0
  /-- R51; 4 bits -/
  prec : Nat := 2
  /-- R52; 4 bits -/
  wave : Nat := 0
  /-- R78; 1 bit -/
  pulsed : Bool := false
  /-- R55; 2 bits -/
  pwin : Nat := 0
  /-- R78; 1 bit -/
  owTest : Bool := false
  /-- R74; 4 bits -/
  prate : Nat := 0
  /-- R61; 2 bits -/
  emode : Nat := 0
  /-- R61; 12 bits -/
  level : Nat := 0
  /-- R56; 8 bits: 20 µs units -/
  lead : Nat := 50
  /-- R61; 8 bits: 0.25 mA units -/
  ilim : Nat := 4
  /-- R74; 8 bits -/
  tp : Nat := 255
  /-- R74; 8 bits -/
  tn : Nat := 255
  /-- R74; 8 bits -/
  tx : Nat := 255
  /-- R74; 8 bits -/
  tr : Nat := 255
  deriving DecidableEq, Repr

/-- Conditioning of a channel (R109, R111), class P. -/
structure CondCfg where
  /-- R83; 8 bits -/
  curve : Nat := 0
  /-- R90; 3 bits -/
  cjsrc : Nat := 0
  /-- R90; 3 bits -/
  cjch : Nat := 0
  /-- R90; 1 bit -/
  cjfb : Bool := false
  /-- R96; 1 bit -/
  autorange : Bool := false
  /-- R96; 4 bits -/
  rangeLo : Nat := 0
  /-- R96; 4 bits -/
  rangeHi : Nat := 0
  /-- R84; 4 bits -/
  cutoff : Nat := 0
  /-- R94; REAL32 -/
  gain : Word := 0x3F800000
  /-- R94; REAL32 -/
  offset : Word := 0
  /-- R109; REAL32 -/
  arg0 : Word := 0
  /-- R109; REAL32 -/
  arg1 : Word := 0
  deriving DecidableEq, Repr

/-- A configuration change between the opening of the old switches and its effect (R41). -/
structure Change where
  cfg : ChanCfg
  /-- R41; ns: instant the old switches opened -/
  opened : Nat
  /-- command that waits for it -/
  cmd : Nat
  /-- R35: connections to be closed -/
  conn : List (Nat × Nat)
  slice : Option Nat
  cell : Option Nat
  /-- R102: takes effect without a sample boundary -/
  force : Bool := false
  deriving DecidableEq, Repr

/-- A change of excitation, WAVE or OW_TEST that waits for its boundary (R41, R102). -/
structure Retune where
  cfg : ChanCfg
  /-- command that waits for it -/
  cmd : Nat
  /-- ns: instant it was asked for -/
  asked : Nat
  deriving DecidableEq, Repr

/-- A conditioning change that waits for the first sample after it (R82, R109). -/
structure CondNext where
  cond : CondCfg
  /-- ns: instant of the change -/
  since : Nat
  /-- command that waits for it, until its bound -/
  cmd : Option Nat
  deriving DecidableEq, Repr

/-- One analogue channel. -/
structure Chan where
  /-- R78; class P -/
  cfg : ChanCfg := {}
  /-- R111; class P -/
  cond : CondCfg := {}
  /-- R88; class I: slot or kind mismatch in force -/
  mismatch : Bool := false
  /-- R41; class I: change in progress -/
  change : Option Change := none
  /-- R41, R102; class I: deferred change of excitation, WAVE or OW_TEST -/
  retune : Option Retune := none
  /-- R82, R109; class I: conditioning that applies from the next sample -/
  condNext : Option CondNext := none
  /-- R78; 4 bits; class I: physical slice -/
  pslice : Option Nat := none
  /-- R78; 4 bits; class I: physical source cell -/
  psource : Option Nat := none
  /-- R35; class I: closed switches (terminal, internal node) -/
  conn : List (Nat × Nat) := []
  /-- R111; 4 bits; class I: range in use -/
  rangeNow : Nat := 0
  /-- R71; 16 bits; class I: next sequence number -/
  nextSeq : Nat := 0
  /-- R78; 16 bits; class I: sequence number of the last sample -/
  seqLast : Nat := 0
  /-- R41, R101; ns; class I: instant at which the decimators last restarted -/
  restart : Nat := 0
  /-- R53; ns; class I: last sample instant -/
  lastAt : Option Nat := none
  /-- R103; class I: precision samples still to carry UNSETTLED -/
  unsettled : Nat := 0
  /-- R41; class I: waveform words still to carry UNSETTLED -/
  unsettledW : Nat := 0
  /-- R64; ns; class I: ended conductions of clamps on terminals joined to the channel's slice: start and end -/
  clampSpans : List (Nat × Nat) := []
  /-- R101; class I: precision samples still to carry RANGE_CHANGE and INVALID -/
  changeLeft : Nat := 0
  /-- R101; class I: waveform words likewise -/
  changeLeftW : Nat := 0
  /-- R77; ns; class I: path tests of the channel's switches -/
  testAt : List Nat := []
  /-- R71; class I: next sample carries RESET_GAP -/
  gap : Bool := false
  /-- R106; 1 bit; class I: last code was at positive full scale -/
  satLast : Bool := false
  /-- R106; 1 bit; class I: last current was below 0.5 mA, in the precision samples and in the waveform words -/
  lowLast : Bool := false
  lowWave : Bool := false
  /-- R41, R57, R72; class I: the source cell of the excitation is on since -/
  srcOn : Option Nat := none
  /-- R57; 1 bit; class I: conversion window open since -/
  window : Option Nat := none
  /-- R58; 1 bit; class I: readback check of this window failed -/
  rbFail : Bool := false
  /-- R58; class I: consecutive failed and passed checks -/
  rbFails : Nat := 0
  rbPasses : Nat := 0
  /-- R58; 1 bit; class I: readback fault -/
  rbFault : Bool := false
  /-- R111; 2 bits; class V: 0 idle, 1 arming, 2 armed, 3 fallback hold-off -/
  hstate : Nat := 0
  /-- R111; 1 bit; class V -/
  hdir : Nat := 0
  /-- R111; 4 bits; class V -/
  spare : Option Nat := none
  /-- R99; class V: samples since the spare joined -/
  armCount : Nat := 0
  /-- R97; class V: consecutive samples that meet the release condition -/
  relCount : Nat := 0
  /-- R101; class V: samples of hold-off left -/
  holdOff : Nat := 0
  /-- R111; 8 bits; class V -/
  glides : Nat := 0
  /-- R111; 8 bits; class V -/
  falls : Nat := 0
  /-- R97, R98; ns; class V: sample instant at which a pre-arm condition that no spare serves began -/
  crossAt : Option Nat := none
  /-- R100; class I: its handoff spare was claimed since its last sample -/
  claimed : Bool := false
  /-- R92; class I: usable values and their instants, newest first, for cold-junction use -/
  cjUsable : List (Nat × Word) := []
  /-- R75, R79, R112; class V: last sample received by the core -/
  last : Option Sample := none
  /-- R79, R112; class V: the sample latched by the last read of ACH_CH_RAW -/
  latch : Option Sample := none
  /-- R71; 16 bits; class J: sequence number expected next by the core -/
  seen : Option Nat := none
  /-- R267; ns; class I: instant of the last waveform word -/
  lastWave : Option Nat := none
  /-- R99; ns; class I: instant the handoff spare was joined -/
  joinAt : Nat := 0
  /-- R420: deviation of the excitation from its set level summed over the running hour in ppm, checks, and its start -/
  wearSum : Nat := 0
  wearCount : Nat := 0
  wearAt : Nat := 0
  /-- R266: the next waveform word carries GLIDE and, after a range handoff, RANGE_CHANGE -/
  waveMark : Nat := 0
  /-- R426; class I: the next precision sample carries GLIDE; ns: no waveform word before this instant -/
  glideNext : Bool := false
  waveFrom : Nat := 0
  deriving DecidableEq, Repr

/-- One output channel (R113 to R138). -/
structure Output where
  /-- R113; 2 bits; class P -/
  okind : Nat := 0
  /-- R122; 1 bit; class P -/
  failLow : Bool := false
  /-- R124; 1 bit; class P -/
  ne43 : Bool := false
  /-- R135; 3 bits; class P -/
  safeMode : Nat := 0
  /-- R137; 8 bits; class P -/
  tp : Nat := 255
  /-- R137; 8 bits; class P -/
  tn : Nat := 255
  /-- R137; REAL32; class P -/
  safeValue : Word := 0
  /-- R138; REAL32; class I: last set point received, before NE43_LIMIT -/
  set : Word := 0
  /-- R126; REAL32; class I: set point in force -/
  point : Word := 0
  /-- R399; REAL32; class I: value the source cell is set to, the field trim taken out -/
  cellSet : Word := 0
  /-- R420: deviation from the set point summed over the running hour in 1e-6 mA or 1e-6 V, samples, and its start -/
  wearSum : Nat := 0
  wearCount : Nat := 0
  wearAt : Nat := 0
  /-- R429: readback samples still to carry GLIDE -/
  glideLeft : Nat := 0
  /-- R126; class I: staged value, its instant, the command that waits and whether it was limited -/
  staged : Option (Word × Nat × Option Nat × Bool) := none
  /-- R127; REAL32; class I: value driven now -/
  driven : Word := 0
  /-- R138; REAL32; class V -/
  rbi : Word := 0x7FC00000
  /-- R138; REAL32; class V -/
  rbv : Word := 0x7FC00000
  /-- R118; REAL32; class V: terminal voltage latched by the last read of ACH_OUT_RBI -/
  rbvLatch : Option Word := none
  /-- R138; REAL32; class V -/
  rail : Word := 0x7FC00000
  /-- R138; 1 bit; class V: output driven -/
  active : Bool := false
  /-- R121; 1 bit; class V -/
  compliance : Bool := false
  /-- R121; class V: consecutive failing and passing samples -/
  fails : Nat := 0
  passes : Nat := 0
  /-- R122; 1 bit; class I -/
  failLatch : Bool := false
  /-- R134; 1 bit; class I: safe value driven -/
  safeNow : Bool := false
  /-- R133; 1 bit; class I: hold running -/
  held : Bool := false
  /-- R138; 4 bits; class I -/
  cellA : Option Nat := none
  /-- R138; 4 bits; class I -/
  cellB : Option Nat := none
  /-- R129; 5 bits; class I -/
  shareA : Nat := 16
  /-- R129; 5 bits; class I: target share of a running transfer -/
  target : Option Nat := none
  /-- R131; 1 bit; class I: the second cell waits for 6.5 mA -/
  waiting : Bool := false
  /-- R436; 1 bit; class I: the current returns to the first cell once the hold has ended -/
  giveBack : Bool := false
  /-- R128; class I: cell to be removed at the end: 0 first, 1 second; and the command waiting -/
  removing : Option Nat := none
  pairCmd : Option Nat := none
  /-- R132; class I: consecutive deviating samples of the first and second cell -/
  devA : Nat := 0
  devB : Nat := 0
  /-- R132; class I: the first cell (true) or the second is given up at the next sample; its readback -/
  pairBad : Option (Bool × Word) := none
  /-- R132; 1 bit; class I: runs on one cell after a failure in a pair -/
  degraded : Bool := false
  /-- R120; ns; class I: last change of set point or transfer step -/
  changed : Nat := 0
  /-- R119; class I: last sample carried OPEN_WIRE -/
  openWire : Bool := false
  deriving DecidableEq, Repr

/-- A running blanking interval (R65), with the settings in force when it began (R76). -/
structure Blank where
  /-- R69; ns: start -/
  start : Nat
  /-- R65: sources active: bit 0 BLANKn, 1 digital output, 2 clamp -/
  src : BitVec 3
  /-- R65; ns: end of the last source, once none is active -/
  ended : Option Nat
  /-- R76; 32 bits: ACH_ISL_BLANK_CFG in force when it began -/
  cfg : BitVec 32
  /-- R69; 1 bit: 0x0313 written -/
  long : Bool
  /-- R66; ns: instant at which a digital output source ends by itself -/
  doEnd : Nat
  deriving DecidableEq, Repr

/-- Clamp history of one terminal (R63, R64). -/
structure ClampRec where
  /-- R62, R64; ns: conducting since -/
  since : Option Nat := none
  /-- R63; ns: conduction ended, the slice switches still open -/
  quiet : Option Nat := none
  /-- R63; 1 bit: the clamp holds the terminal's slice switches open, but for shorted ones (R40) -/
  opened : Bool := false
  /-- R64; onsets since the last 0x0310 -/
  count : Nat := 0
  /-- R64; ns: last 0x0310 -/
  recAt : Option Nat := none
  deriving DecidableEq, Repr

/-- One analogue island. -/
structure AIsland where
  /-- R78; 1 bit; class V -/
  present : Bool := true
  /-- R78; 1 bit; class V -/
  linkUp : Bool := false
  /-- R78; 1 bit; class V -/
  lost : Bool := false
  /-- R78; 2 bits; class V -/
  supply : BitVec 2 := 0
  /-- R50; 3 bits; class V -/
  refOk : BitVec 3 := 0
  /-- R50; 1 bit; class I -/
  refDegraded : Bool := false
  /-- R50; 1 bit; class I -/
  refFault : Bool := false
  /-- R90; 2 bits; class V -/
  cjOk : BitVec 2 := 0
  /-- R92; 0.001 °C; class V: readings of CJ0, CJ1 and their instants, newest first -/
  cj0 : List (Int × Nat) := []
  cj1 : List (Int × Nat) := []
  /-- R64; 32 bits; class V -/
  clampLive : BitVec 32 := 0
  /-- R64; 32 bits; class I -/
  clampFlag : BitVec 32 := 0
  /-- R63, R64; class I: per terminal -/
  clamps : List (Nat × ClampRec) := []
  /-- R78; 32 bits; class P -/
  blankCfg : BitVec 32 := 0x02000000
  /-- R65; 1 bit: BLANKn is high -/
  blankHigh : Bool := true
  /-- R65; class I -/
  blank : Option Blank := none
  /-- R78; 32 bits; class V -/
  blankCount : Nat := 0
  /-- R70; class I: unacknowledged precision samples, oldest first -/
  rtb : List Sample := []
  /-- R70; class I: waveform words not yet in core, oldest first -/
  waves : List WaveWord := []
  /-- R70, R233; class I: waveform words the core has received, kept while their space is not needed, oldest first -/
  waveOld : List WaveWord := []
  /-- R78; 1 bit; class I -/
  waveDropped : Bool := false
  /-- R78; 1 bit; class I -/
  precLost : Bool := false
  /-- R40; class I: last test of each switch (terminal × 32 + node): path 1 good, path 2 good -/
  paths : List (Nat × (Bool × Bool)) := []
  /-- R40; class I: switches in service with a shorted path (terminal × 32 + node) -/
  shorted : List (Nat × Bool) := []
  /-- R133; 8 bits; class P: hold time in 20 ms units -/
  hold : Nat := 0
  /-- R133; ns; class I: the island has found its link silent since -/
  silent : Option Nat := none
  /-- R133; 1 bit; class I: the island finds its link silent now -/
  quiet : Bool := false
  /-- R54; class I: strobed rates (precision code, or 10 + waveform code) with their first instant -/
  strobes : List (Nat × Nat) := []
  /-- R435, R444; 1 bit: supply phases on -/
  powered : Bool := false
  /-- R67; ns; class I: ended blanking intervals: start and end -/
  blankSpans : List (Nat × Nat) := []
  /-- R65; ns: end of the last digital output transition's source -/
  doUntil : Nat := 0
  deriving DecidableEq, Repr

/-- One user table slot (R87), class P. -/
structure Slot where
  /-- R87; 8 bits: 0 table, 1 NTC -/
  format : Nat
  /-- R87; REAL32 values: x, y pairs, or a, b, c, TMIN, TMAX -/
  vals : List Word
  /-- R110; 32 bits -/
  crc : Nat
  deriving DecidableEq, Repr

/-- All analogue islands. -/
structure Analog where
  /-- 64 channels by global index -/
  chans : List (Nat × Chan) := []
  /-- 64 outputs by global index -/
  outs : List (Nat × Output) := []
  /-- 8 islands -/
  isls : List (Nat × AIsland) := []
  /-- R87; 16 slots; class P -/
  slots : List (Nat × Option Slot) := []
  /-- R82, R88; class I: what a slot held before its last load, and the instant of that load -/
  slotsOld : List (Nat × (Option Slot × Nat)) := []
  deriving DecidableEq, Repr

end Sys2Proof.Machine
end

