-- ==== Sys2Proof/Machine/SpareState.lean ====
section
/-! DEFINITION. The state of the spare pools: parts and their roles, wear, swaps in progress, proposals, lanes, memory
pages, boost phases (chapter "Spare Capacity, Wear and Glide-over"). -/

namespace Sys2Proof.Machine

/-- One slice, source cell, spare driver or boost phase (R418 to R422). -/
structure Part where
  /-- R419; 3 bits; class P: 0 IN_SERVICE, 1 SPARE, 2 HANDOFF, 3 GLIDING, 4 AUDIT, 5 RETIRED, 6 FAILED -/
  role : Nat
  /-- R442; 3 bits; class P: logical channel -/
  ch : Nat
  /-- R420; 8 bits; class J: wear index -/
  index : Nat := 0
  /-- R422; 2 bits: level last reported: 0 below WATCH, 1 WATCH, 2 REPLACE, 3 hard failure -/
  level : Nat := 0
  /-- R440; REAL32: raw metric -/
  metric : Word := 0
  /-- R440; 64 bits: Node Time of the last measurement -/
  measured : Nat := 0
  /-- R421; ns: last reference check -/
  checked : Option Nat := none
  /-- R421; the last reference check showed an error in % of A -/
  checkPct : Nat := 0
  /-- R420; ns: last audit -/
  auditAt : Option Nat := none
  deriving DecidableEq, Repr

/-- A swap in progress (R424 to R435). -/
structure Swap where
  /-- R440: command that is answered at its end, none for a swap of the node's own or of an approval -/
  cmd : Option Nat
  /-- R418 -/
  pool : Nat
  /-- island -/
  isl : Nat
  /-- channel, pin or rail -/
  idx : Nat
  worn : Nat
  spare : Nat
  /-- R440: 0 glide-over, 1 direct, 2 transfer, 3 rail, 4 phase -/
  method : Nat
  /-- R441: 0 command or approval, 1 AUTO, 2 forced -/
  cause : Nat
  /-- R424 to R427: 0 waits for its boundary, 1 joined, 2 armed and compared, 3 takes over at the next sample,
  4 waits for its spare's repeated reference check -/
  phase : Nat
  /-- R425, R427: the worn part becomes FAILED -/
  fails : Bool := false
  /-- R424; ns: instant the spare was joined -/
  joinAt : Nat := 0
  /-- R424: samples of the spare since it was joined -/
  samples : Nat := 0
  /-- R425: consecutive passing pairs -/
  passes : Nat := 0
  /-- R425, R440: usable pairs compared -/
  pairs : Nat := 0
  /-- R440; REAL32: largest pair deviation -/
  maxDev : Word := 0
  deriving DecidableEq, Repr

/-- A proposal of R423. -/
structure Proposal where
  /-- R441; 32 bits -/
  num : Nat
  pool : Nat
  isl : Nat
  part : Nat
  /-- channel or pin -/
  idx : Nat
  /-- R423; ns -/
  expiry : Nat
  deriving DecidableEq, Repr

/-- A slice audit in progress on an island (R421). -/
structure Audit where
  /-- global index of the audited channel -/
  ch : Nat
  spare : Nat
  /-- R424; ns: instant the spare was joined -/
  joinAt : Nat
  /-- R424: samples of the spare since it was joined -/
  samples : Nat := 0
  /-- R425: usable pairs compared -/
  pairs : Nat := 0
  /-- R420: largest deviation, in % of A, and in the units of p as REAL32 -/
  pct : Nat := 0
  dev : Word := 0
  deriving DecidableEq, Repr

/-- A processor block with three lanes (R433). -/
structure Lanes where
  /-- R442; 2 bits per lane; class P: 0 pair, 1 spare, 2 testing, 3 retired -/
  roles : List Nat := [0, 0, 1]
  /-- R433, R442; class J: instants of transients, with their lane -/
  transients : List (Nat × Nat) := []
  deriving DecidableEq, Repr

/-- Spare pools (R418 to R442). -/
structure Spares where
  /-- R418; island × 16 + part; class P: slices that differ from their state at delivery -/
  slices : List (Nat × Option Part) := []
  /-- R418; island × 16 + part; class P: source cells likewise -/
  cells : List (Nat × Option Part) := []
  /-- R442; 2 bits each; class P: policies of pools 0, 1, 2 and 6 -/
  policies : List Nat := [1, 1, 1, 1]
  /-- R442; class V -/
  proposals : List Proposal := []
  /-- R441; 32 bits: number of the next proposal -/
  nextProposal : Nat := 1
  /-- R442; class I and V: swaps in progress -/
  swaps : List Swap := []
  /-- R421; class V: audits in progress, by island -/
  audits : List (Nat × Option Audit) := []
  /-- R433: CP, AE, BE -/
  cp : Lanes := {}
  ae : Lanes := {}
  be : Lanes := {}
  /-- R434, R442; 9 bits; class P -/
  sparePages : Nat := 256
  /-- R442; 16 bits; class V -/
  corrected : Nat := 0
  /-- R434: instant of the last corrected error of a page -/
  pageErrors : List (Nat × Nat) := []
  /-- R434; class P: retired pages -/
  retiredPages : List Nat := []
  /-- R434: page with an uncorrectable error, retired at the restart -/
  uePage : Option Nat := none
  /-- R442; 3 bits each; class P: boost phase roles -/
  boost : List Nat := [0, 0, 0, 0, 1]
  /-- R420, R442; 8 bits each; class V: boost phase wear -/
  boostWear : List Nat := [0, 0, 0, 0, 0]
  /-- R420, R440: ripple in % of nominal and its instant, by phase -/
  boostAt : List (Nat × Nat) := [(100, 0), (100, 0), (100, 0), (100, 0), (100, 0)]
  /-- R435: boost phases that failed and wait for a rail-up -/
  boostFailed : List Nat := []
  /-- R442; island 0 to 13: share of phase 0 in %, class V -/
  shares : List (Nat × Nat) := []
  /-- R442; island 0 to 13: share wear index, class V -/
  shareWear : List (Nat × Nat) := []
  /-- R440; ns: last check of an island's phases -/
  shareAt : List (Nat × Nat) := []
  /-- R437; pool × 256 + instance: pool state last reported -/
  poolState : List (Nat × Nat) := []
  /-- R437; pool × 256 + instance: a part in service failed with no spare -/
  short : List (Nat × Bool) := []
  /-- R433; fault source 182: a disagreement not yet resolved, by block -/
  laneFault : List (Nat × Bool) := []
  deriving DecidableEq, Repr

end Sys2Proof.Machine
end

