-- ==== Sys2Proof/Machine/DigitalState.lean ====
section
/-! DEFINITION. The state of the six digital islands (chapter "Digital Islands: 24 V Inputs and Outputs"). -/

namespace Sys2Proof.Machine

/-- Configuration of a pin (R165), class P. -/
structure PinCfg where
  /-- R142; 3 bits -/
  mode : Nat := 0
  /-- R147; 1 bit -/
  wbEn : Bool := false
  /-- R152; 1 bit -/
  olOff : Bool := false
  /-- R145; 1 bit -/
  inv : Bool := false
  /-- R151; 1 bit -/
  retry : Bool := false
  /-- R148; 2 bits -/
  edge : Nat := 0
  /-- R148; 2 bits -/
  gate : Nat := 0
  /-- R161; 2 bits -/
  safeMode : Nat := 0
  /-- R145; 9 bits: 50 µs units -/
  filter : Nat := 60
  deriving DecidableEq, Repr

/-- A mode change between the instant the old mode ended and the start of the new one (R143). -/
structure ModeNext where
  cfg : PinCfg
  /-- the configuration it replaces -/
  old : PinCfg
  /-- ns: the new mode starts no earlier -/
  due : Nat
  /-- command that waits for it -/
  cmd : Nat
  deriving DecidableEq, Repr

/-- One of the 96 pins. -/
structure Pin where
  /-- R165; class P -/
  cfg : PinCfg := {}
  /-- R145; 1 bit; class V: last scanned level -/
  level : Bool := false
  /-- R145; 1 bit; class V: accepted level -/
  accepted : Bool := false
  /-- R164; ns; class V: last accepted transition -/
  transAt : Nat := 0
  /-- R152; 1 bit each; class V and I -/
  wireBreak : Bool := false
  short : Bool := false
  thermal : Bool := false
  openOn : Bool := false
  openOff : Bool := false
  extSupply : Bool := false
  /-- R151, R155; 1 bit; class I -/
  latched : Bool := false
  /-- R161; 1 bit; class I -/
  held : Bool := false
  /-- R160; 1 bit; class I -/
  safeNow : Bool := false
  /-- R156; 1 bit; class I -/
  onSpare : Bool := false
  /-- R159; 2 bits; class P: 0 none, 1 host, 2 program, 3 Alarm Engine -/
  owner : Nat := 0
  /-- R151; 2 bits; class V -/
  retries : Nat := 0
  /-- R155; 1 bit; class I -/
  groupDegraded : Bool := false
  /-- R155; 1 bit; class I: this member's driver has been turned off -/
  memberOff : Bool := false
  /-- R155: consecutive checks outside 25 % of the mean -/
  deviates : Nat := 0
  /-- R148; 32 bits; class I -/
  count : Nat := 0
  /-- R148; REAL32; class V -/
  freq : Word := 0
  /-- R148; class I: edges within the gate: count, first and last stamp -/
  gateEdges : Nat × Nat × Nat := (0, 0, 0)
  /-- R148; ns: start of the gate -/
  gateStart : Nat := 0
  /-- R165; 16 bits; class V: pin current, mA -/
  curr : Nat := 0
  /-- R152; 16 bits; class I: mΩ -/
  ron : Nat := 0xFFFF
  /-- R420; 8 bits; class J: driver wear index -/
  wear : Nat := 0
  /-- R422; level last reported -/
  wearLevel : Nat := 0
  /-- R419; 3 bits; class P: role of the pin's own driver, 0 in service, 5 retired, 6 failed -/
  role : Nat := 0
  /-- R165; class V: last sample -/
  last : Option Sample := none
  /-- R196; ns; class V: instant at which its samples last became usable or unusable -/
  usableAt : Nat := 0
  /-- R165; class V: count, frequency, SQW and time latched by the last read of DCH_PIN_STATUS -/
  latch : Option (Nat × Word × Nat × Nat) := none
  /-- R71; 16 bits; class I: next sequence number -/
  nextSeq : Nat := 0
  /-- R146; ns; class I: last sample instant -/
  lastAt : Option Nat := none
  /-- R71; class I: next sample carries RESET_GAP -/
  gap : Bool := false
  /-- R160; 1 bit; class I: state commanded by the owner -/
  cmd : Bool := false
  /-- R160; 1 bit; class I: state driven -/
  driven : Bool := false
  /-- R160, R161; 1 bit; class I: the safe or held value -/
  kept : Bool := false
  /-- R152; 1 bit; class I: the driver is off by its thermal shutdown -/
  hot : Bool := false
  /-- R143; class I: mode change in progress -/
  modeNext : Option ModeNext := none
  /-- R150: staged state, its instant and the command that waits -/
  staged : Option (Bool × Nat × Option Nat) := none
  /-- R66; ns; class I: the transition of the pin's group takes place at this instant; and the command that waits for it -/
  moveAt : Option Nat := none
  moveCmd : Option Nat := none
  /-- R151; ns: pin current has been in the limit since -/
  limitSince : Option Nat := none
  /-- R151; ns: next retry -/
  retryAt : Option Nat := none
  /-- R151; ns: instant of the first limit of the running short -/
  shortAt : Nat := 0
  /-- R152: consecutive off-state tests in which OPEN_OFF and EXT_SUPPLY were absent -/
  offClear : Nat := 0
  extClear : Nat := 0
  /-- R152; ns: last measurement of RON -/
  ronAt : Nat := 0
  /-- R420; class I: consecutive turn-ons that missed 90 % of L+ within 300 µs below the current limit -/
  missed : Nat := 0
  deriving DecidableEq, Repr

/-- One digital island. -/
structure DIsland where
  /-- R165; 1 bit; class V -/
  present : Bool := true
  /-- R165; 1 bit; class V -/
  linkUp : Bool := false
  /-- R165; 1 bit; class V -/
  lost : Bool := false
  /-- R165; 2 bits; class V -/
  supply : BitVec 2 := 0
  /-- R141; class V: none before the first measurement, else 0 LPLUS_OK, 1 LPLUS_LOW, 2 LPLUS_LOSS -/
  lplus : Option Nat := none
  /-- R165; 16 bits; class V: L+ in mV -/
  volt : Nat := 0
  /-- R165; 8 bits; class P with a class I copy -/
  hold : Nat := 0
  /-- R153; 2 bits per quad; class P -/
  gmode : List Nat := [0, 0, 0, 0]
  /-- R156; class I: pin served by the spare rail -/
  railPin : Option Nat := none
  /-- R165; 1 bit; class I: SP1 drives the rail -/
  railDrv : Bool := false
  /-- R165; 1 bit each; class I -/
  sp0Ok : Bool := true
  sp1Ok : Bool := true
  /-- R165; 16 bits; class I -/
  fault : BitVec 16 := 0
  /-- R161; ns; class I: link silent since -/
  silent : Option Nat := none
  /-- R161; 1 bit; class I: the island finds its link silent now -/
  quiet : Bool := false
  /-- R139, R444; 1 bit: supply phases on -/
  powered : Bool := false
  deriving DecidableEq, Repr

/-- All digital islands. -/
structure Digital where
  /-- 96 pins by global digital index (64 + island × 16 + pin) -/
  pins : List (Nat × Pin) := []
  /-- 6 islands -/
  isls : List (Nat × DIsland) := []
  deriving DecidableEq, Repr

end Sys2Proof.Machine
end

