-- ==== Sys2Proof/Machine/AlarmState.lean ====
section
/-! DEFINITION. The state of the Alarm Engine: points, groups, chains, duty engineer, calls, tile bindings and derived slots
(chapter "Alarm Engine, Grouping and Engineer Call"). -/

namespace Sys2Proof.Machine

/-- One of the 4,096 alarm points. -/
structure Point where
  /-- R167; 64 bytes; class P: the descriptor (empty: all bytes 0) -/
  desc : List Byte := []
  /-- R205; 1 bit; class J: out of service by command -/
  oosCmd : Bool := false
  /-- R183; 3 bits; class J: alarm sequence: 0 N, 1 AU, 2 AA, 3 RU, 4 AS -/
  seq : Nat := 0
  /-- R189; 64 bits; class J: shelving expiry, while the shelving timer runs -/
  shelf : Option Nat := none
  /-- R187; 1 bit; class V: suppression cause COND -/
  supCond : Bool := false
  /-- R187; ns: the suppression source has left its value since -/
  supLeft : Option Nat := none
  /-- R187; ns: Node Time of the suppression source's last usable sample -/
  supSeen : Option Nat := none
  /-- R188; class V: sources (kind, node, index) whose last sample carried CALIBRATING -/
  calib : List (Nat × Nat × Nat) := []
  /-- R200, R205; class J: the journaled state SU comes from a cause COND or CAL found before the reset; SUP_CAUSE does not show it -/
  supKept : Bool := false
  calKept : Bool := false
  /-- R178; ns; class V: ON_DLY, OFF_DLY and STALE_TO in force until the next usable sample -/
  before : Option (Nat × Nat × Nat) := none
  /-- R176; 1 bit; class V: condition state C -/
  cond : Bool := false
  /-- R171; 1 bit; class V: raw condition -/
  raw : Bool := false
  /-- R179; 1 bit each; class V: raw conditions of the two sides of a vote -/
  rawA : Bool := false
  rawB : Bool := false
  /-- R176; ns; class V: instant of the first sample of the run in progress -/
  run : Option Nat := none
  /-- R199; ns: time the running delay stood still -/
  runOff : Nat := 0
  /-- R204; REAL32; class V: last value -/
  value : Word := 0
  /-- R204; 16 bits; class V: last SQW -/
  sqw : BitVec 16 := 0
  /-- R175; 1 bit; class V -/
  stale : Bool := false
  /-- R175; ns: Node Time from which the stale timeout runs -/
  seen : Nat := 0
  /-- R197; 1 bit; class V: SIMULATED mark -/
  sim : Bool := false
  /-- R180; 1 bit each; class V -/
  voteDegraded : Bool := false
  disc : Bool := false
  /-- R194; 64 bits; class J: t_u -/
  tU : Option Nat := none
  /-- R199; ns: time escalation stood still -/
  escOff : Nat := 0
  /-- R194; 2 bits; class J: step reached -/
  step : Nat := 0
  /-- R183; ns; class J: end of the silence -/
  silUntil : Option Nat := none
  /-- R173; class V: baseline samples (instant, value), oldest first -/
  base : List (Nat × Word) := []
  /-- R174; class V: usable samples of source B (instant, value), oldest first -/
  lastB : List (Nat × Word) := []
  /-- R179; class V: samples that wait for their partner: side, arrival, sample, oldest first -/
  halves : List (Nat × Nat × Sample) := []
  deriving DecidableEq, Repr

/-- One of the 256 groups. -/
structure Group where
  /-- R192; 8 bits; class P: global digital index, none for 0xFF -/
  pin : Option Nat := none
  /-- R192; 1 bit; class P -/
  mode : Bool := false
  /-- R192; 1 bit; class P -/
  reflash : Bool := false
  /-- R193; 1 bit; class P -/
  foEn : Bool := false
  /-- R193; 8 bits; class P: ms -/
  foWin : Nat := 2
  /-- R193; 12 bits; class J: first-out point, or the provisional one -/
  foPoint : Nat := 0
  /-- R193; 1 bit; class J -/
  foValid : Bool := false
  /-- R205; 1 bit; class V: candidate held -/
  provisional : Bool := false
  /-- R193; 1 bit; class J -/
  armed : Bool := true
  /-- R193; 64 bits; class J -/
  key : Nat := 0
  /-- R192; 1 bit; class V: common-alarm output on -/
  on : Bool := false
  /-- R192; ns: end of the 1 s off time of REFLASH -/
  flashEnd : Option Nat := none
  deriving DecidableEq, Repr

/-- One of the 16 chains; pins by global digital index. -/
structure Chain where
  /-- R194; 3 bits; class P -/
  callMin : Nat := 3
  /-- R194; 16 bits; class P: s -/
  t1 : Nat := 0
  /-- R194; 16 bits; class P: s -/
  t2 : Nat := 0
  /-- R205; 8 bits each; class P -/
  horn : Option Nat := none
  beacon : Option Nat := none
  ack : Option Nat := none
  silence : Option Nat := none
  deriving DecidableEq, Repr

/-- One derived slot (R170), class P, with the operand samples it has seen. -/
structure DSlot where
  /-- R170; 3 bits -/
  op : Nat
  /-- R204; 2 to 4 operands: kind, node, index -/
  operands : List (Nat × Nat × Nat)
  /-- R170; class V: last sample of each operand seen, with its arrival -/
  seen : List ((Nat × Nat × Nat) × (Nat × Sample)) := []
  deriving DecidableEq, Repr

/-- The Alarm Engine. -/
structure AlarmEngine where
  /-- R205; 1 bit; class P: ALM_CFG.SIM_CALLS -/
  simCalls : Bool := false
  /-- 4,096 points -/
  points : List (Nat × Point) := []
  /-- 256 groups -/
  groups : List (Nat × Group) := []
  /-- 16 chains -/
  chains : List (Nat × Chain) := []
  /-- R205; 13 × 8 bits; class P: output pins of the cabin calls and of all engineers (target 12) -/
  calls : List (Nat × Option Nat) := []
  /-- R196; 2 bits; class P -/
  dsrc : Nat := 0
  /-- R196; 8 bits; class P -/
  firstPin : Option Nat := none
  /-- R196; 4 bits; class J: duty cabin in force -/
  cabin : Option Nat := none
  /-- R196; 1 bit; class V: the selector's reading stayed invalid -/
  selInvalid : Bool := false
  /-- R198; class P: slot bindings: kind 1 point or 2 group, and index -/
  tiles : List (Nat × (Nat × Nat)) := []
  /-- R198; 2 bits per slot; class V: tile state -/
  tstate : List (Nat × Nat) := []
  /-- 256 derived slots -/
  derived : List (Nat × Option DSlot) := []
  /-- R172: samples on their way to the engine, oldest first: kind, node, sample -/
  inbox : List (Nat × Nat × Sample) := []
  /-- R181; 256 bits: state of each fault source in its last record -/
  faults : List (Nat × Bool) := []
  /-- R199; ns: instant ALM became 0 -/
  offAt : Option Nat := none
  /-- R175; ns: instant at which the POINT sources last delivered their repeated samples -/
  pointAt : Nat := 0
  /-- R196; ns: instant at which DSRC or FIRST_PIN was last given -/
  selAt : Nat := 0
  deriving DecidableEq, Repr

end Sys2Proof.Machine
end

