-- ==== Sys2Proof/Machine/ProgState.lean ====
section
/-! DEFINITION. The state of the Block Engine: images, variables, resources, the cycle in progress, consistency sets, forces
(chapter "Cyclic Program and Block Engine"). -/

namespace Sys2Proof.Machine

/-- The 64 bits of a variable or constant (R307, R309). -/
abbrev Value := BitVec 64

/-- One variable: its 64 bits and its SQW (R309, R311). -/
structure Var where
  /-- R307; 64 bits -/
  val : Value := 0
  /-- R311; 16 bits -/
  sqw : BitVec 16 := 0
  deriving DecidableEq, Repr

/-- A variable table entry (R306), class P. -/
structure VarDef where
  /-- R306; 2 bits: 0 BOOL, 1 INT32, 2 REAL32, 3 TIME -/
  typ : Nat := 0
  retain : Bool := false
  forceable : Bool := false
  /-- R306; 16 bits: constant of the initial value, 0xFFFF for zero -/
  init : Nat := 0xFFFF
  deriving DecidableEq, Repr

/-- A binding (R308), class P. -/
structure Bind where
  /-- R308: 0 AI_IN, 1 DI_IN, 2 POINT_IN, 3 IMPORT, 4 AO_OUT, 5 DO_OUT, 6 REMOTE_OUT, 7 ACCEPT, 8 EXPORT_IN, 9 EXPORT_VAR -/
  kind : Nat
  /-- R308: 0 to 15, 255 none -/
  set : Nat
  /-- R308: 0 this node -/
  node : Nat
  /-- R308: 0 HOLD, 1 SAFE -/
  fallback : Nat
  /-- R308; 16 bits -/
  var : Nat
  /-- R308; 16 bits -/
  index : Nat
  deriving DecidableEq, Repr

/-- A block descriptor (R313), class P. -/
structure Blk where
  /-- R316; 16 bits -/
  typ : Nat
  /-- R321; 1 bit: FLAGS.INIT -/
  init : Bool
  /-- R313; 16 bits -/
  res : Nat
  /-- R313; 16 bits: EN operand -/
  en : Nat
  /-- R313; seven 16-bit operands -/
  ins : List Nat
  /-- R313; three 16-bit operands -/
  outs : List Nat
  /-- R313; 32 bits -/
  param : Nat
  deriving DecidableEq, Repr

/-- A compiled image (R305), class P. -/
structure Image where
  /-- R305; 64 bits -/
  progId : Nat
  /-- R305; 32 bits -/
  crc : Nat
  vars : List VarDef
  /-- R307; 64 bits each -/
  consts : List Value
  binds : List Bind
  blocks : List Blk
  ntimer : Nat
  ncount : Nat
  nedge : Nat
  deriving DecidableEq, Repr

/-- State of one timer (R317, R320, R321), class V. -/
structure TimerRes where
  /-- R317: IN at the last evaluation -/
  prev : Bool := false
  /-- R317; ns: start instant -/
  start : Int := 0
  /-- R317: TP: pulse running; TOF: an off-delay was started -/
  run : Bool := false
  /-- R317; ns: TONR elapsed time -/
  et : Int := 0
  /-- R320: ST of a VALVE, and its drives -/
  st : Nat := 0
  driveO : Bool := false
  driveC : Bool := false
  deriving DecidableEq, Repr

/-- State of one counter (R318, R321), class V. -/
structure CountRes where
  up : Bool := false
  down : Bool := false
  /-- R318; INT32; R321: the step of SEQ -/
  cv : Int := 0
  deriving DecidableEq, Repr

/-- The variables and resources of a run (R326), class V but for RETAIN variables (class J, R306). -/
structure Work where
  vars : List Var := []
  timers : List TimerRes := []
  counts : List CountRes := []
  /-- R322; 64 bits each -/
  edges : List (BitVec 64) := []
  /-- R323: blocks evaluated since their first-evaluation rule last applied -/
  seen : List Bool := []
  deriving DecidableEq, Repr

/-- A consistency set (R329 to R333). -/
structure ConSet where
  /-- R351; 1 bit; class P -/
  configured : Bool := false
  /-- R333; 1 bit; class P -/
  reduce : Bool := false
  /-- R329; 32 bits; class P -/
  members : BitVec 32 := 0
  /-- R324: a change accepted, with the boundary it applies at -/
  next : Option (BitVec 32 × Bool × Nat) := none
  /-- R351; 1 bit; class V: fallback at the last COMMIT -/
  broken : Bool := false
  /-- R333; 1 bit; class V -/
  reduced : Bool := false
  /-- R332; 4 bits; class V -/
  cause : Nat := 0
  /-- R351; 32 bits; class V -/
  missing : BitVec 32 := 0
  /-- R308; 16 bits; class V: values for another SET discarded -/
  discarded : Nat := 0
  /-- R351; 32 bits; class V -/
  count : Nat := 0
  /-- R332; ns; class V: last record 0x0403 -/
  recAt : Option Nat := none
  /-- R346: broken cycles since that record -/
  since : Nat := 0
  /-- R331: decision for the cycle in progress: none, or GO -/
  go : Option Bool := none
  /-- R332; 32 bits: missing members named in the decision, and its cause -/
  goMissing : BitVec 32 := 0
  goCause : Nat := 0
  /-- R330: READY received for the cycle in progress: node, cycle number, ready, signature, members and REDUCE of the sender -/
  ready : List (Nat × Nat × Bool × Nat × BitVec 32 × Bool) := []
  deriving DecidableEq, Repr

/-- Where the cycle in progress stands (R327). -/
inductive CyclePhase where
  | idle | snapped | gathered | solved | overrun
  deriving DecidableEq, Repr

/-- The program (R342) and its cycle. -/
structure Program where
  /-- R304; class P -/
  slot0 : Option Image := none
  slot1 : Option Image := none
  /-- R351; 3 bits; class P: 0 EMPTY, 1 LOADED, 2 RUNNING, 3 PARKED, 4 FAULTED -/
  stateNum : Nat := 0
  /-- R351; 1 bit; class P -/
  slot : Nat := 0
  /-- R344; 1 bit; class P -/
  autostart : Bool := false
  /-- R341; 8 bits; class P -/
  ovrLimit : Nat := 3
  /-- R351; ns; class P: period in force (20 bits of 10 µs units) -/
  period : Nat := 100000000
  /-- R348: a new period, with the SNAP instant of the new grid it starts at -/
  newPeriod : Option (Nat × Nat) := none
  /-- R342: a start accepted: slot, AUTOSTART, command -/
  startReq : Option (Nat × Bool × Nat) := none
  /-- R342: a stop accepted: command -/
  stopReq : Option Nat := none
  /-- R325; ns: the last SNAP instant -/
  lastSnap : Option Nat := none
  /-- R334: no cycle runs before this instant -/
  notBefore : Nat := 0
  phase : CyclePhase := .idle
  /-- R326: the state of the last PUBLISH -/
  cur : Work := {}
  /-- R326: the work copy of the cycle in progress -/
  work : Work := {}
  /-- R326; ns: sample instant of the published copy, once one exists in this run -/
  pubAt : Option Nat := none
  /-- R348; 32 bits: CYCLE_COUNT of the publish -/
  pubCount : Nat := 0
  /-- R323; 1 bit: the next cycle is the first of its run -/
  firstCycle : Bool := true
  /-- R351; 32 bits; class V -/
  cycleCount : Nat := 0
  /-- R351; ns; class V: duration of the last SOLVE and the longest one -/
  lastSolve : Nat := 0
  maxSolve : Nat := 0
  /-- R312; 1 bit: the previous cycle overran -/
  overrun : Bool := false
  /-- R351; 16 bits; class V -/
  ovrCount : Nat := 0
  /-- R351; 8 bits; class V -/
  ovrConsec : Nat := 0
  /-- R334; 1 bit: a cycle was skipped to rejoin the ring grid -/
  skipped : Bool := false
  /-- R351; 1 bit; class V -/
  infeasible : Bool := false
  /-- R325; class V: samples of each source, those at or before the last boundary of the grid reduced to one, oldest first -/
  inputs : List (Nat × List Sample) := []
  /-- R104; ns; class V: instant of the last usable sample of each source -/
  usable : List (Nat × Nat) := []
  /-- R330; class V: last value of each import (node × 256 + slot): cycle number, value, SQW -/
  imports : List (Nat × (Nat × BitVec 64 × BitVec 16)) := []
  /-- R330; class V: values for ACCEPT outputs, by global index: node, cycle number, value, SQW -/
  remote : List (Nat × (Nat × Nat × BitVec 64 × BitVec 16)) := []
  /-- R345; class V: forces in force: variable, value, SQW bits -/
  forces : List (Nat × (BitVec 64 × BitVec 16)) := []
  /-- R345: forces accepted for the next boundary: command, variable, action, value, SQW bits -/
  forceReq : List (Nat × Nat × Nat × BitVec 64 × BitVec 16) := []
  /-- R329; 16 sets -/
  sets : List (Nat × ConSet) := []
  /-- R328; ns: last record 0x0405 of each binding -/
  notDriven : List (Nat × Nat) := []
  /-- R344; 1 bit; class P: the slot was running at the last full reset -/
  wasRunning : Bool := false
  deriving DecidableEq, Repr

end Sys2Proof.Machine
end

