-- ==== Sys2Proof/Machine/Blocks.lean ====
section
/-! DEFINITION. The Block Engine's evaluation of one block (R309 to R323): operands, quality, and each block type of the
catalogue of R316. Values are 64 bits wide: BOOL 0 or 1, INT32 and REAL32 in the low 32 bits, TIME in all 64. -/

namespace Sys2Proof.Machine

/-! ### Values and quality -/

def Value.bool (v : Value) : Bool := v ≠ 0
def Value.int (v : Value) : Int := (v.setWidth 32).toInt
def Value.real (v : Value) : Word := v.setWidth 32
def Value.time (v : Value) : Int := v.toInt
def ofBool (b : Bool) : Value := if b then 1 else 0
def ofReal (w : Word) : Value := w.setWidth 64

/-- A result with its INVALID bit (R309). -/
abbrev Res := Value × Bool

/-- Saturation at the limits of the type sets INVALID (R309). -/
def satInt32 (i : Int) : Res :=
  if i < -2147483648 then (0x80000000, true) else if 2147483647 < i then (0x7FFFFFFF, true)
  else ((BitVec.ofInt 32 i).setWidth 64, false)
def satTime (i : Int) : Res :=
  if i < -9223372036854775808 then (0x8000000000000000, true)
  else if 9223372036854775807 < i then (0x7FFFFFFFFFFFFFFF, true)
  else (BitVec.ofInt 64 i, false)
/-- A REAL32 result that is not finite carries INVALID (R309). -/
def realRes (w : Word) : Res := (ofReal w, !f32Finite w)

/-- An integer result of type `typ`: 1 INT32, 3 TIME. -/
def intRes (typ : Nat) (i : Int) : Res := if typ = 3 then satTime i else satInt32 i
def intOf (typ : Nat) (v : Value) : Int := if typ = 3 then v.time else v.int

def sqInvalid : BitVec 16 := 0x8000
def sqStale : BitVec 16 := 0x0080
/-- SIMULATED, STALE, RESET_GAP, SPARE_DEGRADED and INVALID (R311). -/
def sqPassed : BitVec 16 := 0xE0A0
/-- Good: INVALID, UNSETTLED, BLANKED and STALE all 0 (R311). -/
def sqGood (q : BitVec 16) : Bool := q &&& 0x8083 = 0

/-! ### Operands (R310) -/

/-- A constant as an operand of type `typ` (R307). -/
def constAs (typ : Nat) (v : Value) : Value :=
  match typ with
  | 0 => if v &&& 0xFF = 0 then 0 else 1
  | 1 | 2 => v &&& 0xFFFFFFFF
  | _ => v

/-- The variable an operand names. -/
def opVar (o : Nat) : Nat := o % 16384

/-- An operand read as type `typ`: its value and SQW; an unused one reads 0. -/
def readOp (img : Image) (w : Work) (typ o : Nat) : Var :=
  if o = 0xFFFF then {}
  else match o / 16384 with
  | 0 => w.vars.getD (opVar o) {}
  | 1 => { val := constAs typ (img.consts.getD (opVar o) 0) }
  | _ =>
    let x := w.vars.getD (opVar o) {}
    { x with val := ofBool (x.val == 0) }

/-- A block under evaluation. -/
structure Ctx where
  img : Image
  w : Work
  blk : Blk
  /-- the block's first evaluation (R323) -/
  first : Bool
  /-- R324; ns: period in force -/
  period : Nat
  /-- R317; ns: SNAP instant of the cycle -/
  t : Int

def Ctx.used (c : Ctx) (k : Nat) : Bool := c.blk.ins.getD k 0xFFFF ≠ 0xFFFF
def Ctx.inp (c : Ctx) (typ k : Nat) : Var := readOp c.img c.w typ (c.blk.ins.getD k 0xFFFF)
def Ctx.b (c : Ctx) (k : Nat) : Bool := (c.inp 0 k).val.bool
def Ctx.i (c : Ctx) (k : Nat) : Int := (c.inp 1 k).val.int
def Ctx.r (c : Ctx) (k : Nat) : Word := (c.inp 2 k).val.real
def Ctx.good (c : Ctx) (k : Nat) : Bool := sqGood (c.inp 3 k).sqw
/-- Positions of the used inputs from `a`, at most `n`. -/
def Ctx.usedIns (c : Ctx) (a n : Nat) : List Nat := ((List.range n).map (· + a)).filter c.used
/-- The variable of output `k` as it stands. -/
def Ctx.out (c : Ctx) (k : Nat) : Var := let o := c.blk.outs.getD k 0xFFFF; if o = 0xFFFF then {} else c.w.vars.getD o {}
/-- The type of a variable. -/
def Image.typ (img : Image) (v : Nat) : Nat := (img.vars.getD v {}).typ
/-- The type of a polymorphic block: that of OUT0 (R315). -/
def Ctx.typ (c : Ctx) : Nat := c.img.typ (c.blk.outs.getD 0 0)
/-- The type of a comparison: that of its first variable input. -/
def cmpType (img : Image) (blk : Blk) : Nat :=
  match blk.ins.find? (fun o => o ≠ 0xFFFF && o / 16384 ≠ 1) with
  | some o => if o / 16384 = 2 then 0 else img.typ (opVar o)
  | none => 1
/-- The SQWs of the inputs read, restricted (R311). -/
def Ctx.sq (c : Ctx) (ks : List Nat) : BitVec 16 :=
  (ks.foldl (fun q k => q ||| (c.inp 3 k).sqw) (readOp c.img c.w 0 c.blk.en).sqw) &&& sqPassed

/-- What a block answers: a value for each output (none: the output keeps its own), the SQW of all of them, whether that SQW
also reaches a kept output, and its resources. -/
structure Ans where
  vals : List (Option Res)
  sqw : BitVec 16
  /-- R316, R319, R320: outputs that keep their value take the SQW too -/
  mark : Bool := false
  /-- R319: bits OUT0 gets beyond the SQW of the others -/
  extra : BitVec 16 := 0
  timer : Option TimerRes := none
  count : Option CountRes := none
  edge : Option (BitVec 64) := none
  /-- R321: the timer and edge index of SEQ -/
  timerIx : Option Nat := none
  edgeIx : Option Nat := none

/-! ### Arithmetic -/

/-- Sum, product, least and greatest over a list of inputs of the block's type (R316). -/
def foldArith (op : Nat) (typ : Nat) (vs : List Value) : Res :=
  if typ = 2 then
    match vs.map Value.real with
    | [] => (0, false)
    | a :: r => realRes (r.foldl (fun x y =>
        match op with
        | 0x0701 => f32Add x y
        | 0x0703 => f32Mul x y
        | 0x0706 => if f32IsNaN x || f32IsNaN y then nan32 else if f32Lt y x then y else x
        | _ => if f32IsNaN x || f32IsNaN y then nan32 else if f32Lt x y then y else x) a)
  else
    match vs.map (intOf typ) with
    | [] => (0, false)
    | a :: r => intRes typ (r.foldl (fun x y =>
        match op with
        | 0x0701 => x + y
        | 0x0703 => x * y
        | 0x0706 => min x y
        | _ => max x y) a)

/-- Comparisons 0x0601 to 0x0606; with a NaN operand all give 0 but NE (R316). -/
def compareVals (op typ : Nat) (a b : Value) : Bool :=
  let lt := fun (a b : Value) => if typ = 2 then f32Lt a.real b.real else decide (intOf typ a < intOf typ b)
  let eq := if typ = 2 then f32Eq a.real b.real else if typ = 0 then a.bool == b.bool else decide (intOf typ a = intOf typ b)
  match op with
  | 0x0601 => lt b a
  | 0x0602 => lt b a || eq
  | 0x0603 => eq
  | 0x0604 => !eq
  | 0x0605 => lt a b || eq
  | _ => lt a b

/-- Round half to even, saturating; NaN gives 0 with INVALID (R316). -/
def realToInt (w : Word) : Res :=
  if f32IsNaN w then (0, true)
  else if f32IsInf w then satInt32 (if f32Neg w then -2147483649 else 2147483648)
  else
    let q := f32Rat w
    let m : Nat := divRne q.num.natAbs q.den
    satInt32 (if q < 0 then -(m : Int) else (m : Int))

/-- A period as REAL32 seconds (R319). -/
def dtReal (period : Nat) : Word := f32OfRat (mkRat period 1000000000)

def f32Min (a b : Word) : Word := if f32Lt b a then b else a
def f32Max (a b : Word) : Word := if f32Lt a b then b else a
/-- A value held between two limits. -/
def f32Clamp (x lo hi : Word) : Word := f32Min (f32Max x lo) hi

/-! ### Timers, counters -/

/-- PT of a timer: its input, or PARAM in ms; below 0 it counts as 0 (R316, R317). -/
def Ctx.pt (c : Ctx) (k : Nat) : Int :=
  let p : Int := if c.used k then (c.inp 3 k).val.time else (c.blk.param : Int) * 1000000
  max 0 p

def Ctx.timer (c : Ctx) : TimerRes :=
  let x := c.w.timers.getD c.blk.res {}
  if c.first then { x with prev := false, run := false } else x

/-- TON, TOF, TP and TONR (R317): Q, ET and the timer. -/
def timerStep (typ : Nat) (c : Ctx) : Bool × Int × TimerRes :=
  let x := c.timer
  let i := c.b 0
  let pt := c.pt 1
  let rise := i && !x.prev
  match typ with
  | 0x0401 =>
    let x := if rise then { x with start := c.t } else x
    let et := if i then min (c.t - x.start) pt else 0
    (i && decide (et = pt), et, { x with prev := i })
  | 0x0402 =>
    let x := if x.prev && !i then { x with start := c.t, run := true } else x
    if i then (true, 0, { x with prev := true })
    else
      let et := if x.run then min (c.t - x.start) pt else pt
      (x.run && decide (et < pt), et, { x with prev := false })
  | 0x0403 =>
    let x := if rise && !x.run then { x with start := c.t, run := true } else x
    let x := if x.run && decide (pt ≤ c.t - x.start) then { x with run := false } else x
    let et := if x.run then c.t - x.start else if i then pt else 0
    (x.run, et, { x with prev := i })
  | _ =>
    let et := if c.b 2 then 0 else if i then min (x.et + c.period) pt else min x.et pt
    (decide (et = pt), et, { x with prev := i, et := et })

/-- PV of a counter: its input, or PARAM (R316). -/
def Ctx.pv (c : Ctx) (k : Nat) : Int := if c.used k then c.i k else (BitVec.ofNat 32 c.blk.param).toInt

def clampInt32 (i : Int) : Int := max (-2147483648) (min 2147483647 i)

/-- CTU, CTD and CTUD (R318): the count and the counter; the first evaluation counts nothing. CTUD applies R1, then LD, then
the edges, each to what the one before left (DEDUCED, log 108). -/
def countStep (typ : Nat) (c : Ctx) : CountRes :=
  let x := c.w.counts.getD c.blk.res {}
  match typ with
  | 0x0501 =>
    let cu := c.b 0
    let cv := if c.b 1 then 0 else if cu && !x.up && !c.first then x.cv + 1 else x.cv
    { x with up := cu, cv := clampInt32 cv }
  | 0x0502 =>
    let cd := c.b 0
    let cv := if c.b 1 then c.pv 2 else if cd && !x.down && !c.first then x.cv - 1 else x.cv
    { x with down := cd, cv := clampInt32 cv }
  | _ =>
    let cu := c.b 0
    let cd := c.b 1
    let up := cu && !x.up && !c.first
    let dn := cd && !x.down && !c.first
    let cv := if c.b 2 then 0 else x.cv
    let cv := if c.b 3 then c.pv 4 else cv
    let cv := if up && !dn then cv + 1 else if dn && !up then cv - 1 else cv
    { up := cu, down := cd, cv := clampInt32 cv }

/-! ### PID, VALVE, SEQ, DUTY -/

/-- PID (R319). -/
def pidStep (c : Ctx) : Ans :=
  let pv := c.r 0
  let sp := c.r 1
  let man := c.b 2
  let lo := (constAs 2 (c.img.consts.getD (c.blk.param % 65536) 0)).real
  let hi := (constAs 2 (c.img.consts.getD (c.blk.param / 65536) 0)).real
  let cv0 := (c.out 0).val.real
  let i0 := if c.first then cv0 else (c.out 1).val.real
  let p0 := if c.first then pv else (c.out 2).val.real
  let keep : Ans := { vals := [none, some (realRes i0), some (realRes p0)], sqw := c.sq [0, 1], mark := true, extra := sqStale }
  let kp := c.r 4
  let ti := c.r 5
  let td := c.r 6
  let dt := dtReal c.period
  let needed := if man then [0, 1, 3, 4] else [0, 1, 4, 5, 6]
  if needed.any (fun k => c.used k && !c.good k) then keep
  else if man then
    let cv := f32Clamp (c.r 3) lo hi
    let i := f32Sub cv (f32Mul kp (f32Sub sp pv))
    { vals := [some (realRes cv), some (realRes i), some (realRes pv)], sqw := c.sq [0, 1, 2, 3, 4] }
  else
    let e := f32Sub sp pv
    let ke := f32Mul kp e
    let i1 := if f32Lt 0 ti then f32Add i0 (f32Div (f32Mul ke dt) ti) else i0
    let d := f32Div (f32Mul (f32Mul kp td) (f32Sub p0 pv)) dt
    let u := f32Add (f32Add ke i1) d
    let cv := f32Clamp u lo hi
    let i2 := if f32Eq cv u then i1 else f32Sub (f32Sub cv ke) d
    { vals := [some (realRes cv), some (realRes i2), some (realRes pv)], sqw := c.sq [0, 1, 2, 4, 5, 6] }

/-- ST from the end switches (R320). -/
def valveSwitches (zso zsc : Bool) : Nat := if zso && zsc then 6 else if zso then 3 else if zsc then 1 else 0

/-- VALVE (R320). ST stands in `st` of the timer, the drives in `driveO` and `driveC`. -/
def valveStep (c : Ctx) : Ans :=
  let x := c.timer
  let zso := c.b 2
  let zsc := c.b 3
  let answer := fun (x : TimerRes) (q : BitVec 16) => ({
    vals := [some (ofBool x.driveO, false), some (ofBool x.driveC, false), some (satInt32 x.st)]
    sqw := q, timer := some x } : Ans)
  let all := c.sq [0, 1, 2, 3, 4, 5, 6]
  if !c.good 2 || !c.good 3 then answer x (all ||| sqStale)
  else if c.first then answer { x with st := valveSwitches zso zsc, driveO := false, driveC := false } all
  else if 5 ≤ x.st then
    answer { x with st := if c.b 6 then valveSwitches zso zsc else x.st, driveO := false, driveC := false } all
  else
    let limit : Int := (c.blk.param % 65536 : Nat) * 100000000
    let prio := c.blk.param.testBit 16
    let maintain := c.blk.param.testBit 17
    let opn := c.b 0 && !c.b 1
    let cls := c.b 1 && (!c.b 0 || prio)
    let late := decide (limit ≤ c.t - x.start)
    let st1 : Nat :=
      if zso && zsc then 6
      else match x.st with
      | 2 => if zso then 3 else if !c.b 4 then 0 else if late then 5 else 2
      | 4 => if zsc then 1 else if !c.b 5 then 0 else if late then 5 else 4
      | 3 => if !zso && !x.driveO then 7 else 3
      | 1 => if !zsc && !x.driveC then 7 else 1
      | n => n
    let toOpen := decide (st1 < 5) && opn && c.b 4 && st1 ≠ 3 && st1 ≠ 2
    let toClose := decide (st1 < 5) && cls && c.b 5 && st1 ≠ 1 && st1 ≠ 4
    let st2 := if toOpen then 2 else if toClose then 4 else st1
    let x' := { x with st := st2, start := if toOpen || toClose then c.t else x.start
                       driveO := st2 = 2 || (st2 = 3 && maintain && c.b 0 && !(c.b 1 && prio) && x.driveO)
                       driveC := st2 = 4 || (st2 = 1 && maintain && c.b 1 && x.driveC) }
    answer x' all

/-- SEQ (R321). ABORT goes before a rising START and TRANS (DEDUCED, log 108); the step's time runs from the first evaluation of a new run. -/
def seqStep (c : Ctx) : Ans :=
  let n : Int := (c.blk.param % 256 : Nat)
  let tix := c.blk.param / 256 % 1024
  let eix := c.blk.param / 262144 % 4096
  let x := c.w.counts.getD c.blk.res {}
  let tm := c.w.timers.getD tix {}
  let tm := if c.first && tm.start = 0 then { tm with start := c.t } else tm
  let start := c.b 0
  let mem := if c.first then (if c.blk.init then false else start) else (c.w.edges.getD eix 0) ≠ 0
  let trans := c.b 3 && c.good 3
  let step : Int :=
    if c.b 2 then 0
    else if x.cv = 0 then (if start && !mem then 1 else 0)
    else if x.cv < n && trans && !c.b 1 then x.cv + 1
    else x.cv
  let tm := if step = x.cv then tm else { tm with start := c.t }
  let st := c.t - tm.start
  let tmo := if c.used 4 && c.good 4 then (c.inp 3 4).val.time else 0
  let alm := decide (1 ≤ step ∧ step < n ∧ 0 < tmo ∧ tmo ≤ st)
  { vals := [some (satInt32 step), some (satTime st), some (ofBool alm, false)], sqw := c.sq [0, 1, 2, 3, 4]
    count := some { x with cv := step }, timer := some tm, timerIx := some tix, edge := some (ofBool start), edgeIx := some eix }

/-- The memory of an edge block before it compares (R323). -/
def Ctx.edgeMem (c : Ctx) (cur : Value) : Value :=
  if c.first then (if c.blk.init then 0 else cur) else c.w.edges.getD c.blk.res 0

/-- DUTY (R321). -/
def dutyStep (c : Ctx) : Ans :=
  let swap := c.b 3
  let m := (c.edgeMem (ofBool swap)).bool
  let old := (c.out 2).val.int ≠ 0
  let b := if swap && !m then !old else old
  let fa := c.b 1 || !c.good 1
  let fb := c.b 2 || !c.good 2
  let d := c.b 0
  { vals := [some (ofBool (d && !fa && (!b || fb)), false), some (ofBool (d && !fb && (b || fa)), false),
             some (if b then 1 else 0, false)]
    sqw := c.sq [0, 1, 2, 3], edge := some (ofBool swap) }

/-- MED3 (R316): median of three good inputs, mean of two, or the one; with none good, held with INVALID. -/
def med3Step (c : Ctx) : Ans :=
  match [0, 1, 2].filter (fun k => c.used k && c.good k) with
  | [a, b, d] =>
    let x := c.r a
    let y := c.r b
    let z := c.r d
    let k := if (f32Le x y && f32Le y z) || (f32Le z y && f32Le y x) then b
             else if (f32Le y x && f32Le x z) || (f32Le z x && f32Le x y) then a else d
    { vals := [some (realRes (c.r k))], sqw := (c.inp 2 k).sqw }
  | [a, b] => { vals := [some (realRes (f32OfRat ((f32Rat (c.r a) + f32Rat (c.r b)) / 2)))]
                sqw := (c.inp 2 a).sqw ||| (c.inp 2 b).sqw }
  | [a] => { vals := [some (realRes (c.r a))], sqw := (c.inp 2 a).sqw }
  | _ => { vals := [none], sqw := sqInvalid, mark := true }

/-! ### One block -/

/-- A one-output answer. -/
def one (r : Res) (q : BitVec 16) : Ans := { vals := [some r], sqw := q }
def oneB (b : Bool) (q : BitVec 16) : Ans := one (ofBool b, false) q

/-- The block types of R316. -/
def evalBlk (c : Ctx) : Ans :=
  let all := [0, 1, 2, 3, 4, 5, 6].filter c.used
  match c.blk.typ with
  | 0x0101 => oneB (all.all c.b) (c.sq all)
  | 0x0102 => oneB (all.any c.b) (c.sq all)
  | 0x0103 => oneB ((all.filter c.b).length % 2 = 1) (c.sq all)
  | 0x0104 => oneB (!c.b 0) (c.sq all)
  | 0x0105 => one ((c.inp c.typ 0).val, false) (c.inp c.typ 0).sqw
  | 0x0106 =>
    let k := if c.b 0 then 2 else 1
    one ((c.inp c.typ k).val, false) (c.sq [0, k])
  | 0x0107 =>
    let k := c.i 0
    let n := ((c.usedIns 1 6).length : Int)
    if k < 0 || n ≤ k then { vals := [none], sqw := c.sq [0] ||| sqInvalid, mark := true }
    else one ((c.inp c.typ (1 + k.toNat)).val, false) (c.sq [0, 1 + k.toNat])
  | 0x0201 => oneB (c.b 0 || ((c.out 0).val.bool && !c.b 1)) (c.sq [0, 1])
  | 0x0202 => oneB (!c.b 1 && (c.b 0 || (c.out 0).val.bool)) (c.sq [0, 1])
  | 0x0301 =>
    let x := c.b 0
    { oneB (x && !(c.edgeMem (ofBool x)).bool) (c.sq [0]) with edge := some (ofBool x) }
  | 0x0302 =>
    let x := c.b 0
    { oneB ((c.edgeMem (ofBool x)).bool && !x) (c.sq [0]) with edge := some (ofBool x) }
  | 0x0303 =>
    let x := (c.inp 3 0).val
    { oneB (x ≠ c.edgeMem x) (c.sq [0]) with edge := some x }
  | 0x0401 | 0x0402 | 0x0403 | 0x0404 =>
    let (q, et, x) := timerStep c.blk.typ c
    { vals := [some (ofBool q, false), some (satTime et)], sqw := c.sq all, timer := some x }
  | 0x0405 =>
    let x := c.timer
    let run := c.b 0
    let x := if run && !x.prev then { x with start := c.t } else x
    let on := max 0 (c.inp 3 1).val.time
    let off := max 0 (c.inp 3 2).val.time
    let q := run && (if on + off = 0 then Config.pulseZero c.t else decide ((c.t - x.start) % (on + off) < on))
    { oneB q (c.sq all) with timer := some { x with prev := run } }
  | 0x0501 =>
    let x := countStep 0x0501 c
    { vals := [some (ofBool (decide (c.pv 2 ≤ x.cv)), false), some (satInt32 x.cv)], sqw := c.sq all, count := some x }
  | 0x0502 =>
    let x := countStep 0x0502 c
    { vals := [some (ofBool (decide (x.cv ≤ 0)), false), some (satInt32 x.cv)], sqw := c.sq all, count := some x }
  | 0x0503 =>
    let x := countStep 0x0503 c
    { vals := [some (ofBool (decide (c.pv 4 ≤ x.cv)), false), some (ofBool (decide (x.cv ≤ 0)), false), some (satInt32 x.cv)]
      sqw := c.sq all, count := some x }
  | 0x0601 | 0x0602 | 0x0603 | 0x0604 | 0x0605 | 0x0606 =>
    let t := cmpType c.img c.blk
    oneB (compareVals c.blk.typ t (c.inp t 0).val (c.inp t 1).val) (c.sq [0, 1])
  | 0x0607 =>
    let x := c.r 0
    oneB (if f32Lt (c.r 1) x then true else if f32Lt x (c.r 2) then false else (c.out 0).val.bool) (c.sq [0, 1, 2])
  | 0x0701 | 0x0703 | 0x0706 | 0x0707 => one (foldArith c.blk.typ c.typ (all.map fun k => (c.inp c.typ k).val)) (c.sq all)
  | 0x0702 =>
    let a := (c.inp c.typ 0).val
    let b := (c.inp c.typ 1).val
    one (if c.typ = 2 then realRes (f32Sub a.real b.real) else intRes c.typ (intOf c.typ a - intOf c.typ b)) (c.sq [0, 1])
  | 0x0704 =>
    let a := (c.inp c.typ 0).val
    let b := (c.inp c.typ 1).val
    one (if c.typ = 2 then realRes (f32Div a.real b.real)
         else if b.int = 0 then (0, true) else satInt32 (Int.tdiv a.int b.int)) (c.sq [0, 1])
  | 0x0705 =>
    let a := (c.inp c.typ 0).val
    one (if c.typ = 2 then realRes (f32Abs a.real) else intRes c.typ (intOf c.typ a).natAbs) (c.sq [0])
  | 0x0708 => one (realRes (f32OfRat (c.i 0))) (c.sq [0])
  | 0x0709 => one (realToInt (c.r 0)) (c.sq [0])
  | 0x0801 =>
    let mn := (c.inp c.typ 0).val
    let x := (c.inp c.typ 1).val
    let mx := (c.inp c.typ 2).val
    let lt := fun (a b : Value) => compareVals 0x0606 c.typ a b
    let nan := c.typ = 2 && (f32IsNaN mn.real || f32IsNaN x.real || f32IsNaN mx.real)
    let v := if nan then ofReal nan32 else if lt mx mn then mn else
      let y := if lt x mn then mn else x
      if lt mx y then mx else y
    one (v, c.typ = 2 && !f32Finite v.real) (c.sq [0, 1, 2])
  | 0x0802 =>
    let a := f32Mul (f32Sub (c.r 0) (c.r 1)) (f32Sub (c.r 4) (c.r 3))
    let v := f32Add (c.r 3) (f32Div a (f32Sub (c.r 2) (c.r 1)))
    one (ofReal v, !f32Finite v || f32Eq (c.r 2) (c.r 1)) (c.sq [0, 1, 2, 3, 4])
  | 0x0803 =>
    let x := c.r 0
    let y := (c.out 0).val.real
    let stp := f32Mul (f32Abs (c.r 1)) (dtReal c.period)
    let d := f32Sub x y
    let v := if c.first || f32Le (f32Abs d) stp then x else if f32Neg d then f32Sub y stp else f32Add y stp
    one (realRes v) (c.sq [0, 1])
  | 0x0804 => med3Step c
  | 0x0805 => oneB (c.good 0) 0
  | 0x0806 =>
    if c.good 0 then one ((c.inp c.typ 0).val, false) (c.inp c.typ 0).sqw
    else one ((c.inp c.typ 1).val, false) (if c.good 1 then (c.inp c.typ 1).sqw else sqInvalid)
  | 0x0901 => pidStep c
  | 0x0A01 => valveStep c
  | 0x0A02 =>
    let bad := all.filter fun k => !c.b k || !c.good k
    { vals := [some (ofBool bad.isEmpty, false), some (satInt32 (match bad with | k :: _ => (k : Int) | [] => -1))]
      sqw := c.sq all }
  | 0x0A03 => seqStep c
  | _ => dutyStep c

/-- A write to a variable, replaced where a force holds (R345). -/
def writeVar (forces : List (Nat × (BitVec 64 × BitVec 16))) (v : Nat) (x : Var) (l : List Var) : List Var :=
  match forces.find? (·.1 == v) with
  | some (_, val, q) => l.set v { val := val, sqw := q ||| 0x0020 }
  | none => l.set v x

/-- Output number `e.2` of a block. -/
def writeOut (forces : List (Nat × (BitVec 64 × BitVec 16))) (a : Ans) (l : List Var) (e : (Option Res × Nat) × Nat) : List Var :=
  let v := e.1.2
  let q := if e.2 = 0 then a.sqw ||| a.extra else a.sqw
  if v = 0xFFFF then l
  else match e.1.1 with
    | some (x, inv) => writeVar forces v { val := x, sqw := if inv then q ||| sqInvalid else q } l
    | none => if a.mark then writeVar forces v { val := (l.getD v {}).val, sqw := q } l else l

/-- Block number `n` is evaluated (R314): outputs written when it completes, nothing with EN at 0. -/
def runBlk (img : Image) (forces : List (Nat × (BitVec 64 × BitVec 16))) (period : Nat) (t : Int) (w : Work)
    (e : Blk × Nat) : Work :=
  let b := e.1
  if b.en ≠ 0xFFFF && !(readOp img w 0 b.en).val.bool then w
  else
    let a := evalBlk { img := img, w := w, blk := b, first := !w.seen.getD e.2 false, period := period, t := t }
    { vars := (a.vals.zip b.outs).zipIdx.foldl (writeOut forces a) w.vars
      timers := match a.timer with | some x => w.timers.set (a.timerIx.getD b.res) x | none => w.timers
      counts := match a.count with | some x => w.counts.set b.res x | none => w.counts
      edges := match a.edge with | some x => w.edges.set (a.edgeIx.getD b.res) x | none => w.edges
      seen := w.seen.set e.2 true }

/-- SOLVE: the block list in order (R314). -/
def solveBlocks (img : Image) (forces : List (Nat × (BitVec 64 × BitVec 16))) (period : Nat) (t : Int) (w : Work) : Work :=
  img.blocks.zipIdx.foldl (runBlk img forces period t) w

/-- Worst-case cost of a block type in ns (R316). -/
def blkCost : Nat → Nat
  | 0x0101 | 0x0102 | 0x0103 | 0x0107 | 0x0303 | 0x0709 => 12
  | 0x0104 | 0x0105 | 0x0705 | 0x0805 => 8
  | 0x0106 | 0x0201 | 0x0202 | 0x0301 | 0x0302 | 0x0708 | 0x0806 => 10
  | 0x0401 | 0x0402 | 0x0403 | 0x0405 | 0x0501 | 0x0502 | 0x0804 => 20
  | 0x0404 | 0x0803 => 24
  | 0x0503 => 28
  | 0x0601 | 0x0602 | 0x0603 | 0x0604 | 0x0605 | 0x0606 => 10
  | 0x0607 | 0x0701 | 0x0702 | 0x0706 | 0x0707 | 0x0801 => 14
  | 0x0703 | 0x0A02 => 16
  | 0x0704 => 40
  | 0x0802 | 0x0A04 => 30
  | 0x0901 => 150
  | 0x0A01 => 60
  | 0x0A03 => 50
  | _ => 0

/-- T_solve in ns (R335). -/
def Image.tSolve (img : Image) : Nat := 2000 + (img.blocks.map fun b => blkCost b.typ).foldl (· + ·) 0

end Sys2Proof.Machine
end

