-- ==== Sys2Proof/Machine/OpIndex.lean ====
section
/-! DEFINITION. The opcode index (R299): number, execution class, completion bound, job bound, right and lifecycle states
of each opcode. -/

namespace Sys2Proof.Machine

/-- One row of the opcode index (R299). -/
structure OpRow where
  /-- opcode number -/
  num : Nat
  /-- execution class: 0 A, 1 B, 2 C -/
  cls : Nat
  /-- fixed part of the completion bound, ns -/
  bound : Nat
  /-- program periods in the completion bound -/
  periods : Nat
  /-- the bound has a sample period of the channel -/
  sample : Bool
  /-- job bound in ns, 0 for none -/
  job : Nat
  /-- right needed: 0 none, 1 O, 2 C, 3 S, 4 K -/
  right : Nat
  /-- lifecycle states that execute it: bit 0 OPEN, 1 COMMISSION, 2 SEALED, 3 RETIRED -/
  life : Nat
  deriving DecidableEq, Repr

/-- The opcode index of R299. -/
def opRow : Opc → OpRow
  | .deviceReset => ⟨0x0101, 1, 2000000, 0, false, 0, 3, 15⟩
  | .modeSet => ⟨0x0102, 1, 1000000, 1, false, 0, 2, 7⟩
  | .modeRead => ⟨0x0103, 0, 200000, 0, false, 0, 0, 15⟩
  | .startWordSet => ⟨0x0104, 1, 20000000, 0, false, 0, 2, 7⟩
  | .roleSet => ⟨0x0105, 1, 20000000, 0, false, 0, 2, 7⟩
  | .profileSet => ⟨0x0106, 1, 20000000, 0, false, 0, 3, 7⟩
  | .dormantEnter => ⟨0x0107, 1, 20000000, 0, false, 0, 3, 7⟩
  | .channelConfigure => ⟨0x0201, 1, 20000000, 0, true, 0, 2, 7⟩
  | .channelRead => ⟨0x0202, 0, 200000, 0, false, 0, 0, 15⟩
  | .blankConfigure => ⟨0x0203, 1, 2000000, 0, false, 0, 2, 7⟩
  | .crosspointTest => ⟨0x0204, 2, 80000000, 0, false, 0, 2, 7⟩
  | .conditionConfigure => ⟨0x0205, 1, 2000000, 0, true, 0, 2, 7⟩
  | .tableLoad => ⟨0x0206, 1, 20000000, 0, false, 0, 2, 7⟩
  | .tableRead => ⟨0x0207, 0, 200000, 0, false, 0, 0, 15⟩
  | .outputConfigure => ⟨0x0208, 1, 20000000, 0, false, 0, 2, 7⟩
  | .outputWrite => ⟨0x0209, 0, 200000, 0, false, 0, 1, 7⟩
  | .outputParallel => ⟨0x020A, 2, 40000000, 0, false, 0, 2, 7⟩
  | .outputFaultClear => ⟨0x020B, 0, 200000, 0, false, 0, 2, 7⟩
  | .outputHoldSet => ⟨0x020C, 1, 2000000, 0, false, 0, 2, 7⟩
  | .channelSimulate => ⟨0x020D, 1, 2000000, 0, false, 0, 2, 7⟩
  | .channelCalibrate => ⟨0x020E, 2, 500000000, 0, false, 0, 2, 7⟩
  | .pinConfigure => ⟨0x0301, 1, 5000000, 0, false, 0, 2, 7⟩
  | .pinRead => ⟨0x0302, 0, 200000, 0, false, 0, 0, 15⟩
  | .digitalWrite => ⟨0x0303, 0, 200000, 0, false, 0, 1, 7⟩
  | .groupConfigure => ⟨0x0304, 1, 10000000, 0, false, 0, 2, 7⟩
  | .digitalFaultClear => ⟨0x0305, 0, 200000, 0, false, 0, 2, 7⟩
  | .counterReset => ⟨0x0306, 0, 200000, 0, false, 0, 1, 7⟩
  | .digitalHoldSet => ⟨0x0307, 1, 2000000, 0, false, 0, 2, 7⟩
  | .pinSimulate => ⟨0x0308, 1, 2000000, 0, false, 0, 2, 7⟩
  | .pointConfigure => ⟨0x0401, 1, 2000000, 0, false, 0, 2, 7⟩
  | .pointRead => ⟨0x0402, 0, 200000, 0, false, 0, 0, 15⟩
  | .alarmAck => ⟨0x0403, 1, 2000000, 0, false, 0, 1, 7⟩
  | .alarmSilence => ⟨0x0404, 1, 2000000, 0, false, 0, 1, 7⟩
  | .alarmShelve => ⟨0x0405, 0, 500000, 0, false, 0, 2, 7⟩
  | .pointService => ⟨0x0406, 1, 2000000, 0, false, 0, 2, 7⟩
  | .alarmGroupConfigure => ⟨0x0407, 1, 2000000, 0, false, 0, 2, 7⟩
  | .chainConfigure => ⟨0x0408, 1, 5000000, 0, false, 0, 2, 7⟩
  | .callConfigure => ⟨0x0409, 1, 5000000, 0, false, 0, 2, 7⟩
  | .dutySet => ⟨0x040A, 0, 500000, 0, false, 0, 1, 7⟩
  | .firstoutReset => ⟨0x040B, 0, 500000, 0, false, 0, 1, 7⟩
  | .tileBind => ⟨0x040C, 1, 2000000, 0, false, 0, 2, 7⟩
  | .derivedConfigure => ⟨0x040D, 1, 2000000, 0, false, 0, 2, 7⟩
  | .programLoad => ⟨0x0501, 2, 500000000, 0, false, 0, 2, 7⟩
  | .programStart => ⟨0x0502, 1, 1000000, 2, false, 0, 2, 7⟩
  | .programStop => ⟨0x0503, 1, 1000000, 1, false, 0, 2, 7⟩
  | .programStatus => ⟨0x0504, 0, 200000, 0, false, 0, 0, 15⟩
  | .variableRead => ⟨0x0505, 0, 200000, 0, false, 0, 0, 15⟩
  | .variableForce => ⟨0x0506, 1, 1000000, 1, false, 0, 2, 7⟩
  | .cycleConfigure => ⟨0x0507, 1, 20000000, 0, false, 0, 2, 7⟩
  | .setConfigure => ⟨0x0508, 1, 20000000, 0, false, 0, 2, 7⟩
  | .ringConfigure => ⟨0x0601, 1, 20000000, 0, false, 0, 2, 7⟩
  | .ringStatus => ⟨0x0602, 0, 200000, 0, false, 0, 0, 15⟩
  | .ringKeySet => ⟨0x0603, 1, 20000000, 0, false, 0, 4, 7⟩
  | .timeConfigure => ⟨0x0604, 1, 20000000, 0, false, 0, 2, 7⟩
  | .pairConfigure => ⟨0x0605, 1, 20000000, 0, false, 0, 2, 7⟩
  | .masterHandover => ⟨0x0606, 1, 1000000, 2, false, 0, 3, 7⟩
  | .spareStatus => ⟨0x0701, 0, 200000, 0, false, 0, 0, 15⟩
  | .spareSwap => ⟨0x0702, 1, 2000000, 0, false, 60000000000, 3, 7⟩
  | .sparePolicy => ⟨0x0703, 1, 20000000, 0, false, 0, 3, 7⟩
  | .spareApprove => ⟨0x0704, 0, 500000, 0, false, 0, 3, 7⟩
  | .wearRead => ⟨0x0705, 0, 200000, 0, false, 0, 0, 15⟩
  | .recordRead => ⟨0x0801, 1, 20000000, 0, false, 0, 0, 15⟩
  | .recorderStatus => ⟨0x0802, 0, 200000, 0, false, 0, 0, 15⟩
  | .quotaSet => ⟨0x0803, 1, 20000000, 0, false, 0, 2, 7⟩
  | .mirrorConfigure => ⟨0x0804, 1, 20000000, 0, false, 0, 2, 7⟩
  | .recordMark => ⟨0x0805, 0, 500000, 0, false, 0, 1, 7⟩
  | .journalRead => ⟨0x0806, 1, 20000000, 0, false, 0, 0, 15⟩
  | .panelConfigure => ⟨0x0901, 1, 20000000, 0, false, 0, 2, 7⟩
  | .waveformLoad => ⟨0x0902, 2, 200000000, 0, false, 0, 2, 7⟩
  | .panelWrite => ⟨0x0903, 1, 20000000, 0, false, 0, 1, 7⟩
  | .panelUpdate => ⟨0x0904, 1, 2000000, 0, false, 10000000000, 1, 7⟩
  | .tileImageLoad => ⟨0x0905, 2, 100000000, 0, false, 0, 2, 7⟩
  | .panelStatus => ⟨0x0906, 0, 200000, 0, false, 0, 0, 15⟩
  | .panelPower => ⟨0x0907, 1, 20000000, 0, false, 0, 2, 7⟩
  | .clockRead => ⟨0x0A01, 0, 200000, 0, false, 0, 0, 15⟩
  | .clockShift => ⟨0x0A02, 2, 1100000000, 0, false, 0, 2, 7⟩
  | .clockAlarmSet => ⟨0x0A03, 1, 2000000, 0, false, 0, 2, 7⟩
  | .leapSet => ⟨0x0A04, 1, 2000000, 0, false, 0, 2, 7⟩
  | .trimCurveLoad => ⟨0x0A05, 1, 20000000, 0, false, 0, 3, 7⟩
  | .packageStage => ⟨0x0B01, 1, 5000000, 0, false, 1800000000000, 3, 7⟩
  | .packageActivate => ⟨0x0B02, 1, 5000000, 0, false, 14400000000000, 3, 7⟩
  | .updateWindowSet => ⟨0x0B03, 1, 2000000, 0, false, 0, 3, 7⟩
  | .provenSetAccept => ⟨0x0B04, 1, 20000000, 0, false, 0, 3, 7⟩
  | .healthRead => ⟨0x0B05, 1, 20000000, 0, false, 0, 0, 15⟩
  | .sensorRead => ⟨0x0B06, 0, 200000, 0, false, 0, 0, 15⟩
  | .ownerKeyInstall => ⟨0x0C01, 1, 20000000, 0, false, 0, 4, 1⟩
  | .seal => ⟨0x0C02, 2, 100000000, 0, false, 0, 4, 2⟩
  | .retire => ⟨0x0C03, 2, 2000000000, 0, false, 0, 4, 6⟩
  | .debugOpen => ⟨0x0C04, 1, 20000000, 0, false, 0, 4, 7⟩
  | .debugClose => ⟨0x0C05, 1, 2000000, 0, false, 0, 1, 7⟩
  | .securityStatus => ⟨0x0C06, 0, 200000, 0, false, 0, 0, 15⟩
  | .tamperClear => ⟨0x0C07, 1, 20000000, 0, false, 0, 4, 7⟩
  | .ownerKeyRotate => ⟨0x0C08, 1, 20000000, 0, false, 0, 4, 4⟩
  | .sessionOpen => ⟨0x0D01, 2, 50000000, 0, false, 0, 0, 4⟩
  | .sessionClose => ⟨0x0D02, 0, 500000, 0, false, 0, 0, 4⟩
  | .sessionRead => ⟨0x0D03, 0, 200000, 0, false, 0, 0, 15⟩
  | .echo => ⟨0x0D04, 0, 200000, 0, false, 0, 0, 15⟩
  | .flowOpen => ⟨0x0D10, 1, 2000000, 0, false, 0, 2, 7⟩
  | .flowClose => ⟨0x0D11, 2, 25000000, 0, false, 0, 2, 7⟩
  | .flowRead => ⟨0x0D12, 0, 200000, 0, false, 0, 0, 15⟩
  | .streamOpen => ⟨0x0D13, 1, 5000000, 0, false, 0, 2, 7⟩
  | .streamClose => ⟨0x0D14, 2, 205000000, 0, false, 0, 2, 7⟩
  | .budgetRead => ⟨0x0D15, 0, 200000, 0, false, 0, 0, 15⟩

/-- Every opcode of the index, in its order (R299). -/
def allOpcs : List Opc :=
  [.deviceReset, .modeSet, .modeRead, .startWordSet, .roleSet, .profileSet, .dormantEnter, .channelConfigure, .channelRead, .blankConfigure, .crosspointTest, .conditionConfigure, .tableLoad, .tableRead, .outputConfigure, .outputWrite, .outputParallel, .outputFaultClear, .outputHoldSet, .channelSimulate] ++
  [.channelCalibrate, .pinConfigure, .pinRead, .digitalWrite, .groupConfigure, .digitalFaultClear, .counterReset, .digitalHoldSet, .pinSimulate, .pointConfigure, .pointRead, .alarmAck, .alarmSilence, .alarmShelve, .pointService, .alarmGroupConfigure, .chainConfigure, .callConfigure, .dutySet, .firstoutReset] ++
  [.tileBind, .derivedConfigure, .programLoad, .programStart, .programStop, .programStatus, .variableRead, .variableForce, .cycleConfigure, .setConfigure, .ringConfigure, .ringStatus, .ringKeySet, .timeConfigure, .pairConfigure, .masterHandover, .spareStatus, .spareSwap, .sparePolicy, .spareApprove] ++
  [.wearRead, .recordRead, .recorderStatus, .quotaSet, .mirrorConfigure, .recordMark, .journalRead, .panelConfigure, .waveformLoad, .panelWrite, .panelUpdate, .tileImageLoad, .panelStatus, .panelPower, .clockRead, .clockShift, .clockAlarmSet, .leapSet, .trimCurveLoad, .packageStage] ++
  [.packageActivate, .updateWindowSet, .provenSetAccept, .healthRead, .sensorRead, .ownerKeyInstall, .seal, .retire, .debugOpen, .debugClose, .securityStatus, .tamperClear, .ownerKeyRotate, .sessionOpen, .sessionClose, .sessionRead, .echo, .flowOpen, .flowClose, .flowRead] ++
  [.streamOpen, .streamClose, .budgetRead]

/-- Check 3 of R282: the opcode a number names. -/
def opcOf (n : Nat) : Option Opc := allOpcs.find? fun o => (opRow o).num == n

end Sys2Proof.Machine
end

