-- ==== Sys2Proof/Machine/RingState.lean ====
section
/-! DEFINITION. The state of the ring: ports, membership, cycle frames, Node Time lock, subscriptions, pairs, keys
(chapter "Thehorn Ring and Cascading"). -/

namespace Sys2Proof.Machine

/-- One ring port. -/
structure RPort where
  /-- R388; 1 bit; class P -/
  en : Bool := true
  /-- R388; 1 bit each; class V -/
  up : Bool := false
  blockLock : Bool := false
  hiBer : Bool := false
  los : Bool := false
  modAbs : Bool := true
  alive : Bool := false
  /-- R388; 6 bits; class V -/
  neighbour : Nat := 0
  /-- R388; 4 bits; class V -/
  downCause : Nat := 0
  /-- R388; 24 bits; class V: 0.1 ns -/
  delay : Nat := 0
  /-- R373; 0.1 ns: the last 16 exchanges, newest first -/
  delays : List Nat := []
  /-- R373; ns: last exchange -/
  delayAt : Nat := 0
  /-- R388; 16 bits; class V: m -/
  len : Nat := 0
  /-- R388; 16 bits each; class V -/
  resends : Nat := 0
  fails : Nat := 0
  /-- R386: the same since the last record 0x0507, and its Node Time -/
  sumResends : Nat := 0
  sumFails : Nat := 0
  sumAt : Option Nat := none
  /-- R362; ns: last valid link word -/
  wordAt : Nat := 0
  /-- R383; 32 bits: epoch this port chose for the lane it receives -/
  epoch : Nat := 0
  /-- R383: epoch of the lane it sends, named by the neighbour -/
  txEpoch : Nat := 0
  /-- R355; 32 bits: next HOP_SEQ expected, and next HOP_SEQ to send -/
  rxSeq : Nat := 0
  txSeq : Nat := 0
  /-- R361: frames sent and not acknowledged: HOP_SEQ, class, credits, resends -/
  sent : List (Nat × Nat × Nat × Nat) := []
  /-- R359; 64-byte units per class: credit held for the downstream buffer -/
  credit : List Nat := [128, 736, 736, 736, 736]
  /-- R359: frames that wait for credit: class, payload length -/
  waiting : List (Nat × Nat) := []
  /-- R359: credits of received frames not yet released, per class -/
  owed : List Nat := [0, 0, 0, 0, 0]
  /-- R361: a frame failed; NAK goes out in the next link word; failures of the frame expected -/
  nak : Bool := false
  failed : Nat := 0
  /-- R358; 56 bits: last link word sent -/
  txWord : BitVec 56 := 0
  /-- R358; ns: last link word sent -/
  txWordAt : Option Nat := none
  /-- R353; class V: SFF-8472 temperature in 1/256 °C, transmit and receive power in 0.1 µW, 12 bytes as read -/
  sfp : List Byte := []
  /-- R386; 1 bit: diagnostics alarm shown -/
  sfpAlarm : Bool := false
  deriving DecidableEq, Repr

/-- A directory entry (R388), class V. -/
structure DirEntry where
  /-- R388; 32 bits: GLB_ID -/
  id : Nat := 0
  locked : Bool := false
  /-- R388; 2 bits -/
  role : Nat := 0
  /-- R388; 5 bits each -/
  hops0 : Nat := 0
  hops1 : Nat := 0
  eligible : Bool := false
  /-- R369; 8 bits -/
  priority : Nat := 255
  /-- R384; 32 bits: key check value of the inactive slot, as announced -/
  kcv : Nat := 0
  /-- R337: largest T_solve in ns, exports and remote outputs of the node's program, as announced; none without a program -/
  prog : Option (Nat × Nat × Nat) := none
  /-- R373; m: length of the hop it leaves in direction 0, as announced -/
  hopLen : Nat := 0
  /-- R366: consecutive cycles without its PRESENT bit -/
  missed : Nat := 0
  /-- R367; ns: last ANNOUNCE heard -/
  heard : Nat := 0
  deriving DecidableEq, Repr

/-- A pair of R381. -/
structure Pair where
  /-- R388; 6 bits; class P: local global analogue index -/
  localCh : Nat
  /-- R388; 6 bits; class P -/
  peer : Nat
  /-- R388; 6 bits; class P -/
  peerCh : Nat
  deriving DecidableEq, Repr

/-- A frame this node sends (R355 to R357): its own, or one it forwards. -/
structure TxFrame where
  /-- R355; 3 bits: 0 T, 1 C, 2 A, 3 S, 4 M -/
  cls : Nat
  /-- R356 -/
  typ : Nat
  /-- R355: originating node -/
  src : Nat
  /-- R355: destination, 0 every node, 255 the neighbour -/
  dst : Nat
  /-- R355: hops travelled -/
  hops : Nat := 0
  /-- R356: bit 0 sent in direction 0, bit 1 in direction 1 -/
  dirs : Nat
  /-- R355; 32 bits -/
  seq : Nat
  payload : List Byte
  /-- R357: forwarded with a CRC that cannot match -/
  broken : Bool := false
  deriving DecidableEq, Repr

/-- The Ring Controller and the Time Unit (R352 to R388). -/
structure RingState where
  /-- R388; 6 bits; class P -/
  node : Nat := 0
  /-- R388; 8 bits; class P -/
  priority : Nat := 255
  /-- R388; two ports -/
  port0 : RPort := {}
  port1 : RPort := {}
  /-- R388; 2 bits; class V: 0 ALONE, 1 WHOLE, 2 BROKEN, 3 SPLIT -/
  state : Nat := 0
  /-- R363: ports reported down, node and port, and consecutive cycles with both laps complete -/
  downPorts : List (Nat × Nat) := []
  laps : Nat := 0
  /-- R388; 2 bits; class V: 0 none, 1 master, 2 standby, 3 member -/
  roleNow : Nat := 0
  /-- R388; 6 bits each; class V -/
  master : Nat := 0
  standby : Nat := 0
  /-- R388; 1 bit; class V -/
  keySlot : Nat := 0
  /-- R384, R551: keys held, by opaque handle -/
  key0 : Option Nat := none
  key1 : Option Nat := none
  /-- R384: key switch named: slot, cycle number -/
  keySwitch : Option (Nat × Nat) := none
  /-- R384: cycle number from which the old slot is no longer accepted -/
  keyGrace : Option Nat := none
  /-- R388; 32 bits; class V: current members, rising -/
  members : List Nat := []
  /-- R333, R334: members at the last cycle boundary -/
  atSnap : List Nat := []
  /-- R388; 64 bits; class V -/
  cycle : Nat := 0
  /-- R365; ns: C_off in force on the ring, none before a CYCLE frame names one -/
  cofs : Option Nat := none
  /-- R365: pending change: t_j, P, C_off -/
  change : Option (Nat × Nat × Nat) := none
  /-- R365: PRESENT bits gathered for the cycle, and laps of this cycle's frame back at the master -/
  present : BitVec 32 := 0
  lapsBack : Nat := 0
  /-- R366: this member has missed CYCLE frames, and runs cut off -/
  missedCycles : Nat := 0
  cut : Bool := true
  /-- R366; ns: Node Time of the last CYCLE frame -/
  cycleAt : Option Nat := none
  /-- R369; ns: start of the election window -/
  election : Option Nat := none
  /-- R367; ns: last ANNOUNCE sent -/
  announceAt : Option Nat := none
  /-- R371: another master seen: its node and PRIORITY -/
  rival : Option (Nat × Nat) := none
  /-- R372: handover: new master, t_j, command -/
  handover : Option (Nat × Nat × Nat) := none
  /-- R370: a cycle number and instant at which this node sends its first CYCLE frame as master -/
  firstCycle : Option Nat := none
  /-- R388; directory -/
  dir : List (Nat × DirEntry) := []
  /-- R388; pairs -/
  pairs : List (Nat × Option Pair) := []
  /-- R356: frames already used, newest first: SRC, class, ORIGIN_SEQ -/
  heard : List (Nat × Nat × Nat) := []
  /-- R355; next ORIGIN_SEQ of each class -/
  originSeq : List Nat := [0, 0, 0, 0, 0]
  /-- R356, R357: frames this node has originated or forwarded, oldest first -/
  out : List TxFrame := []
  /-- R378: subscribers of each local source (kind × 65536 + index): bit n − 1 = Nn -/
  published : List (Nat × Nat) := []
  /-- R378: samples to be published: kind, index, sample -/
  outbox : List (Nat × Nat × Sample) := []
  /-- R217, R378: subscriptions between two peers that this node has seen: subscriber, source node, kind, index -/
  peerSubs : List (Nat × Nat × Nat × Nat) := []
  /-- R378: sources subscribed to at peers: kind, node, index -/
  subs : List (Nat × Nat × Nat) := []
  /-- R355: pieces of segmented stream blocks received: node, bytes -/
  pieces : List (Nat × List Byte) := []
  /-- R376: UTC of the last PPS edge comes from TIME_CONFIGURE or the clock; the first edge has been used -/
  ppsLocked : Bool := false
  /-- R387; 2 bits; class V: 0 FREE, 1 ACQUIRING, 2 LOCKED, 3 HOLDOVER -/
  tState : Nat := 0
  /-- R387; 2 bits; class V -/
  tSource : Nat := 0
  /-- R387; 6 bits; class V -/
  gm : Nat := 0
  /-- R387; 1 bit; class V -/
  ppsOk : Bool := false
  /-- R387; 1 bit; class V -/
  tDir : Nat := 0
  /-- R387; 5 bits; class V -/
  tHops : Nat := 0
  /-- R387; 32 bits signed; class V: ns -/
  offset : Int := 0
  /-- R387; 32 bits signed; class V: 0.001 ppm -/
  freq : Int := 0
  /-- R387; 16 bits signed; class P -/
  leap : Int := 0
  /-- R387; class P -/
  ppsInEn : Bool := false
  ppsPol : Bool := false
  ppsOutEn : Bool := false
  /-- R387; 24 bits signed; class P: ns -/
  ppsDelay : Int := 0
  /-- R387; 64 bits; class V -/
  ppsLast : Nat := 0
  /-- R376: whole seconds named for the next edge -/
  ppsSecond : Option Nat := none
  /-- R376: PPS_OUT is driven until -/
  ppsOutEnd : Option Nat := none
  /-- R376; ns: last whole second driven -/
  ppsOutAt : Nat := 0
  /-- R375: consecutive SYNCs within 50 ns -/
  goodSyncs : Nat := 0
  /-- R375; ns: last SYNC received, and entry of HOLDOVER -/
  syncAt : Option Nat := none
  holdAt : Nat := 0
  /-- R374; ns: last SYNC sent -/
  syncSent : Option Nat := none
  /-- R27; 1 bit; class V: the ring transmit clock is lost: neither port transmits -/
  txLost : Bool := false
  deriving DecidableEq, Repr

/-- Other names used by the chapters. -/
def RingState.isMaster (r : RingState) : Bool := r.roleNow = 1

end Sys2Proof.Machine
end

