-- ==== Sys2Proof/Machine/MssState.lean ====
section
/-! DEFINITION. The state of the management subsystem and the Security Unit: sensors, health log, firmware banks and sets,
update windows, package jobs, keys and tamper (chapter "Management Subsystem, Security and Updates"). -/

namespace Sys2Proof.Machine

/-- One of the 40 sensors (R540, R541, R573). -/
structure Sensor where
  /-- R573; 16 bits signed; class V -/
  value : Int := 0
  /-- R573; 2 bits; class V: 0 normal, 1 low, 2 high, 3 fault -/
  state : Nat := 0
  /-- R573; 16 bits signed each; class P -/
  lo : Int := -32768
  hi : Int := 32767
  /-- R541: consecutive samples below LO, above HI, and back within the limits -/
  lows : Nat := 0
  highs : Nat := 0
  backs : Nat := 0
  /-- R542: minimum, maximum, sum and count since the last summary -/
  min : Int := 0
  max : Int := 0
  sum : Int := 0
  count : Nat := 0
  deriving DecidableEq, Repr

/-- A health log entry (R542), class P once written to NAND. -/
structure LogEntry where
  /-- R542; 64 bits -/
  time : Nat
  /-- R542; 32 bits -/
  hseq : Nat
  /-- R542; 8 bits -/
  typ : Nat
  /-- R542; 8 bits -/
  source : Nat
  /-- R542; 16 bytes -/
  data : List Byte
  deriving DecidableEq, Repr

/-- An image in a bank (R556, R559, R560), class P. -/
structure Bank where
  /-- R556; 32 bits -/
  version : Nat := 0
  /-- R556; 6 bits -/
  svn : Nat := 0
  /-- R556: stamps: peer KIND, lowest and highest VERSION -/
  stamps : List (Nat × Nat × Nat) := (List.range 5).map fun k => (k, 0, 0xFFFFFFFF)
  /-- R560: digest, signature and HW range hold -/
  good : Bool := true
  /-- R558: packets of a configuration: opcode and packet -/
  packets : List (Nat × Cmd) := []
  deriving DecidableEq, Repr

/-- The two banks of a KIND (R559, R573). -/
structure ImageKind where
  /-- R573; 1 bit; class P: 0 A, 1 B -/
  active : Nat := 0
  bankA : Option Bank := some {}
  bankB : Option Bank := none
  /-- R573; 1 bit; class P: the other bank is staged and not active -/
  staged : Bool := false
  deriving DecidableEq, Repr

/-- Image slots of an island (R559, R565). -/
structure IslandImage where
  /-- R559: slot run -/
  slot : Nat := 0
  slotA : Option Bank := some {}
  slotB : Option Bank := none
  /-- R565: neither slot is compatible -/
  dead : Bool := false
  deriving DecidableEq, Repr

/-- A staging job (R557, R559). -/
structure StageJob where
  cmd : Nat
  kind : Nat
  /-- R559: bank written -/
  bank : Nat
  image : Bank
  /-- R557: status and PAYLOAD of the first check that failed; the bank is then not written -/
  bad : Option (Nat × List Byte) := none
  deriving DecidableEq, Repr

/-- An activation (R567, R568). -/
structure Activation where
  cmd : Nat
  /-- R571; 5 bits -/
  mask : Nat
  /-- R571 -/
  wh : Nat
  /-- R568; ns -/
  start : Nat
  /-- 0 waits for its window, 1 waits for the restart, 2 islands receive their images -/
  phase : Nat
  /-- R568; ns: window -/
  opens : Nat
  closes : Nat
  /-- R567: islands still to receive an image, in order -/
  islands : List Nat
  /-- R567; 14 bits: islands that kept their previous image -/
  kept : Nat
  deriving DecidableEq, Repr

/-- The management subsystem. -/
structure Mss where
  /-- R573; 1 bit; class V -/
  ok : Bool := true
  /-- R573; 3 bits; class V -/
  outcome : Nat := 0
  /-- R561; 1 bit; class V: the running set is a trial; ns: since -/
  trial : Option Nat := none
  /-- R573; 1 bit; class V -/
  proposed : Bool := false
  /-- R573; 8 bits; class V -/
  restarts : Nat := 0
  /-- R573; 5 bits; class P: h -/
  summary : Nat := 6
  /-- R573; 5 bits; class P: h -/
  scrub : Nat := 12
  /-- R542; ns: last summaries -/
  summaryAt : Nat := 0
  /-- R573; 1 bit; class V -/
  half : Bool := false
  /-- R542, R573; class P: the health log, oldest first, and next HSEQ -/
  log : List LogEntry := []
  hseq : Nat := 0
  /-- R573; 1 bit; class P -/
  wrapped : Bool := false
  /-- R543: entries not yet in NAND, oldest first; ns: last batch -/
  batch : List LogEntry := []
  batchAt : Nat := 0
  /-- R559; KIND 0 to 4 -/
  kinds : List ImageKind := [{}, {}, {}, {}, {}]
  /-- R558; class P: bank of KIND 4 whose configuration is in force -/
  cfgBank : Nat := 0
  /-- R561, R573; class P: proven set: bank and VERSION per KIND, Node Time -/
  proven : Option (List (Nat × Nat) × Nat) := none
  /-- R573; 4 windows; class P: START, END -/
  windows : List (Nat × Nat) := [(0, 0), (0, 0), (0, 0), (0, 0)]
  /-- R573; 40 sensors -/
  sensors : List (Nat × Sensor) := []
  /-- R565; 14 islands -/
  islands : List (Nat × IslandImage) := []
  /-- R557 -/
  stage : List StageJob := []
  /-- R567: activations in progress, oldest first -/
  acts : List Activation := []
  /-- R566: starts that ended in causes 9 to 13, newest first, in ns; and starts that failed to reach READY -/
  badStarts : List Nat := []
  slowStarts : Nat := 0
  /-- R566: the trial failed: the next start takes outcome 4 -/
  trialFailed : Bool := false
  deriving DecidableEq, Repr

/-- The Security Unit (R548 to R555, R573). -/
structure Security where
  /-- R573; 4 bits; class F -/
  ownerSlots : Nat := 0
  /-- R548; class P: the owner root key held -/
  ownerKey : Option (List Byte) := none
  /-- R573; 1 bit; class F -/
  storageOk : Bool := true
  /-- R573; 64 bits; class V: SEC_SES_NONCE -/
  nonce : Nat := 0
  /-- R573; 7 bits; class F -/
  rollback : Nat := 0
  /-- R573; 1 bit each; class P -/
  ringErase : Bool := false
  smbusWake : Bool := false
  /-- R573; 1 bit; class V -/
  live : Bool := false
  /-- R573; 1 bit; class B -/
  latched : Bool := false
  /-- R573; 8 bits; class B -/
  count : Nat := 0
  /-- R573; 64 bits; class B -/
  time : Nat := 0
  /-- R408, R455; class B: an assertion that the core has still to act on -/
  pending : Bool := false
  deriving DecidableEq, Repr

end Sys2Proof.Machine
end

