-- ==== Sys2Proof/Machine/PanelState.lean ====
section
/-! DEFINITION. The state of the Panel Controller: geometry, rails, waveform sets, frame memory, updates, the panel journal and the
tiles (chapter "Door Panel Driver"). Pixels are keyed by y × 2048 + x. -/

namespace Sys2Proof.Machine

/-- A rectangle of pixels (R525, R526). -/
structure Rect where
  x : Nat := 0
  y : Nat := 0
  w : Nat := 0
  h : Nat := 0
  deriving DecidableEq, Repr

/-- A frame memory word (R531), but for REGION and ACTIVE, which the active regions give. -/
structure Pixel where
  /-- R531; 4 bits: current grey -/
  cur : Nat := 0
  /-- R531; 4 bits: target grey -/
  tgt : Nat := 0
  /-- R531; 12 bits signed: ledger -/
  led : Int := 0
  deriving DecidableEq, Repr

/-- Whose update it is (R527, R532). -/
inductive UpdSrc where
  /-- a PANEL_UPDATE: command and session -/
  | host (cmd session : Nat)
  /-- a tile slot (R535) -/
  | tile (slot : Nat)
  /-- R529 -/
  | balance
  /-- R533: recovery of the region of this number -/
  | recovery (n : Nat)
  deriving DecidableEq, Repr

/-- A queued update (R526, R527). -/
structure Update where
  rect : Rect
  /-- R520 -/
  mode : Nat
  src : UpdSrc
  /-- R526; ns: latest start of a host update -/
  limit : Option Nat
  deriving DecidableEq, Repr

/-- A region: an active update, or what the panel journal holds of one that was interrupted (R527, R532). -/
structure Region where
  rect : Rect
  mode : Nat
  src : UpdSrc
  /-- R524: latched band -/
  band : Nat
  /-- R524: nearest band in use -/
  forced : Bool
  /-- R522: slot of the set used -/
  set : Nat
  /-- R532; ns -/
  start : Nat
  /-- R530: frames of the balancing and clearing stages, 0 but for CLEAR, and of the drawing stage -/
  n1 : Nat
  n2 : Nat
  n3 : Nat
  /-- R530: mode of the drawing stage -/
  draw : Nat
  /-- R527; frames driven -/
  frame : Nat
  /-- R532: J -/
  j : Nat
  /-- R527: running; else only a descriptor -/
  live : Bool
  /-- R532 -/
  parked : Bool
  /-- R531: stops at its next frame batch -/
  stop : Bool
  deriving DecidableEq, Repr

/-- A tile slot with images (R534, R535), class P. -/
structure Tile where
  rect : Rect
  /-- R534: the four images, in state order -/
  images : List Byte
  /-- R198: state last handed over -/
  want : Nat
  /-- R528: state last drawn -/
  drawn : Option Nat
  /-- R535: a hand-off waits for the end of the tile's running update -/
  waits : Bool
  deriving DecidableEq, Repr

/-- The Panel Controller (R511 to R538). -/
structure Panel where
  /-- R538; 12 bits; class P -/
  width : Nat := 0
  /-- R538; 11 bits; class P -/
  height : Nat := 0
  /-- R538; 10 bits; class P -/
  lineClk : Nat := 300
  /-- R538; 10 bits; class P: 0.1 s -/
  railHold : Nat := 20
  /-- R538; 15 bits; class P -/
  order : Nat := 0x408B
  /-- R538; 7 bits; class P: 0.1 ms -/
  dly : Nat := 10
  /-- R538; 9 bits; class P: 10 mV -/
  vcom : Nat := 150
  /-- R538; 1 bit; class V -/
  railsUp : Bool := false
  /-- R518, R538; 1 bit; class V: since the fault until a rail-up succeeds -/
  railFault : Bool := false
  /-- R538; 5 × 16 bits signed; class V: mV -/
  railMv : List Int := [0, 0, 0, 0, 0]
  /-- R516; ns: instant the last update ended, or the rails came up -/
  idleAt : Nat := 0
  /-- R514; ns: start of the last frame -/
  frameAt : Option Nat := none
  /-- R538; 16 bits signed; class V: 0.1 °C -/
  temp : Int := 0
  /-- R523; ns: last reading -/
  tempAt : Option Nat := none
  /-- R523; class V: sensor fault since -/
  sensorFault : Option Nat := none
  /-- R524; 1 bit; class V -/
  tempOut : Bool := false
  /-- R538; 1 bit each: class V, J, V -/
  bandForced : Bool := false
  uncertain : Bool := false
  crcErr : Bool := false
  /-- R522; class P: the two set slots, and the active one -/
  set0 : Option (List Byte) := none
  set1 : Option (List Byte) := none
  active : Nat := 0
  /-- R522: WAVEFORM_LOAD that waits for a held slot: command, session, set -/
  loading : Option (Nat × Nat × List Byte) := none
  /-- R531; class V: frame memory -/
  frame : List (Nat × Pixel) := []
  /-- R532; class J: IMAGE, TARGET and LEDGER planes -/
  image : List (Nat × Nat) := []
  target : List (Nat × Nat) := []
  ledger : List (Nat × Int) := []
  /-- R526; class V: queued updates, oldest first -/
  queue : List Update := []
  /-- R532; class J: 32 regions by number -/
  regions : List (Nat × Region) := []
  /-- R534; 512 slots -/
  tiles : List (Nat × Option Tile) := []
  deriving DecidableEq, Repr

end Sys2Proof.Machine
end

