-- ==== Sys2Proof/Machine/RtcState.lean ====
section
/-! DEFINITION. The state of the real-time clock (chapter "Real-Time Clock and Calendar"), class B but where said. -/

namespace Sys2Proof.Machine

/-- Calendar fields (R493); WDAY follows from the date. -/
structure Cal7 where
  /-- years since 2000 -/
  year : Nat := 0
  month : Nat := 1
  day : Nat := 1
  hour : Nat := 0
  min : Nat := 0
  sec : Nat := 0
  deriving DecidableEq, Repr

/-- One of the two alarms (R505, R510): value and mask words. -/
structure RtcAlarm where
  value : Word := 0
  mask : Word := 0
  deriving DecidableEq, Repr

/-- The real-time clock (R493 to R510). -/
structure Rtc where
  /-- R493: the calendar -/
  cal : Cal7 := {}
  /-- R493: SUBSEC at the last instant from which it counts, and that Node Time in ns -/
  sub0 : Nat := 0
  subAt : Nat := 0
  /-- R506; ns: Node Time of the last second boundary -/
  secAt : Nat := 0
  /-- R496; 1 bit; class V: halted since, with SUBSEC frozen -/
  halted : Option (Nat × Nat) := none
  /-- R496: staged fields -/
  staged : Cal7 := {}
  /-- R510; 32 bits -/
  haltElapsed : Nat := 0
  /-- R510; 1 bit -/
  discEn : Bool := true
  /-- R510; 1 bit -/
  xtal2En : Bool := false
  /-- R504; ns: check of the primary crystal since; 1 bit: it passed -/
  retryAt : Option Nat := none
  retryOk : Bool := false
  /-- R510; 1 bit each -/
  osf : Bool := true
  impDate : Bool := false
  hAbort : Bool := false
  wErr : Bool := false
  centuryWrap : Bool := false
  alm0F : Bool := false
  alm1F : Bool := false
  /-- R510; 2 bits -/
  src : Nat := 0
  /-- R510; 3 bits -/
  wErrCause : Nat := 0
  /-- R500: staged shift: COUNT, SUB, and the CLOCK_SHIFT that waits -/
  shift : Option (Nat × Bool × Option Nat) := none
  /-- R506: shift of a discipline window, in ticks, positive advances -/
  phase : Int := 0
  /-- R506: the calendar is loaded from Node Time at the next boundary -/
  step : Bool := false
  /-- R495; class V: snapshot: calendar, SUBSEC, Node Time -/
  snap : Cal7 := {}
  snapSub : Nat := 0
  snapNt : Nat := 0
  /-- R510; 16 bits signed: 0.1 °C -/
  temp : Int := 0
  /-- R501; 8 bits signed -/
  trim : Int := 0
  /-- R506; 8 bits signed: steps -/
  disc : Int := 0
  /-- R501: second boundaries in the window, windows since, and the e of its boundaries: sum and count -/
  windowSecs : Nat := 0
  windows : Nat := 0
  eSum : Int := 0
  eCount : Nat := 0
  /-- R507: the window contains a leap -/
  leapSeen : Bool := false
  /-- R503; class P with a copy: points (0.1 °C, 0.01 ppm); none: the factory curve -/
  curve : Option (List (Int × Int)) := none
  /-- R510; two alarms -/
  alm0 : RtcAlarm := {}
  alm1 : RtcAlarm := {}
  /-- R510: pending leap: year, month, DELTA 1 or 2 -/
  leap : Option (Nat × Nat × Nat) := none
  /-- R510; 16 × 32 bits -/
  scratch : List (Nat × Word) := []
  /-- R504, R505, R507: records latched while the core is off: TYPE, index, PAYLOAD -/
  latched : List (Nat × Nat × List Byte) := []
  deriving DecidableEq, Repr

end Sys2Proof.Machine
end

