-- ==== Sys2Proof/Machine/State.lean ====
section
/-! DEFINITION. The state of the node: the parts of every chapter, the queue of commands that wait, and the two reasons for which a
step could stop. Each part's own file gives, for each field, its rule, its width and its survival class (R9). -/

namespace Sys2Proof.Machine

/-- Reasons for which a step stops with a fault. There are none: every access and every command of the spec has an effect, if
only BAD_ACCESS (R249) or a failure status (R298), so no command faults. -/
inductive Fault where
  deriving DecidableEq, Repr

/-- Reasons for which a step refuses a command. -/
inductive Refusal where
  /-- A command without a meaning, by its mnemonic; no arm of `exec` answers it. Safe: the machine stops. -/
  | notModelled (mnemonic : String)
  deriving DecidableEq, Repr

/-- The inactive configuration copy (R558): the parts of each chapter's state that commands of right C configure. -/
structure ConfigCopy where
  ana : Analog
  dig : Digital
  alm : AlarmEngine
  prg : Program
  rng : RingState
  pnl : Panel
  /-- R394, R403, R397, R399 -/
  start : BitVec 12
  role : Role
  forceField : Bool
  trims : List (Nat × (Word × Word))
  /-- R474, R481: quotas, MIRROR_MAX, and the mirror's TO, FROM, MIN_SEV, RATE -/
  quota : List Nat
  mirror : Nat × Nat × Nat × Nat × Nat
  /-- R418: parts in service and spare -/
  slices : List (Nat × Option Part)
  cells : List (Nat × Option Part)
  deriving DecidableEq, Repr

/-- The state of the node. -/
structure State where
  /-- commands that wait, first in first out: the model's own -/
  pending : List Instr := []
  /-- R13, R377; 64 bits; class V: Node Time in ns -/
  now : Nat := 0
  /-- number of free values used so far: the model's own -/
  fresh : Nat := 0
  /-- R239 to R272: host port -/
  host : HostPort := {}
  /-- R208, R272: 256 flows by number -/
  flows : List (Nat × Flow) := []
  /-- R273 to R302: command processor, session rings and sessions -/
  cp : CmdProc := {}
  /-- R469 to R492: recorder -/
  rcd : Recorder := {}
  /-- R34 to R138: analogue islands -/
  ana : Analog := {}
  /-- R139 to R165: digital islands -/
  dig : Digital := {}
  /-- R166 to R205: Alarm Engine -/
  alm : AlarmEngine := {}
  /-- R303 to R351: program -/
  prg : Program := {}
  /-- R352 to R388: ring and Time Unit -/
  rng : RingState := {}
  /-- R418 to R442: spare pools -/
  spr : Spares := {}
  /-- R389 to R417: modes, lifecycle and debug -/
  mod : Modes := {}
  /-- R443 to R468: supplies, power states and restart -/
  pwr : Power := {}
  /-- R539 to R573: management subsystem -/
  mss : Mss := {}
  /-- R548 to R555: Security Unit -/
  sec : Security := {}
  /-- R511 to R538: door panel -/
  pnl : Panel := {}
  /-- R493 to R510: real-time clock -/
  rtc : Rtc := {}
  /-- R558: the inactive configuration copy -/
  other : Option ConfigCopy := none
  deriving DecidableEq, Repr

/-- The node at its first power-up, its reset asserted (R456 cause 14, R462, R463): every field at the reset value of its register
table, and no command waiting. -/
def State.reset : State := {}

end Sys2Proof.Machine
end

