-- ==== Sys2Proof/Machine/Ops.lean ====
section
/-! DEFINITION. The shared operations: keyed tables, little-endian bytes, CRC-32C, event records, acceptance of items
on flows (R209, R220, R229), the offer of records to the recorder (R471 to R480), replies (R285) and the
host port's interrupt bits (R269). -/

namespace Sys2Proof.Machine

/-! ### Keyed tables: keys rise strictly and no listed entry is the default one. -/

/-- The entry of key `k`, the default where none is listed. -/
def tget (d : α) (t : List (Nat × α)) (k : Nat) : α :=
  match t with
  | [] => d
  | (j, v) :: r => if j = k then v else tget d r k

/-- `t` without key `k`. -/
def tdel (t : List (Nat × α)) (k : Nat) : List (Nat × α) :=
  match t with
  | [] => []
  | (j, v) :: r => if j = k then tdel r k else (j, v) :: tdel r k

/-- `t` with `v` at `k`, keys kept rising. -/
def tput (t : List (Nat × α)) (k : Nat) (v : α) : List (Nat × α) :=
  match t with
  | [] => [(k, v)]
  | (j, w) :: r => if k < j then (k, v) :: (j, w) :: r else if k = j then (k, v) :: r else (j, w) :: tput r k v

/-- `t` with `v` at `k`; the default value is not listed. -/
def tset [DecidableEq α] (d : α) (t : List (Nat × α)) (k : Nat) (v : α) : List (Nat × α) :=
  if v = d then tdel t k else tput t k v

/-- The canonical form of a keyed table. -/
def twf [DecidableEq α] (d : α) (t : List (Nat × α)) : Bool :=
  t.all (fun e => decide (e.2 ≠ d)) && decide ((t.map Prod.fst).Pairwise (· < ·))

/-! ### Lists in rising order of a key; entries of one key keep their order. -/

def insertBy (key : α → Nat) (x : α) : List α → List α
  | [] => [x]
  | y :: r => if key x ≤ key y then x :: y :: r else y :: insertBy key x r

def sortBy (key : α → Nat) (l : List α) : List α := l.foldr (insertBy key) []

/-! ### Bytes -/

/-- Byte `i` of a packet or record; bytes past the end read 0. -/
def byteAt (l : List Byte) (i : Nat) : Nat := (l.getD i 0).toNat

/-- The little-endian unsigned value of `n` bytes from byte `i` (R7). -/
def leAt (l : List Byte) (i : Nat) : Nat → Nat
  | 0 => 0
  | n + 1 => byteAt l i + 256 * leAt l (i + 1) n

/-- `n` little-endian bytes of a value (R7), its low `8 n` bits. -/
def le : Nat → Nat → List Byte
  | 0, _ => []
  | n + 1, v => BitVec.ofNat 8 v :: le n (v / 256)

/-- A status bit at place `k`. -/
def bit (b : Bool) (k : Nat) : Nat := if b then 2 ^ k else 0

/-- Two's complement reading of an `n`-byte field. -/
def leInt (l : List Byte) (i n : Nat) : Int :=
  let v := leAt l i n
  if v < 2 ^ (8 * n - 1) then v else (v : Int) - 2 ^ (8 * n)

/-- `n` zero bytes. -/
def zeros (n : Nat) : List Byte := List.replicate n 0

/-- Exactly `n` bytes: cut or filled with 0. -/
def fitBytes (n : Nat) (l : List Byte) : List Byte := l.take n ++ zeros (n - l.length)

/-- One byte step of the CRC-32C of R290 and R487 (Castagnoli polynomial, reflected). -/
def crcStep (c : BitVec 32) (b : Byte) : BitVec 32 :=
  let c := c ^^^ b.setWidth 32
  let f := fun (c : BitVec 32) => if c.getLsbD 0 then (c >>> 1) ^^^ 0x82F63B78#32 else c >>> 1
  f (f (f (f (f (f (f (f c)))))))

/-- CRC-32C of a byte string. -/
def crc32c (l : List Byte) : Nat := (l.foldl crcStep 0xFFFFFFFF#32 ^^^ 0xFFFFFFFF#32).toNat

end Sys2Proof.Machine

namespace Sys2Proof

/-- Inline parameters by their byte number in the header (32 to 63). -/
def Cmd.u8 (c : Cmd) (i : Nat) : Nat := Machine.byteAt c.inl (i - 32)
/-- 16-bit inline parameter. -/
def Cmd.u16 (c : Cmd) (i : Nat) : Nat := Machine.leAt c.inl (i - 32) 2
/-- 32-bit inline parameter. -/
def Cmd.u32 (c : Cmd) (i : Nat) : Nat := Machine.leAt c.inl (i - 32) 4
/-- 64-bit inline parameter. -/
def Cmd.u64 (c : Cmd) (i : Nat) : Nat := Machine.leAt c.inl (i - 32) 8
/-- 32-bit inline parameter as a word. -/
def Cmd.w32 (c : Cmd) (i : Nat) : Word := BitVec.ofNat 32 (Machine.leAt c.inl (i - 32) 4)

/-- Step 1 of R599 for the inline parameters: every byte outside the named fields (first byte, length) is 0. -/
def Cmd.restZero (c : Cmd) (named : List (Nat × Nat)) : Bool :=
  (List.range 32).all fun k =>
    Machine.byteAt c.inl k == 0 || named.any fun f => decide (f.1 ≤ k + 32) && decide (k + 32 < f.1 + f.2)

/-- Step 1 of R599 for the extended parameters: every byte from `n` on is 0. -/
def Cmd.extZero (c : Cmd) (n : Nat) : Bool := (c.ext.drop n).all (· == 0)

end Sys2Proof

namespace Sys2Proof.Machine

/-! ### Time and free values -/

/-- Node Time moves on by `dt` ns (R13). -/
def State.advance (s : State) (dt : Nat) : State := { s with now := s.now + dt }

/-- A value the spec leaves open: an unconstrained value of Config, fresh at each use. -/
def State.free (s : State) : Nat × State := (Config.freeNat s.fresh, { s with fresh := s.fresh + 1 })

/-! ### Modes and identity -/

/-- Mode bits of R389. -/
inductive ModeBit where
  | acq | alm | ctl | drv | ring | panel | recd | sim | cal | serv | lean | wave
  deriving DecidableEq, Repr

/-- Bit number of a mode (R389). -/
def ModeBit.idx : ModeBit → Nat
  | .acq => 0 | .alm => 1 | .ctl => 2 | .drv => 3 | .ring => 4 | .panel => 5
  | .recd => 6 | .sim => 7 | .cal => 8 | .serv => 9 | .lean => 10 | .wave => 11

/-- MOD_WORD: the commanded word with every forced bit cleared (R389). -/
def State.modeWord (s : State) : BitVec 12 := s.mod.cmd &&& ~~~s.mod.forced

/-- One bit of the effective word. -/
def State.mode (s : State) (m : ModeBit) : Bool := (s.modeWord).getLsbD m.idx

/-- Ring number in SOURCE: 0 on a STANDALONE node (R251). -/
def State.nodeNo (s : State) : Nat := if s.mod.role = .standalone then 0 else s.rng.node

/-! ### Flows -/

def State.flow (s : State) (f : Nat) : Flow := tget {} s.flows f

def State.setFlow (s : State) (f : Nat) (x : Flow) : State := { s with flows := tset {} s.flows f x }

/-- Deadline of a class in ns (R206). -/
def classDeadline : Nat → Nat
  | 0 => 250000 | 1 => 2000000 | 2 => 20000000 | _ => 200000000

/-- Rate and burst charged to a flow, the refusal allowance of REPLIES included (R214). -/
def Flow.chargedRate (x : Flow) : Nat := if x.replies then x.rate + 1000 else x.rate
def Flow.chargedBurst (x : Flow) : Nat := if x.replies then x.burst + 1 else x.burst

/-- Journal slots of a record flow under test 4 of R215, whole slots, at its admitted class (R224). -/
def Flow.share (x : Flow) : Nat := x.chargedBurst + x.chargedRate * classDeadline x.admitted / 1000000000

/-- The bucket at Node Time `now` (R220), in 1e-9 tokens. -/
def Flow.level (x : Flow) (now : Nat) : Nat := min (1000000000 * x.burst) (x.tokens + x.rate * (now - x.tokenAt))

/-- The refusal allowance at `now` (R221), in 1e-9 tokens: 1,000 tokens/s, bucket of one. -/
def Flow.allowLevel (x : Flow) (now : Nat) : Nat := min 1000000000 (x.allowance + 1000 * (now - x.allowanceAt))

/-- The bucket holds a token (R220). -/
def Flow.hasToken (x : Flow) (now : Nat) : Bool := !decide (x.level now < 1000000000)

/-- Free entries of the queue (R227, R253). -/
def Flow.freeEntries (x : Flow) : Nat := 2 ^ x.qlog2 - (x.tail + 2 ^ 32 - x.head) % 2 ^ 32

/-- Backlog slots of an item (R229). -/
def bodySlots : Body → Nat
  | .record _ => 1
  | .block b => (64 + 4 * b.words.length + 63) / 64

/-- Backlog slots in use, by all flows that satisfy `p`. -/
def State.backlogSlots (s : State) (p : Nat → Flow → Bool) : Nat :=
  (s.flows.map fun e =>
    if p e.1 e.2 then ((e.2.items.filter (·.backlog)).map (bodySlots ·.body)).foldl (· + ·) 0 else 0).foldl (· + ·) 0

/-- Room in the backlog for one more item of flow `f` (R229): 256 slots kept for F0, 16,384 at most for streams. -/
def State.backlogRoom (s : State) (f : Nat) (x : Flow) (n : Nat) : Bool :=
  let all := s.backlogSlots fun _ _ => true
  let f0 := s.backlogSlots fun k _ => k == 0
  decide (all + n ≤ 65536) &&
  if f = 0 then true
  else decide (all - f0 + n ≤ 65536 - 256) &&
    (!x.stream || decide (s.backlogSlots (fun _ y => y.stream) + n ≤ 16384))

/-- Items of flows that still wait rather than go out (R229, R232). -/
def Flow.waits (x : Flow) : Bool := x.state = .stalled || x.state = .held

/-- Flow `f` takes no item of this kind now: it is CLOSED, suspended or closing (R223, R234), or in HOLDOVER the item is
neither a system record nor a reply (R450). -/
def State.flowBars (s : State) (f : Nat) (b : Body) : Bool :=
  let x := s.flow f
  x.state = .closed || x.suspended || x.closing.isSome || (s.pwr.state = .holdover && match b with
    | .record r => decide (2 ≤ r.typ / 256)
    | .block _ => true)

/-- Flow `f` is stalled and the backlog has no room for an item (R229). -/
def State.backlogFull (s : State) (f : Nat) (b : Body) : Bool :=
  (s.flow f).state = .stalled && !s.backlogRoom f (s.flow f) (bodySlots b)

/-- An item of decision instant `td` enters the store of flow `f` with the next SEQ (R206, R209, R229, R231), or is not
accepted: the flow takes none now, or it is stalled and the backlog is full (R229). Answers the SEQ it got. -/
def takeItem (td f : Nat) (b : Body) (s : State) : Option Nat × State :=
  let x := s.flow f
  if s.flowBars f b then (none, s)
  else if s.backlogFull f b then (none, s.setFlow f { x with stallLost := x.stallLost + 1 })
  else
    let inJournal := !x.stream && (!x.waits || decide ((x.items.filter (·.journaled)).length < x.share))
    let it : Item :=
      { seq := x.seq, body := b
        deadline := td + classDeadline x.cls + (if x.lateReset then x.lateExt else 0)
        journaled := inJournal, backlog := x.state = .stalled
        late := x.lateReset && x.state ≠ .held, stage := .queued, entry := none }
    (some x.seq, s.setFlow f { x with
      seq := (x.seq + 1) % 2 ^ 32
      waited := if x.state = .stalled then x.waited + 1 else x.waited
      items := x.items ++ [it] })

/-- An item of decision instant `td` is offered to flow `f` against its token bucket (R220). -/
def acceptAt (td f : Nat) (b : Body) (s : State) : Option Nat × State :=
  let x := s.flow f
  if !x.hasToken s.now then (none, s)
  else
    let (q, s') := takeItem td f b s
    match q with
    | none => (none, s')
    | some q =>
      let y := s'.flow f
      (some q, s'.setFlow f { y with tokens := x.level s.now - 1000000000, tokenAt := s.now })

/-- An item decided now is offered to flow `f` (R206, R220). -/
def acceptRaw (f : Nat) (b : Body) (s : State) : Option Nat × State := acceptAt s.now f b s

/-- An item that flow `f` does not accept now would be counted: it finds no token, or no room in the backlog (R220, R229). -/
def State.countsLoss (s : State) (f : Nat) (b : Body) : Bool :=
  !s.flowBars f b && (!(s.flow f).hasToken s.now || s.backlogFull f b)

/-! ### Records -/

/-- The 64 bytes of a record (R251) as flow `f` carries it with SEQ `seq`. -/
def Rec.bytes (r : Rec) (f seq : Nat) (late phase : Bool) : List Byte :=
  le 2 r.typ ++ le 1 f ++
  le 1 ((if late then 1 else 0) + (if r.mirrored then 2 else 0) + (if r.cont then 4 else 0) +
    (if phase then 128 else 0)) ++
  le 4 seq ++ le 8 r.time ++ le 2 r.index ++ le 1 r.subsys ++ le 1 r.node ++ le 4 r.code ++ fitBytes 40 r.payload

/-- LEN of a stored record (R469). -/
def Stored.len (t : Stored) : Nat := 16 + t.body.length

/-- Place of a number in a sequence that wraps at 2^32, as RSEQ and HSEQ do (R470, R542): smaller is older, every number held lying
within 2^31 of `base`. -/
def seqKey (base x : Nat) : Nat := (x + 2 ^ 31 + 2 ^ 32 - base) % 2 ^ 32

/-- What stays known of a record that was overwritten or displaced (R490). -/
def Stored.lost (t : Stored) : Gone := { mirrored := t.mirrored, sev := t.sev, rseq := t.rseq, time := t.time }

def usedBytes (l : List Stored) : Nat := (l.map Stored.len).foldl (· + ·) 0

def bump (l : List Nat) (k : Nat) : List Nat := l.set k ((l.getD k 0 + 1) % 2 ^ 32)

/-- The oldest record of severity `sev` leaves a list. -/
def dropFirstSev (sev : Nat) : List Stored → List Stored
  | [] => []
  | t :: r => if t.sev = sev then r else t :: dropFirstSev sev r

/-- What became of an offered record. -/
inductive Placed where
  | kept | refused | overflowBegun
  deriving DecidableEq, Repr

/-- One record is placed in the staging ring, held in the overflow area, or refused (R476, R479, R480).
Ring room: 512 KiB, of which 128 KiB are kept for ALARM and EMERGENCY. -/
def placeRecord (t : Stored) (r : Recorder) : Placed × Recorder :=
  if !r.restored then (.kept, { r with waiting := r.waiting ++ [t] })
  else
    let used := usedBytes r.staging
    let put := { r with staging := r.staging ++ [{ t with rseq := r.next }], next := (r.next + 1) % 2 ^ 32 }
    if t.sev < 3 then
      if r.overflow.isEmpty && decide (used + t.len ≤ 524288 - 131072) then (.kept, put)
      else (.refused, { r with refused := true, sevRefused := bump r.sevRefused t.sev
                               refSince := bump r.refSince t.sev })
    else if r.overflow.isEmpty && decide (used + t.len ≤ 524288) then (.kept, put)
    else
      let t := { t with rseq := r.next }
      let r := { r with next := (r.next + 1) % 2 ^ 32 }
      if usedBytes r.overflow + t.len ≤ 16777216 then
        (if r.overflow.isEmpty then .overflowBegun else .kept, { r with overflow := r.overflow ++ [t] })
      else
        let v := if r.overflow.any (·.sev = 3) then 3 else 4
        (.kept, { r with overflow := dropFirstSev v r.overflow ++ [t], displaced := r.displaced + 1
                         sevOver := bump r.sevOver v
                         gone := r.gone ++ ((r.overflow.filter (·.sev = v)).take 1).map Stored.lost })

/-- An event record as the recorder keeps it (R470): as flow `f` took it but for PHASE 0, SEQ all ones when no flow took it. -/
def storedOf (sev : Nat) (r : Rec) (f : Nat) (seq : Option Nat) (late : Bool) : Stored :=
  { sev := sev, mirrored := false, fmt := 0, rseq := 0, time := r.time
    body := r.bytes f (seq.getD 0xFFFFFFFF) late false }

/-- LATE_RESET of the item that flow `f` holds under a SEQ (R232, R470). -/
def State.lateOf (s : State) (f : Nat) (seq : Option Nat) : Bool :=
  match seq with
  | none => false
  | some q => (s.flow f).items.any fun i => i.seq = q && i.late

/-- A record is offered to the recorder (R471): not while REC is 0 below ALARM. -/
def offerRaw (sev : Nat) (r : Rec) (f : Nat) (seq : Option Nat) (s : State) : Placed × State :=
  if !s.mode .recd && decide (sev < 3) then (.kept, s)
  else
    let (p, rc) := placeRecord (storedOf sev r f seq (s.lateOf f seq)) s.rcd
    (p, { s with rcd := rc })

/-- A system record of this node with its instant (R14, R251). -/
def State.mkRec (s : State) (typ index code : Nat) (payload : List Byte) : Rec :=
  { typ := typ, time := s.now, node := s.nodeNo, subsys := typ / 256, index := index, code := code, payload := payload }

/-- One more item of a flow that found no token or room (R220, R229). -/
def Flow.counted (x : Flow) (time : Nat) : Flow :=
  { x with lost := (x.lost + 1) % 2 ^ 32, overCount := x.overCount + 1
           overFirst := if x.overCount = 0 then time else x.overFirst }

/-- A record goes to F0 and to the recorder; its own refusal is counted with no further record: used for the records that
report refusals (R220, R476, R480). -/
def emitPlain (sev : Nat) (r : Rec) (s : State) : Option Nat × State :=
  let tooFast := s.countsLoss 0 (.record r)
  let (q, s) := acceptRaw 0 (.record r) s
  let s := if tooFast then s.setFlow 0 ((s.flow 0).counted r.time) else s
  let (_, s) := offerRaw sev r 0 q s
  (q, s)

/-- Interval test: never, or at least `gap` ns ago. -/
def dueAfter (last : Option Nat) (gap now : Nat) : Bool :=
  match last with | none => true | some t => decide (t + gap ≤ now)

/-- An item of flow `f` found no token or room: it is counted, and record 0x0026 goes to F0 at most once per 10 ms
(R220). -/
def countOverRate (f : Nat) (time : Nat) (s : State) : State :=
  let x := (s.flow f).counted time
  let s := s.setFlow f x
  if dueAfter x.overAt 10000000 s.now then
    let (q, s) := emitPlain 0 (s.mkRec 0x0026 f 0 (le 4 x.overCount ++ le 8 x.overFirst)) s
    match q with
    | some _ => s.setFlow f { s.flow f with overCount := 0, overAt := some s.now }
    | none => s.setFlow f { s.flow f with overAt := some s.now }
  else s

/-- The consequences of an offer: record 0x0701 of a refusal at most once per second per severity (R476), 0x0705 when
overflow begins (R480). -/
def afterOffer (sev : Nat) (p : Placed) (s : State) : State :=
  match p with
  | .kept => s
  | .refused =>
    if dueAfter (s.rcd.refAt.getD sev none) 1000000000 s.now then
      let n := s.rcd.refSince.getD sev 0
      let s := { s with rcd := { s.rcd with refAt := s.rcd.refAt.set sev (some s.now)
                                            refSince := s.rcd.refSince.set sev 0 } }
      (emitPlain 2 (s.mkRec 0x0701 sev 0 (le 4 n)) s).2
    else s
  | .overflowBegun =>
    if dueAfter s.rcd.ovfAt 1000000000 s.now then
      let s := { s with rcd := { s.rcd with ovfAt := some s.now } }
      (emitPlain 0 (s.mkRec 0x0705 0 0 (le 4 1 ++ le 4 s.rcd.overflow.length ++ le 4 s.rcd.displaced)) s).2
    else s

/-- An item of decision instant `td` and TIME `time` is offered to flow `f`; one that finds no token or room is counted (R206,
R220, R229). -/
def offerItem (td f : Nat) (b : Body) (time : Nat) (s : State) : Option Nat × State :=
  let tooFast := s.countsLoss f b
  let (q, s) := acceptAt td f b s
  (q, if tooFast then countOverRate f time s else s)

/-- A record of severity `sev` is handed to flow `f` and offered to the recorder whether the flow took it or not
(R220, R471). -/
def emit (sev f : Nat) (r : Rec) (s : State) : State :=
  let (q, s) := offerItem s.now f (.record r) r.time s
  let (p, s) := offerRaw sev r f q s
  afterOffer sev p s

/-- A system record on F0 at the severity its chapter gives (R472: INFO where none). -/
def noteSev (sev typ index code : Nat) (payload : List Byte) (s : State) : State :=
  emit sev 0 (s.mkRec typ index code payload) s

/-- A system record on F0 decided from a sample of instant `t`, which is its TIME (R14). -/
def noteOf (t typ index : Nat) (payload : List Byte) (s : State) : State :=
  emit 0 0 { s.mkRec typ index 0 payload with time := t } s

/-- A system record on F0, stored at INFO (R472). -/
def note (typ index : Nat) (payload : List Byte) (s : State) : State := noteSev 0 typ index 0 payload s

/-! ### The host port's bus and interrupts -/

/-- One more operation on the PCI Express link. -/
def State.busOp (s : State) (b : BusOp) : State := { s with host := { s.host with bus := s.host.bus ++ [b] } }

/-- Effective width of a trained link (R242): 0 below 1. -/
def effWidth (speed width : Nat) : Nat :=
  match speed, width with
  | 3, 4 => 4
  | 3, 2 => 2
  | 2, 4 => 2
  | 3, 1 => 1
  | 2, 2 => 1
  | 1, 4 => 1
  | _, _ => 0

def State.eff (s : State) : Nat := effWidth s.host.speed s.host.width

/-- Function `pf` can issue requests now (R242, R244, R268). -/
def State.canIssue (s : State) (pf : Nat) : Bool :=
  decide (1 ≤ s.eff) && s.host.bme.getLsbD pf && !s.host.d3hot.getLsbD pf && !s.host.dead.getLsbD pf

/-- Vector `v` of function `pf` is raised (R256, R269): sent when the host has unmasked it, else pending. -/
def raiseVector (pf v : Nat) (s : State) : State :=
  if tget false s.host.unmasked (1024 * pf + v) && s.canIssue pf then s.busOp (.msix pf v)
  else { s with host := { s.host with pba := tset false s.host.pba (1024 * pf + v) true } }

/-- A cause bit of GLB_IRQ_STATUS becomes set (R269, R271). -/
def setIrq (b : Nat) (s : State) : State :=
  if s.host.irq.getLsbD b then s
  else
    let s := { s with host := { s.host with irq := s.host.irq ||| BitVec.ofNat 7 (2 ^ b) } }
    if s.host.irqMask.getLsbD b then raiseVector 0 256 s else s

/-- A bit of GLB_ERR becomes set (R271). -/
def setErr (b : Nat) (s : State) : State :=
  { s with host := { s.host with err := s.host.err ||| BitVec.ofNat 6 (2 ^ b) } }

/-- A refused access sets BAD_ACCESS in GLB_ERR and GLB_IRQ_STATUS (R249, R261). -/
def badAccess (s : State) : State := setIrq 6 (setErr 0 s)

/-- Accesses of the host reach the registers of function `pf`: Memory Space Enable is set (R244). -/
def State.reaches (s : State) (pf : Nat) : Bool := s.host.mse.getLsbD pf

/-- A register read returns `v` to the host. -/
def State.reads (s : State) (v : Nat) : State := { s with host := { s.host with readValue := v } }

/-! ### Command replies -/

/-- What a command's meaning answers. -/
inductive Rep where
  /-- final status and PAYLOAD (R285, R295) -/
  | final (status : Nat) (payload : List Byte)
  /-- ACCEPTED: goes on as a job with this progress data (R286) -/
  | job (work : List Nat)
  /-- still in execution, with this progress data; another step completes it -/
  | wait (work : List Nat)
  /-- its replies have been handed over already -/
  | done
  deriving DecidableEq, Repr

/-- Status codes of R295. -/
def stOk : Nat := 0x0000
def stAccepted : Nat := 0x0001
def stAdmission : Nat := 0x0100
def stBadOpcode : Nat := 0x0101
def stBadParam : Nat := 0x0102
def stModeConflict : Nat := 0x0103
def stNotAuthorised : Nat := 0x0104
def stLifecycle : Nat := 0x0105
def stDuplicate : Nat := 0x0106
def stBusyServ : Nat := 0x0107
def stFailedRemote : Nat := 0x0200
def stFailedHardware : Nat := 0x0201
def stResetIntervened : Nat := 0x0202
def stDeadline : Nat := 0x0203

def Rep.ok (payload : List Byte) : Rep := .final stOk payload
def Rep.bad (detail : Nat) : Rep := .final stBadParam (le 2 detail)
def Rep.conflict (detail : Nat) : Rep := .final stModeConflict (le 2 detail)
def Rep.unauth (detail : Nat) : Rep := .final stNotAuthorised (le 2 detail)
/-- BUSY_SERV with the remaining time in ms in bytes 2 to 5 (R295). -/
def Rep.busy (ms : Nat) : Rep := .final stBusyServ (le 2 0 ++ le 4 ms)
/-- FAILED_HARDWARE with detail and EFFECT (R295). -/
def Rep.hw (detail effect : Nat) : Rep := .final stFailedHardware (le 2 detail ++ le 1 effect)

/-- The status reply record of R285; it is not offered to the recorder (R471). -/
def replyRec (s : State) (c : Cmd) (opHigh code : Nat) (payload : List Byte) : Rec :=
  { typ := 0x0101, time := c.cookie, node := s.nodeNo, subsys := opHigh, index := c.session, code := code
    payload := payload }

/-- The node writes bytes of the answer of command `id` to host memory through PF0, at once or when PF0 can issue requests again
(R242, R244, R490); its reply, with this PAYLOAD, follows their delivery (R210, R300). -/
def answerThrough (id addr : Nat) (l payload : List Byte) (s : State) : Rep × State :=
  let go := s.canIssue 0
  let a : HostAnswer := { cmd := id, addr := addr, bytes := l, payload := payload, stage := if go then .written else .queued }
  let s := { s with host := { s.host with answers := s.host.answers ++ [a] } }
  (.wait [], if go then s.busOp (.write 0 addr l) else s)

/-- A status reply is handed to its flow (R285, R220). -/
def sendReply (c : Cmd) (opHigh code : Nat) (payload : List Byte) (s : State) : State :=
  (offerItem s.now c.replyFlow (.record (replyRec s c opHigh code payload)) s.now s).2

/-! ### Analogue channels: access and sample periods -/

def State.chan (s : State) (g : Nat) : Chan := tget {} s.ana.chans g
def State.setChan (s : State) (g : Nat) (x : Chan) : State :=
  { s with ana := { s.ana with chans := tset {} s.ana.chans g x } }
def State.out (s : State) (g : Nat) : Output := tget {} s.ana.outs g
def State.setOut (s : State) (g : Nat) (x : Output) : State :=
  { s with ana := { s.ana with outs := tset {} s.ana.outs g x } }
def State.aisl (s : State) (i : Nat) : AIsland := tget {} s.ana.isls i
def State.setAisl (s : State) (i : Nat) (x : AIsland) : State :=
  { s with ana := { s.ana with isls := tset {} s.ana.isls i x } }

/-- Precision rates of R51 as fractions of 1 S/s: (numerator, denominator). -/
def precRate : Nat → Nat × Nat
  | 0 => (5, 2) | 1 => (5, 1) | 2 => (10, 1) | 3 => (50, 1) | 4 => (60, 1) | 5 => (100, 1)
  | 6 => (400, 1) | 7 => (1200, 1) | 8 => (2400, 1) | _ => (4800, 1)

/-- Rate of a channel's precision samples; outputs give readback at 1,200 S/s (R117). -/
def Chan.rate (x : Chan) : Nat × Nat :=
  if x.cfg.kind = 8 then (1200, 1) else if x.cfg.pulsed then precRate x.cfg.prate else precRate x.cfg.prec

/-- Sample period in ns, rounded up. -/
def State.samplePeriod (s : State) (g : Nat) : Nat :=
  let r := (s.chan g).rate
  (1000000000 * r.2 + r.1 - 1) / r.1

end Sys2Proof.Machine
end

