-- ==== Sys2Proof/Machine/PointDesc.lean ====
section
/-! DEFINITION. The fields of the alarm point descriptor (R167) and the state a point shows (R182). -/

namespace Sys2Proof.Machine

def Point.b (x : Point) (i : Nat) : Nat := byteAt x.desc i
def Point.srcKind (x : Point) : Nat := x.b 0
/-- COND (R171): 0 LIMIT, 1 RATE, 2 DEVIATION, 3 DIGITAL, 4 QUALITY, 5 FAULT, 6 DISCREP. -/
def Point.ctype (x : Point) : Nat := x.b 1
def Point.level (x : Point) : Nat := x.b 9 % 4
def Point.dir (x : Point) : Nat := x.b 9 / 4 % 4
def Point.digState (x : Point) : Bool := (x.b 9).testBit 4
def Point.vote (x : Point) : Nat := x.b 10
def Point.category (x : Point) : Nat := x.b 11
def Point.group (x : Point) : Nat := x.b 12
def Point.chain (x : Point) : Nat := x.b 13
def Point.flow (x : Point) : Nat := x.b 14
def Point.common (x : Point) : Bool := (x.b 15).testBit 0
def Point.foExcl (x : Point) : Bool := (x.b 15).testBit 1
def Point.supWhen0 (x : Point) : Bool := (x.b 15).testBit 2
def Point.w (x : Point) (i : Nat) : Word := BitVec.ofNat 32 (leAt x.desc i 4)
def Point.lim (x : Point) : Word := x.w 16
def Point.hys (x : Point) : Word := x.w 20
def Point.arg (x : Point) : Word := x.w 24
/-- Delays in ns (10 ms units). -/
def Point.onDly (x : Point) : Nat := 10000000 * leAt x.desc 28 4
def Point.offDly (x : Point) : Nat := 10000000 * leAt x.desc 32 4
def Point.staleTo (x : Point) : Nat := 10000000 * leAt x.desc 36 4
/-- The delay a run is judged against and the stale timeout: a change applies from the next usable sample (R178). -/
def Point.delay (x : Point) : Nat :=
  match x.before with
  | some d => if x.cond then d.2.1 else d.1
  | none => if x.cond then x.offDly else x.onDly
def Point.timeout (x : Point) : Nat := match x.before with | some d => d.2.2 | none => x.staleTo
def Point.supRelease (x : Point) : Nat := 10000000 * leAt x.desc 44 4
def Point.qmask (x : Point) : Nat := leAt x.desc 48 2
def Point.shelveMax (x : Point) : Nat := leAt x.desc 52 4

/-- Sources as (kind, node, index): A, B and the suppression source. -/
def Point.srcA (x : Point) : Nat × Nat × Nat := (x.b 0, x.b 4, leAt x.desc 2 2)
def Point.srcB (x : Point) : Nat × Nat × Nat := (x.b 5, x.b 8, leAt x.desc 6 2)
def Point.srcS (x : Point) : Nat × Nat × Nat := (x.b 40, x.b 41, leAt x.desc 42 2)

/-- Not OUT_OF_SERVICE (R166, R190). -/
def Point.inService (x : Point) : Bool := x.srcKind ≠ 0 && !x.oosCmd

/-- A suppression cause holds (R187, R188). -/
def Point.suppressed (x : Point) : Bool := x.supCond || !x.calib.isEmpty

/-- STATE (R182, R205): 0 N, 1 AU, 2 AA, 3 RU, 4 AS, 5 SH, 6 SU, 7 OS. -/
def Point.state (x : Point) : Nat :=
  if !x.inService then 7 else if x.suppressed then 6 else if x.shelf.isSome then 5 else x.seq

def State.point (s : State) (p : Nat) : Point := tget {} s.alm.points p
def State.setPoint (s : State) (p : Nat) (x : Point) : State :=
  { s with alm := { s.alm with points := tset {} s.alm.points p x } }
def State.group (s : State) (g : Nat) : Group := tget {} s.alm.groups g
def State.setGroup (s : State) (g : Nat) (x : Group) : State :=
  { s with alm := { s.alm with groups := tset {} s.alm.groups g x } }
def State.chain (s : State) (n : Nat) : Chain := tget {} s.alm.chains n
def State.setChain (s : State) (n : Nat) (x : Chain) : State :=
  { s with alm := { s.alm with chains := tset {} s.alm.chains n x } }

/-- A sample of a source of this node goes to the Alarm Engine where a point or a derived slot names the source, and to the
peers that subscribe to it (R172, R187, R201, R378). -/
def State.feeds (s : State) (k : Nat × Nat × Nat) : Bool :=
  (s.alm.points.any fun e => e.2.srcA == k || (e.2.b 5 != 0 && e.2.srcB == k) || (e.2.b 40 != 0 && e.2.srcS == k)) ||
  s.alm.derived.any fun e => match e.2 with | some d => d.operands.contains k | none => false

/-- Samples of one source that the program still needs: those after the last boundary of the grid, and the newest one at or
before it (R325). -/
def keepInputs (now period : Nat) (l : List Sample) : List Sample :=
  let b := if period = 0 then now else now / period * period
  ((l.filter fun m => decide (m.time ≤ b)).getLast?).toList ++ l.filter fun m => decide (b < m.time)

/-- Usable: INVALID, UNSETTLED and BLANKED all 0 (R105). -/
def Sample.usable (m : Sample) : Bool := m.sqw &&& 0x8003 = 0

/-- A sample reaches the program's input image (R104, R325). -/
def toProgram (m : Sample) (s : State) : State :=
  { s with prg := { s.prg with
    inputs := tput s.prg.inputs m.src (keepInputs s.now s.prg.period (tget [] s.prg.inputs m.src ++ [m]))
    usable := if m.usable then tput s.prg.usable m.src m.time else s.prg.usable } }

def publish (kind : Nat) (m : Sample) (s : State) : State :=
  let s := if s.feeds (kind, 0, m.src) then { s with alm := { s.alm with inbox := s.alm.inbox ++ [(kind, 0, m)] } } else s
  if tget 0 s.rng.published (65536 * kind + m.src) ≠ 0 then
    { s with rng := { s.rng with outbox := s.rng.outbox ++ [(kind, m.src, m)] } } else s

end Sys2Proof.Machine
end

