-- ==== Sys2Proof/Machine/Reply.lean ====
section
/-! DEFINITION. Commands between acceptance and their final reply: sessions, rings, the duplicate window (R290, R291),
the command journal (R288), refusal replies (R221) and completion (R284 to R286). -/

namespace Sys2Proof.Machine

def State.session (s : State) (n : Nat) : Session := tget {} s.cp.ses n

def State.setSession (s : State) (n : Nat) (x : Session) : State :=
  { s with cp := { s.cp with ses := tset {} s.cp.ses n x } }

def State.ring (s : State) (n : Nat) : SesRing := tget {} s.cp.rings n

def State.setRing (s : State) (n : Nat) (x : SesRing) : State :=
  { s with cp := { s.cp with rings := tset {} s.cp.rings n x } }

/-- Session `n` is open (R279): in SEALED only session 0 and those opened by SESSION_OPEN. -/
def State.sessionOpen (s : State) (n : Nat) : Bool :=
  match s.mod.life with
  | .sealed => n == 0 || (s.session n).opened
  | _ => true

/-- Rights of a session, bit 0 O, 1 C, 2 S, 3 K (R279, R300). -/
def State.sessionRights (s : State) (n : Nat) : BitVec 4 :=
  match s.mod.life with
  | .opened | .commission => 15
  | .sealed => if n = 0 then 0 else if (s.session n).opened then (s.session n).rights else 0
  | .retired => 0

/-- The command with fetch order `id`. -/
def State.cmd (s : State) (id : Nat) : Option CmdEntry := s.cp.exec.find? (·.id == id)

def State.setCmd (s : State) (e : CmdEntry) : State :=
  { s with cp := { s.cp with exec := s.cp.exec.map fun x => if x.id = e.id then e else x } }

def State.dropCmd (s : State) (id : Nat) : State :=
  { s with cp := { s.cp with exec := s.cp.exec.filter fun x => x.id ≠ id } }

/-- A command counts against the execution limits until its ACCEPTED (R219, R286); that of a forwarded job is noted in its work
(R293). -/
def CmdEntry.counts (e : CmdEntry) : Bool := e.phase ≠ .job && !(e.phase = .forwarded && e.work = [1])

/-- Commands of session `n` in execution (R219). -/
def State.inExec (s : State) (n : Nat) : Nat :=
  (s.cp.exec.filter fun e => e.c.session == n && e.fromMaster.isNone && e.counts).length

/-- Channel named by an island in byte 32 and a channel in byte 33. -/
def chanOf (c : Cmd) : Nat := c.u8 32 * 8 + c.u8 33

/-- One sample period T in ns of the channel a command names, here or at the peer it is forwarded to (R293, R299). -/
def State.cmdPeriod (s : State) (c : Cmd) : Nat :=
  if c.target = 0 then s.samplePeriod (chanOf c) else (1000000000 / Config.peerRate c.target 1 (chanOf c)).ceil.toNat

/-- Completion bound B of a command in ns (R299): P is the program period, T the sample period of the channel. -/
def cmdBound (op : Opc) (c : Cmd) (s : State) : Nat :=
  let r := opRow op
  r.bound + r.periods * s.prg.period + (if r.sample then s.cmdPeriod c else 0)

/-- The object of a command (R283): the group and the index its first index parameter names, none for the whole
group. -/
def objectOf (op : Opc) (c : Cmd) : Nat × Option Nat :=
  let g := (opRow op).num / 256
  match op with
  | .channelConfigure | .channelRead | .conditionConfigure | .outputConfigure | .outputWrite
  | .outputParallel | .outputFaultClear | .channelSimulate | .channelCalibrate => (2, some (chanOf c))
  | .blankConfigure | .crosspointTest | .outputHoldSet => (2, some (1000 + c.u8 32))
  | .tableLoad | .tableRead => (2, some (2000 + c.u8 32))
  | .pinConfigure | .pinRead | .pinSimulate => (3, some (c.u8 32 * 16 + c.u8 33))
  | .digitalWrite | .digitalFaultClear | .counterReset | .digitalHoldSet | .groupConfigure =>
    (3, some (1000 + c.u8 32))
  | .pointConfigure | .pointRead | .alarmShelve | .pointService => (4, some (c.u16 34))
  | .alarmAck | .alarmSilence => (4, some (100000 * (1 + c.u8 32) + c.u16 34))
  | .alarmGroupConfigure | .firstoutReset => (4, some (20000 + c.u8 33))
  | .chainConfigure => (4, some (30000 + c.u8 33))
  | .callConfigure => (4, some (if c.u8 33 = 0x80 then 59999 else 50000 + c.u8 33))
  | .dutySet => (4, some 59999)
  | .tileBind => (4, some (60000 + c.u16 34))
  | .derivedConfigure => (4, some (70000 + c.u8 33))
  | .programLoad | .programStart => (5, some (c.u8 32))
  | .setConfigure => (5, some (1000 + c.u8 33))
  | .pairConfigure => (6, some (c.u8 32))
  | .ringKeySet => (6, some (1000 + c.u8 32))
  | .ringStatus => (6, some (2000 + c.u8 32))
  | .spareStatus | .spareSwap | .sparePolicy | .wearRead => (7, some (256 * c.u8 32 + c.u8 33))
  | .spareApprove => (7, some (100000 + c.u16 32))
  | .journalRead => (8, some (c.u8 32))
  | .tileImageLoad => (9, some (1000 + c.u16 32))
  | .clockAlarmSet => (10, some (c.u8 32))
  | .packageStage => (11, some (c.u8 32))
  | .sensorRead => (11, some (1000 + c.u8 32))
  | .sessionOpen | .sessionClose | .sessionRead => (13, some (c.u8 32))
  | .flowOpen | .flowClose | .flowRead | .streamOpen | .streamClose => (13, some (1000 + c.u8 32))
  | _ => (g, none)

/-- Two commands name the same object (R283): an opcode without an index names its whole group. -/
def sameObject (a b : CmdEntry) : Bool :=
  let x := objectOf a.op a.c
  let y := objectOf b.op b.c
  x.1 == y.1 && (x.2.isNone || y.2.isNone || x.2 == y.2)

/-- Header and extended parameters as bytes: what the digest of R290 and the tag of R277 cover. -/
def packetBytes (opcode : Nat) (c : Cmd) : List Byte :=
  le 2 opcode ++ le 2 ((if c.auth then 1 else 0) + 2 * c.flagsRsv + 1024 * c.target) ++ le 4 c.token ++
  le 2 c.session ++ le 1 c.replyFlow ++ le 1 c.cls ++ le 4 c.paramLen ++ le 8 c.cookie ++ le 8 c.notBefore ++
  fitBytes 32 c.inl ++ fitBytes c.paramLen c.ext

/-- A refusal reply is charged to the refusal allowance of its flow, or counted and reported in record 0x0028 at most
once per 10 ms (R221). -/
def sendRefusal (flow : Nat) (c : Cmd) (opHigh code : Nat) (payload : List Byte) (s : State) : State :=
  let x := s.flow flow
  if x.allowLevel s.now < 1000000000 then
    let x := { x with refCount := x.refCount + 1, refTotal := x.refTotal + 1 }
    let s := s.setFlow flow x
    if dueAfter x.refAt 10000000 s.now then
      let s := s.setFlow flow { x with refCount := 0, refAt := some s.now }
      note 0x0028 flow (le 1 c.session ++ zeros 3 ++ le 4 x.refCount) s
    else s
  else
    let s := s.setFlow flow { x with allowance := x.allowLevel s.now - 1000000000, allowanceAt := s.now }
    let b : Body := .record (replyRec s c opHigh code payload)
    let full := !s.flowBars flow b && s.backlogFull flow b
    let s := (takeItem s.now flow b s).2
    if full then countOverRate flow s.now s else s

/-- Duplicate window entry of a session that belongs to command `id` takes its final status (R290). -/
def settleWindow (id st : Nat) (payload : List Byte) (keep : Nat) (w : List DupEntry) : List DupEntry :=
  w.map fun d => if d.cmd = id && d.status.isNone then
    { d with status := some st, payload := payload, keep := keep, job := false, owed := [] } else d

/-- Duplicate replies owed for command `id` (R291). -/
def owedReplies (id : Nat) (w : List DupEntry) : List (Nat × Nat) :=
  (w.filter fun d => d.cmd = id && d.status.isNone).flatMap (·.owed)

/-- The final status reply of a command: handed to REPLY_FLOW, or to the master that forwarded the command; the
duplicate window takes it; its journal entry is freed (R284, R285, R288, R290). -/
def completeCmd (id st : Nat) (payload : List Byte) (s : State) : State :=
  match s.cmd id with
  | none => s
  | some e =>
    let hi := (opRow e.op).num / 256
    match e.fromMaster with
    | some _ =>
      let keep := max (s.now + 10000000000) (e.start + cmdBound e.op e.c s + 10000000000)
      let late := (owedReplies id (s.cp.fwdWindow.map Prod.snd)).map fun _ => (id, stDuplicate + 65536 * st, payload)
      let s := { s with cp := { s.cp with
        answers := s.cp.answers ++ (id, st, payload) :: late
        fwdWindow := s.cp.fwdWindow.map fun (d : Nat × DupEntry) => (d.1, (settleWindow id st payload keep [d.2]).headD d.2) } }
      s.dropCmd id
    | none =>
      let ses := s.session e.c.session
      let owed := owedReplies id ses.window
      let keep := max (s.now + 10000000000) (e.start + cmdBound e.op e.c s + 10000000000)
      let s := sendReply e.c hi st payload s
      let s := s.setSession e.c.session
        { s.session e.c.session with window := settleWindow id st payload keep (s.session e.c.session).window }
      let s := owed.foldl (fun s o =>
        sendReply { e.c with replyFlow := o.1, cookie := o.2 } hi (stDuplicate + 65536 * st) payload s) s
      s.dropCmd id

/-- The ACCEPTED reply of a job (R286). -/
def acceptJob (e : CmdEntry) (work : List Nat) (s : State) : State :=
  let s := s.setCmd { e with phase := .job, work := work, mark := 1, jobEnd := e.start + (opRow e.op).job }
  if e.fromMaster.isSome then
    { s with cp := { s.cp with
      answers := s.cp.answers ++ [(e.id, stAccepted, [])]
      fwdWindow := s.cp.fwdWindow.map fun (d : Nat × DupEntry) => (d.1, if d.2.cmd = e.id then { d.2 with job := true } else d.2) } }
  else
  let s := sendReply e.c ((opRow e.op).num / 256) stAccepted [] s
  s.setSession e.c.session { s.session e.c.session with
    window := (s.session e.c.session).window.map fun d => if d.cmd = e.id then { d with job := true } else d }

/-- The answer of a command's meaning is carried out (R284 to R286). -/
def finish (e : CmdEntry) (r : Rep) (s : State) : State :=
  match r with
  | .final st payload => completeCmd e.id st payload s
  | .job work => acceptJob e work s
  | .wait work => s.setCmd { e with phase := .running, work := work, mark := 1 }
  | .done => s

/-- A job ends with its second status reply (R286). -/
def endJob (id st : Nat) (payload : List Byte) (s : State) : State := completeCmd id st payload s

/-- Jobs running (R286). -/
def State.jobs (s : State) : List CmdEntry := s.cp.exec.filter (·.phase = .job)

/-- Start order of two commands on one object (R283). -/
def startsBefore (a b : CmdEntry) : Bool := decide (a.start < b.start) || (a.start == b.start && decide (a.id < b.id))

/-- An earlier command on the same object has not completed (R45, R283). -/
def State.blocked (s : State) (e : CmdEntry) : Bool :=
  s.cp.exec.any fun f => f.id ≠ e.id && (f.phase = .waiting || f.phase = .running) && sameObject f e && startsBefore f e

/-- A command that a packet names starts here and now: it is entered as accepted and started, its meaning runs, and its
reply follows (R283, R285, R599); while an earlier command on the same object is in execution it waits for its COMMAND_START
(R45, R283). This is what each command row of the operation table does. -/
def runHere (op : Opc) (dt : Nat) (c : Cmd) (env : Env)
    (f : CmdEntry → Env → State → Rep × State) (s : State) : Host.Outcome State Fault Refusal :=
  let s := s.advance dt
  let e : CmdEntry :=
    { id := s.cp.nextId, op := op, c := c, cls := if c.cls = 255 then (opRow op).cls else c.cls
      fetched := s.now, start := max s.now c.notBefore, mark := 1, phase := .running, jobEnd := 0
      fromMaster := none, work := [] }
  let enter := fun (e : CmdEntry) => { s with cp := { s.cp with nextId := s.cp.nextId + 1, exec := s.cp.exec ++ [e] } }
  if s.blocked e then .next (enter { e with phase := .waiting, mark := 0 })
  else
    let (r, s) := f e env (enter e)
    .next (finish e r s)

end Sys2Proof.Machine
end

