-- ==== Sys2Proof/Machine/Parts.lean ====
section
/-! DEFINITION. Spare pools as the islands see them: roles, pool states (R437), wear levels and proposals (R422, R423), swap
records (R441). -/

namespace Sys2Proof.Machine

/-- State of slice `p` or cell `k` at delivery (R418, R442): the last ones of the pool are spares. -/
def freshSlice (p : Nat) : Part := { role := if p < 8 then 0 else 1, ch := if p < 8 then p else 0 }

def State.slice (s : State) (isl p : Nat) : Part := (tget none s.spr.slices (isl * 16 + p)).getD (freshSlice p)
def State.cell (s : State) (isl k : Nat) : Part := (tget none s.spr.cells (isl * 16 + k)).getD (freshSlice k)

def State.setSlice (s : State) (isl p : Nat) (x : Part) : State :=
  { s with spr := { s.spr with
    slices := tset none s.spr.slices (isl * 16 + p) (if x = freshSlice p then none else some x) } }
def State.setCell (s : State) (isl k : Nat) (x : Part) : State :=
  { s with spr := { s.spr with
    cells := tset none s.spr.cells (isl * 16 + k) (if x = freshSlice k then none else some x) } }

/-- A slice (pool 0) or a source cell (pool 1). -/
def State.part (s : State) (pool isl n : Nat) : Part := if pool = 0 then s.slice isl n else s.cell isl n
def State.setPart (s : State) (pool isl n : Nat) (x : Part) : State :=
  if pool = 0 then s.setSlice isl n x else s.setCell isl n x

def State.partRole (s : State) (pool isl n : Nat) : Nat := (s.part pool isl n).role
def State.setPartRole (s : State) (pool isl n role : Nat) : State :=
  s.setPart pool isl n { s.part pool isl n with role := role }

/-- Roles 5 and 6 are permanent; every other part works (R419). -/
def State.partOk (s : State) (pool isl n : Nat) : Bool := decide (s.partRole pool isl n < 5)

/-- Parts of a pool instance that are slices or cells (R418). -/
def poolParts (pool : Nat) : Nat := if pool = 0 then 10 else 9

/-- Part `n` goes into service for logical channel `c` (R419). -/
def State.putInService (s : State) (pool isl n c : Nat) : State :=
  s.setPart pool isl n { s.part pool isl n with role := 0, ch := c }

def State.lanes (s : State) (b : Nat) : Lanes := if b = 0 then s.spr.cp else if b = 1 then s.spr.ae else s.spr.be
def State.setLanes (s : State) (b : Nat) (x : Lanes) : State :=
  { s with spr := if b = 0 then { s.spr with cp := x } else if b = 1 then { s.spr with ae := x } else { s.spr with be := x } }

def State.disl (s : State) (d : Nat) : DIsland := tget {} s.dig.isls d
def State.setDisl (s : State) (d : Nat) (x : DIsland) : State :=
  { s with dig := { s.dig with isls := tset {} s.dig.isls d x } }
def State.pin (s : State) (g : Nat) : Pin := tget {} s.dig.pins g
def State.setPin (s : State) (g : Nat) (x : Pin) : State :=
  { s with dig := { s.dig with pins := tset {} s.dig.pins g x } }

/-- Island of a pin and its number there. -/
def pinIsl (g : Nat) : Nat := (g - 64) / 16
def pinNo (g : Nat) : Nat := (g - 64) % 16

/-- Mode of the quad a pin lies in (R153): 0 none, 1 pairs, 2 quad. -/
def State.gmode (s : State) (g : Nat) : Nat := (s.disl (pinIsl g)).gmode.getD (pinNo g / 4) 0

/-- Members of the pin's group, lowest first (R153, R154). -/
def State.groupOf (s : State) (g : Nat) : List Nat :=
  let base := g - pinNo g
  let p := pinNo g
  match s.gmode g with
  | 1 => [base + p / 2 * 2, base + p / 2 * 2 + 1]
  | 2 => (List.range 4).map fun k => base + p / 4 * 4 + k
  | _ => [g]

def State.groupBase (s : State) (g : Nat) : Nat := (s.groupOf g).headD g

/-- State the sources of R160 ask of a pin: those of its group's lowest pin (R154), LATCHED its own. -/
def State.pinSource (s : State) (g : Nat) : Bool :=
  let b := s.pin (s.groupBase g)
  if b.safeNow || b.held then b.kept else !(s.pin g).latched && b.cmd

/-- Working spares of a pool instance (R419, R437); pool 7 is the model's number for the NAND blocks (R485). -/
def State.workingSpares (s : State) (pool inst : Nat) : Nat :=
  match pool with
  | 0 | 1 => ((List.range (poolParts pool)).filter fun n =>
      let r := s.partRole pool inst n
      decide (1 ≤ r ∧ r ≤ 4)).length
  | 2 =>
    let x := s.disl inst
    let free := fun (drv : Bool) => !(x.railPin.isSome && x.railDrv == drv)
    (if x.sp0Ok && free false then 1 else 0) + (if x.sp1Ok && free true then 1 else 0)
  | 4 => ((s.lanes inst).roles.filter (· = 1)).length
  | 5 => s.spr.sparePages
  | 6 => ((s.spr.boost).filter fun r => decide (1 ≤ r ∧ r ≤ 4)).length
  | 7 => s.rcd.spares
  | _ => 0

/-- Spares at delivery (R418). -/
def deliveredSpares (pool : Nat) : Nat :=
  match pool with | 0 => 2 | 1 => 1 | 2 => 2 | 3 => 1 | 4 => 1 | 5 => 256 | 6 => 1 | 7 => 512 | _ => 0

/-- Supply phases that deliver on island `i`: 0 to 7 analogue, 8 to 13 digital (R418). -/
def State.supplyOf (s : State) (i : Nat) : BitVec 2 := if i < 8 then (tget {} s.ana.isls i).supply else (s.disl (i - 8)).supply

/-- Island `i` has its supply switched on. -/
def State.islandPowered (s : State) (i : Nat) : Bool := if i < 8 then (tget {} s.ana.isls i).powered else (s.disl (i - 8)).powered

/-- A part already promised to a swap. -/
def State.reserved (s : State) (pool isl n : Nat) : Bool :=
  s.spr.swaps.any fun w => w.pool == pool && w.isl == isl && w.spare == n

/-- State of a pool instance (R437): 0 FULL, 1 REDUCED, 2 LAST, 3 SHORT. -/
def State.poolNow (s : State) (pool inst : Nat) : Nat :=
  if tget false s.spr.short (256 * pool + inst) || (pool = 7 && decide (0 < s.rcd.segLost)) then 3
  else if pool = 3 then (if s.supplyOf inst = 3 || !s.islandPowered inst then 0 else if s.supplyOf inst = 0 then 3 else 2)
  else
    let n := s.workingSpares pool inst
    if deliveredSpares pool ≤ n then 0 else if n = 0 then 2 else 1

/-- SOURCE[15:0] of the spare records (R441). -/
def poolSource (pool inst : Nat) : Nat := 256 * pool + inst

/-- A change of pool state writes record 0x0604 (R437, R441). -/
def checkPool (pool inst : Nat) (s : State) : State :=
  let old := tget 0 s.spr.poolState (256 * pool + inst)
  let new := s.poolNow pool inst
  if old = new then s
  else
    let s := { s with spr := { s.spr with poolState := tset 0 s.spr.poolState (256 * pool + inst) new } }
    note 0x0604 (poolSource pool inst) (le 1 new ++ le 1 old ++ le 1 (min 255 (s.workingSpares pool inst))) s

def setShort (pool inst : Nat) (b : Bool) (s : State) : State :=
  { s with spr := { s.spr with short := tset false s.spr.short (256 * pool + inst) b } }

/-- Level of a wear index (R420, R422). -/
def wearLevelOf (index : Nat) : Nat := if 100 ≤ index then 2 else if 50 ≤ index then 1 else 0

/-- Record 0x0605 (R422, R441). -/
def wearRecord (pool inst part index level : Nat) (metric : Word) (s : State) : State :=
  note 0x0605 (poolSource pool inst) (le 1 part ++ le 1 index ++ le 1 level ++ zeros 1 ++ le 4 metric.toNat) s

/-- A proposal of R423, valid for 24 h: record 0x0601. -/
def propose (pool isl part idx : Nat) (s : State) : State :=
  if s.spr.proposals.any fun p => p.pool == pool && p.isl == isl && p.part == part then s
  else
    let n := s.spr.nextProposal
    let p : Proposal := ⟨n, pool, isl, part, idx, s.now + 86400000000000⟩
    let s := { s with spr := { s.spr with proposals := s.spr.proposals ++ [p], nextProposal := (n + 1) % 2 ^ 32 } }
    note 0x0601 (poolSource pool isl) (le 4 n ++ le 1 part ++ le 1 idx ++ zeros 2 ++ le 8 p.expiry) s

/-- Index of a pool among those with a policy (R423, R442). -/
def policyIdx (pool : Nat) : Nat := match pool with | 0 => 0 | 1 => 1 | 2 => 2 | _ => 3

/-- Policy in force (R423): in the Delegated profile AUTO acts as PROPOSE. -/
def State.policy (s : State) (pool : Nat) : Nat :=
  let p := s.spr.policies.getD (policyIdx pool) 1
  if s.mod.profile = 1 && p = 2 then 1 else p

/-- Slice swap in progress on a channel. -/
def State.sliceSwap (s : State) (g : Nat) : Option Swap :=
  s.spr.swaps.find? fun w => w.pool == 0 && w.isl == g / 8 && w.idx == g % 8

def State.cellSwap (s : State) (g : Nat) : Option Swap :=
  s.spr.swaps.find? fun w => w.pool == 1 && w.isl == g / 8 && w.idx == g % 8

/-- Record 0x0602 (R441). -/
def swapStarted (w : Swap) (s : State) : State :=
  note 0x0602 (poolSource w.pool w.isl) (le 1 w.worn ++ le 1 w.spare ++ le 1 w.method ++ le 1 w.cause ++ le 1 w.idx) s

/-- Record 0x0603 (R441). -/
def swapEnded (w : Swap) (result newRole detail : Nat) (s : State) : State :=
  note 0x0603 (poolSource w.pool w.isl) (le 1 w.worn ++ le 1 w.spare ++ le 1 result ++ le 1 newRole ++ le 2 detail ++
    le 2 w.pairs ++ le 8 (if result = 0 then s.now else 0)) s

/-- Status of a planned swap that aborts (R395, R436). -/
def stGlideAborted : Nat := 0x0701
def stNoSpare : Nat := 0x0700

/-- Same swap: one part of one pool instance at a time. -/
def Swap.same (a b : Swap) : Bool := a.pool == b.pool && a.isl == b.isl && a.idx == b.idx && a.worn == b.worn

def State.dropSwap (s : State) (w : Swap) : State :=
  { s with spr := { s.spr with swaps := s.spr.swaps.filter fun x => !x.same w } }
def State.setSwap (s : State) (w : Swap) : State :=
  { s with spr := { s.spr with swaps := s.spr.swaps.map fun x => if x.same w then w else x } }

/-- A swap ends: its record, its job's final reply, the pool state (R440, R441). `newRole` is the worn part's role. -/
def endSwap (w : Swap) (newRole : Nat) (s : State) : State :=
  let s := s.dropSwap w
  let gone := fun (p : Proposal) => p.pool == w.pool && p.isl == w.isl && p.part == w.worn
  let s := { s with spr := { s.spr with proposals := s.spr.proposals.filter fun p => !gone p } }
  let s := swapEnded w 0 newRole 0 s
  let s := match w.cmd with
    | some id => endJob id stOk (le 1 w.worn ++ le 1 w.spare ++ le 1 w.method ++ zeros 1 ++ le 2 w.pairs ++ zeros 2 ++
        le 4 w.maxDev.toNat ++ le 8 s.now) s
    | none => s
  checkPool w.pool w.isl s

/-- A rail swap not handed over is undone (R157, R436): the worn driver, or the worn spare driver, keeps the pin. -/
def undoRail (w : Swap) (s : State) : State :=
  if w.pool ≠ 2 || w.phase ≠ 2 then s
  else if w.worn < 16 then
    let g := 64 + w.isl * 16 + w.idx
    (s.setDisl w.isl { s.disl w.isl with railPin := none }).setPin g { s.pin g with onSpare := false }
  else s.setDisl w.isl { s.disl w.isl with railDrv := w.worn = 17 }

/-- A planned swap ends with GLIDE_ABORTED (R425, R436); the worn part keeps its role, the spare takes `spareRole`. -/
def abortSwap (w : Swap) (detail spareRole : Nat) (s : State) : State :=
  let s := undoRail w (s.dropSwap w)
  let s := if w.pool ≤ 1 then s.setPartRole w.pool w.isl w.spare spareRole else s
  let s := swapEnded w 1 (if w.pool ≤ 1 then s.partRole w.pool w.isl w.worn else 0) detail s
  let s := match w.cmd with
    | some id => endJob id stGlideAborted (le 2 detail) s
    | none => s
  checkPool w.pool w.isl s

/-- The audit of an island, void once its spare no longer holds the audit role (R421). -/
def State.audit (s : State) (isl : Nat) : Option Audit :=
  match tget none s.spr.audits isl with
  | some a => if s.partRole 0 isl a.spare = 4 then some a else none
  | none => none

def State.setAudit (s : State) (isl : Nat) (a : Option Audit) : State :=
  { s with spr := { s.spr with audits := tset none s.spr.audits isl a } }

/-- An audit yields: its spare takes the spare role again (R421). -/
def endAudit (isl : Nat) (s : State) : State :=
  match s.audit isl with
  | some a => (s.setAudit isl none).setPartRole 0 isl a.spare 1
  | none => s.setAudit isl none

/-- The audit of channel `g`. -/
def State.auditOf (s : State) (g : Nat) : Option Audit :=
  match s.audit (g / 8) with
  | some a => if a.ch = g then some a else none
  | none => none

/-- Neither image slot of island `i` is compatible (R565): it drives its safe values. -/
def State.islandDead (s : State) (i : Nat) : Bool := (tget {} s.mss.islands i).dead

/-! ### The loaded program -/

/-- The image of a slot (R304). -/
def State.slotImage (s : State) (n : Nat) : Option Image := if n = 0 then s.prg.slot0 else s.prg.slot1

def State.progRunning (s : State) : Bool := s.prg.stateNum = 2

/-- The running image binds output `g` by AO_OUT, DO_OUT or ACCEPT (R308). -/
def Image.bindsOut (i : Image) (g : Nat) : Bool := i.binds.any fun b => (b.kind = 4 || b.kind = 5 || b.kind = 7) && b.index = g

def State.progBinds (s : State) (g : Nat) : Bool :=
  match s.slotImage s.prg.slot with | some i => i.bindsOut g | none => false

end Sys2Proof.Machine
end

