-- ==== Sys2Proof/Machine/Streams.lean ====
section
/-! DEFINITION. Waveform streams in core: words fill blocks (R264 to R267), blocks are offered to their flows (R206, R226, R229), a
stream is suspended or closed (R223, R265), and blocks are rebuilt after a reset (R233). -/

namespace Sys2Proof.Machine

/-- Waveform rates of R52, in S/s; 0 is off. -/
def waveRate : Nat → Nat
  | 1 => 8000 | 2 => 16000 | 3 => 32000 | 4 => 64000 | 5 => 128000 | 6 => 256000 | _ => 0

/-- Instants of the grid of a rate after `a` and before `b` (R53). -/
def missingInstants (rate a b : Nat) : List Nat :=
  let k0 := ((a + 1) * rate - 1) / 1000000000 + 1
  let k1 := ((b + 1) * rate - 1) / 1000000000
  (List.range (k1 - k0)).map fun i => 1000000000 * (k0 + i) / rate

/-- The word of an instant without a sample (R266, R267), laid beside the word that follows it. -/
def missingWord (blanked : Nat → Bool) (w : WaveWord) (t : Nat) : WaveWord :=
  { w with time := t, word := 0x80000000 ||| (if blanked t then 0x04000000 else 0) }

/-- Words a full block holds (R265). -/
def Flow.blockWords (x : Flow) : Nat := (x.size - 64) / 4

/-- One word enters the block being filled, or begins the next one when that block is full or its grid has ended (R264, R265). -/
def Flow.putWord (node : Nat) (joins : Bool) (x : Flow) (w : WaveWord) : Flow :=
  let x' := { x with wordIndex := x.wordIndex + 1, lastWord := some (w.time, w.rate) }
  let begin' : Flow := { x' with
    gapWords := 0
    filling := x.filling ++ [{ time := w.time, node := node, chan := w.chan, rate := w.rate, range := w.range, wordIndex := x.wordIndex
                               gapWords := x.gapWords, gap := decide (0 < x.gapWords), words := [w.word] }] }
  match x.filling.getLast? with
  | some b =>
    if joins && decide (b.words.length < x.blockWords) then
      { x' with filling := x.filling.dropLast ++ [{ b with words := b.words ++ [w.word] }] }
    else begin'
  | none => begin'

/-- `n` words of a stream are lost before its next word (R267). -/
def Flow.skipWords (x : Flow) (n : Nat) : Flow := { x with wordIndex := x.wordIndex + n, gapWords := x.gapWords + n }

/-- A word of a stream's channel reaches core: instants without a sample become MISSING words, or a gap when the stream was
suspended over them; a word of no later instant was taken before (R71, R223, R226, R267). -/
def Flow.takeWord (wave : Bool) (node : Nat) (blanked : Nat → Bool) (w : WaveWord) (x : Flow) : Flow :=
  let miss := match x.lastWord with
    | some (u, r) => if r = w.rate then missingInstants (waveRate r) u w.time else []
    | none => []
  let goesOn : Bool := match x.lastWord with | some (_, r) => r = w.rate | none => false
  if (match x.lastWord with | some (u, _) => decide (w.time ≤ u) | none => false) then x
  else if x.suspended || !wave then { x.skipWords (miss.length + 1) with lastWord := some (w.time, w.rate) }
  else if x.paused then ({ x.skipWords miss.length with paused := false }).putWord node false w
  else ((miss.map (missingWord blanked w)).foldl (Flow.putWord node goesOn) x).putWord node goesOn w

/-- A block of flow `f` is lost before acceptance: the next block carries the gap (R267). -/
def lostBlock (f : Nat) (b : Block) (s : State) : State :=
  let x := s.flow f
  let n := b.gapWords + b.words.length
  s.setFlow f (match x.filling with
    | c :: r => { x with filling := { c with gapWords := c.gapWords + n, gap := true } :: r }
    | [] => { x with gapWords := x.gapWords + n })

/-- A block whose last word is in core is offered to its flow; a refused one is reported as a gap in the next (R206, R229,
R267). -/
def offerBlock (td f : Nat) (b : Block) (s : State) : State :=
  let (q, s) := offerItem td f (.block b) b.time s
  if q.isSome then s else lostBlock f b s

/-- Every block in core of flow `f` is offered, the last one short: the stream is about to be closed or suspended (R265). -/
def endFilling (f : Nat) (s : State) : State :=
  let x := s.flow f
  x.filling.foldl (fun s b => offerBlock s.now f b s) (s.setFlow f { x with filling := [], paused := true })

/-- Stream `f` is suspended with record 0x0024: `why` is 0 for the link's width, 1 for the ring (R223, R225, R238). -/
def suspendStream (why f : Nat) (s : State) : State :=
  let s := endFilling f s
  note 0x0024 f (le 1 why) (s.setFlow f { s.flow f with suspended := true, suspRing := decide (why = 1) })

/-- The numbers of the open stream flows, rising. -/
def State.streams (s : State) : List Nat := (s.flows.filter fun e => e.2.state ≠ .closed && e.2.stream).map Prod.fst

/-- WAVE falls: every stream ends the block it was filling and accepts no more (R226, R265). -/
def wavesEnd (s : State) : State := s.streams.foldl (fun s f => endFilling f s) s

/-! ### Rebuilding after a reset (R233) -/

/-- An island's buffer still holds every word of a block (R70, R233); a MISSING word has none. -/
def AIsland.holds (i : AIsland) (b : Block) : Bool :=
  let mine := (i.waveOld ++ i.waves).filter fun w => w.chan = b.chan && decide (b.time ≤ w.time)
  let real := b.words.filter fun w => !w.getLsbD 31
  (mine.take real.length).map (·.word) == real && (match mine.head?, b.words.head? with
    | some w, some v => w.time = b.time || v.getLsbD 31
    | _, _ => real.isEmpty)

/-- The blocks that can be rebuilt keep their place; those that cannot become a gap of the next one. -/
def rebuild (held : Block → Bool) (gap : Nat) : List Item → List Item × Nat
  | [] => ([], gap)
  | i :: r => match i.body with
    | .record _ => rebuild held gap r
    | .block b =>
      if held b then
        let l := rebuild held 0 r
        ({ i with body := .block { b with gapWords := b.gapWords + gap, gap := b.gap || decide (0 < gap) } } :: l.1, l.2)
      else rebuild held (gap + b.gapWords + b.words.length) r

/-- The blocks of stream `f` that were accepted before the reset are rebuilt from the islands' buffers (R233). -/
def rebuildStream (f : Nat) (s : State) : State :=
  let x := s.flow f
  let own : Bool := x.node = 0 || x.node == s.rng.node
  let i : AIsland := tget {} s.ana.isls (x.chan / 8)
  let l := rebuild (fun b => own && i.linkUp && i.holds b) 0 x.rebuilt
  s.setFlow f { x with rebuilt := [], items := l.1 ++ x.items, gapWords := x.gapWords + l.2 }

end Sys2Proof.Machine
end

