-- ==== Sys2Proof/Machine/Analog.lean ====
section
/-! DEFINITION. Analogue islands: rates and grids (R51 to R54), connections and their rules (R35 to R45), CHANNEL_CONFIGURE
(R42, R74), clamps (R62 to R64), blanking (R65 to R69), references (R50), pulsed excitation (R56 to R58), the
ride-through buffer (R70, R71) and its delivery to the core. -/

namespace Sys2Proof.Machine

/-- Settling length of a precision setting (R51). -/
def settle (prec : Nat) : Nat :=
  if prec ≤ 1 then 4 else if prec ≤ 7 then 3 else if prec ≤ 9 then 2 else 1

/-- Time a waveform decimator needs to settle (R52): 40 words. -/
def waveSettle (wave : Nat) : Nat := if waveRate wave = 0 then 0 else 40 * 1000000000 / waveRate wave

/-- The last grid instant not after `now` (R53): `⌊k × 10^9 / f⌋`. -/
def gridFloor (r : Nat × Nat) (now : Nat) : Nat :=
  let k := ((now + 1) * r.1 - 1) / (1000000000 * r.2)
  1000000000 * k * r.2 / r.1

/-- How long ended disturbances are remembered, ns: longer than any filter window (R51, R52, R55). -/
def spanKept : Nat := 2000000000

/-- A disturbance from `a` to `b` has ended; those no window can reach any more are forgotten. -/
def keepSpan (now a b : Nat) (l : List (Nat × Nat)) : List (Nat × Nat) :=
  (a, b) :: l.filter fun e => decide (now < e.2 + spanKept)

/-- A disturbance overlaps the filter window after `w` up to `t` (R51, R64, R67). -/
def spansOverlap (l : List (Nat × Nat)) (w t : Nat) : Bool := l.any fun e => decide (e.1 ≤ t ∧ w < e.2)

/-- Conversion windows of R55 in ns. -/
def pulseWindow : Nat → Nat
  | 0 => 20000000 | 1 => 16667000 | 2 => 100000000 | _ => 1000000

def ChanCfg.settle (c : ChanCfg) : Nat := if c.pulsed then 1 else Machine.settle c.prec

/-- The conversion frame is whole within the sample period (R56). -/
def ChanCfg.pulseOk (c : ChanCfg) : Bool :=
  let p := let r := precRate c.prate; 1000000000 * r.2 / r.1
  let lead := 20000 * c.lead
  let w := pulseWindow c.pwin
  if c.kind = 4 then decide (lead + 2 * w + 1100000 ≤ p) else decide (lead + w + 1000000 ≤ p)

/-- Kind takes a source cell for excitation (R46, R61). -/
def ChanCfg.usesCell (c : ChanCfg) : Bool :=
  match c.kind with
  | 2 => c.emode = 3
  | 3 | 4 | 5 | 6 => true
  | _ => false

/-- A measurement kind: it holds a slice (R46, R114). -/
def ChanCfg.usesSlice (c : ChanCfg) : Bool := decide (1 ≤ c.kind ∧ c.kind ≤ 7)

/-- Switches of a kind (R46): terminal and internal node (R35), slice `p`, source cell `k`. -/
def ChanCfg.joins (c : ChanCfg) (p k : Nat) : List (Nat × Nat) :=
  let sp := 2 * p
  let sn := 2 * p + 1
  match c.kind with
  | 1 => (c.tp, sp) :: (if c.tn = 255 then [] else [(c.tn, sn)])
  | 2 => (c.tp, sp) :: (if c.emode = 3 then [(c.tx, 20 + k)] else [])
  | 3 => [(c.tx, 20 + k), (c.tx, sp), (c.tn, sn), (c.tn, 30)]
  | 4 => [(c.tx, 20 + k), (c.tp, sp), (c.tn, sn), (c.tn, 30)]
  | 5 => [(c.tx, 20 + k), (c.tp, sp), (c.tn, sn), (c.tr, 30)]
  | 6 => [(c.tx, 20 + k), (c.tp, sp), (c.tn, sn), (c.tr, 30)]
  | 7 => [(c.tp, sp), (c.tn, sn), (c.tr, 29)]
  | _ => []

/-- Switches of the second window of RES3: SsP on L1 and SsN on L2, L1 still on Xk and L3 on B1 (R59). -/
def ChanCfg.joins2 (c : ChanCfg) (p k : Nat) : List (Nat × Nat) :=
  if c.kind = 4 then [(c.tx, 20 + k), (c.tx, 2 * p), (c.tp, 2 * p + 1), (c.tn, 30)] else c.joins p k

/-- Every switch a configuration needs (R40, R59). -/
def ChanCfg.switches (c : ChanCfg) (p k : Nat) : List (Nat × Nat) := (c.joins p k ++ c.joins2 p k).eraseDups

/-- Terminals that the slice is joined to (R59, R64). -/
def Chan.sliceTerms (x : Chan) : List Nat :=
  ((x.conn.filter fun j => decide (j.2 < 20)).map (·.1) ++ (if x.cfg.kind = 4 then [x.cfg.tx] else [])).eraseDups

/-- The second window of a RES3 sample runs (R59). -/
def Chan.secondWindow (x : Chan) (now : Nat) : Bool :=
  x.cfg.kind = 4 &&
  match x.window with | some w => decide (w + pulseWindow x.cfg.pwin + 100000 ≤ now) | none => false

/-- Switches of a channel closed now. -/
def Chan.closed (x : Chan) (now : Nat) : List (Nat × Nat) :=
  if x.secondWindow now then x.cfg.joins2 (x.pslice.getD 40) (x.psource.getD 40) else x.conn

/-- Node places a configuration needs: RES3 joins its excitation lead to the slice in its second window (R59). -/
def ChanCfg.places (c : ChanCfg) (p k : Nat) : List (Nat × Nat) :=
  c.joins p k ++ (if c.kind = 4 then [(c.tx, 2 * p)] else [])

/-- Switches of an output (R113, R128). -/
def Output.joins (o : Output) : List (Nat × Nat) :=
  (match o.cellA with | some k => [(o.tp, 20 + k)] | none => []) ++
  (match o.cellB with | some k => if o.waiting then [] else [(o.tp, 20 + k)] | none => []) ++
  (if o.cellA.isSome || o.cellB.isSome then [(o.tn, 30)] else [])

/-- Distinct internal nodes of a terminal among some joins. -/
def nodesAt (l : List (Nat × Nat)) (t : Nat) : List Nat := ((l.filter fun e => e.1 = t).map (·.2)).eraseDups

/-- Slice inputs of a spare joined beside the slice of channel `h` (R98, R424). -/
def Chan.twinJoins (x : Chan) (p : Nat) : List (Nat × Nat) :=
  match x.pslice with
  | none => []
  | some q => x.conn.filterMap fun j =>
    if j.2 = 2 * q then some (j.1, 2 * p) else if j.2 = 2 * q + 1 then some (j.1, 2 * p + 1) else none

/-- Switches of the spare of a slice glide-over on channel `h` (R424). -/
def State.glideJoins (s : State) (h : Nat) : List (Nat × Nat) :=
  match s.sliceSwap h with
  | some w => if w.method = 0 && decide (1 ≤ w.phase) then (s.chan h).twinJoins w.spare else []
  | none => []

/-- Node places that channel `h` holds: those in force, those of a change that waits (R41), and those of a glide-over's spare.
Spares of range handoffs and audits are left out: they give way (R43, R421). -/
def State.nodePlaces (s : State) (h : Nat) : List (Nat × Nat) :=
  let x := s.chan h
  (if x.cfg.kind = 8 then (s.out h).joins else x.cfg.places (x.pslice.getD 40) (x.psource.getD 40)) ++
  (match x.change with | some c => c.cfg.places (c.slice.getD 40) (c.cell.getD 40) | none => []) ++ s.glideJoins h

/-- Node places held on an island by every channel but `g`. -/
def State.placesBut (s : State) (isl g : Nat) : List (Nat × Nat) :=
  (List.range 8).flatMap fun c => if isl * 8 + c = g then [] else s.nodePlaces (isl * 8 + c)

/-- Node places held on an island. -/
def State.placesOf (s : State) (isl : Nat) : List (Nat × Nat) := (List.range 8).flatMap fun c => s.nodePlaces (isl * 8 + c)

/-- Switches closed for spares of channel `h`: range handoff, glide-over, audit. -/
def State.spareJoins (s : State) (h : Nat) : List (Nat × Nat) :=
  let x := s.chan h
  let a := match x.spare with | some p => x.twinJoins p | none => []
  let d := match s.auditOf h with | some u => x.twinJoins u.spare | none => []
  a ++ s.glideJoins h ++ d

/-- A slice glide-over runs on the channel (R42, R436). -/
def State.glideOn (s : State) (g : Nat) : Bool :=
  match s.sliceSwap g with | some w => w.method = 0 | none => false

/-- Terminals of an island that belong to a glide-over in progress (R42). -/
def State.glideTerms (s : State) (isl : Nat) : List Nat :=
  (List.range 8).flatMap fun c =>
    let h := isl * 8 + c
    (if s.glideOn h then (s.chan h).conn.map (·.1) else []) ++
    (match s.cellSwap h with
     | some _ => (s.chan h).conn.map (·.1) ++ (s.out h).joins.map (·.1)
     | none => [])

/-- GLIDE_OK: every terminal joined to the channel's slice has a free node place (R98, R78). -/
def State.glideOk (s : State) (g : Nat) : Bool :=
  let x := s.chan g
  match x.pslice with
  | none => false
  | some p =>
    let all := s.placesOf (g / 8)
    let mine := (x.cfg.places p (x.psource.getD 40)).filter fun j => j.2 = 2 * p || j.2 = 2 * p + 1
    let need := mine.map (·.1)
    !need.isEmpty && need.eraseDups.all fun t =>
      decide ((nodesAt all t).length + (need.filter (· == t)).length ≤ 2)

/-- A clamp holds the switch open: a slice switch of its terminal that is not shorted (R40, R63). -/
def AIsland.clampOpens (x : AIsland) (j : Nat × Nat) : Bool :=
  decide (j.2 < 20) && (tget {} x.clamps j.1).opened && !tget false x.shorted (j.1 * 32 + j.2)

/-- Switches in service on an island: the channels', and those of spares in handoff, audit and glide-over. -/
def State.serviceSwitches (s : State) (isl : Nat) : List (Nat × Nat × Nat) :=
  (List.range 8).flatMap fun c =>
    let h := isl * 8 + c
    let x := s.chan h
    let base := if x.cfg.kind = 8 then (s.out h).joins else x.closed s.now
    (base ++ s.spareJoins h).map fun e => (e.1, e.2, h)

/-- Switches closed on an island now: those in service that no clamp holds open (R63). -/
def State.closedSwitches (s : State) (isl : Nat) : List (Nat × Nat × Nat) :=
  (s.serviceSwitches isl).filter fun j => !(s.aisl isl).clampOpens (j.1, j.2.1)

/-! ### Path tests (R40) -/

/-- Number of a switch path in Env.fails: terminal + 32 × node + 1024 × path, + 2048 when shorted. -/
def pathNo (t n path : Nat) (short : Bool) : Nat := t + 32 * n + 1024 * path + (if short then 2048 else 0)

/-- Record 0x0312 (R40, R600). -/
def pathRecord (isl t n path fault inService by' : Nat) (s : State) : State :=
  note 0x0312 (160 + isl) (le 1 t ++ le 1 n ++ le 1 (path + 1) ++ le 1 fault ++ le 1 inService ++ le 1 by') s

/-- A path of the switch is found shorted. -/
def shortedIn (fails : List Nat) (j : Nat × Nat) : Bool :=
  fails.contains (pathNo j.1 j.2 0 true) || fails.contains (pathNo j.1 j.2 1 true)

/-- The path test of one switch: its OK bits and a record for each failed path. `by'` is 1 for CROSSPOINT_TEST, `keep` is 1 for a
switch that is in service afterwards. -/
def testSwitch (isl by' keep : Nat) (fails : List Nat) (s : State) (e : Nat × Nat) : State :=
  let t := e.1
  let n := e.2
  let short := fun p => fails.contains (pathNo t n p true)
  let bad := fun p => fails.contains (pathNo t n p false) || short p
  let x := s.aisl isl
  let s := s.setAisl isl { x with
    paths := tset (false, false) x.paths (t * 32 + n) (!bad 0, !bad 1)
    shorted := if by' = 1 then tset false x.shorted (t * 32 + n) (short 0 || short 1) else x.shorted }
  [0, 1].foldl (fun s p => if bad p then pathRecord isl t n p (if short p then 1 else 0) keep by' s else s) s

/-- The switches of a configuration are tested before they enter service: whether one is shorted, which keeps them all out. -/
def testNew (isl : Nat) (fails : List Nat) (l : List (Nat × Nat)) (s : State) : Bool × State :=
  let bad := l.any (shortedIn fails)
  (bad, l.foldl (testSwitch isl 0 (if bad then 0 else 1) fails) s)

/-- Heavy load of a channel (R60, R61). -/
def ChanCfg.heavy (c : ChanCfg) : Bool :=
  c.usesCell && (c.emode = 3 || (c.emode = 2 && decide (20 < c.ilim)))

def State.chanHeavy (s : State) (h : Nat) : Bool :=
  let x := s.chan h
  if x.cfg.kind = 8 then (s.out h).okind = 1 else x.cfg.heavy

/-- The channel is a heavy load now or once its change takes effect (R41, R60, R102). -/
def State.willBeHeavy (s : State) (h : Nat) : Bool :=
  let x := s.chan h
  s.chanHeavy h || (match x.change with | some c => c.cfg.heavy | none => false) ||
  (match x.retune with | some r => r.cfg.heavy | none => false)

def State.heavyBut (s : State) (isl g : Nat) : Nat :=
  ((List.range 8).filter fun c => isl * 8 + c ≠ g && s.willBeHeavy (isl * 8 + c)).length

def State.heavyUsed (s : State) (isl : Nat) : Nat :=
  ((List.range 8).filter fun c => s.chanHeavy (isl * 8 + c)).length

/-- Slice and cell that a waiting change has claimed (R37, R41). -/
def Chan.claims (x : Chan) : Option Nat × Option Nat :=
  match x.change with | some c => (c.slice, c.cell) | none => (none, none)

/-- Slice `p` is held by a channel (R78), or claimed by its change. -/
def State.sliceHeld (s : State) (isl p : Nat) : Bool :=
  (List.range 8).any fun c =>
    let x := s.chan (isl * 8 + c)
    x.pslice == some p || x.claims.1 == some p

def State.cellHeld (s : State) (isl k : Nat) : Bool :=
  (List.range 8).any fun c =>
    let x := s.chan (isl * 8 + c)
    let o := s.out (isl * 8 + c)
    x.psource == some k || x.claims.2 == some k || o.cellA == some k || o.cellB == some k

def State.partHeld (s : State) (pool isl n : Nat) : Bool := if pool = 0 then s.sliceHeld isl n else s.cellHeld isl n

/-- The part of a pool that channel `c` of an island takes: the one the pool map gives it, else a spare (an audit yields,
R421), else one that no channel holds, else a spare pre-armed for a range handoff (R43); the lowest number each time. -/
def State.pickPart (s : State) (pool isl c : Nat) : Option Nat :=
  let l := (List.range (poolParts pool)).filter fun n => s.partOk pool isl n
  let free := l.filter fun n => !s.partHeld pool isl n && !s.reserved pool isl n
  let role := s.partRole pool isl
  (free.find? fun n => role n = 0 && (s.part pool isl n).ch == c).orElse fun _ =>
  (free.find? fun n => role n = 1 || role n = 4).orElse fun _ =>
  (free.find? fun n => role n = 0).orElse fun _ => free.find? fun n => role n = 2

/-- Working parts are there, and all are joined to other channels' terminals (R42). -/
def State.allTaken (s : State) (pool isl : Nat) : Bool :=
  let l := (List.range (poolParts pool)).filter fun n => s.partOk pool isl n
  !l.isEmpty && l.all fun n => s.partHeld pool isl n

/-- The slice or cell a configuration of channel `g` uses: the one it holds while that works. -/
def State.pickSlice (s : State) (isl g : Nat) : Option Nat :=
  match (s.chan g).pslice with
  | some p => if s.partOk 0 isl p then some p else s.pickPart 0 isl (g % 8)
  | none => s.pickPart 0 isl (g % 8)

def State.pickCell (s : State) (isl g : Nat) : Option Nat :=
  match (s.chan g).psource with
  | some k => if s.partOk 1 isl k then some k else s.pickPart 1 isl (g % 8)
  | none => s.pickPart 1 isl (g % 8)

/-- A handoff spare is taken from the channel it serves: that channel's next sample may have to fall back (R43, R100). -/
def freeHandoff (isl n : Nat) (s : State) : State :=
  { s with ana := { s.ana with chans := s.ana.chans.map fun e =>
      if e.1 / 8 = isl && e.2.spare == some n then
        (e.1, { e.2 with spare := none, hstate := 0, armCount := 0, relCount := 0, claimed := true }) else e } }

/-- A part leaves whatever a spare does and serves channel `g` (R43, R100, R421). -/
def claimPart (pool g n : Nat) (s : State) : State :=
  let isl := g / 8
  let s := if pool = 0 then freeHandoff isl n s else s
  checkPool pool isl (s.putInService pool isl n (g % 8))

/-- Ranges of a kind (R47). -/
def rangeOk (kind range : Nat) : Bool :=
  match kind with
  | 1 => decide (range ≤ 5)
  | 2 => range = 6
  | 3 | 4 | 5 => decide (7 ≤ range ∧ range ≤ 9)
  | 6 => decide (range = 10 ∨ range = 11)
  | 7 => decide (range ≤ 1)
  | _ => true

def emodeOk (kind emode : Nat) : Bool :=
  match kind with
  | 2 => emode = 0 || emode = 3
  | 3 | 4 | 5 => true
  | 6 => emode = 2
  | _ => emode = 0

/-- Terminal rules of R46 and R74. -/
def ChanCfg.termsOk (c : ChanCfg) : Bool :=
  let no := fun t => t = 255
  let yes := fun t => t ≠ 255
  match c.kind with
  | 0 => no c.tp && no c.tn && no c.tx && no c.tr
  | 1 => yes c.tp && no c.tx && no c.tr && c.tp ≠ c.tn
  | 2 => yes c.tp && no c.tn && no c.tr && (if c.emode = 3 then yes c.tx && c.tx ≠ c.tp else no c.tx)
  | 3 => yes c.tx && yes c.tn && no c.tp && no c.tr && c.tx ≠ c.tn
  | 4 => yes c.tx && yes c.tp && yes c.tn && c.tn = c.tr && c.tx ≠ c.tp && c.tx ≠ c.tn && c.tp ≠ c.tn
  | 5 | 6 => yes c.tx && yes c.tp && yes c.tn && yes c.tr && decide ([c.tx, c.tp, c.tn, c.tr].Nodup)
  | 7 => yes c.tp && yes c.tn && yes c.tr && no c.tx && c.tp ≠ c.tn && c.tp ≠ c.tr
  | _ => true

/-- Excitation level of a resistance range in µA (R48). -/
def resLevel (range : Nat) : Nat := if range = 7 then 1000 else if range = 8 then 100 else 5

/-- Configuration named by a CHANNEL_CONFIGURE packet; fields the kind does not use keep their reset values. -/
def chanCfgOf (c : Cmd) : ChanCfg :=
  let kind := c.u8 34
  let pulsed := c.u8 38 % 2 = 1
  let emode := if kind = 3 ∨ kind = 4 ∨ kind = 5 then 1 else c.u8 40
  { kind := kind, range := c.u8 35, prec := c.u8 36, wave := c.u8 37, pulsed := pulsed
    owTest := (c.u8 38).testBit 2
    pwin := if pulsed then c.u8 39 else 0
    prate := if pulsed then c.u8 41 else 0
    emode := emode
    level := if kind = 3 ∨ kind = 4 ∨ kind = 5 then resLevel (c.u8 35)
      else if emode = 1 ∨ emode = 2 then c.u16 42 else 0
    lead := if pulsed then c.u8 44 else 50
    ilim := if emode = 2 then c.u8 45 else 4
    tp := c.u8 46, tn := c.u8 47, tx := c.u8 48, tr := c.u8 49 }

/-- First row of R42: indexes, codes, used fields, reserved bytes. -/
def chanRangesOk (c : Cmd) (k : ChanCfg) : Bool :=
  let term := fun t => decide (t ≤ 31 ∨ t = 255)
  c.restZero [(32, 18)] && c.extZero 0 && decide (c.u8 32 ≤ 7 ∧ c.u8 33 ≤ 7 ∧ k.kind ≤ 8 ∧ k.range ≤ 11 ∧
    k.prec ≤ 10 ∧ k.wave ≤ 6 ∧ c.u8 38 ≤ 7 ∧ k.emode ≤ 3) &&
  term k.tp && term k.tn && term k.tx && term k.tr &&
  (!k.pulsed || decide (k.pwin ≤ 3 ∧ k.prate ≤ 3 ∧ 1 ≤ k.lead ∧ k.lead ≤ 250)) &&
  (if k.kind = 3 ∨ k.kind = 4 ∨ k.kind = 5 then true
   else if k.emode = 1 then decide (1 ≤ k.level ∧ k.level ≤ 1000)
   else if k.emode = 2 then decide (1 ≤ k.level ∧ k.level ≤ 1000 ∧ 1 ≤ k.ilim ∧ k.ilim ≤ 120)
   else true)

/-- Curves allowed for a kind (R83). -/
def curveKindOk (curve kind : Nat) : Bool :=
  let res := kind = 3 ∨ kind = 4 ∨ kind = 5
  if kind = 0 then true
  else if kind = 8 then false
  else if curve = 0 ∨ (0x40 ≤ curve ∧ curve ≤ 0x4F) then true
  else if 1 ≤ curve ∧ curve ≤ 8 then kind = 7
  else if (0x10 ≤ curve ∧ curve ≤ 0x13) ∨ (0x50 ≤ curve ∧ curve ≤ 0x5F) then decide res
  else if curve = 0x20 then decide (kind = 1 ∨ kind = 2 ∨ kind = 6)
  else false

def curveExists (curve : Nat) : Bool :=
  decide (curve ≤ 8 ∨ (0x10 ≤ curve ∧ curve ≤ 0x13) ∨ curve = 0x20 ∨ (0x40 ≤ curve ∧ curve ≤ 0x5F))

/-- Slot of a curve, and the format it needs (R83, R87). -/
def curveSlot (curve : Nat) : Option (Nat × Nat) :=
  if 0x40 ≤ curve ∧ curve ≤ 0x4F then some (curve - 0x40, 0)
  else if 0x50 ≤ curve ∧ curve ≤ 0x5F then some (curve - 0x50, 1)
  else none

def State.slot (s : State) (n : Nat) : Option Slot := tget none s.ana.slots n

/-- The curve matches its kind and its slot (R88). -/
def State.curveMatches (s : State) (x : Chan) : Bool :=
  curveKindOk x.cond.curve x.cfg.kind &&
  match curveSlot x.cond.curve with
  | none => true
  | some (n, f) => match s.slot n with | some t => t.format = f | none => false

/-- The mismatch of R88 becomes `bad`; record 0x0314 at each change, `cause` 0 slot loaded, 1 KIND changed. -/
def setMismatch (g cause : Nat) (bad : Bool) (s : State) : State :=
  let x := s.chan g
  if bad = x.mismatch then s
  else
    let s := s.setChan g { x with mismatch := bad }
    note 0x0314 g (le 1 (if bad then cause else 2) ++ le 1 x.cond.curve ++
      le 1 (match curveSlot x.cond.curve with | some (n, _) => n | none => 255) ++ le 1 x.cfg.kind) s

/-- The channel has been reconfigured: its mismatch is judged anew (R88). -/
def judgeMismatch (g cause : Nat) (s : State) : State :=
  let x := s.chan g
  setMismatch g cause (x.cfg.kind ≠ 8 && x.cfg.kind ≠ 0 && !s.curveMatches x) s

/-- A slot has been loaded: a mismatch that stands lasts until the channel is reconfigured (R88). -/
def slotMismatch (g : Nat) (s : State) : State :=
  let x := s.chan g
  setMismatch g 0 (x.mismatch || (x.cfg.kind ≠ 8 && x.cfg.kind ≠ 0 && !s.curveMatches x)) s

/-- Starting range of a channel (R47, range handoff). DESIGN CHOICE (log 89): limits that a later KIND's ladder does not hold still
force the start. -/
def startRange (c : ChanCfg) (d : CondCfg) : Nat :=
  if d.autorange then max d.rangeLo (min d.rangeHi c.range) else c.range

/-- The spare of the audit is settled (R421, R424). -/
def State.auditArmed (s : State) (a : Audit) : Bool :=
  let x := s.chan a.ch
  decide (x.cfg.settle + 1 ≤ a.samples) && decide (a.joinAt + waveSettle x.cfg.wave ≤ s.now)

/-- Any spare that serves a range handoff or an audit of the channel is released (R43, R100, R421). -/
def releaseSpare (g : Nat) (s : State) : State :=
  let s := if (s.auditOf g).isSome then endAudit (g / 8) s else s
  let x := s.chan g
  match x.spare with
  | none => s
  | some p => (s.setChan g { x with spare := none, hstate := 0, armCount := 0, relCount := 0 }).setPartRole 0 (g / 8) p 1

/-- Spares of range handoffs and audits of other channels give up the node places that `mine` needs (R43, R421). -/
def clearWay (isl g : Nat) (mine : List (Nat × Nat)) (s : State) : State :=
  (List.range 8).foldl (fun s c =>
    let h := isl * 8 + c
    let all := s.placesOf isl ++ s.spareJoins h ++ mine
    let tight := (s.spareJoins h).any fun j => (mine.any fun m => m.1 = j.1) && decide (2 < (nodesAt all j.1).length)
    if h = g || !tight then s
    else
      let held := (s.chan h).spare.isSome
      let s := releaseSpare h s
      if held then s.setChan h { s.chan h with claimed := true } else s) s

/-- The source cell of a continuous excitation is on whenever its channel may sample (R57, R72). -/
def State.sourceOn (s : State) (k : ChanCfg) : Option Nat :=
  if k.usesCell && !k.pulsed && s.mode .acq then some s.now else none

/-- A new configuration takes effect at a sample boundary (R41): decimators restart, marks are set, a continuous source comes on. -/
def putConfig (g : Nat) (c : Change) (s : State) : State :=
  let s := releaseSpare g s
  let s := match c.slice with | some p => if (s.chan g).pslice = some p then s else claimPart 0 g p s | none => s
  let s := match c.cell with | some k => if (s.chan g).psource = some k then s else claimPart 1 g k s | none => s
  let x := s.chan g
  let x := { x with
    cfg := c.cfg, change := none, pslice := c.slice, psource := c.cell, conn := c.conn
    rangeNow := startRange c.cfg x.cond
    unsettled := c.cfg.settle, unsettledW := 40, changeLeft := 0, changeLeftW := 0, restart := s.now
    lastWave := if c.cfg.wave = x.cfg.wave then x.lastWave else none
    satLast := false, lowLast := false, srcOn := s.sourceOn c.cfg, window := none, rbFail := false, rbFails := 0, rbPasses := 0
    rbFault := false, hstate := 0, armCount := 0, relCount := 0, holdOff := 0, retune := none, cjUsable := []
    crossAt := none, claimed := false }
  judgeMismatch g 1 (s.setChan g x)

/-- A change of excitation, WAVE or OW_TEST alone takes effect (R41, R102): the excitation restarts both decimators, WAVE the
waveform decimator. -/
def applyTune (g : Nat) (k : ChanCfg) (s : State) : State :=
  let x := s.chan g
  let exc := k.emode ≠ x.cfg.emode || k.level ≠ x.cfg.level || k.ilim ≠ x.cfg.ilim || k.lead ≠ x.cfg.lead
  let wav := k.wave ≠ x.cfg.wave
  s.setChan g { x with
    cfg := k, retune := none
    unsettled := if exc then k.settle else x.unsettled, unsettledW := if exc || wav then 40 else x.unsettledW
    restart := if exc then s.now else x.restart, lastWave := if wav then none else x.lastWave
    srcOn := if k.pulsed then x.srcOn else s.sourceOn k }

/-- The refusals of R42 after its first row, in order. -/
def chanRefusal (isl g : Nat) (k : ChanCfg) (slice cell : Option Nat) (s : State) : Option Rep :=
  let ladder := rangeOk k.kind k.range && k.kind ≠ 8 && emodeOk k.kind k.emode &&
    !(k.kind = 6 && decide (k.level < 100))
  let pulseBad := (k.pulsed && (k.wave ≠ 0 || k.prec ≠ 10 || !k.pulseOk)) || (!k.pulsed && k.prec = 10)
  let p := slice.getD 60
  let c := cell.getD 60
  let mine := k.places p c
  let others := s.placesBut isl g
  let all := others ++ mine
  let terms := (mine.map (·.1)).eraseDups
  let isCell := fun n => decide (20 ≤ n ∧ n ≤ 28 ∨ n = 80)
  if !ladder then some (.bad 4)
  else if !k.termsOk then some (.bad 0x0C)
  else if pulseBad then some (.bad 5)
  else if terms.any fun t => decide (2 < (nodesAt all t).length) then some (.bad 1)
  else if (k.usesSlice && slice.isNone && s.allTaken 0 isl) || (k.usesCell && cell.isNone && s.allTaken 1 isl) then some (.bad 2)
  else if terms.any fun t =>
      let n := nodesAt all t
      (n.contains 29 && n.contains 30) || ((n.contains 29 || n.contains 30) && n.any isCell) then some (.bad 3)
  else if terms.any fun t => decide (1 < ((nodesAt all t).filter isCell).length) then some (.bad 0x0B)
  else if terms.any fun t => (s.glideTerms isl).contains t || (s.glideOn g) then some (.bad 7)
  else if k.heavy && decide (4 ≤ s.heavyBut isl g) then some (.bad 6)
  else if (k.usesSlice && slice.isNone) || (k.usesCell && cell.isNone) then some (.hw 9 0)
  else none

/-- The output of a channel that leaves KIND OUT is dropped with its cells (R114). -/
def dropOutput (g : Nat) (s : State) : State := s.setOut g {}

/-- Switches of a channel in service: what a new configuration may have to open. -/
def State.heldSwitches (s : State) (g : Nat) : List (Nat × Nat) :=
  let x := s.chan g
  if x.cfg.kind = 8 then (s.out g).joins
  else (x.conn ++ (if x.cfg.kind = 4 then x.cfg.joins2 (x.pslice.getD 60) (x.psource.getD 60) else [])).eraseDups

/-- One of the switches is shorted, so that it cannot be opened (R40). -/
def State.anyShorted (s : State) (isl : Nat) (l : List (Nat × Nat)) : Bool :=
  l.any fun j => tget false (s.aisl isl).shorted (j.1 * 32 + j.2)

/-- CHANNEL_CONFIGURE (R41 to R45, R74, R102). Path tests of the switches to be closed come from `env` (R40). -/
def doChannelConfigure (e : CmdEntry) (env : Env) (s : State) : Rep × State :=
  let k := chanCfgOf e.c
  let isl := e.c.u8 32
  let g := chanOf e.c
  if !chanRangesOk e.c k then (.bad 8, s)
  else
    let x := s.chan g
    let slice := if k.usesSlice then s.pickSlice isl g else none
    let cell := if k.usesCell then s.pickCell isl g else none
    match chanRefusal isl g k slice cell s with
    | some r => (r, s)
    | none =>
      if k = x.cfg then (.ok [], s)
      else
        let force := (e.c.u8 38).testBit 1
        let conn := k.joins (slice.getD 60) (cell.getD 60)
        let need := k.switches (slice.getD 60) (cell.getD 60)
        let old := s.heldSwitches g
        let new := need.filter fun j => !old.contains j
        let gone := old.filter fun j => !need.contains j
        if s.anyShorted isl gone then (.hw 0x0A 0, s)
        else
          let (bad, s') := testNew isl env.fails new s
          if bad then (.hw 0x0A 0, s')
          else
            let s' := clearWay isl g (k.places (slice.getD 60) (cell.getD 60)) s'
            let exc := { k with emode := x.cfg.emode, level := x.cfg.level, ilim := x.cfg.ilim, lead := x.cfg.lead }
            if { exc with wave := x.cfg.wave, owTest := x.cfg.owTest } = x.cfg && new.isEmpty && gone.isEmpty then
              -- excitation, WAVE or OW_TEST alone: FORCE brings the excitation in at once
              let k1 := if force then { k with wave := x.cfg.wave, owTest := x.cfg.owTest } else x.cfg
              let s' := if k1 = x.cfg then s' else applyTune g k1 s'
              if k = k1 then (.ok [], s')
              else (.wait [g], s'.setChan g { s'.chan g with retune := some { cfg := k, cmd := e.id, asked := s.now } })
            else
              let c : Change := { cfg := k, opened := s.now, cmd := e.id, conn := conn, slice := slice, cell := cell
                                  force := force && { exc with tx := x.cfg.tx } = x.cfg }
              let s' := if x.cfg.kind = 8 then dropOutput g s' else s'
              let x := s'.chan g
              let opened := if x.cfg.kind = 8 then [] else x.conn.filter fun j => conn.contains j
              (.wait [g], s'.setChan g { x with change := some c, conn := opened, srcOn := none, window := none })

/-- A sample boundary of the channel has come at or after `t`, or it has none (R41, R59). -/
def State.boundarySince (s : State) (g t : Nat) : Bool :=
  let x := s.chan g
  !x.cfg.usesSlice || !s.mode .acq || decide (t ≤ gridFloor x.rate s.now)

/-- CHANNEL_SWITCH_CLOSE (R41): 20 µs after the old switches opened, at a sample boundary of the channel. -/
def execChannelSwitchClose (dt : Nat) (ch : Fin 64) (s : State) : Host.Outcome State Fault Refusal :=
  let s := s.advance dt
  let g := ch.val
  let x := s.chan g
  match x.change with
  | none => .next s
  | some c =>
    if c.opened + 20000 ≤ s.now && (c.force || s.boundarySince g (c.opened + 20000)) then
      .next (completeCmd c.cmd stOk [] (putConfig g c s))
    else .next s

/-- CHANNEL_READ (R75). -/
def doChannelRead (e : CmdEntry) (_ : Env) (s : State) : Rep × State :=
  if !e.c.restZero [(32, 2)] || !e.c.extZero 0 || 7 < e.c.u8 32 || 7 < e.c.u8 33 then (.bad 8, s)
  else
    let x := s.chan (chanOf e.c)
    let body := match x.last with
      | some m => le 4 m.raw.toNat ++ le 2 m.sqw.toNat ++ le 2 m.seq ++ le 8 m.time
      | none => le 4 0 ++ le 2 0x8000 ++ le 2 0 ++ le 8 0
    let part := match x.psource with | some k => some k | none => (s.out (chanOf e.c)).cellA
    (.ok (body ++ le 1 (x.pslice.getD 255) ++ le 1 (part.getD 255)), s)

/-- CROSSPOINT_TEST (R77): every in-service switch of the masked terminals; the touched channels' samples carry INVALID for
one settling length. -/
def doCrosspointTest (e : CmdEntry) (env : Env) (s : State) : Rep × State :=
  let i := e.c.u8 32
  let mask := e.c.w32 36
  if !e.c.restZero [(32, 1), (36, 4)] || !e.c.extZero 0 || 7 < i then (.bad 8, s)
  else
    let second := (List.range 8).flatMap fun c =>
      let x := s.chan (i * 8 + c)
      if x.cfg.kind = 4 then (s.heldSwitches (i * 8 + c)).map fun j => (j.1, j.2, i * 8 + c) else []
    let sw := ((s.serviceSwitches i ++ second).filter fun j => mask.getLsbD j.1)
    let pairs := (sw.map fun j => (j.1, j.2.1)).eraseDups
    let bad := pairs.filter fun j => [0, 1].any fun p =>
      env.fails.contains (pathNo j.1 j.2 p false) || env.fails.contains (pathNo j.1 j.2 p true)
    let s := pairs.foldl (testSwitch i 1 1 env.fails) s
    let s := ((sw.map (·.2.2)).eraseDups).foldl (fun s g =>
      let x := s.chan g
      s.setChan g { x with testAt := s.now :: x.testAt.filter fun t => decide (s.now < t + spanKept) }) s
    let m := ((bad.map (·.1)).eraseDups).foldl (fun a t => a ||| 2 ^ t) 0
    (.ok (le 4 m), s)

/-! ### Sample strobes, pulsed excitation, references, clamps, blanking -/

/-- Rate of a strobe: a precision code 0 to 9, or 10 + a waveform code (R51, R52, R54). -/
def strobeRate (code : Nat) : Nat × Nat := if code ≤ 10 then precRate code else (waveRate (code - 10), 1)

/-- Code of the strobe on whose grid a channel samples (R51, R54, R117). -/
def Chan.rateCode (x : Chan) : Nat := if x.cfg.kind = 8 then 7 else if x.cfg.pulsed then x.cfg.prate else x.cfg.prec

/-- The instant `t` lies on a grid that a strobe has begun (R54). -/
def AIsland.onGrid (x : AIsland) (code t : Nat) : Bool := x.strobes.any fun e => e.1 == code && decide (e.2 ≤ t)

/-- SAMPLE_STROBE (R54): the island anchors the grid of a rate at the next instant of R53. -/
def execSampleStrobe (dt : Nat) (isl : Fin 8) (rate : Fin 17) (s : State) : Host.Outcome State Fault Refusal :=
  let s := s.advance dt
  let x := s.aisl isl.val
  if !x.linkUp then .next s
  else
    let r := strobeRate rate.val
    let first := 1000000000 * (s.now * r.1 / (1000000000 * r.2) + 1) * r.2 / r.1
    .next (s.setAisl isl.val { x with strobes := tput x.strobes rate.val first })

/-- The island's hardware runs: powered and its channel set may sample. -/
def State.sampling (s : State) (g : Nat) : Bool := s.mode .acq && (s.aisl (g / 8)).powered

/-- PULSE_SOURCE_ON (R57): at the lead time before its window. -/
def execPulseSourceOn (dt : Nat) (ch : Fin 64) (s : State) : Host.Outcome State Fault Refusal :=
  let s := s.advance dt
  let x := s.chan ch.val
  if x.cfg.pulsed && x.srcOn.isNone && s.sampling ch.val && x.change.isNone then
    .next (s.setChan ch.val { x with srcOn := some s.now, rbFail := false })
  else .next s

/-- PULSE_WINDOW_OPEN (R57): the decimator resets LEAD after the source came on. -/
def execPulseWindowOpen (dt : Nat) (ch : Fin 64) (s : State) : Host.Outcome State Fault Refusal :=
  let s := s.advance dt
  let x := s.chan ch.val
  match x.srcOn with
  | none => .next s
  | some t0 =>
    if t0 + 20000 * x.cfg.lead ≤ s.now then .next (s.setChan ch.val { x with window := some s.now }) else .next s

/-- Two references agree within 0.02 % (R50); deviations in ppm of nominal. -/
def refAgree (a b : Int) : Bool := decide ((a - b).natAbs ≤ 200)

/-- REFERENCE_VOTE (R50, R600). -/
def execReferenceVote (dt : Nat) (isl : Fin 8) (dev : Vector Int 3) (s : State) : Host.Outcome State Fault Refusal :=
  let s := s.advance dt
  let x := s.aisl isl.val
  let ab := refAgree dev[0] dev[1]
  let ac := refAgree dev[0] dev[2]
  let bc := refAgree dev[1] dev[2]
  let n : Nat := (if ab then 1 else 0) + (if ac then 1 else 0) + (if bc then 1 else 0)
  let excl : Nat := if n = 1 then (if ab then 2 else if ac then 1 else 0) else 255
  let ok : BitVec 3 := BitVec.ofNat 3
    (bit ((ab || ac) && excl ≠ 0) 0 + bit ((ab || bc) && excl ≠ 1) 1 + bit ((ac || bc) && excl ≠ 2) 2)
  let old : Nat := if x.refFault then 2 else if x.refDegraded then 1 else 0
  let new : Nat := if n = 0 then 2 else if n = 3 then 0 else 1
  let s := s.setAisl isl.val { x with refOk := ok, refDegraded := new = 1, refFault := new = 2 }
  if old = new then .next s
  else .next (note 0x0311 (160 + isl.val) (le 1 new ++ le 1 old ++ le 1 ok.toNat ++ le 1 excl) s)

/-! Fields of ACH_ISL_BLANK_CFG (R78). -/
def blankHold (c : BitVec 32) : Nat := (c.extractLsb' 16 8).toNat
def blankExtEn (c : BitVec 32) : Bool := c.getLsbD 0
def blankExtPol (c : BitVec 32) : Bool := c.getLsbD 1
def blankClampEn (c : BitVec 32) : Bool := c.getLsbD 8
def blankDoMask (d : Nat) (c : BitVec 32) : Bool := c.getLsbD (2 + d)
def AIsland.pre (x : AIsland) : Nat := (x.blankCfg.extractLsb' 24 8).toNat
def AIsland.doMask (x : AIsland) (d : Nat) : Bool := blankDoMask d x.blankCfg

/-- BLANKn is enabled and asserted under a configuration (R65). -/
def AIsland.extActive (x : AIsland) (c : BitVec 32) : Bool := blankExtEn c && x.blankHigh == blankExtPol c

/-- End of a blanking interval (R65): HOLD after its last source, once none is active. -/
def Blank.over (b : Blank) : Option Nat := b.ended.map fun t => max t b.doEnd + 40000 * blankHold b.cfg

/-- The instant `t` lies inside the running blanking interval (R67). -/
def AIsland.blanks (x : AIsland) (t : Nat) : Bool :=
  match x.blank with
  | some b => decide (b.start ≤ t) && (match b.over with | some e => decide (t < e) | none => true)
  | none => false

/-- No sample has the instant `t`: it lies inside a blanking interval, running or ended (R67). -/
def AIsland.blanked (x : AIsland) (t : Nat) : Bool := x.blanks t || x.blankSpans.any fun e => decide (e.1 ≤ t ∧ t < e.2)

/-- A blanking interval overlaps the filter window after `w` up to `t` (R67). -/
def AIsland.blankOverlap (x : AIsland) (w t : Nat) : Bool :=
  spansOverlap x.blankSpans w t ||
  match x.blank with
  | some b => decide (b.start ≤ t) && (match b.over with | some e => decide (w < e) | none => true)
  | none => false

/-- A blanking source that a configuration enables as `en` says starts at `from'` (R65, R76): the running interval goes on when the
settings in force at its beginning enable the source too, or a new one begins and is counted. -/
def blankStartAt (i : Nat) (src : BitVec 3) (en : BitVec 32 → Bool) (from' doEnd : Nat) (s : State) : State :=
  let x := s.aisl i
  if !en x.blankCfg then s
  else match x.blank with
  | some b =>
    if en b.cfg then
      s.setAisl i { x with blank := some { b with src := b.src ||| src, ended := none, doEnd := max b.doEnd doEnd } }
    else s
  | none => s.setAisl i { x with
      blank := some { start := from', src := src, ended := none, cfg := x.blankCfg, long := false, doEnd := doEnd }
      blankCount := (x.blankCount + 1) % 2 ^ 32 }

/-- A blanking source ends (R65): HOLD runs from the end of the last. -/
def blankStop (i : Nat) (src : BitVec 3) (s : State) : State :=
  let x := s.aisl i
  match x.blank with
  | none => s
  | some b =>
    let left := b.src &&& ~~~src
    s.setAisl i { x with blank := some { b with src := left, ended := if left = 0 && b.ended.isNone then some s.now else b.ended } }

/-- The sources that are enabled and active start blanking now (R65): after a new configuration, and after an interval that ran under
the old one (R76). -/
def blankAfresh (i : Nat) (s : State) : State :=
  let x := s.aisl i
  let s := if x.extActive x.blankCfg then blankStartAt i 1 (fun c => x.extActive c) s.now 0 s else s
  let s := if x.clampLive ≠ 0 then blankStartAt i 4 blankClampEn s.now 0 s else s
  if s.now < x.doUntil then blankStartAt i 2 (fun _ => true) s.now x.doUntil s else s

/-- BLANK_CONFIGURE (R76): reserved bits, PRE 2 to 255. -/
def doBlankConfigure (e : CmdEntry) (_ : Env) (s : State) : Rep × State :=
  let v := e.c.w32 36
  let i := e.c.u8 32
  if !e.c.restZero [(32, 1), (36, 4)] || !e.c.extZero 0 || 7 < i then (.bad 8, s)
  else if v.extractLsb' 9 7 ≠ 0 || (v.extractLsb' 24 8).toNat < 2 then (.bad 8, s)
  else
    let s := s.setAisl i { s.aisl i with blankCfg := v }
    (.ok [], if (s.aisl i).blank.isNone then blankAfresh i s else s)

/-- BLANKn takes a level (R65): the source under the settings of the running interval ends, or a source starts. -/
def blankPin (i : Nat) (high : Bool) (s : State) : State :=
  let x := { s.aisl i with blankHigh := high }
  let s := s.setAisl i x
  let s := match x.blank with
    | some b => if b.src.getLsbD 0 && !x.extActive b.cfg then blankStop i 1 s else s
    | none => s
  if x.extActive x.blankCfg then blankStartAt i 1 (fun c => x.extActive c) s.now 0 s else s

/-- BLANK_INPUT_ASSERT (R65): the pin takes the level that EXT_POL calls active. -/
def execBlankInputAssert (dt : Nat) (isl : Fin 8) (s : State) : Host.Outcome State Fault Refusal :=
  let s := s.advance dt
  .next (blankPin isl.val (blankExtPol (s.aisl isl.val).blankCfg) s)

/-- BLANK_INPUT_DEASSERT (R65). -/
def execBlankInputDeassert (dt : Nat) (isl : Fin 8) (s : State) : Host.Outcome State Fault Refusal :=
  let s := s.advance dt
  .next (blankPin isl.val (!blankExtPol (s.aisl isl.val).blankCfg) s)

/-- Record 0x0313 (R69, R600). -/
def longRecord (i event src ms : Nat) (s : State) : State :=
  note 0x0313 (160 + i) (le 1 event ++ le 1 src ++ zeros 2 ++ le 4 ms) s

/-- A digital output source ends by itself 10 µs after its transition (R65). -/
def expireDoSource (i : Nat) (s : State) : State :=
  match (s.aisl i).blank with
  | some b =>
    if b.src.getLsbD 1 && decide (b.doEnd ≤ s.now) then
      let left := b.src &&& 5
      s.setAisl i { s.aisl i with blank := some { b with src := left, ended := if left = 0 && b.ended.isNone then some b.doEnd else b.ended } }
    else s
  | none => s

/-- BLANK_HOLD_EXPIRY (R65, R67, R69, R76): the HOLD after the last source is over. -/
def execBlankHoldExpiry (dt : Nat) (isl : Fin 8) (s : State) : Host.Outcome State Fault Refusal :=
  let i := isl.val
  let s := expireDoSource i (s.advance dt)
  let x := s.aisl i
  match x.blank with
  | none => .next s
  | some b =>
    match b.over with
    | none => .next s
    | some e =>
      if s.now < e then .next s
      else
        let s := s.setAisl i { x with blank := none, blankSpans := keepSpan s.now b.start e x.blankSpans }
        .next (blankAfresh i (if b.long then longRecord i 0 0 (min (2 ^ 32 - 1) ((e - b.start) / 1000000)) s else s))

/-- LONG_BLANKING (R69). -/
def execLongBlanking (dt : Nat) (isl : Fin 8) (s : State) : Host.Outcome State Fault Refusal :=
  let s := expireDoSource isl.val (s.advance dt)
  let x := s.aisl isl.val
  match x.blank with
  | none => .next s
  | some b =>
    if b.long || s.now < b.start + 1000000000 then .next s
    else .next (longRecord isl.val 1 b.src.toNat 0 (s.setAisl isl.val { x with blank := some { b with long := true } }))

/-- Channels whose slice is joined to a terminal (R64). -/
def State.sliceChansAt (s : State) (i t : Nat) : List Nat :=
  ((List.range 8).map (i * 8 + ·)).filter fun g => (s.chan g).cfg.usesSlice && (s.chan g).sliceTerms.contains t

/-- CLAMP_ONSET (R63 to R65, R600). -/
def execClampOnset (dt : Nat) (isl : Fin 8) (term : Fin 32) (s : State) : Host.Outcome State Fault Refusal :=
  let s := s.advance dt
  let i := isl.val
  let t := term.val
  let x := s.aisl i
  let m := BitVec.ofNat 32 (2 ^ t)
  if x.clampLive.getLsbD t then .next s
  else
    let r := tget {} x.clamps t
    let due := dueAfter r.recAt 100000000 s.now
    let r' := { r with since := some s.now, quiet := none, opened := true, count := if due then 0 else r.count + 1
                       recAt := if due then some s.now else r.recAt }
    let s := s.setAisl i { x with clampLive := x.clampLive ||| m, clampFlag := x.clampFlag ||| m
                                  clamps := tset {} x.clamps t r' }
    let s := if due then note 0x0310 (160 + i) (le 1 t ++ zeros 3 ++ le 4 r.count) s else s
    .next (blankStartAt i 4 blankClampEn s.now 0 s)

/-- CLAMP_END (R64, R65): the channels joined to the terminal remember the conduction. -/
def execClampEnd (dt : Nat) (isl : Fin 8) (term : Fin 32) (s : State) : Host.Outcome State Fault Refusal :=
  let s := s.advance dt
  let i := isl.val
  let t := term.val
  let x := s.aisl i
  if !x.clampLive.getLsbD t then .next s
  else
    let r := tget {} x.clamps t
    let live := x.clampLive &&& ~~~(BitVec.ofNat 32 (2 ^ t))
    let s := s.setAisl i { x with clampLive := live, clamps := tset {} x.clamps t { r with since := none, quiet := some s.now } }
    let s := (s.sliceChansAt i t).foldl (fun s g =>
      let y := s.chan g
      s.setChan g { y with clampSpans := keepSpan s.now (r.since.getD s.now) s.now y.clampSpans }) s
    .next (if live = 0 then blankStop i 4 s else s)

/-- CLAMP_RECLOSE (R63): quiet for 1 ms, the slice switches close again. -/
def execClampReclose (dt : Nat) (isl : Fin 8) (term : Fin 32) (s : State) : Host.Outcome State Fault Refusal :=
  let s := s.advance dt
  let i := isl.val
  let x := s.aisl i
  let r := tget {} x.clamps term.val
  match r.quiet with
  | none => .next s
  | some t =>
    if t + 1000000 ≤ s.now && !x.clampLive.getLsbD term.val then
      .next (s.setAisl i { x with clamps := tset {} x.clamps term.val { r with quiet := none, opened := false } })
    else .next s

/-- A clamp of a terminal joined to the channel's slice conducts within the window after `w` up to `t` (R64). -/
def State.clamped (s : State) (g w t : Nat) : Bool :=
  let x := s.chan g
  let i := s.aisl (g / 8)
  spansOverlap x.clampSpans w t ||
  x.sliceTerms.any fun n => i.clampLive.getLsbD n && (match (tget {} i.clamps n).since with | some a => decide (a ≤ t) | none => true)

/-! ### The ride-through buffer -/

/-- A lost sample of a channel leaves RESET_GAP on the oldest one kept (R71). -/
def markGap (src : Nat) : List Sample → List Sample × Bool
  | [] => ([], false)
  | m :: r =>
    if m.src = src then ({ m with sqw := m.sqw ||| 0x2000 } :: r, true)
    else
      let (r', b) := markGap src r
      (m :: r', b)

/-- Samples are dropped, oldest first, until they fit in 512 KiB (R70). -/
def fitRtb : Nat → AIsland → AIsland × List Nat
  | 0, x => (x, [])
  | n + 1, x =>
    if 8 * x.rtb.length + 4 * x.waves.length ≤ 524288 then (x, [])
    else match x.waves with
      | _ :: w => fitRtb n { x with waves := w, waveDropped := true }
      | [] => match x.rtb with
        | [] => (x, [])
        | m :: r =>
          let (r', marked) := markGap m.src r
          let (y, l) := fitRtb n { x with rtb := r', precLost := true }
          (y, if marked then l else m.src :: l)

/-- Waveform words the core has received stay only in space that nothing else needs (R70). -/
def AIsland.trimOld (x : AIsland) : AIsland :=
  { x with waveOld := x.waveOld.drop (x.waveOld.length - (524288 - 8 * x.rtb.length - 4 * x.waves.length) / 4) }

/-- A precision sample enters the island's buffer (R70); a channel that lost all it had marks its next sample. -/
def pushSample (m : Sample) (s : State) : State :=
  let i := m.src / 8
  let x := s.aisl i
  let (x, gaps) := fitRtb 4 { x with rtb := x.rtb ++ [m] }
  gaps.foldl (fun s g => s.setChan g { s.chan g with gap := true }) (s.setAisl i x.trimOld)

/-- A sample that the core has accepted reaches its consumers: the channel's registers, the Alarm Engine, the program's input
image, the subscriptions of peers (R31, R79, R325, R378). -/
def takeSample (m : Sample) (s : State) : State :=
  let s := if m.src < 64 then
      let x := s.chan m.src
      s.setChan m.src { x with last := some m }
    else s
  publish (if m.src < 64 then 1 else 2) m (toProgram m s)

/-- The core accepts a sample once, by its sequence number (R71). -/
def coreAccept (m : Sample) (s : State) : State :=
  let x := s.chan m.src
  let fresh := match x.seen with | none => true | some n => decide ((m.seq + 65536 - n) % 65536 < 32768)
  if !fresh then s
  else takeSample m (s.setChan m.src { x with seen := some ((m.seq + 1) % 65536) })

/-- A waveform word that reaches the core fills the blocks of its stream flows (R206, R264, R267). -/
def streamWord (w : WaveWord) (s : State) : State :=
  (s.flows.filter fun e => e.2.stream && e.2.state ≠ .closed && e.2.chan == w.chan && (e.2.node = 0 || e.2.node == s.rng.node)).foldl
    (fun s e => s.setFlow e.1 ((s.flow e.1).takeWord (s.mode .wave) s.nodeNo (s.aisl (w.chan / 8)).blanked w)) s

/-- SAMPLE_FRAME_RECEIVE (R70, R71): a frame of up to `count` samples, and the waveform words of the same time, reach the
core; acknowledged samples leave the buffer, the words stay while their space is not needed. -/
def execSampleFrameReceive (dt : Nat) (isl : Fin 8) (count : Nat) (acked : Bool) (s : State) :
    Host.Outcome State Fault Refusal :=
  let s := s.advance dt
  let i := isl.val
  let x := s.aisl i
  if !x.linkUp || s.pwr.phase = .asserted then .next s
  else
    let ms := x.rtb.take count
    let ws := x.waves
    let s := s.setAisl i
      { x with rtb := if acked then x.rtb.drop count else x.rtb, waves := [], waveOld := x.waveOld ++ ws : AIsland }.trimOld
    let s := ws.foldl (fun s w => streamWord w s) s
    .next (ms.foldl (fun s m => coreAccept m s) s)

def execChannelConfigure (dt : Nat) (c : Cmd) (env : Env) (s : State) : Host.Outcome State Fault Refusal :=
  runHere .channelConfigure dt c env doChannelConfigure s
def execChannelRead (dt : Nat) (c : Cmd) (env : Env) (s : State) : Host.Outcome State Fault Refusal :=
  runHere .channelRead dt c env doChannelRead s
def execBlankConfigure (dt : Nat) (c : Cmd) (env : Env) (s : State) : Host.Outcome State Fault Refusal :=
  runHere .blankConfigure dt c env doBlankConfigure s
def execCrosspointTest (dt : Nat) (c : Cmd) (env : Env) (s : State) : Host.Outcome State Fault Refusal :=
  runHere .crosspointTest dt c env doCrosspointTest s

end Sys2Proof.Machine
end

