-- ==== Sys2Proof/Machine/Swaps.lean ====
section
/-! DEFINITION. How swaps of parts start (R423 to R432), what wear and hard failures bring about (R420 to R423, R427, R431),
and how a calibration ends without a trim (R395, R398). -/

namespace Sys2Proof.Machine

/-- The spare a repair takes, part `but` left aside: a spare or audited part first, then one serving a range handoff (R100,
R421). -/
def State.repairSpareBut (s : State) (pool isl but : Nat) : Option Nat :=
  let l := (List.range (poolParts pool)).filter fun n => n ≠ but && !s.reserved pool isl n && !s.partHeld pool isl n
  (l.find? fun n => s.partRole pool isl n = 1 || s.partRole pool isl n = 4).orElse fun _ =>
    l.find? fun n => s.partRole pool isl n = 2

/-- The spare a repair takes among all parts of the pool. -/
def State.repairSpare (s : State) (pool isl : Nat) : Option Nat := s.repairSpareBut pool isl (poolParts pool)

def beginSwap (w : Swap) (s : State) : State :=
  swapStarted w { s with spr := { s.spr with swaps := s.spr.swaps ++ [w] } }

/-- Record 0x0315 (R398, R416). -/
def calRecord (g action : Nat) (c : Cal) (tg to' : Word) (s : State) : State :=
  note 0x0315 g (le 1 action ++ le 1 c.points.length ++ zeros 2 ++ le 4 tg.toNat ++ le 4 to'.toNat) s

/-- A calibration ends with no change of trim; a CAPTURE that runs ends with MODE_CONFLICT, 0x00A3 (R395, R398). -/
def abortCal (g : Nat) (s : State) : State :=
  match s.mod.cals.find? (·.1 == g) with
  | none => s
  | some (_, c) =>
    let s := { s with mod := { s.mod with cals := tdel s.mod.cals g } }
    let s := match c.capture with
      | some (id, _, _, _) => completeCmd id stModeConflict (le 2 0x00A3) s
      | none => s
    let t := tget ((0x3F800000 : Word), (0 : Word)) s.mod.trims g
    calRecord g 3 c t.1 t.2 s

/-- A slice swap of channel `g` starts: a glide-over on GLIDE_OK 1, else a direct swap (R424, R426, R427). -/
def startSliceSwap (g spare cause : Nat) (fails : Bool) (cmd : Option Nat) (s : State) : State :=
  let x := s.chan g
  let w : Swap := { cmd := cmd, pool := 0, isl := g / 8, idx := g % 8, worn := x.pslice.getD 0, spare := spare
                    method := if s.glideOk g then 0 else 1, cause := cause, phase := 0, fails := fails }
  let s := freeHandoff (g / 8) spare s
  beginSwap w (releaseSpare g s)

/-- TP has a free node place for a second cell (R36, R128). -/
def State.outPlaceFree (s : State) (g : Nat) : Bool :=
  decide ((nodesAt (s.placesOf (g / 8)) (s.out g).tp).length ≤ 1)

/-- 6.5 mA (R131). -/
def f32_6p5 : Word := 0x40D00000

/-- A source cell swap of channel `g` starts (R428 to R431): a transfer on a current output whose TP has a free node place,
else the exchange of R429 or R430. -/
def startCellSwap (g spare cause : Nat) (fails : Bool) (cmd : Option Nat) (s : State) : State :=
  let x := s.chan g
  let o := s.out g
  let worn := if x.cfg.kind = 8 then o.cellA.getD 0 else x.psource.getD 0
  let transfer := x.cfg.kind = 8 && o.okind ≠ 0 && s.outPlaceFree g
  let w : Swap := { cmd := cmd, pool := 1, isl := g / 8, idx := g % 8, worn := worn, spare := spare
                    method := if transfer then 2 else 1, cause := cause, phase := 0, fails := fails }
  let s := if transfer then
      (s.setOut g { o with cellB := some spare, shareA := 16, target := some 0, removing := some 0
                           waiting := o.okind = 2 && f32Lt o.driven f32_6p5 && !fails }).setPartRole 1 (g / 8) spare 3
    else s
  beginSwap w s

/-- A driver swap onto the spare rail starts (R157, R432); parts 16 and 17 are SP0 and SP1. -/
def startDriverSwap (d p worn spare cause : Nat) (cmd : Option Nat) (s : State) : State :=
  beginSwap { cmd := cmd, pool := 2, isl := d, idx := p, worn := worn, spare := spare, method := 3, cause := cause
              phase := 0 } s

/-- The spare driver a swap of pin `p` takes (R432): SP0 while it is good and free; none while the rail serves another
pin. -/
def State.spareDriver (s : State) (d p : Nat) : Option Nat :=
  let x := s.disl d
  match x.railPin with
  | none => if x.sp0Ok then some 16 else if x.sp1Ok then some 17 else none
  | some q =>
    if q ≠ p then none
    else if x.railDrv then (if x.sp0Ok then some 16 else none) else (if x.sp1Ok then some 17 else none)

/-- The boost phase that works and serves no rail (R418). -/
def State.freePhase (s : State) : Option Nat := (List.range 5).find? fun n => s.spr.boost.getD n 6 = 1

/-- The spare boost phase that no swap has claimed. -/
def State.sparePhase (s : State) : Option Nat :=
  (List.range 5).find? fun n => s.spr.boost.getD n 6 = 1 && !(s.spr.swaps.any fun w => w.pool == 6 && w.spare == n)

def startPhaseSwap (rail worn spare cause : Nat) (cmd : Option Nat) (s : State) : State :=
  beginSwap { cmd := cmd, pool := 6, isl := 0, idx := rail, worn := worn, spare := spare, method := 4, cause := cause
              phase := 0 } s

/-- A swap holds the channel, the rail, or the spare rail of the island. -/
def State.swapHolds (s : State) (pool isl idx : Nat) : Bool :=
  s.spr.swaps.any fun w => w.pool == pool && w.isl == isl && (w.idx == idx || pool == 2)

/-- A calibration holds the channel (R401 row 31). -/
def State.calHolds (s : State) (pool isl idx : Nat) : Bool :=
  decide (pool ≤ 1) && s.mod.cals.any fun e => e.1 == isl * 8 + idx

/-- A planned swap of a channel, pin or rail may start now (R395, R401 rows 7 and 31, R423). -/
def State.plannedOk (s : State) (pool isl idx : Nat) : Bool :=
  s.mode .serv && (pool ≠ 0 || s.mode .acq) &&
  !s.calHolds pool isl idx &&
  !s.swapHolds pool isl idx

/-- The swap of a planned replacement starts, when a spare is there and nothing forbids it (R423). -/
def startPlanned (pool isl part idx cause : Nat) (s : State) : State :=
  if !s.plannedOk pool isl idx then s
  else match pool with
    | 0 => match s.repairSpare 0 isl with | some p => startSliceSwap (isl * 8 + idx) p cause false none s | none => s
    | 1 => match s.repairSpare 1 isl with | some k => startCellSwap (isl * 8 + idx) k cause false none s | none => s
    | 2 => match s.spareDriver isl idx with | some k => startDriverSwap isl idx part k cause none s | none => s
    | _ => match s.sparePhase with | some k => startPhaseSwap idx part k cause none s | none => s

/-- A part stands at its REPLACE level: the policy decides (R423). -/
def actOnReplace (pool isl part idx : Nat) (s : State) : State :=
  match s.policy pool with
  | 1 => propose pool isl part idx s
  | 2 => startPlanned pool isl part idx 1 s
  | _ => s

/-- A wear index of a slice or cell is charged (R420, R422, R423). -/
def chargeWear (pool isl n index : Nat) (metric : Word) (s : State) : State :=
  let x := s.part pool isl n
  let i := min 255 index
  let lvl := if x.level = 3 then 3 else wearLevelOf i
  let s := s.setPart pool isl n { x with index := i, level := lvl, metric := metric, measured := s.now }
  if lvl ≤ x.level then s
  else
    let s := wearRecord pool isl n i lvl metric s
    if lvl = 2 && x.role = 0 then actOnReplace pool isl n x.ch s else s

/-- A hard failure of a slice or cell is found (R422). -/
def markHard (pool isl n : Nat) (s : State) : State :=
  let x := s.part pool isl n
  if x.level = 3 then s
  else wearRecord pool isl n x.index 3 x.metric (s.setPart pool isl n { x with level := 3 })

/-- The planned swap that holds the spare a forced swap of the island needs is aborted (R436, detail 0x00C5). -/
def yieldPlanned (pool isl : Nat) (s : State) : State :=
  match s.spr.swaps.find? fun w => w.pool == pool && w.isl == isl && w.cause ≠ 2 && !w.fails with
  | none => s
  | some w =>
    let s := if pool = 1 && w.method = 2 then
        let g := isl * 8 + w.idx
        let o := s.out g
        s.setOut g { o with cellB := none, shareA := 16, target := none, removing := none, waiting := false, devA := 0, devB := 0 }
      else s
    abortSwap w 0x00C5 1 s

/-- A part in service failed and nothing replaces it (R437). -/
def poolShort (pool isl n : Nat) (s : State) : State :=
  checkPool pool isl (setShort pool isl true (s.setPartRole pool isl n 6))

/-- Of two failed parts and one spare, the lower channel's is repaired (R436): a forced swap of a channel above `idx` that has not
joined its spare yet gives it up. DEDUCED (log 103). -/
def yieldHigher (pool isl idx : Nat) (s : State) : State :=
  match s.spr.swaps.find? fun w => w.pool == pool && w.isl == isl && decide (idx < w.idx) && w.fails && w.phase == 0 && w.method ≠ 2 with
  | none => s
  | some w => poolShort pool isl w.worn (abortSwap w 0x00C5 1 s)

/-- A spare for a forced swap of channel `idx`, part `but` left aside: a planned swap gives way where needed, then the forced swap of a
higher channel. -/
def claimForced (pool isl idx but : Nat) (s : State) : Option Nat × State :=
  match s.repairSpareBut pool isl but with
  | some n => (some n, s)
  | none =>
    let s := yieldPlanned pool isl s
    match s.repairSpareBut pool isl but with
    | some n => (some n, s)
    | none =>
      let s := yieldHigher pool isl idx s
      (s.repairSpareBut pool isl but, s)

/-- A swap's spare cannot take over, and takes the role given (R425, R436): the swap ends with GLIDE_ABORTED, 0x00C3; a failed slice
is repaired with another spare, or the pool is SHORT. -/
def refuseSpare (w : Swap) (role : Nat) (s : State) : State :=
  let s := abortSwap w 0x00C3 role s
  if !w.fails then s
  else match claimForced w.pool w.isl w.idx w.spare s with
    | (some n, s) => (if w.pool = 0 then startSliceSwap else startCellSwap) (w.isl * 8 + w.idx) n 2 true none s
    | (none, s) => poolShort w.pool w.isl w.worn s

/-- A hard failure of the slice of channel `g` (R427, R436). -/
def forceSlice (g : Nat) (s : State) : State :=
  match (s.chan g).pslice with
  | none => s
  | some p =>
    let s := abortCal g (markHard 0 (g / 8) p s)
    match s.sliceSwap g with
    | some w => s.setSwap { w with fails := true, phase := if 2 ≤ w.phase then 3 else w.phase }
    | none =>
      if s.pwr.state ≠ .run then s
      else match s.auditOf g with
      | some a =>
        let armed := s.auditArmed a
        let s := startSliceSwap g a.spare 2 true none s
        match s.sliceSwap g with
        | some w => if armed then (s.setSwap { w with phase := 3, joinAt := a.joinAt, samples := a.samples }).setPartRole 0 (g / 8) a.spare 3 else s
        | none => s
      | none => match claimForced 0 (g / 8) (g % 8) (poolParts 0) s with
        | (some n, s) => startSliceSwap g n 2 true none s
        | (none, s) => poolShort 0 (g / 8) p s

/-- A hard failure of the source cell of channel `g` (R420, R431). -/
def forceCell (g : Nat) (s : State) : State :=
  let x := s.chan g
  match (if x.cfg.kind = 8 then (s.out g).cellA else x.psource) with
  | none => s
  | some k =>
    let s := abortCal g (markHard 1 (g / 8) k s)
    match s.cellSwap g with
    | some w => s.setSwap { w with fails := true }
    | none =>
      if s.pwr.state ≠ .run then s
      else match claimForced 1 (g / 8) (g % 8) (poolParts 1) s with
        | (some n, s) => startCellSwap g n 2 true none s
        | (none, s) => poolShort 1 (g / 8) k s

/-- The spare driver of a rail swap carries the pin (R157). -/
def Swap.railOver (w : Swap) : Bool := w.pool = 2 && decide (3 ≤ w.phase)

/-- Forced swaps that a reset or the islands' loss of power undid start again (R423): parts in service that stand at a hard failure. -/
def resumeForced (s : State) : State :=
  (List.range 64).foldl (fun s g =>
    let x := s.chan g
    let hard := fun (pool : Nat) (n : Option Nat) => match n with | some n => decide ((s.part pool (g / 8) n).level = 3) | none => false
    let s := if x.cfg.usesSlice && hard 0 x.pslice && (s.sliceSwap g).isNone then forceSlice g s else s
    let cell := if x.cfg.kind = 8 then (s.out g).cellA else x.psource
    if hard 1 cell && (s.cellSwap g).isNone then forceCell g s else s) s

/-- Planned swaps not yet handed over end (R395, R436). -/
def abortPlanned (keep : Swap → Bool) (s : State) : State :=
  (s.spr.swaps.filter fun w => w.cause ≠ 2 && !w.fails && !w.railOver && !keep w).foldl (fun s w =>
    let s := if w.pool = 1 && w.method = 2 then
        let g := w.isl * 8 + w.idx
        let o := s.out g
        s.setOut g { o with cellB := none, shareA := 16, target := none, removing := none, waiting := false, devA := 0, devB := 0 }
      else s
    abortSwap w 0x00C5 1 s) s

/-- The mean deviation of an excitation cell over an hour is charged as % of 0.1 % of the set level (R420). -/
def excitationWear (g ppm : Nat) (s : State) : State :=
  let x := s.chan g
  let dev := if ppm ≤ 1000000 then 1000000 - ppm else ppm - 1000000
  if x.wearCount ≠ 0 && decide (x.wearAt + 3600000000000 ≤ s.now) then
    let mean := x.wearSum / x.wearCount
    let s := s.setChan g { x with wearSum := dev, wearCount := 1, wearAt := s.now }
    match x.psource with
    | some k => chargeWear 1 (g / 8) k (mean / 10) (f32OfRat mean) s
    | none => s
  else s.setChan g { x with wearSum := x.wearSum + dev, wearCount := x.wearCount + 1
                            wearAt := if x.wearCount = 0 then s.now else x.wearAt }

/-- PULSE_READBACK_CHECK (R57, R58, R420): readback within 0.1 % of the set level, given in ppm of it. -/
def execPulseReadbackCheck (dt : Nat) (ch : Fin 64) (ppm : Nat) (s : State) : Host.Outcome State Fault Refusal :=
  let s := s.advance dt
  let x := s.chan ch.val
  if !x.cfg.pulsed || x.srcOn.isNone then .next s
  else
    let ok := decide (999000 ≤ ppm ∧ ppm ≤ 1001000)
    let fails := if ok then 0 else x.rbFails + 1
    let passes := if ok then x.rbPasses + 1 else 0
    let s := s.setChan ch.val { x with
      rbFail := !ok, rbFails := fails, rbPasses := passes
      rbFault := if x.rbFault then decide (passes < 3) else decide (3 ≤ fails) }
    let s := excitationWear ch.val ppm s
    .next (if fails = 3 && !x.rbFault then forceCell ch.val s else s)

/-- An excitation cell swaps with the worn cell off, at a frame boundary (R430, R431); a spare whose switch is shorted ends the
swap. -/
def State.cellSwapAtBoundary (s : State) (g : Nat) (fails : List Nat) : State :=
  match s.cellSwap g with
  | none => s
  | some w =>
    let x := s.chan g
    if x.cfg.kind = 8 || x.cfg.emode = 3 || (x.cfg.pulsed && x.srcOn.isSome) then s
    else
      let newRole := if w.fails then 6 else 5
      let (bad, s) := testNew (g / 8) fails ((x.conn.filter fun j => j.2 = 20 + w.worn).map fun j => (j.1, 20 + w.spare)) s
      if bad then refuseSpare w 1 s
      else
        let s := s.setChan g { x with
          psource := some w.spare
          conn := x.conn.map fun j => if j.2 = 20 + w.worn then (j.1, 20 + w.spare) else j
          unsettled := if x.cfg.pulsed then x.unsettled else x.cfg.settle
          unsettledW := if x.cfg.pulsed then x.unsettledW else 40 }
        endSwap w newRole ((s.setPartRole 1 (g / 8) w.worn newRole).putInService 1 (g / 8) w.spare (g % 8))

/-- EXCITATION_CHANGE (R41, R102): the deferred change takes effect at the frame boundary, which is the next sample instant of a
continuous channel and the next instant of a pulsed channel at which its source is off. -/
def execExcitationChange (dt : Nat) (c : SwitchedChan) (s : State) : Host.Outcome State Fault Refusal :=
  let s := s.advance dt
  let g := c.ch.val
  let x := s.chan g
  match x.retune with
  | none => .next (s.cellSwapAtBoundary g c.fails)
  | some r =>
    if (if x.cfg.pulsed then x.srcOn.isNone else s.boundarySince g r.asked) then
      .next (completeCmd r.cmd stOk [] ((applyTune g r.cfg s).cellSwapAtBoundary g c.fails))
    else .next s

end Sys2Proof.Machine
end

