-- ==== Sys2Proof/Machine/Conditioning.lean ====
section
/-! DEFINITION. Conditioning (R80 to R112): calibration, cold junction, curves, scaling, sample quality; range handoff
(R96 to R101); slice glide-over at the sample instants (R424, R425); waveform words (R81, R266, R267);
CONDITION_CONFIGURE, TABLE_LOAD, TABLE_READ. -/

namespace Sys2Proof.Machine

/-- Full-scale magnitude of a range in V, A, Ω or V/V (R47). -/
def rangeSpan : Nat → Rat
  | 0 => mkRat 20 1000 | 1 => mkRat 80 1000 | 2 => mkRat 320 1000 | 3 => mkRat 125 100 | 4 => 5 | 5 => 12
  | 6 => mkRat 25 1000 | 7 => 500 | 8 => 5000 | 9 => 200000 | 10 => mkRat 8 1000 | _ => mkRat 32 1000

def ratAbs (q : Rat) : Rat := if q < 0 then -q else q
def ratMax (a b : Rat) : Rat := if a < b then b else a
def ratMin (a b : Rat) : Rat := if a < b then a else b
def ratClamp (lo hi x : Rat) : Rat := ratMax lo (ratMin hi x)

/-- Accuracy bound A of R49 at a reading: percent of reading and absolute part. -/
def accuracyBound (range : Nat) (p : Rat) : Rat :=
  let a := ratAbs p
  match range with
  | 0 => a * mkRat 2 10000 + mkRat 2 1000000
  | 1 => a * mkRat 2 10000 + mkRat 4 1000000
  | 2 => a * mkRat 15 100000 + mkRat 10 1000000
  | 3 => a * mkRat 15 100000 + mkRat 40 1000000
  | 4 => a * mkRat 2 10000 + mkRat 150 1000000
  | 5 => a * mkRat 2 10000 + mkRat 400 1000000
  | 6 => a * mkRat 3 10000 + mkRat 1 1000000
  | 7 => a * mkRat 2 10000 + mkRat 20 1000
  | 8 => a * mkRat 2 10000 + mkRat 200 1000
  | 9 => a * mkRat 5 10000 + 20
  | 10 => a * mkRat 2 10000 + mkRat 5 10000000
  | _ => a * mkRat 2 10000 + mkRat 2 1000000

/-- Noise bound N of R49 at 10 S/s. -/
def noiseBase : Nat → Rat
  | 0 => mkRat 5 100000000 | 1 => mkRat 8 100000000 | 2 => mkRat 2 10000000 | 3 => mkRat 6 10000000
  | 4 => mkRat 24 10000000 | 5 => mkRat 6 1000000 | 6 => mkRat 12 1000000000 | 7 => mkRat 5 10000 | 8 => mkRat 5 1000
  | 9 => mkRat 4 10 | 10 => mkRat 1 100000000 | _ => mkRat 3 100000000

def noiseBound (range : Nat) (rate : Nat × Nat) : Rat := noiseBase range * ratSqrt (mkRat rate.1 (10 * rate.2))

/-- Pair limit of R425. -/
def pairLimit (range : Nat) (rate : Nat × Nat) (p : Rat) : Rat := 2 * accuracyBound range p + 3 * noiseBound range rate

/-- Field trim of a channel (R399). -/
def State.trim (s : State) (g : Nat) : Word × Word := tget (0x3F800000, 0) s.mod.trims g

/-- The field trim that conditions the sample of instant `t`: a new one applies from the first sample after it (R82, R398). -/
def State.trimAt (s : State) (g t : Nat) : Word × Word :=
  match s.mod.trimsOld.find? (·.1 == g) with
  | some (_, u, w) => if t ≤ u then w else s.trim g
  | none => s.trim g

/-- Step 2 of R80: the factory-calibrated value p₀ of a code on a slice and range. -/
def factoryValue (isl slice range : Nat) (code : BitVec 24) : Rat :=
  Config.sliceGain isl slice range * ((code.toInt : Rat) * rangeSpan range / 8388608) + Config.sliceOffset isl slice range

/-- Step 2 of R80: the field trim. -/
def trimmed (t : Word × Word) (p0 : Rat) : Rat := f32Rat t.1 * p0 + f32Rat t.2

/-- What a curve answers: its output, whether it lies above or below its valid range, whether it is unusable. -/
structure CurveOut where
  c : Rat
  above : Bool := false
  under : Bool := false
  bad : Bool := false

/-- A curve result with the arithmetic error that R84 allows (an open value within the bound), clamped to the valid range
(R85). -/
def judged (lo hi bound exact err : Rat) : CurveOut :=
  let y := exact + ratClamp (-bound) bound err
  if y < lo then { c := lo, under := true } else if hi < y then { c := hi, above := true } else { c := y }

/-- R(t)/R0 of IEC 60751 at a temperature in 1e-6 °C (R84). -/
def platinum (i : Int) : Rat :=
  let t : Rat := mkRat i 1000000
  let base := 1 + mkRat 39083 10000000 * t + mkRat (-5775) 10000000000 * t * t
  if t < 0 then base + mkRat (-4183) 1000000000000000 * (t - 100) * t * t * t else base

/-- R(t)/100 Ω of NI100 (R84). -/
def nickel (i : Int) : Rat :=
  let t : Rat := mkRat i 1000000
  let t2 := t * t
  1 + mkRat 5485 1000000 * t + mkRat 665 100000000 * t2 + mkRat 2805 100000000000000 * t2 * t2 +
    mkRat (-20) 1000000000000000000 * t2 * t2 * t2

/-- A rising function of the temperature inverted over `[lo, hi]` °C (R84, R85). -/
def invertRising (f : Int → Rat) (lo hi : Int) (y err : Rat) : CurveOut :=
  if y < f (lo * 1000000) then { c := lo, under := true }
  else if f (hi * 1000000) < y then { c := hi, above := true }
  else judged lo hi (mkRat 1 100) (mkRat (bisect f y 31 (lo * 1000000)) 1000000) err

/-- Valid ranges of the thermocouple curves (R83). -/
def tcRange : Nat → Int × Int
  | 1 => (250, 1820) | 2 => (-200, 1000) | 3 => (-210, 1200) | 4 => (-200, 1372) | 5 => (-200, 1300)
  | 6 => (-50, 1768) | 7 => (-50, 1768) | _ => (-200, 400)

/-- Points of a table slot. -/
def tablePoints : List Word → List (Rat × Rat)
  | x :: y :: r => (f32Rat x, f32Rat y) :: tablePoints r
  | _ => []

/-- Linear interpolation between the bracketing points (R84). -/
def interpolate (x : Rat) : List (Rat × Rat) → Rat
  | (x0, y0) :: (x1, y1) :: r =>
    if x ≤ x1 || r.isEmpty then y0 + (y1 - y0) * (x - x0) / (x1 - x0) else interpolate x ((x1, y1) :: r)
  | [(_, y)] => y
  | [] => 0

/-- A user table judged on its input (R85). -/
def tableOut (pts : List (Rat × Rat)) (x err : Rat) : CurveOut :=
  match pts.head?, pts.getLast? with
  | some (x0, y0), some (x1, y1) =>
    if x < x0 then { c := y0, under := true }
    else if x1 < x then { c := y1, above := true }
    else
      let lo := pts.foldl (fun a e => ratMin a e.2) y0
      let hi := pts.foldl (fun a e => ratMax a e.2) y0
      let b := (hi - lo) / 1000000
      { c := interpolate x pts + ratClamp (-b) b err }
  | _, _ => { c := 0, bad := true }

/-- Steinhart–Hart (R84, R86): coefficients that are not finite give no result. -/
def ntcOut (v : List Word) (r err : Rat) : CurveOut :=
  let k := fun i => f32Rat (v.getD i 0)
  if r ≤ 0 then { c := 0, under := true, bad := true }
  else if !(v.take 3).all f32Finite then { c := 0, bad := true }
  else
    let l : Rat := mkRat (lnFix r) (2 ^ 64)
    let d := k 0 + k 1 * l + k 2 * l * l * l
    if d = 0 then { c := 0, bad := true }
    else judged (k 3) (k 4) (mkRat 1 100) (1 / d - mkRat 27315 100) err

/-- Step 4 of R80 for channel conditioning `d` on kind and range; `p` is the physical value, `tcj` the cold-junction
temperature. -/
def evalCurve (slots : Nat → Option Slot) (d : CondCfg) (kind range : Nat) (p tcj : Rat) : CurveOut :=
  let err := Config.curveErr d.curve p
  let span := rangeSpan range
  if d.curve = 0 then judged (if kind = 3 ∨ kind = 4 ∨ kind = 5 then 0 else -span) span 0 p 0
  else if d.curve ≤ 8 then
    let r := tcRange d.curve
    invertRising (fun i => Config.tcEmf d.curve (mkRat i 1000000)) r.1 r.2 (p + Config.tcEmf d.curve tcj) err
  else if d.curve = 0x10 then invertRising platinum (-200) 850 (p / 100) err
  else if d.curve = 0x11 then invertRising platinum (-200) 850 (p / 500) err
  else if d.curve = 0x12 then invertRising platinum (-200) 850 (p / 1000) err
  else if d.curve = 0x13 then invertRising nickel (-60) 180 (p / 100) err
  else if d.curve = 0x20 then
    let a := f32Rat d.arg0
    let b := f32Rat d.arg1
    if a = b || !f32Finite d.arg0 || !f32Finite d.arg1 then { c := 0, bad := true }
    else
      let u := (p - a) / (b - a)
      if u < 0 then { c := 0, under := true }
      else if 1 < u then { c := 1, above := true }
      else if u < mkRat d.cutoff 200 then { c := 0 }
      else { c := ratClamp 0 1 (ratSqrt u + ratClamp (-(mkRat 1 1000000)) (mkRat 1 1000000) err) }
  else match curveSlot d.curve with
    | none => { c := 0, bad := true }
    | some (n, f) => match slots n with
      | none => { c := 0, bad := true }
      | some t =>
        if t.format ≠ f then { c := 0, bad := true }
        else if f = 1 then ntcOut t.vals p err
        else if !f32Finite d.gain || !f32Finite d.offset then { c := 0, bad := true }
        else tableOut (tablePoints t.vals) (f32Rat d.gain * p + f32Rat d.offset) err

/-- Step 5 of R80: GAIN × c + OFFSET, rounded as R94 lays down; a user table's y is itself the value. -/
def scale (d : CondCfg) (c : Rat) : Word :=
  let c32 := f32OfRat c
  if 0x40 ≤ d.curve ∧ d.curve ≤ 0x4F then c32 else f32Add (f32Mul d.gain c32) d.offset

/-! ### Cold junction -/

/-- A sensor reads plausible (R92): −45 to +110 °C, at most 5 K per second; readings in 0.001 °C. -/
def cjPlausible (last : Option (Int × Nat)) (v : Int) (now : Nat) : Bool :=
  decide (-45000 ≤ v ∧ v ≤ 110000) &&
  match last with
  | none => true
  | some (w, t) => decide (1000000000 * (v - w).natAbs ≤ 5000 * (now - t))

/-- A cold-junction temperature: the value in °C and the REAL32 that ACH_CH_CJVAL shows (R111). -/
abbrev CjVal := Rat × Word

/-- The newest of dated values that is not later than `t` and no older than `age` (R92). -/
def newestAt (at' : α → Nat) (t age : Nat) (l : List α) : Option α :=
  (l.find? fun e => decide (at' e ≤ t)).filter fun e => decide (t ≤ at' e + age)

/-- A new value before dated ones; of those that no sample still to come needs, only the newest is kept. -/
def keepRecent (at' : α → Nat) (t : Nat) : List α → List α
  | [] => []
  | e :: r => if t < at' e + 1000000000 then e :: keepRecent at' t r else [e]

/-- Fresh readings of CJ0 and CJ1 at instant `t`. -/
def cjRead (i t : Nat) (r : Option (Int × Int)) (s : State) : State :=
  match r with
  | none => s
  | some (a, b) =>
    let x := s.aisl i
    s.setAisl i { x with
      cjOk := BitVec.ofNat 2 (bit (cjPlausible x.cj0.head? a t) 0 + bit (cjPlausible x.cj1.head? b t) 1)
      cj0 := (a, t) :: keepRecent Prod.snd t x.cj0, cj1 := (b, t) :: keepRecent Prod.snd t x.cj1 }

/-- Value of an internal sensor for a sample of instant `t`, while usable (R92). -/
def internalCj (x : AIsland) (n t : Nat) : Option CjVal :=
  if x.cjOk.getLsbD n then
    (newestAt Prod.snd t 2000000000 (if n = 0 then x.cj0 else x.cj1)).map fun e => (mkRat e.1 1000, f32OfRat (mkRat e.1 1000))
  else none

/-- Value of the external channel for a sample of instant `t`, while usable (R92). -/
def State.externalCj (s : State) (g t : Nat) : Option CjVal :=
  (newestAt Prod.fst t (max 2000000000 (2 * s.samplePeriod g)) (s.chan g).cjUsable).map fun e => (f32Rat e.2, e.2)

/-- The sources of R90 in order: the selected one and its fallback. DESIGN CHOICE (log 91): the internal automatic source that CJSRC 4
falls back to brings its own fallback, the other internal sensor. -/
def State.cjSources (s : State) (g t : Nat) : List (Option CjVal) :=
  let x := s.chan g
  let i := s.aisl (g / 8)
  let auto := if x.cfg.tp ≤ 15 then [internalCj i 0 t, internalCj i 1 t] else [internalCj i 1 t, internalCj i 0 t]
  match x.cond.cjsrc with
  | 0 => [some (0, 0)]
  | 1 => auto
  | 2 => [internalCj i 0 t, internalCj i 1 t]
  | 3 => [internalCj i 1 t, internalCj i 0 t]
  | 4 => s.externalCj (g / 8 * 8 + x.cond.cjch) t :: (if x.cond.cjfb then auto else [])
  | _ => [some (f32Rat x.cond.arg0, x.cond.arg0)]

/-- T_cj, CJ_FAULT, and whether no source remains (R93). -/
def pickCj (l : List (Option CjVal)) : Option CjVal × Bool × Bool :=
  match l with
  | [] => (none, true, true)
  | some v :: _ => (some v, false, false)
  | none :: r => match r.find? (·.isSome) with
    | some (some v) => (some v, true, false)
    | _ => (none, true, true)

/-! ### One conversion -/

/-- A conditioned result. -/
structure Conv where
  p0 : Rat
  p : Rat
  value : Word
  sqw : Nat
  cj : Word

/-- SQW bit test on a Nat. -/
def sq (n k : Nat) : Bool := n.testBit k

/-- Usable under R105: INVALID, UNSETTLED and BLANKED all 0. -/
def usableSqw (q : BitVec 16) : Bool := !q.getLsbD 15 && !q.getLsbD 0 && !q.getLsbD 1

/-- Some switch of the channel has a path bit at 0 (R40). -/
def State.pathBad (s : State) (isl : Nat) (l : List (Nat × Nat)) : Bool :=
  l.any fun j => tget (false, false) (s.aisl isl).paths (j.1 * 32 + j.2) ≠ (true, true)

/-- The conditions of SPARE_DEGRADED for a measurement sample (R103, R438). -/
def State.spareDegraded (s : State) (g pool : Nat) (l : List (Nat × Nat)) : Bool :=
  let x := s.aisl (g / 8)
  x.refDegraded || s.pathBad (g / 8) l || x.supply = 1 || x.supply = 2 || decide (2 ≤ s.poolNow pool (g / 8))

/-- Start of the filter window that ends at instant `t` (R51, R57): the conversion window of a pulsed channel, else one settling
length, from the last restart of the decimators at the earliest. -/
def Chan.windowFrom (x : Chan) (t : Nat) : Nat :=
  if x.cfg.pulsed then x.window.getD t else max x.restart (t - 1000000000 * x.cfg.settle * x.rate.2 / x.rate.1)

/-- The same for the waveform decimator (R52). -/
def Chan.waveFrom' (x : Chan) (t : Nat) : Nat := max x.restart (t - waveSettle x.cfg.wave)

/-- A path test overlaps the window after `w` up to `t` (R77). -/
def Chan.tested (x : Chan) (w t : Nat) : Bool := x.testAt.any fun a => decide (w < a ∧ a ≤ t)

/-- The content of a table slot for a sample of instant `t`: a load holds from the first sample after it (R82, R88). -/
def State.slotAt (s : State) (t n : Nat) : Option Slot :=
  match tget none (s.ana.slotsOld.map fun e => (e.1, some e.2)) n with
  | some (old, since) => if t ≤ since then old else s.slot n
  | none => s.slot n

/-- The sample of instant `t` suffers the mismatch of R88. -/
def State.mismatchAt (s : State) (t : Nat) (x : Chan) : Bool :=
  match curveSlot x.cond.curve with
  | none => x.mismatch || !curveKindOk x.cond.curve x.cfg.kind
  | some (n, f) =>
    let before := match tget none (s.ana.slotsOld.map fun e => (e.1, some e.2)) n with
      | some (_, since) => decide (t ≤ since)
      | none => false
    (x.mismatch && !before) || !curveKindOk x.cond.curve x.cfg.kind ||
      (match s.slotAt t n with | some u => u.format ≠ f | none => true)

/-- One code of slice `slice` on range `range` becomes a value and an SQW (R80, R103, R106, R107) for instant `t`; `marks` are bits
set by the caller. -/
def condition (s : State) (g slice range t : Nat) (code : BitVec 24) (ppm marks : Nat) : Conv :=
  let x := s.chan g
  let isl := s.aisl (g / 8)
  let w := x.windowFrom t
  let res := x.cfg.kind = 3 ∨ x.cfg.kind = 4 ∨ x.cfg.kind = 5
  let v := code.toInt
  let hi : Bool := v = 8388607
  let lo : Bool := decide (v ≤ -8388607)
  let neg : Bool := decide res && decide (v < 0)
  let p0 := factoryValue (g / 8) slice range code
  let p := trimmed (s.trimAt g t) p0
  let tc := 1 ≤ x.cond.curve && decide (x.cond.curve ≤ 8)
  let cj := if tc then pickCj (s.cjSources g t) else (none, false, false)
  let o := evalCurve (s.slotAt t) x.cond x.cfg.kind range p (cj.1.getD (0, 0)).1
  let curveOver := !hi && !lo && o.above
  let curveUnder := !hi && !lo && o.under
  let low := decide (x.cfg.kind = 2 ∧ x.cfg.emode = 3) && decide (p < mkRat 5 10000)
  let openWire :=
    (x.cfg.owTest && decide (x.cfg.kind = 1 ∨ x.cfg.kind = 7 ∨ x.cfg.kind = 6) && hi && x.satLast) ||
    (decide res && decide (ppm < 500000)) || (low && x.lowLast)
  let clamped := s.clamped g w t
  let eng := scale x.cond o.c
  let cjBad := match cj.1 with | some c => !f32Finite c.2 | none => false
  let q := marks + bit (decide (0 < x.unsettled) || (x.cfg.pulsed && x.rbFail)) 0 + bit (isl.blankOverlap w t) 1 +
    bit clamped 2 + bit (tget none (s.mod.cals.map fun e => (e.1, some e.2)) g).isSome 6 + bit (hi || curveOver) 8 +
    bit (lo || neg || curveUnder) 9 + bit openWire 10 + bit cj.2.1 12 + bit x.gap 13 + bit (s.spareDegraded g 0 x.conn) 14
  let invalid := clamped || openWire || hi || lo || neg || isl.refFault || (sq marks 3 && !sq marks 4) || cj.2.2 || cjBad ||
    o.bad || s.mismatchAt t x || !f32Finite eng || x.tested w t
  { p0 := p0, p := p, value := if invalid then nan32 else eng, sqw := q + bit invalid 15
    cj := if tc then (match cj.1 with | some c => c.2 | none => nan32) else nan32 }

/-- Both ends of the code range (R103). -/
def codeSat (code : BitVec 24) : Bool := code.toInt = 8388607 || decide (code.toInt ≤ -8388607)

/-- The code of a sample: in RES3 the difference of the two windows (R59). DESIGN CHOICE (log 92): saturated when either window is,
towards the sign of the difference. -/
def readingCode (r : Reading) (kind : Nat) : BitVec 24 :=
  if kind = 4 then
    let d := r.code.toInt - r.second.toInt
    if codeSat r.code || codeSat r.second then (if d < 0 then BitVec.ofInt 24 (-8388607) else BitVec.ofInt 24 8388607)
    else BitVec.ofInt 24 (max (-8388607) (min 8388607 d))
  else r.code

/-! ### Range handoff -/

/-- Lowest and highest range of a kind's ladder. -/
def ladder : Nat → Option (Nat × Nat)
  | 1 => some (0, 5) | 7 => some (0, 1) | 6 => some (10, 11) | 3 => some (7, 9) | 4 => some (7, 9) | 5 => some (7, 9)
  | _ => none

/-- The adjacent wider and narrower ranges a channel may move to (R97). -/
def Chan.wider (x : Chan) : Option Nat := if x.rangeNow + 1 ≤ x.cond.rangeHi then some (x.rangeNow + 1) else none
def Chan.narrower (x : Chan) : Option Nat := if x.cond.rangeLo + 1 ≤ x.rangeNow then some (x.rangeNow - 1) else none

/-- Pre-arm condition of R97 with the direction: 0 wider, 1 narrower. -/
def preArm (x : Chan) (p : Rat) : Option (Nat × Nat) :=
  let a := ratAbs p
  let w := match x.wider with
    | some r => if mkRat 85 100 * rangeSpan x.rangeNow ≤ a then some (0, r) else none
    | none => none
  w.orElse fun _ => match x.narrower with
    | some r => if a ≤ mkRat 70 100 * rangeSpan r then some (1, r) else none
    | none => none

/-- Takeover condition of R97. -/
def takeOver (x : Chan) (p : Rat) (sat : Bool) : Option (Nat × Nat) :=
  let a := ratAbs p
  let w := match x.wider with
    | some r => if sat || mkRat 95 100 * rangeSpan x.rangeNow ≤ a then some (0, r) else none
    | none => none
  w.orElse fun _ => match x.narrower with
    | some r => if a ≤ mkRat 60 100 * rangeSpan r then some (1, r) else none
    | none => none

/-- Release condition of R97 in the direction being armed. -/
def releaseCond (x : Chan) (p : Rat) : Bool :=
  let a := ratAbs p
  if x.hdir = 0 then decide (a < mkRat 80 100 * rangeSpan x.rangeNow)
  else match x.narrower with | some r => decide (mkRat 75 100 * rangeSpan r < a) | none => true

/-- A free spare-role slice of the island (R98): none that a swap has claimed. -/
def State.spareSlice (s : State) (isl : Nat) : Option Nat :=
  (List.range 10).find? fun p =>
    (s.partRole 0 isl p = 1 || s.partRole 0 isl p = 4) && !s.sliceHeld isl p && !s.reserved 0 isl p

/-- The crossing of channel `h` comes before that of channel `g` (R98): the earlier instant, then the lower channel. -/
def State.crossedFirst (s : State) (h g : Nat) : Bool :=
  match (s.chan h).crossAt, (s.chan g).crossAt with
  | some a, some b => decide (a < b) || (a == b && decide (h < g))
  | some _, none => true
  | _, _ => false

/-- Channel `h` may be served by a spare (R98). -/
def State.handoffOk (s : State) (h : Nat) : Bool :=
  let x := s.chan h
  !s.mode .lean && !decide (3 ≤ x.cfg.kind ∧ x.cfg.kind ≤ 5) && s.glideOk h && (s.sliceSwap h).isNone && x.change.isNone

/-- A spare that has just joined another channel whose crossing comes after that of `g` serves `g` instead (R98). -/
def takeBack (g : Nat) (s : State) : State :=
  if (s.spareSlice (g / 8)).isSome then s
  else match ((List.range 8).map (g / 8 * 8 + ·)).find? fun h =>
      h ≠ g && (s.chan h).spare.isSome && (s.chan h).armCount = 0 && s.crossedFirst g h with
    | some h => releaseSpare h s
    | none => s

/-- A spare is joined for a handoff (R97, R98): the earliest crossing has it, then the lower channel. Its switches are tested first; a
shorted one keeps it out (R40). -/
def joinSpare (g dir : Nat) (fails : List Nat) (s : State) : State :=
  if !s.handoffOk g || ((List.range 8).any fun c =>
      let h := g / 8 * 8 + c
      h ≠ g && (s.chan h).spare.isNone && s.handoffOk h && s.crossedFirst h g) then s
  else
    let s := takeBack g (endAudit (g / 8) s)
    match s.spareSlice (g / 8) with
    | none => s
    | some p =>
      let (bad, s) := testNew (g / 8) fails ((s.chan g).twinJoins p) s
      if bad then s
      else
        let x := s.chan g
        (s.setChan g { x with spare := some p, hstate := 1, hdir := dir, armCount := 0, relCount := 0, joinAt := s.now }
          ).setPartRole 0 (g / 8) p 2

/-- The fallback of R101: the active slice switches at the sample boundary `t`, and its decimators restart. -/
def fallback (g r dir t : Nat) (s : State) : State :=
  let x := s.chan g
  let res := 3 ≤ x.cfg.kind ∧ x.cfg.kind ≤ 5
  let n := x.cfg.settle
  let s := s.setChan g { x with
    rangeNow := r, changeLeft := n, changeLeftW := 40, hstate := 3, hdir := dir, holdOff := 4 * n
    falls := (x.falls + 1) % 256, restart := t
    unsettled := if res then n else x.unsettled, unsettledW := if res then 40 else x.unsettledW }
  match s.sliceSwap g with
  | some w => s.setSwap { w with passes := 0, pairs := 0 }
  | none => s

/-- The takeover condition holds with no spare to take over (R98): the fallback, unless its hold-off runs (R101). -/
def rangeFall (g t : Nat) (p : Rat) (sat : Bool) (s : State) : State :=
  let x := s.chan g
  if 0 < x.holdOff then s
  else match takeOver x p sat with
    | some d => fallback g d.2 d.1 t s
    | none => s

/-- After the delivered sample of instant `t`: pre-arm, arming, release, fallback (the procedure after R98). A spare claimed since the
last sample leaves the fallback while the takeover condition holds (R100). -/
def rangeStep (g t : Nat) (p : Rat) (sat : Bool) (fails : List Nat) (s : State) : State :=
  let x := s.chan g
  let s := s.setChan g { x with claimed := false, crossAt := if (preArm x p).isSome then x.crossAt.orElse fun _ => some t else none }
  if !x.cond.autorange || (ladder x.cfg.kind).isNone then s
  else if x.claimed && (takeOver x p sat).isSome then rangeFall g t p sat s
  else
    let s := if x.spare.isNone then (match preArm x p with | some d => joinSpare g d.1 fails s | none => s) else s
    let y := s.chan g
    match y.spare with
    | some _ =>
      if x.spare.isNone then s
      else
        let n := y.armCount + 1
        let armed := decide (y.cfg.settle + 1 ≤ n) && decide (y.joinAt + waveSettle y.cfg.wave ≤ s.now)
        let rel := if releaseCond y p then y.relCount + 1 else 0
        let s := s.setChan g { y with armCount := n, hstate := if armed then 2 else 1, relCount := rel }
        if 8 ≤ rel then releaseSpare g s else s
    | none => rangeFall g t p sat s

/-- An armed spare takes over at this sample instant (R97, R99): the channel, its slice and switches change; answers the
spare and the range. -/
def handover (g : Nat) (p : Rat) (sat : Bool) (r : Reading) (s : State) : Option (Nat × Nat × BitVec 24) :=
  let x := s.chan g
  match x.spare, r.spare, takeOver x p sat with
  | some sp, some code, some d =>
    let armed := decide (x.cfg.settle + 1 ≤ x.armCount + 1) && decide (x.joinAt + waveSettle x.cfg.wave ≤ s.now)
    if armed && d.1 = x.hdir && (s.sliceSwap g).isNone && x.cond.autorange then some (sp, d.2, code) else none
  | _, _, _ => none

def Chan.moveSlice (x : Chan) (p : Nat) : List (Nat × Nat) :=
  match x.pslice with
  | none => x.conn
  | some q => x.conn.map fun j => if j.2 = 2 * q then (j.1, 2 * p) else if j.2 = 2 * q + 1 then (j.1, 2 * p + 1) else j

/-- Switches of slice `p` that close when it takes the place of the slice in service. -/
def Chan.moved (x : Chan) (p : Nat) : List (Nat × Nat) := (x.moveSlice p).filter fun j => j.2 = 2 * p || j.2 = 2 * p + 1

/-- The spare becomes the active slice, the old one takes the spare role. -/
def takeHandover (g sp range : Nat) (s : State) : State :=
  let x := s.chan g
  let s := match x.pslice with | some q => s.setPartRole 0 (g / 8) q 1 | none => s
  let s := s.putInService 0 (g / 8) sp (g % 8)
  s.setChan g { x with
    conn := x.moveSlice sp, pslice := some sp, rangeNow := range, spare := none, hstate := 0, armCount := 0, relCount := 0
    glides := (x.glides + 1) % 256, satLast := false, waveMark := 3, crossAt := none }

/-! ### Glide-over of slices at sample instants -/

/-- The handover step of R424, R425 and R427. -/
def glideHandover (g : Nat) (w : Swap) (s : State) : State :=
  let x := s.chan g
  let newRole := if w.fails then 6 else 5
  let s := s.setChan g { x with conn := x.moveSlice w.spare, pslice := some w.spare, satLast := false, waveMark := 1 }
  let s := (s.setPartRole 0 (g / 8) w.worn newRole).putInService 0 (g / 8) w.spare (g % 8)
  endSwap w newRole s

/-- A usable pair is compared (R425): 16 consecutive passes order the handover, 64 pairs without them a reference check. -/
def comparePair (g : Nat) (w : Swap) (pw ps : Rat) (s : State) : State :=
  let x := s.chan g
  let d := ratAbs (ps - pw)
  let ok := decide (d ≤ pairLimit x.rangeNow x.rate pw)
  let passes := if ok then w.passes + 1 else 0
  let pairs := w.pairs + 1
  let w' := { w with
    passes := passes, pairs := pairs, maxDev := if f32Rat w.maxDev < d then f32OfRat d else w.maxDev
    phase := if 16 ≤ passes then 3 else if 64 ≤ pairs then 4 else 2 }
  s.setSwap w'

/-- A glide-over starts at a sample instant once its spare has a reference check no older than 10 s of at most 25 % of A; a
worse check ends it, and the spare becomes FAILED (R424, R425). -/
def joinGlide (w : Swap) (fails : List Nat) (s : State) : State :=
  let sp := s.slice w.isl w.spare
  match sp.checked with
  | none => s
  | some t =>
    if w.method ≠ 0 || t + 10000000000 < s.now then s
    else if 25 < sp.checkPct then refuseSpare w 6 s
    else
      let (bad, s) := testNew w.isl fails ((s.chan (w.isl * 8 + w.idx)).twinJoins w.spare) s
      if bad then refuseSpare w 1 s
      else (s.setSwap { w with phase := 1, joinAt := s.now }).setPartRole 0 w.isl w.spare 3

/-- A sample of a joined spare: it arms after L + 1 samples and the settling of its waveform decimator (R424, R427). -/
def glideSample (g t : Nat) (w : Swap) (worn : Conv) (r : Reading) (s : State) : State :=
  let x := s.chan g
  match r.spare with
  | none => s
  | some code =>
    let n := w.samples + 1
    let armed := decide (x.cfg.settle + 1 ≤ n) && decide (w.joinAt + waveSettle x.cfg.wave ≤ s.now)
    let w := { w with samples := n, phase := if w.phase = 1 && armed then 2 else w.phase }
    let s := s.setSwap w
    if w.phase ≠ 2 then s
    else
      let sp := condition s g w.spare x.rangeNow t code r.readback 0
      if usableSqw (BitVec.ofNat 16 worn.sqw) && usableSqw (BitVec.ofNat 16 sp.sqw) then comparePair g w worn.p sp.p s else s

/-- A deviation in % of the accuracy bound A at a reading (R420). -/
def pctOfA (range : Nat) (p d : Rat) : Nat := (d * 100 / accuracyBound range p).ceil.toNat

/-- A sample of an audited channel: usable pairs are compared, 16 at most, with no effect on the samples (R421). -/
def auditSample (g t : Nat) (worn : Conv) (r : Reading) (s : State) : State :=
  match s.auditOf g, r.spare with
  | some a, some code =>
    let x := s.chan g
    let a := { a with samples := a.samples + 1 }
    let sp := condition s g a.spare x.rangeNow t code r.readback 0
    if s.auditArmed a && a.pairs < 16 && usableSqw (BitVec.ofNat 16 worn.sqw) && usableSqw (BitVec.ofNat 16 sp.sqw) then
      let d := ratAbs (sp.p - worn.p)
      let pct := pctOfA x.rangeNow worn.p d
      let a := { a with pairs := a.pairs + 1 }
      s.setAudit (g / 8) (some (if a.pct < pct then { a with pct := pct, dev := f32OfRat d } else a))
    else s.setAudit (g / 8) (some a)
  | _, _ => s

/-! ### PRECISION_SAMPLE -/

/-- Counters of marks that each delivered sample uses up. -/
def Chan.countDown (x : Chan) : Chan :=
  { x with unsettled := x.unsettled - 1, changeLeft := x.changeLeft - 1, holdOff := x.holdOff - 1
           hstate := if x.hstate = 3 && x.holdOff ≤ 1 then 0 else x.hstate, gap := false, glideNext := false }

/-- The sample a simulation puts in place of the measured one (R396). -/
def simSample (s : State) (g : Nat) (sim : Sim) (m : Sample) : Sample :=
  let x := s.chan g
  let res := decide (3 ≤ x.cfg.kind ∧ x.cfg.kind ≤ 5)
  let q := sim.qbits
  let invalid := q.getLsbD 2 || q.getLsbD 10 || (q.getLsbD 3 && !q.getLsbD 4) || decide (8388607 ≤ sim.raw) ||
    decide (sim.raw ≤ -8388607) || (res && decide (sim.raw < 0)) || (s.aisl (g / 8)).refFault || x.mismatch ||
    !f32Finite sim.value
  { m with value := if invalid then nan32 else sim.value, raw := BitVec.ofInt 24 sim.raw, cj := nan32
           sqw := q ||| 0x0020 ||| (m.sqw &&& 0x2000) ||| (if invalid then 0x8000 else 0) }

/-- A capture of CAL collects p₀ of usable samples (R398). -/
def captureSample (g : Nat) (c : Conv) (t : Nat) (s : State) : State :=
  match s.mod.cals.find? (·.1 == g) with
  | some (_, { capture := some (id, ref, s0, vals), points := pts, set := set }) =>
    if usableSqw (BitVec.ofNat 16 c.sqw) && decide (s0 ≤ t) &&
        (decide (t ≤ s0 + 400000000) || (vals.isEmpty && decide (t ≤ s0 + 480000000))) then
      let k : Cal := { points := pts, set := set, capture := some (id, ref, s0, vals ++ [f32OfRat c.p0]) }
      { s with mod := { s.mod with cals := tput s.mod.cals g k } }
    else s
  | _ => s

def State.simOf (s : State) (g : Nat) : Option Sim := (s.mod.sims.find? (·.1 == g)).map (·.2)

/-- A channel that can produce a sample at all (R41, R46, R72). -/
def State.canSample (s : State) (g : Nat) : Bool :=
  let x := s.chan g
  x.cfg.usesSlice && x.change.isNone && (s.aisl (g / 8)).powered && x.pslice.isSome

/-- End of a pulsed conversion window (R57, R59). -/
def Chan.windowDone (x : Chan) (t : Nat) : Bool :=
  !x.cfg.pulsed || match x.window with
    | some w => decide (w + (if x.cfg.kind = 4 then 2 * pulseWindow x.cfg.pwin + 100000 else pulseWindow x.cfg.pwin) ≤ t)
    | none => false

/-- The conversion window of a pulsed channel ends: the source goes off (R57). -/
def Chan.endWindow (x : Chan) : Chan := if x.cfg.pulsed then { x with srcOn := none, window := none, rbFail := false } else x

/-- A missed instant of a slice being swapped: the sequence number advances over it (R426, R427). -/
def missInstant (g t : Nat) (s : State) : State :=
  let x := s.chan g
  s.setChan g { x.endWindow with nextSeq := (x.nextSeq + 1) % 65536, gap := true, lastAt := some t }

/-- An instant inside a blanking interval gives no sample (R67); a window that ends there ends. -/
def blankInstant (g t : Nat) (s : State) : State := s.setChan g { (s.chan g).endWindow with lastAt := some t }

/-- A conditioning change takes effect, and the range in use with it (R82, R96, R103, R109): the starting range under the new limits.
DESIGN CHOICE (log 93): the range in use is kept inside new limits, and goes back to the configured one when AUTORANGE is cleared. -/
def putCond (g t : Nat) (d : CondCfg) (s : State) : State :=
  let s := releaseSpare g s
  let y := s.chan g
  let r := if d.autorange then max d.rangeLo (min d.rangeHi y.rangeNow) else y.cfg.range
  let moved := r ≠ y.rangeNow && y.cfg.usesSlice
  let s := s.setChan g { y with
    cond := d, rangeNow := r, condNext := none, crossAt := none
    unsettled := if moved then y.cfg.settle else y.unsettled, unsettledW := if moved then 40 else y.unsettledW
    restart := if moved then t else y.restart }
  let s := match s.sliceSwap g with
    | some w => s.setSwap { w with passes := 0, pairs := 0 }
    | none => s
  judgeMismatch g 0 s

/-- A conditioning change that waits takes effect, and its command completes (R109). -/
def applyCond (g t : Nat) (s : State) : State :=
  match (s.chan g).condNext with
  | none => s
  | some n =>
    let s := putCond g t n.cond s
    match n.cmd with
    | some id => completeCmd id stOk [] s
    | none => s

/-- Conditioning for the sample of instant `t`: a change applies from the first sample after it (R82). -/
def condDue (g t : Nat) (s : State) : State :=
  match (s.chan g).condNext with
  | some n => if n.since < t then applyCond g t s else s
  | none => s

/-- A conditioned sample leaves for the ride-through buffer (R70) and updates what later samples look back at. -/
def deliverSample (g t : Nat) (code : BitVec 24) (c : Conv) (s : State) : State :=
  let x := s.chan g
  let m : Sample := { src := g, seq := x.nextSeq, value := c.value, sqw := BitVec.ofNat 16 c.sqw, time := t, raw := code, cj := c.cj }
  let m := match s.simOf g with | some sim => simSample s g sim m | none => m
  let usable := usableSqw m.sqw
  let s := s.setChan g { x.countDown with
    nextSeq := (x.nextSeq + 1) % 65536, lastAt := some t, satLast := code.toInt = 8388607
    lowLast := decide (x.cfg.kind = 2 ∧ x.cfg.emode = 3) && decide (c.p < mkRat 5 10000)
    cjUsable := if usable then (t, m.value) :: keepRecent Prod.fst t x.cjUsable else x.cjUsable
    seqLast := x.nextSeq }
  pushSample m (s.setChan g (s.chan g).endWindow)

/-- PRECISION_SAMPLE (R57, R80, R97, R424). -/
def execPrecisionSample (dt : Nat) (ch : Fin 64) (r : Reading) (s : State) : Host.Outcome State Fault Refusal :=
  let s := s.advance dt
  let g := ch.val
  let x := s.chan g
  let t := gridFloor x.rate s.now
  let fresh := match x.lastAt with | none => true | some u => decide (u < t)
  let live := s.mode .acq || (s.simOf g).isSome
  if !s.canSample g || !fresh || !live || !(s.aisl (g / 8)).onGrid x.rateCode t || !x.windowDone t then .next s
  else if (s.aisl (g / 8)).blanked t then .next (blankInstant g t s)
  else
    let s := condDue g t (cjRead (g / 8) t r.cj s)
    let x := s.chan g
    let slice := x.pslice.getD 0
    let marks := bit (decide (0 < x.changeLeft)) 3 + bit x.glideNext 4
    let code := readingCode r x.cfg.kind
    let worn := condition s g slice x.rangeNow t code r.readback marks
    let sat := codeSat code
    match s.sliceSwap g with
    | some w =>
      if w.phase = 3 || (w.fails && decide (2 ≤ w.phase)) then
        match r.spare with
        | none => .next (missInstant g t s)
        | some code =>
          let c := condition s g w.spare x.rangeNow t code r.readback (bit (decide (0 < x.changeLeft)) 3 + 16)
          .next (deliverSample g t code c (glideHandover g w s))
      else if w.fails then
        .next (missInstant g t (if w.phase = 0 then joinGlide w r.fails s else glideSample g t w worn r s))
      else
        let s := captureSample g worn t (if w.phase = 0 then joinGlide w r.fails s else glideSample g t w worn r s)
        .next (rangeStep g t worn.p sat r.fails (deliverSample g t code worn s))
    | none =>
      match handover g worn.p sat r s with
      | some (sp, range, code) =>
        let c := condition s g sp range t code r.readback 24
        .next (deliverSample g t code c (takeHandover g sp range (captureSample g c t s)))
      | none =>
        .next (rangeStep g t worn.p sat r.fails (deliverSample g t code worn (captureSample g worn t (auditSample g t worn r s))))

/-! ### Waveform words -/

/-- WAVEFORM_WORD (R81, R266, R267): step 2 of R80 only, at the code weight of the range in use; `ppm` is the excitation readback.
DESIGN CHOICE (log 94): the nearest code, halves up, within ±(2²³ − 1). -/
def execWaveformWord (dt : Nat) (ch : Fin 64) (r : WaveReading) (s : State) : Host.Outcome State Fault Refusal :=
  let s := s.advance dt
  let g := ch.val
  let x := s.chan g
  let rate := waveRate x.cfg.wave
  let t := gridFloor (rate, 1) s.now
  let fresh := match x.lastWave with | none => true | some u => decide (u < t)
  let isl := s.aisl (g / 8)
  let failing := match s.sliceSwap g with | some w => w.fails && (w.cause = 2 || w.phase ≠ 3) | none => false
  if failing || decide (t < x.waveFrom) then .next s
  else if rate = 0 || !s.canSample g || !s.mode .acq || !fresh || isl.blanked t || !isl.onGrid (10 + x.cfg.wave) t then .next s
  else
    let p := trimmed (s.trimAt g t) (factoryValue (g / 8) (x.pslice.getD 0) x.rangeNow r.code)
    let q := (p * 8388608 / rangeSpan x.rangeNow)
    let v := max (-8388607) (min 8388607 ((2 * q.num + q.den) / (2 * q.den)))
    let res := decide (3 ≤ x.cfg.kind ∧ x.cfg.kind ≤ 5)
    let (v, sim) := match s.simOf g with | some m => (m.raw, true) | none => (v, false)
    let sat := codeSat r.code
    let sat := if sim then decide (8388607 ≤ v) || decide (v ≤ -8388607) else sat
    let from' := x.waveFrom' t
    let low := decide (x.cfg.kind = 2 ∧ x.cfg.emode = 3) && decide (p < mkRat 5 10000)
    let openWire := (res && decide (r.ppm < 500000)) || (low && x.lowWave)
    let change := decide (0 < x.changeLeftW)
    let invalid := s.clamped g from' t || openWire || sat || (res && decide (v < 0)) || isl.refFault || change ||
      s.mismatchAt t x || x.tested from' t
    let marks := bit invalid 0 + bit (decide (0 < x.unsettledW)) 1 + bit (isl.blankOverlap from' t) 2 +
      bit (change || x.waveMark.testBit 1) 3 + bit (x.waveMark.testBit 0) 4 + bit sat 5 + bit sim 6
    let w : Word := BitVec.ofNat 32 (marks * 2 ^ 24) ||| (BitVec.ofInt 24 v).setWidth 32
    let s := s.setChan g { x with
      lastWave := some t, unsettledW := x.unsettledW - 1, changeLeftW := x.changeLeftW - 1, waveMark := 0, lowWave := low }
    let isl := s.aisl (g / 8)
    let (y, lost) := fitRtb 4 { isl with waves := isl.waves ++ [{ chan := g, time := t, rate := x.cfg.wave, range := x.rangeNow, word := w }] }
    .next (lost.foldl (fun s h => s.setChan h { s.chan h with gap := true }) (s.setAisl (g / 8) y.trimOld))

/-! ### Commands -/

/-- Conditioning named by a CONDITION_CONFIGURE packet (R109). -/
def condOf (c : Cmd) : CondCfg :=
  { curve := c.u8 34, cjsrc := c.u8 35, cjch := c.u8 36, cjfb := (c.u8 37).testBit 0, autorange := (c.u8 37).testBit 1
    rangeLo := c.u8 38, rangeHi := c.u8 39, cutoff := c.u8 40, gain := c.w32 44, offset := c.w32 48
    arg0 := c.w32 52, arg1 := c.w32 56 }

/-- A curve that an external cold-junction channel may have (R91). -/
def cjCurve (n : Nat) : Bool := decide (0x10 ≤ n ∧ n ≤ 0x13) || decide (0x50 ≤ n ∧ n ≤ 0x5F)

/-- The conditioning configured for a channel: what waits for its first sample counts (R82). -/
def Chan.condSet (x : Chan) : CondCfg := match x.condNext with | some n => n.cond | none => x.cond

/-- Another channel takes its cold junction from channel `g` (R91). -/
def State.cjServes (s : State) (g : Nat) : Bool :=
  (List.range 8).any fun c =>
    let h := g / 8 * 8 + c
    let d := (s.chan h).condSet
    h ≠ g && d.cjsrc = 4 && d.cjch = g % 8

/-- AUTORANGE limits (R96). -/
def autorangeOk (kind : Nat) (d : CondCfg) : Bool :=
  !d.autorange || (decide (d.rangeLo ≤ d.rangeHi) &&
    match ladder kind with
    | some (a, b) => decide (a ≤ d.rangeLo ∧ d.rangeHi ≤ b)
    | none => false)

/-- CONDITION_CONFIGURE (R82, R83, R89, R91, R96, R109). -/
def doConditionConfigure (e : CmdEntry) (_ : Env) (s : State) : Rep × State :=
  let c := e.c
  let d := condOf c
  let g := chanOf c
  let x := s.chan g
  let args := (d.cjsrc = 5 || d.curve = 0x20 || c.u32 52 = 0) &&
    (d.curve = 0x20 || c.u32 56 = 0)
  if !c.restZero [(32, 9), (44, 16)] || !c.extZero 0 || 7 < c.u8 32 || 7 < c.u8 33 || 5 < d.cjsrc || 7 < d.cjch ||
      3 < c.u8 37 || 15 < d.cutoff || 11 < d.rangeLo || 11 < d.rangeHi || !curveExists d.curve || !args then (.bad 8, s)
  else if !curveKindOk d.curve x.cfg.kind || (d.curve = 0x20 && f32Eq d.arg0 d.arg1) then (.bad 0x10, s)
  else if !autorangeOk x.cfg.kind d then (.bad 0x13, s)
  else if (match curveSlot d.curve with
      | none => false
      | some (n, f) => match s.slot n with | none => true | some t => t.format ≠ f) then (.bad 0x12, s)
  else if d.cjsrc = 4 && (d.cjch = g % 8 || !cjCurve (s.chan (g / 8 * 8 + d.cjch)).condSet.curve) then (.bad 0x11, s)
  else if s.cjServes g && !cjCurve d.curve then (.bad 0x15, s)
  else if !x.cfg.usesSlice || !s.mode .acq then (.ok [], putCond g s.now d s)
  else
    let s := releaseSpare g s
    (.wait [g], s.setChan g { s.chan g with condNext := some { cond := d, since := s.now, cmd := some e.id } })

/-- Words of a byte string. -/
def wordsOf : Nat → List Byte → List Word
  | 0, _ => []
  | n + 1, l => BitVec.ofNat 32 (leAt l 0 4) :: wordsOf n (l.drop 4)

/-- The x of a table strictly increase. -/
def risingX : List Word → Bool
  | x :: _ :: x' :: r => f32Lt x x' && risingX (x' :: r)
  | _ => true

/-- TABLE_LOAD (R87, R88). -/
def doTableLoad (e : CmdEntry) (_ : Env) (s : State) : Rep × State :=
  let c := e.c
  let n := c.u8 32
  let f := c.u8 33
  let count := c.u16 34
  let vals := wordsOf (c.paramLen / 4) c.ext
  if !c.restZero [(32, 4)] || 15 < n || 1 < f then (.bad 8, s)
  else
    let ok := if f = 0 then
        c.paramLen = count * 8 && decide (2 ≤ count ∧ count ≤ 64) && vals.all f32Finite && risingX vals
      else c.paramLen = 20 && count = 0 && f32Lt (vals.getD 3 0) (vals.getD 4 0) &&
        f32Le 0xC25C0000 (vals.getD 3 0) && f32Le (vals.getD 4 0) 0x43480000
    if !ok then (.bad 0x14, s)
    else
      let t : Slot := { format := f, vals := vals, crc := crc32c (fitBytes c.paramLen c.ext) }
      let s := { s with ana := { s.ana with
        slots := tset none s.ana.slots n (some t), slotsOld := tput s.ana.slotsOld n (s.slot n, s.now) } }
      (.ok [], (List.range 64).foldl (fun s g => slotMismatch g s) s)

/-- TABLE_READ (R110). -/
def doTableRead (e : CmdEntry) (_ : Env) (s : State) : Rep × State :=
  let c := e.c
  let n := c.u8 32
  if !c.restZero [(32, 2)] || !c.extZero 0 || 15 < n then (.bad 8, s)
  else match s.slot n with
    | none => (.ok (le 1 0 ++ le 1 255), s)
    | some t =>
      let body := if t.format = 1 then t.vals.flatMap fun w => le 4 w.toNat
        else ((t.vals.drop (2 * c.u8 33)).take 8).flatMap fun w => le 4 w.toNat
      let count := if t.format = 1 then 0 else t.vals.length / 2
      (.ok (le 1 t.format ++ le 1 count ++ zeros 2 ++ le 4 t.crc ++ body), s)

def execConditionConfigure (dt : Nat) (c : Cmd) (env : Env) (s : State) : Host.Outcome State Fault Refusal :=
  runHere .conditionConfigure dt c env doConditionConfigure s
def execTableLoad (dt : Nat) (c : Cmd) (env : Env) (s : State) : Host.Outcome State Fault Refusal :=
  runHere .tableLoad dt c env doTableLoad s
def execTableRead (dt : Nat) (c : Cmd) (env : Env) (s : State) : Host.Outcome State Fault Refusal :=
  runHere .tableRead dt c env doTableRead s

end Sys2Proof.Machine
end

