-- ==== Sys2Proof/Machine/Outputs.lean ====
section
/-! DEFINITION. Analogue outputs (R113 to R138): configuration, set points, the source that drives (R127), compliance
(R120 to R122), pairs and transfers (R128 to R132), hold and safe values (R133 to R135), island links (R27). -/

namespace Sys2Proof.Machine

/-- Levels in mA (R123) and limits as REAL32. -/
def f32_3p5 : Word := 0x40600000
def f32_21p5 : Word := 0x41AC0000
def f32_3p8 : Word := 0x40733333
def f32_20p5 : Word := 0x41A40000
def f32_24 : Word := 0x41C00000
def f32_10 : Word := 0x41200000

/-- Range of a set point by kind (R113). -/
def outInRange (okind : Nat) (v : Word) : Bool :=
  f32Finite v &&
  match okind with
  | 0 => decide (-10 ≤ f32Rat v ∧ f32Rat v ≤ 10)
  | 1 => decide (0 ≤ f32Rat v ∧ f32Rat v ≤ 24)
  | _ => decide (mkRat 35 10 ≤ f32Rat v ∧ f32Rat v ≤ 24)

/-- NE43_LIMIT (R124). DESIGN CHOICE (log 95): a VOLT output has no NE 43 levels; the flag is stored and has no effect there. -/
def Output.limited (o : Output) (v : Word) : Word × Bool :=
  if !o.ne43 || o.okind = 0 then (v, false)
  else if f32Lt v f32_3p8 then (f32_3p8, true)
  else if f32Lt f32_20p5 v then (f32_20p5, true)
  else (v, false)

/-- Safe value of an output (R135). -/
def Output.safe (o : Output) : Word :=
  match o.safeMode with
  | 0 => if o.okind = 2 then f32_3p5 else 0
  | 1 => o.safeValue
  | 2 => f32_3p5
  | 3 => f32_21p5
  | _ => o.driven

/-- The value the output drives now (R127). -/
def Output.source (o : Output) : Word :=
  if o.safeNow || o.held then o.driven else if o.failLatch then f32_3p5 else o.point

/-- The field trim taken out of a demanded value (R399): (d − TO) / TG. -/
def untrim (t : Word × Word) (d : Word) : Word := f32OfRat ((f32Rat d - f32Rat t.2) / f32Rat t.1)

/-- An output is driven to a value; a change is noted for R120. `plain` leaves the field trim out (R398). -/
def driveTo (g : Nat) (v : Word) (plain : Bool) (s : State) : State :=
  let o := s.out g
  let c := if plain then v else untrim (s.trim g) v
  s.setOut g { o with driven := v, cellSet := c, changed := if o.driven = v then o.changed else s.now }

/-- The output follows its highest-ranked source (R127). -/
def redrive (g : Nat) (s : State) : State := driveTo g (s.out g).source false s

/-- The output takes its safe value (R134, R135). -/
def takeSafe (g : Nat) (s : State) : State :=
  let o := s.out g
  driveTo g o.safe false (s.setOut g { o with safeNow := true, held := false })

/-- Outputs configured. -/
def State.outputs (s : State) : List Nat := (List.range 64).filter fun g => (s.chan g).cfg.kind = 8

/-- DRV falls: every output takes its safe value (R134). -/
def outputsSafe (s : State) : State := s.outputs.foldl (fun s g => takeSafe g s) s

/-- A new set point reaches the output at its instant (R126, R133, R134); `plain` drives it without the field trim. -/
def applyPoint (g : Nat) (v : Word) (plain : Bool) (s : State) : State :=
  let o := s.out g
  let drv := s.mode .drv && !s.islandDead (g / 8)
  let s := s.setOut g { o with point := v, held := false, safeNow := o.safeNow && !drv }
  if plain then driveTo g (s.out g).source true s else redrive g s

/-- The running program owns the output (R125). -/
def State.outOwned (s : State) (g : Nat) : Bool := s.mode .ctl && s.progRunning && s.progBinds g

/-! ### OUTPUT_CONFIGURE -/

/-- Refusals of the crosspoint for an output on TP and TN (R36 to R40, R42); `taken` when every working cell serves another channel. -/
def outConflict (isl g tp tn : Nat) (active taken : Bool) (s : State) : Option Nat :=
  let all := s.placesBut isl g ++ [(tp, 79), (tn, 30)]
  let isCell := fun n => decide (20 ≤ n ∧ n ≤ 28 ∨ n = 80 ∨ n = 79)
  if tp = tn then some 0x0C
  else if [tp, tn].any fun t => decide (2 < (nodesAt all t).length) then some 1
  else if taken then some 2
  else if [tp, tn].any fun t =>
      let n := nodesAt all t
      (n.contains 29 && n.contains 30) || ((n.contains 29 || n.contains 30) && n.any isCell) then some 3
  else if decide (1 < ((nodesAt all tp).filter isCell).length) then some 0x0B
  else if [tp, tn].any fun t => (s.glideTerms isl).contains t then some 7
  else if active && decide (4 ≤ s.heavyBut isl g) then some 6
  else none

/-- The slice of a channel is not needed any more and takes the spare role: the one it holds, or the one the pool map gives it
(R114). -/
def freeSlice (g : Nat) (s : State) : State :=
  let isl := g / 8
  match (s.chan g).pslice.orElse fun _ => (List.range 10).find? fun p =>
      s.partRole 0 isl p = 0 && (s.slice isl p).ch == g % 8 && !s.sliceHeld isl p with
  | some p => checkPool 0 isl (s.setPartRole 0 isl p 1)
  | none => s

/-- The channel leaves whatever it was, for KIND OUT or OFF: spares end, an OUT channel's slice goes to the spare role (R114), a
mismatch ends (R88). -/
def leaveKind (g kind : Nat) (s : State) : State :=
  let s := releaseSpare g s
  let s := if kind = 8 then freeSlice g s else s
  let x := s.chan g
  setMismatch g 2 false (s.setChan g { x with
    cfg := { kind := kind }, change := none, retune := none, pslice := none, psource := none, conn := []
    srcOn := none, window := none, rbFault := false, cjUsable := [], unsettled := 0, unsettledW := 0, changeLeft := 0, changeLeftW := 0
    restart := s.now, crossAt := none, claimed := false })

/-- OUTPUT_CONFIGURE (R113, R114, R122, R135, R137). DESIGN CHOICE (log 96): SAFE_VALUE is judged only where SAFE_MODE uses it. -/
def doOutputConfigure (e : CmdEntry) (env : Env) (s : State) : Rep × State :=
  let c := e.c
  let isl := c.u8 32
  let g := chanOf c
  let k := c.u8 34
  let flags := c.u8 35
  let safe := c.u8 36
  let tp := c.u8 37
  let tn := c.u8 38
  let v := c.w32 40
  let x := s.chan g
  let o := s.out g
  if !c.restZero [(32, 7), (40, 4)] || !c.extZero 0 || 7 < isl || 7 < c.u8 33 || (2 < k && k ≠ 255) || 3 < flags ||
      4 < safe || 31 < tp || 31 < tn then (.bad 8, s)
  else if k = 255 then
    if s.anyShorted isl (s.heldSwitches g) then (.hw 0x0A 0, s) else (.ok [], leaveKind g 0 (dropOutput g s))
  else if k = 0 && (flags.testBit 0 || safe = 2 || safe = 3) then (.bad 0x20, s)
  else if safe = 1 && !outInRange k v then (.bad 0x21, s)
  else
    let same := x.cfg.kind = 8 && o.okind = k && o.tp = tp && o.tn = tn
    let cfgd : Output := { o with okind := k, failLow := flags.testBit 0, ne43 := flags.testBit 1, safeMode := safe
                                  tp := tp, tn := tn, safeValue := v }
    if same then
      let latch := o.failLatch || (cfgd.failLow && o.compliance)
      let s := s.setOut g { cfgd with failLatch := latch }
      (.ok [], if o.safeNow then takeSafe g s else redrive g s)
    else
    let cell := if x.cfg.kind = 8 then o.cellA else s.pickCell isl g
    match outConflict isl g tp tn (k = 1) (cell.isNone && s.allTaken 1 isl) s with
    | some d => (.bad d, s)
    | none =>
      match cell with
      | none => (.hw 9 0, s)
      | some n =>
        let need := [(tp, 20 + n), (tn, 30)]
        let old := s.heldSwitches g
        let (bad, s') := testNew isl env.fails (need.filter fun j => !old.contains j) s
        if s.anyShorted isl (old.filter fun j => !need.contains j) then (.hw 0x0A 0, s)
        else if bad then (.hw 0x0A 0, s')
        else
          let s' := claimPart 1 g n (leaveKind g 8 (clearWay isl g need s'))
          let o' : Output := { okind := k, failLow := flags.testBit 0, ne43 := flags.testBit 1, safeMode := safe, tp := tp
                               tn := tn, safeValue := v, cellA := some n, active := true, safeNow := true
                               driven := if safe = 4 && x.cfg.kind = 8 then o.driven else if k = 2 then f32_3p5 else 0 }
          (.ok [], takeSafe g (s'.setOut g o'))

/-! ### Set points -/

/-- OUTPUT_WRITE (R124 to R126, R137). -/
def doOutputWrite (e : CmdEntry) (_ : Env) (s : State) : Rep × State :=
  let c := e.c
  let g := chanOf c
  let o := s.out g
  let v := c.w32 36
  if !c.restZero [(32, 2), (36, 4)] || !c.extZero 0 || 7 < c.u8 32 || 7 < c.u8 33 then (.bad 8, s)
  else if (s.chan g).cfg.kind ≠ 8 then (.bad 0x20, s)
  else if !outInRange o.okind v then (.bad 0x21, s)
  else if !s.mode .drv then (.conflict 0x00A3, s)
  else if s.outOwned g then (.conflict 0, s)
  else
    let (w, lim) := o.limited v
    let t := if c.notBefore = 0 then s.now else max c.notBefore s.now
    (.wait [g], s.setOut g { o with set := v, staged := some (w, t, some e.id, lim) })

/-- The island has its link to the core: what the core sends reaches it (R126, R133). -/
def State.linkReaches (s : State) (g : Nat) : Bool := (s.aisl (g / 8)).linkUp && !(s.aisl (g / 8)).quiet

/-- SET_POINT_APPLY (R126): the island applies the staged value at its instant; the OUTPUT_WRITE that named it completes. A value
that cannot reach the island is not applied (R133). -/
def execSetPointApply (dt : Nat) (ch : Fin 64) (s : State) : Host.Outcome State Fault Refusal :=
  let s := s.advance dt
  let g := ch.val
  match (s.out g).staged with
  | none => .next s
  | some (v, t, id, lim) =>
    if s.now < t || !s.linkReaches g then .next s
    else
      let plain := (s.mod.cals.any fun e => e.1 == g && e.2.set == some v)
      let s := applyPoint g v plain (s.setOut g { s.out g with staged := none })
      .next (match id with
        | some id => completeCmd id stOk (if lim then le 2 0x0022 else []) s
        | none => s)

/-! ### Pairs -/

/-- OUTPUT_PARALLEL (R128 to R131, R137). DESIGN CHOICE (log 97): an action that needs a pair is refused with PAIR_STATE where there is
none. -/
def doOutputParallel (e : CmdEntry) (env : Env) (s : State) : Rep × State :=
  let c := e.c
  let g := chanOf c
  let isl := c.u8 32
  let o := s.out g
  let a := c.u8 34
  let share := c.u8 35
  if !c.restZero [(32, 4)] || !c.extZero 0 || 7 < isl || 7 < c.u8 33 || 3 < a || 16 < share then (.bad 8, s)
  else if (s.chan g).cfg.kind ≠ 8 || o.okind = 0 then (.bad 0x20, s)
  else if a = 0 then
    if !s.outPlaceFree g then (.bad 1, s)
    else match s.pickPart 1 isl 8 with
      | none => (.hw 9 0, s)
      | some k =>
        if o.cellB.isSome || o.target.isSome then (.bad 0x23, s)
        else
          let j := (o.tp, 20 + k)
          let (bad, s) := testNew isl env.fails [j] s
          if bad then (.hw 0x0A 0, s)
          else
            (.wait [g], (claimPart 1 g k (clearWay isl g [j] s)).setOut g { o with
              cellB := some k, shareA := 16, target := some share, waiting := o.okind = 2 && f32Lt o.driven f32_6p5
              removing := none, pairCmd := some e.id, degraded := false })
  else if o.cellB.isNone || o.target.isSome then (.bad 0x23, s)
  else if decide (2 ≤ a) && s.anyShorted isl [(o.tp, 20 + (if a = 2 then o.cellA else o.cellB).getD 0)] then (.hw 0x0A 0, s)
  else
    let target := if a = 1 then share else if a = 2 then 0 else 16
    (.wait [g], s.setOut g { o with
      target := some target, removing := if a = 1 then none else some (a - 2), pairCmd := some e.id })

/-- A transfer reaches its target: a cell to be removed leaves, the command or the swap ends (R128, R129, R428). -/
def transferDone (g : Nat) (s : State) : State :=
  let o := s.out g
  let isl := g / 8
  let gone := match o.removing with | some 0 => o.cellA | some _ => o.cellB | none => none
  let o' := match o.removing with
    | some 0 => { o with cellA := o.cellB, cellB := none, shareA := 16 }
    | some _ => { o with cellB := none, shareA := 16 }
    | none => o
  let s := s.setOut g { o' with target := none, removing := none, pairCmd := none, waiting := false }
  let s := match gone, s.cellSwap g with
    | some k, none => checkPool 1 isl (s.setPartRole 1 isl k 1)
    | _, _ => s
  let s := match o.pairCmd with | some id => completeCmd id stOk [] s | none => s
  match s.cellSwap g with
  | some w =>
    if w.method = 2 then
      let r := if w.fails then 6 else 5
      endSwap w r ((s.setPartRole 1 isl w.worn r).putInService 1 isl w.spare (g % 8))
    else s
  | none => s

/-- One transfer step per readback sample, at its instant `t` (R129 to R131); a forced transfer moves the whole current at once
(R431). -/
def transferStep (g t : Nat) (s : State) : State :=
  let o := s.out g
  let o := if o.giveBack && !o.held then { o with giveBack := false, target := some 16, removing := some 1 } else o
  match o.target with
  | none => s
  | some goal =>
    let o := if o.waiting && !f32Lt o.driven f32_6p5 then { o with waiting := false } else o
    let forced := match s.cellSwap g with | some w => w.fails && w.method = 2 | none => false
    if o.waiting || (o.compliance && !forced) then s.setOut g o
    else
      let n := if forced then goal else if o.shareA < goal then o.shareA + 1 else if goal < o.shareA then o.shareA - 1 else goal
      let s := s.setOut g { o with shareA := n, changed := if n = o.shareA then o.changed else t }
      if n = goal then transferDone g s else s

/-- A cell's readback differs from its share by more than 10 % of the output current (R132). -/
def deviates (rb : Word) (cur : Rat) (share : Nat) : Bool :=
  decide (cur / 10 < ratAbs (f32Rat rb - cur * (share : Rat) / 16))

/-- The failed cell of a pair gives its whole load to the other and is opened, at the sample instant `t` (R132); record 0x0319. -/
def pairFail (g t : Nat) (first : Bool) (rb : Word) (s : State) : State :=
  let o := s.out g
  let isl := g / 8
  let bad := (if first then o.cellA else o.cellB).getD 0
  let left := (if first then o.cellB else o.cellA).getD 0
  let share := if first then o.shareA else 16 - o.shareA
  let s := s.setOut g { o with
    cellA := some left, cellB := none, shareA := 16, target := none, removing := none, waiting := false
    devA := 0, devB := 0, pairBad := none, degraded := true, pairCmd := none, changed := t }
  let s := noteOf t 0x0319 g (le 1 bad ++ le 1 left ++ zeros 2 ++ le 4 rb.toNat ++
    le 4 (f32OfRat (f32Rat o.driven * (share : Rat) / 16)).toNat) s
  let s := match o.pairCmd with | some id => completeCmd id stFailedHardware (le 2 0 ++ le 1 2) s | none => s
  let s := markHard 1 isl bad s
  match s.cellSwap g with
  | some w =>
    if bad = w.worn then endSwap w 6 ((s.setPartRole 1 isl bad 6).putInService 1 isl left (g % 8))
    else refuseSpare w 6 s
  | none => checkPool 1 isl (s.setPartRole 1 isl bad 6)

/-! ### OUTPUT_READBACK_SAMPLE -/

/-- The tracking rail of an ACUR output: the terminal voltage plus 2.0 V, within 5.0 to 22.0 V (R115). -/
def railOf (r : Readback) : Rat := ratClamp 5 22 (f32Rat r.rbv + 2)

/-- Open wire of R119. -/
def outOpenWire (o : Output) (r : Readback) : Bool :=
  match o.okind with
  | 1 => decide (22 ≤ railOf r ∧ f32Rat r.rbi < mkRat 1 10 ∧ 1 ≤ f32Rat o.driven)
  | 2 => decide (f32Rat r.rbv < 1)
  | _ => false

/-- The conditions of R120. -/
def outFails (o : Output) (r : Readback) : Bool :=
  let set := f32Rat o.driven
  let off := ratAbs (f32Rat r.rbi - set)
  match o.okind with
  | 0 => decide (mkRat 1 100 + ratAbs set / 1000 < ratAbs (f32Rat r.rbv - set)) || r.limit
  | 1 => decide (mkRat 5 100 + ratAbs set * 5 / 1000 < off) ||
      decide (22 ≤ railOf r ∧ railOf r - f32Rat r.rbv < mkRat 15 10)
  | _ => decide (mkRat 5 100 + ratAbs set * 5 / 1000 < off) || decide (f32Rat r.rbv < 9)

/-- COMPLIANCE after one judged sample of instant `t` (R121); record 0x0318 at its onset. -/
def judgeCompliance (g t : Nat) (r : Readback) (s : State) : State :=
  let o := s.out g
  let bad := outFails o r
  let fails := if bad then o.fails + 1 else 0
  let passes := if bad then 0 else o.passes + 1
  let onset := bad && !o.compliance && decide (4 ≤ fails)
  let s := s.setOut g { o with
    fails := fails, passes := passes, compliance := if bad then o.compliance || onset else o.compliance && decide (passes < 120) }
  if onset then
    noteOf t 0x0318 g (le 1 o.okind ++ le 1 (bit o.failLow 0) ++ zeros 2 ++ le 4 o.driven.toNat ++
      le 4 (if o.okind = 0 then r.rbv else r.rbi).toNat ++ le 4 r.rbv.toNat) s
  else s

/-- Deviation of a single cell in regulation over the hour (R420); 1 unit is 1e-6 mA or 1e-6 V. -/
def outputWear (g : Nat) (r : Readback) (s : State) : State :=
  let o := s.out g
  let dev := ratAbs ((if o.okind = 0 then f32Rat r.rbv else f32Rat r.rbi) - f32Rat o.driven) * 1000000
  let d := (dev.num / dev.den).toNat
  if o.wearCount ≠ 0 && decide (o.wearAt + 3600000000000 ≤ s.now) then
    let mean := o.wearSum / o.wearCount
    let bound := (if o.okind = 0 then 2000 else 4000 : Rat) + ratAbs (f32Rat o.driven) * 500
    let idx := ((mean : Rat) * 100 / bound)
    let s := s.setOut g { o with wearSum := d, wearCount := 1, wearAt := s.now }
    match o.cellA, o.cellB with
    | some k, none => chargeWear 1 (g / 8) k (idx.num / idx.den).toNat (f32OfRat mean) s
    | _, _ => s
  else s.setOut g { o with wearSum := o.wearSum + d, wearCount := o.wearCount + 1
                           wearAt := if o.wearCount = 0 then s.now else o.wearAt }

/-- Internal stage sense and terminal readback differ by more than 2 % of span (R420). -/
def senseFails (o : Output) (r : Readback) : Bool :=
  if o.okind = 0 then decide (mkRat 4 10 < ratAbs (f32Rat r.cellA - f32Rat r.rbv))
  else decide (mkRat 48 100 < ratAbs (f32Rat r.cellA - f32Rat r.rbi))

/-- The readback sample of R118 with its SQW. -/
def readbackSample (g t : Nat) (r : Readback) (s : State) : Sample :=
  let x := s.chan g
  let o := s.out g
  let isl := s.aisl (g / 8)
  let ow := outOpenWire o r
  let value := if o.okind = 0 then r.rbv else r.rbi
  let invalid := ow || isl.refFault || !f32Finite value || x.tested (x.windowFrom t) t
  let q := bit (decide (0 < o.glideLeft)) 4 + bit (s.mod.cals.any fun e => e.1 == g) 6 + bit ow 10 + bit o.compliance 11 +
    bit x.gap 13 + bit (o.degraded || s.spareDegraded g 1 o.joins) 14 + bit invalid 15
  { src := g, seq := x.nextSeq, value := if invalid then nan32 else value, sqw := BitVec.ofNat 16 q, time := t
    raw := r.code, volts := r.rbv }

/-- OUTPUT_READBACK_SAMPLE (R118 to R122, R129 to R132, R420). -/
def execOutputReadbackSample (dt : Nat) (ch : Fin 64) (r : Readback) (s : State) : Host.Outcome State Fault Refusal :=
  let s := s.advance dt
  let g := ch.val
  let x := s.chan g
  let o := s.out g
  let t := gridFloor (1200, 1) s.now
  let fresh := match x.lastAt with | none => true | some u => decide (u < t)
  if x.cfg.kind ≠ 8 || o.cellA.isNone || !(s.aisl (g / 8)).powered || !(s.aisl (g / 8)).onGrid x.rateCode t || !fresh then .next s
  else
    -- FAIL_LOW drives from the sample after the one that set COMPLIANCE (R122)
    let s := if o.compliance && o.failLow && !o.failLatch && o.okind ≠ 0 then
        redrive g (s.setOut g { o with failLatch := true }) else s
    let o := s.out g
    let judged := decide (o.changed = 0 ∨ o.changed + 1000000 ≤ t)
    let s := if judged then judgeCompliance g t r s else s
    let o := s.out g
    let s := s.setOut g { o with
      rbi := if s.mode .acq then r.rbi else o.rbi, rbv := if s.mode .acq then r.rbv else o.rbv
      rail := if o.okind = 1 then f32OfRat (railOf r) else nan32, openWire := outOpenWire o r }
    let s := if judged && !outFails o r then outputWear g r s else s
    -- pair checks
    let o := s.out g
    let cur := f32Rat o.driven
    let paired := o.cellB.isSome && !o.waiting
    let a := if paired && deviates r.cellA cur o.shareA then o.devA + 1 else 0
    let b := if paired && deviates r.cellB cur (16 - o.shareA) then o.devB + 1 else 0
    let due := o.pairBad
    let s := s.setOut g { o with
      devA := a, devB := b
      pairBad := if 2 ≤ a then some (true, r.cellA) else if 2 ≤ b then some (false, r.cellB) else none }
    -- the sample itself, then what takes effect at its instant
    let m := readbackSample g t r s
    let s := match due with
      | some (first, rb) => if paired then pairFail g t first rb s else s
      | none =>
        if (s.out g).pairBad.isSome then s
        else if !paired && senseFails o r then forceCell g (transferStep g t s) else transferStep g t s
    let s := s.setOut g { s.out g with glideLeft := (s.out g).glideLeft - 1 }
    let y := s.chan g
    if !s.mode .acq then .next (s.setChan g { y with lastAt := some t })
    else .next (pushSample m (s.setChan g { y with lastAt := some t, nextSeq := (y.nextSeq + 1) % 65536, seqLast := y.nextSeq, gap := false }))

/-! ### Holds and links -/

/-- OUTPUT_FAULT_CLEAR (R122): the latch is cleared, and set again while COMPLIANCE stands. A channel that is no output is refused
with OUT_KIND (log 28). -/
def doOutputFaultClear (e : CmdEntry) (_ : Env) (s : State) : Rep × State :=
  let c := e.c
  let g := chanOf c
  if !c.restZero [(32, 2)] || !c.extZero 0 || 7 < c.u8 32 || 7 < c.u8 33 then (.bad 8, s)
  else if (s.chan g).cfg.kind ≠ 8 then (.bad 0x20, s)
  else
    let o := s.out g
    (.ok [], redrive g (s.setOut g { o with failLatch := o.compliance && o.failLow && o.okind ≠ 0 && o.failLatch }))

/-- OUTPUT_HOLD_SET (R133, R137). -/
def doOutputHoldSet (e : CmdEntry) (_ : Env) (s : State) : Rep × State :=
  let c := e.c
  if !c.restZero [(32, 2)] || !c.extZero 0 || 7 < c.u8 32 || 250 < c.u8 33 then (.bad 8, s)
  else (.ok [], s.setAisl (c.u8 32) { s.aisl (c.u8 32) with hold := c.u8 33 })

/-- The island finds its link silent: outputs are held, transfers stop at their share (R133). DESIGN CHOICE (log 98): a new loss starts
the hold time anew for every output. -/
def holdOutputs (i : Nat) (s : State) : State :=
  let s := s.setAisl i { s.aisl i with silent := some s.now, quiet := true }
  (List.range 8).foldl (fun s c =>
    let g := i * 8 + c
    if (s.chan g).cfg.kind ≠ 8 then s
    else
      let o := s.out g
      s.setOut g { o with held := !o.safeNow, target := none }) s

/-- A digital island finds its link silent: every DO pin is held (R161). -/
def holdPins (d : Nat) (s : State) : State :=
  let s := s.setDisl d { s.disl d with silent := some s.now, quiet := true }
  (List.range 16).foldl (fun s p =>
    let g := 64 + d * 16 + p
    let x := s.pin g
    if x.cfg.mode = 5 && !x.safeNow then s.setPin g { x with held := true, kept := s.pinSource g } else s) s

/-- ISLAND_LINK_LOST (R27): islands 0 to 7 are A0 to A7, 8 to 13 are D0 to D5. -/
def execIslandLinkLost (dt : Nat) (isl : Fin 14) (s : State) : Host.Outcome State Fault Refusal :=
  let s := s.advance dt
  let i := isl.val
  .next (if i < 8 then s.setAisl i { s.aisl i with linkUp := false, lost := true }
    else s.setDisl (i - 8) { s.disl (i - 8) with linkUp := false, lost := true })

/-- ISLAND_LINK_SILENT (R133, R161). -/
def execIslandLinkSilent (dt : Nat) (isl : Fin 14) (s : State) : Host.Outcome State Fault Refusal :=
  let s := s.advance dt
  let i := isl.val
  .next (if i < 8 then (if (s.aisl i).quiet then s else holdOutputs i s)
    else (if (s.disl (i - 8)).quiet then s else holdPins (i - 8) s))

/-- ISLAND_LINK_RESTORED (R133): outputs stay held until their hold ends. -/
def execIslandLinkRestored (dt : Nat) (isl : Fin 14) (s : State) : Host.Outcome State Fault Refusal :=
  let s := s.advance dt
  let i := isl.val
  .next (if i < 8 then
      let x := s.aisl i
      if x.powered then s.setAisl i { x with linkUp := true, lost := false, present := true, quiet := false } else s
    else
      let x := s.disl (i - 8)
      if x.powered then s.setDisl (i - 8) { x with linkUp := true, lost := false, present := true, quiet := false } else s)

/-- OUTPUT_HOLD_EXPIRY (R133, R601): every output still held takes its safe value. -/
def execOutputHoldExpiry (dt : Nat) (isl : Fin 8) (s : State) : Host.Outcome State Fault Refusal :=
  let s := s.advance dt
  let i := isl.val
  let x := s.aisl i
  match x.silent with
  | none => .next s
  | some t =>
    if s.now < t + 20000000 * x.hold then .next s
    else
      let s := s.setAisl i { x with silent := none }
      .next ((List.range 8).foldl (fun s c =>
        let g := i * 8 + c
        let o := s.out g
        if (s.chan g).cfg.kind ≠ 8 || !o.held then s
        else
          let s := takeSafe g s
          note 0x031A g (le 1 o.safeMode ++ zeros 3 ++ le 4 (s.out g).driven.toNat) s) s)

/-- CELL_SWAP_VOLT (R429, R431): the swap of a VOLT output's or a loop supply's cell; `mv` is the difference between the
spare's readback and the worn cell's in mV, `level` the worn cell's in mV. -/
def execCellSwapVolt (dt : Nat) (ch : Fin 64) (mv level : Nat) (env : Env) (s : State) : Host.Outcome State Fault Refusal :=
  let s := s.advance dt
  let g := ch.val
  let x := s.chan g
  match s.cellSwap g with
  | none => .next s
  | some w =>
    let out := x.cfg.kind = 8
    if w.method ≠ 1 || !(out || x.cfg.emode = 3) then .next s
    else if 10000 + level < 1000 * mv then .next (refuseSpare w 6 s)
    else
      let t := if out then (s.out g).tp else x.cfg.tx
      let (bad, s) := testNew (g / 8) env.fails [(t, 20 + w.spare)] s
      if bad then .next (refuseSpare w 1 s)
      else
      let newRole := if w.fails then 6 else 5
      let gapped := !s.outPlaceFree g
      let s := if out then
          s.setOut g { s.out g with cellA := some w.spare, glideLeft := if gapped then (s.out g).glideLeft else 1 }
        else s.setChan g { x with psource := some w.spare
                                  conn := x.conn.map fun j => if j.2 = 20 + w.worn then (j.1, 20 + w.spare) else j }
      let s := if out && gapped then
          s.setChan g { s.chan g with nextSeq := ((s.chan g).nextSeq + 1) % 65536, gap := true } else s
      .next (endSwap w newRole ((s.setPartRole 1 (g / 8) w.worn newRole).putInService 1 (g / 8) w.spare (g % 8)))

def execOutputConfigure (dt : Nat) (c : Cmd) (env : Env) (s : State) : Host.Outcome State Fault Refusal :=
  runHere .outputConfigure dt c env doOutputConfigure s
def execOutputWrite (dt : Nat) (c : Cmd) (env : Env) (s : State) : Host.Outcome State Fault Refusal :=
  runHere .outputWrite dt c env doOutputWrite s
def execOutputParallel (dt : Nat) (c : Cmd) (env : Env) (s : State) : Host.Outcome State Fault Refusal :=
  runHere .outputParallel dt c env doOutputParallel s
def execOutputFaultClear (dt : Nat) (c : Cmd) (env : Env) (s : State) : Host.Outcome State Fault Refusal :=
  runHere .outputFaultClear dt c env doOutputFaultClear s
def execOutputHoldSet (dt : Nat) (c : Cmd) (env : Env) (s : State) : Host.Outcome State Fault Refusal :=
  runHere .outputHoldSet dt c env doOutputHoldSet s

end Sys2Proof.Machine
end

