-- ==== Sys2Proof/Machine/Digital.lean ====
section
/-! DEFINITION. Digital islands (R139 to R165): pin configuration, samples, output states and their owner, diagnostics, groups,
the spare rail, holds. Pins are named by their global digital index 64 to 159. -/

namespace Sys2Proof.Machine

/-- The driver of a pin is off by its own protection (R151, R152, R155). -/
def Pin.protectedOff (x : Pin) : Bool := x.hot || x.memberOff || (x.short && x.limitSince.isNone && !x.latched)

/-- State a pin is to drive (R160): its sources, its driver's protection, and an island with power. -/
def State.pinTarget (s : State) (g : Nat) : Bool :=
  let x := s.pin g
  x.cfg.mode = 5 && (s.disl (pinIsl g)).powered && !x.protectedOff && s.pinSource g

/-- A driver takes a state; a driver that is off carries no current. -/
def driverTo (g : Nat) (v : Bool) (s : State) : State :=
  let x := s.pin g
  s.setPin g { x with driven := v, curr := if v then x.curr else 0 }

/-- All pins of a group take the states they are to drive, at one clock edge (R154). -/
def followPins (g : Nat) (s : State) : State := (s.groupOf g).foldl (fun s m => driverTo m (s.pinTarget m) s) s

/-- Largest PRE among the analogue islands that blank on a digital island, in ns (R66). -/
def State.preOf (s : State) (d : Nat) : Nat :=
  (List.range 8).foldl (fun m i => if (s.aisl i).doMask d then max m (1000 * (s.aisl i).pre) else m) 0

/-- Blanking starts on each analogue island PRE before the transition at `t`, and its source ends 10 µs after it (R65, R66). -/
def armBlanking (d t : Nat) (s : State) : State :=
  (List.range 8).foldl (fun s i =>
    let x := s.aisl i
    if x.doMask d then
      let from' := max s.now (t - 1000 * x.pre)
      blankStartAt i 2 (blankDoMask d) from' (t + 10000) (s.setAisl i { x with doUntil := max x.doUntil (t + 10000) })
    else s) s

/-- The pins of a group follow their sources (R160): at once, or PRE later where a transition has to be blanked (R66). -/
def repin (g : Nat) (s : State) : State :=
  let b := s.groupBase g
  let pre := s.preOf (pinIsl g)
  if (s.groupOf g).all fun m => s.pinTarget m == (s.pin m).driven then s
  else if pre = 0 then followPins g s
  else if (s.pin b).moveAt.isSome then s
  else armBlanking (pinIsl g) (s.now + pre) (s.setPin b { s.pin b with moveAt := some (s.now + pre) })

/-- A driver's own protection turns it off at once (R151, R152, R155). DESIGN CHOICE (log 99): such a transition waits for no PRE;
blanking starts with it. -/
def guardOff (g : Nat) (s : State) : State :=
  if (s.pin g).driven then armBlanking (pinIsl g) s.now (driverTo g false s) else s

/-- Owner changes write record 0x0327 (R159, R602). -/
def ownPin (o g : Nat) (s : State) : State :=
  let x := s.pin g
  if x.owner = o then s
  else note 0x0327 g (le 1 o ++ le 1 x.owner) (s.setPin g { x with owner := o })

/-- A pin and the group it stands for change owner (R154, R159). -/
def setOwner (g o : Nat) (s : State) : State := (s.groupOf g).foldl (fun s m => ownPin o m s) s

/-- The commanded state of a pin and of the group it stands for (R154). -/
def setCmdState (g : Nat) (v : Bool) (s : State) : State :=
  (s.groupOf g).foldl (fun s m => s.setPin m { s.pin m with cmd := v, staged := none }) s

/-- A DO pin returns to the host, its commanded state off (R159). -/
def returnToHost (g : Nat) (s : State) : State := repin g (setCmdState g false (setOwner g 1 s))

/-- Safe state (R161); HOLD_LAST keeps what the sources ask now. -/
def State.safeState (s : State) (g : Nat) : Bool :=
  match (s.pin g).cfg.safeMode with | 0 => false | 1 => true | _ => s.pinSource g

/-- A pin takes its safe value (R160). -/
def pinSafe (g : Nat) (s : State) : State :=
  let v := s.safeState g
  repin g (s.setPin g { s.pin g with kept := v, safeNow := true, held := false })

def State.doPins (s : State) : List Nat := ((List.range 96).map (· + 64)).filter fun g => (s.pin g).cfg.mode = 5

/-- DRV falls: every DO pin takes its safe value (R160). -/
def pinsSafe (s : State) : State := s.doPins.foldl (fun s g => pinSafe g s) s

/-- A pin's new mode starts (R143, R159): a DO pin belongs to the host, off; while DRV is 0 it takes its safe value (R160). The command
completes. -/
def startMode (g : Nat) (s : State) : State :=
  let x := s.pin g
  match x.modeNext with
  | none => s
  | some n =>
    if s.now < n.due then s
    else
      let s := s.setPin g { x with cfg := n.cfg, modeNext := none, gateStart := s.now, lastAt := none, cmd := false, usableAt := s.now }
      let s := if n.cfg.mode = 5 then (let s := setOwner g 1 s; if s.mode .drv then s else pinSafe g s) else s
      completeCmd n.cmd stOk [] s

/-! ### Samples -/

/-- Working spare driver behind the one on the rail (R156). -/
def State.railSpare (s : State) (d : Nat) : Bool :=
  let x := s.disl d
  if x.railDrv then x.sp0Ok else x.sp1Ok

/-- SQW of a digital sample (R162). -/
def pinSqw (s : State) (g : Nat) (above : Bool) : BitVec 16 :=
  let x := s.pin g
  let d := s.disl (pinIsl g)
  let degraded := (x.groupDegraded || (x.onSpare && !s.railSpare (pinIsl g))) || d.supply = 1 || d.supply = 2
  let invalid := x.wireBreak || (x.cfg.mode = 5 && d.lplus = some 2)
  BitVec.ofNat 16 (bit above 8 + bit x.wireBreak 10 + bit x.gap 13 + bit degraded 14 + bit invalid 15)

def boolWord (b : Bool) : Word := if b then f32One else 0

/-- Accepted state of an input after INV; the pin level of an output (R145, R146). -/
def Pin.state (x : Pin) : Bool := if x.cfg.mode ≠ 5 && x.cfg.inv then !x.accepted else x.accepted

/-- A sample of a pin at instant `t` reaches the core, a simulation replacing its value (R146, R148, R162, R396). -/
def samplePin (g t : Nat) (value : Word) (num : Nat) (above : Bool) (s : State) : State :=
  let x := s.pin g
  let sim := s.simOf g
  if !s.mode .acq && sim.isNone then s
  else
    let m : Sample := { src := g, seq := x.nextSeq, value := value, sqw := pinSqw s g above, time := t, num := num }
    let m := match sim with
      | some y =>
        let q := y.qbits &&& 0x6520
        let inv := q.getLsbD 10 || (x.cfg.mode = 5 && (s.disl (pinIsl g)).lplus = some 2)
        { m with value := y.value, num := (f32Trunc y.value).toNat
                 sqw := q ||| 0x0020 ||| (m.sqw &&& 0x2000) ||| (if inv then 0x8000 else 0) }
      | none => m
    let s := s.setPin g { x with nextSeq := (x.nextSeq + 1) % 65536, lastAt := some t, gap := false }
    if (s.disl (pinIsl g)).linkUp && s.pwr.phase ≠ .asserted then
      let was := match x.last with | some l => l.usable | none => false
      takeSample m (s.setPin g { s.pin g with last := some m, usableAt := if was = m.usable then x.usableAt else t })
    else s.setPin g { s.pin g with gap := true }

/-- INPUT_TRANSITION_ACCEPTED (R145, R146): a level stable for FILTER, first scanned `since` ns ago. -/
def execInputTransitionAccepted (dt : Nat) (pin : Fin 96) (level : Bool) (since : Nat) (s : State) :
    Host.Outcome State Fault Refusal :=
  let g := 64 + pin.val
  let s := startMode g (s.advance dt)
  let x := s.pin g
  let filtered := x.cfg.mode = 1 || x.cfg.mode = 2 || x.cfg.mode = 5
  if !filtered || x.accepted = level || since < 50000 * x.cfg.filter || !(s.disl (pinIsl g)).powered then
    .next (s.setPin g { x with level := level })
  else
    let t := s.now - since
    let s := s.setPin g { x with level := level, accepted := level, transAt := t }
    .next (samplePin g t (boolWord (s.pin g).state) 0 false s)

/-- INPUT_PERIODIC_SAMPLE (R146): 100 ms after the last sample. -/
def execInputPeriodicSample (dt : Nat) (pin : Fin 96) (s : State) : Host.Outcome State Fault Refusal :=
  let g := 64 + pin.val
  let s := startMode g (s.advance dt)
  let x := s.pin g
  let filtered := x.cfg.mode = 1 || x.cfg.mode = 2 || x.cfg.mode = 5
  let due := match x.lastAt with | none => true | some t => decide (t + 100000000 ≤ s.now)
  if !filtered || !due || !(s.disl (pinIsl g)).powered then .next s
  else .next (samplePin g s.now (boolWord x.state) 0 false s)

/-- COUNT_EDGE (R148): an edge past the 10 µs glitch filter. FREQ stamps rising edges. -/
def execCountEdge (dt : Nat) (pin : Fin 96) (rising : Bool) (s : State) : Host.Outcome State Fault Refusal :=
  let g := 64 + pin.val
  let s := startMode g (s.advance dt)
  let x := s.pin g
  if !(s.disl (pinIsl g)).powered then .next s
  else
    let x := { x with level := rising, accepted := rising, transAt := s.now }
    match x.cfg.mode with
    | 3 =>
      let counts := match x.cfg.edge with | 0 => rising | 1 => !rising | _ => true
      .next (s.setPin g (if counts then { x with count := (x.count + 1) % 2 ^ 32 } else x))
    | 4 =>
      let (n, a, _) := x.gateEdges
      .next (s.setPin g (if rising then { x with gateEdges := (n + 1, if n = 0 then s.now else a, s.now) } else x))
    | _ => .next s

/-- COUNT_SAMPLE (R148): every 10 ms. -/
def execCountSample (dt : Nat) (pin : Fin 96) (s : State) : Host.Outcome State Fault Refusal :=
  let g := 64 + pin.val
  let s := startMode g (s.advance dt)
  let x := s.pin g
  let due := match x.lastAt with | none => true | some t => decide (t + 10000000 ≤ s.now)
  if x.cfg.mode ≠ 3 || !due || !(s.disl (pinIsl g)).powered then .next s
  else .next (samplePin g s.now (f32OfRat (x.count : Rat)) x.count false s)

/-- Gate times (R148). -/
def gateTime : Nat → Nat
  | 0 => 10000000 | 1 => 100000000 | 2 => 1000000000 | _ => 10000000000

/-- FREQ_GATE_END (R148): (n − 1) / (t_last − t_first), 0.0 Hz for fewer than two edges. -/
def execFreqGateEnd (dt : Nat) (pin : Fin 96) (s : State) : Host.Outcome State Fault Refusal :=
  let g := 64 + pin.val
  let s := startMode g (s.advance dt)
  let x := s.pin g
  if x.cfg.mode ≠ 4 || s.now < x.gateStart + gateTime x.cfg.gate || !(s.disl (pinIsl g)).powered then .next s
  else
    let (n, a, b) := x.gateEdges
    let q : Rat := if 2 ≤ n ∧ a < b then mkRat ((n - 1 : Nat) * 1000000000) (b - a) else 0
    let f := f32OfRat q
    let s := s.setPin g { x with freq := f, gateEdges := (0, 0, 0), gateStart := s.now }
    .next (samplePin g s.now f 0 (decide (10500 < q)) s)

/-! ### Output states -/

/-- Every pin of a DIGITAL_WRITE has taken its state: the command completes (R163). -/
def settleWrite (id : Nat) (s : State) : State :=
  if s.dig.pins.any fun e => e.2.moveCmd == some id || (match e.2.staged with | some (_, _, some k) => k == id | _ => false) then s
  else completeCmd id stOk [] s

/-- The island has its link and its supply: what the core sends reaches it (R161). -/
def State.dislReached (s : State) (d : Nat) : Bool := (s.disl d).linkUp && !(s.disl d).quiet && (s.disl d).powered

/-- A new state from the owner is applied (R150, R160, R161). -/
def applyState (g : Nat) (v : Bool) (s : State) : State :=
  if !s.dislReached (pinIsl g) then s
  else
    let s := setCmdState g v s
    let x := s.pin g
    repin g (s.setPin g { x with held := false, safeNow := x.safeNow && !(s.mode .drv && !s.islandDead (8 + pinIsl g)) })

/-- A state is staged for a pin by its owner. -/
def stagePin (g : Nat) (v : Bool) (t : Nat) (id : Option Nat) (s : State) : State :=
  s.setPin g { s.pin g with staged := some (v, t, id) }

/-- The transition of a group takes place once PRE is over (R66); a DIGITAL_WRITE that waits for it completes. -/
def movePins (g : Nat) (s : State) : State :=
  let b := s.groupBase g
  let x := s.pin b
  match x.moveAt with
  | none => s
  | some t =>
    if s.now < t then s
    else
      let s := followPins g (s.setPin b { x with moveAt := none, moveCmd := none })
      match x.moveCmd with | some id => settleWrite id s | none => s

/-- A staged state whose instant has come is applied (R150); its DIGITAL_WRITE completes with the transition. -/
def applyStaged (g : Nat) (s : State) : State :=
  match (s.pin g).staged with
  | none => s
  | some (v, t, id) =>
    if s.now < t || !s.dislReached (pinIsl g) then s
    else
      let s := applyState g v s
      match id with
      | none => s
      | some k => if (s.pin g).moveAt.isSome then s.setPin g { s.pin g with moveCmd := some k } else settleWrite k s

/-! ### Diagnostics -/

/-- A detection sets the pin's bit in DCH_ISL_FAULT (R152). -/
def setFault (g : Nat) (s : State) : State :=
  let d := pinIsl g
  s.setDisl d { s.disl d with fault := (s.disl d).fault ||| BitVec.ofNat 16 (2 ^ pinNo g) }

def State.lplusLoss (s : State) (g : Nat) : Bool := (s.disl (pinIsl g)).lplus = some 2

/-- Record 0x0321 (R602). -/
def shortRecord (g event retries ma : Nat) (s : State) : State :=
  note 0x0321 g (le 1 event ++ zeros 0 ++ le 1 retries ++ le 2 ma) s

/-- Diagnostics of an output run (R139, R141, R152): the island has power and L+ is there. -/
def State.diagnoses (s : State) (g : Nat) : Bool := (s.disl (pinIsl g)).powered && !s.lplusLoss g

/-- RETRY is set for the pin: by its group's lowest pin (R151, R154). -/
def State.retries (s : State) (g : Nat) : Bool := (s.pin (s.groupBase g)).cfg.retry

/-- A pin latches off after its last failed retry (R151). -/
def latchPin (g ma : Nat) (s : State) : State :=
  let x := s.pin g
  shortRecord g 3 x.retries ma (guardOff g (s.setPin g { x with latched := true, retryAt := none, limitSince := none }))

/-- DRIVER_CURRENT_LIMIT (R151): t0. -/
def execDriverCurrentLimit (dt : Nat) (pin : Fin 96) (ma : Nat) (s : State) : Host.Outcome State Fault Refusal :=
  let s := s.advance dt
  let g := 64 + pin.val
  let x := s.pin g
  if x.cfg.mode ≠ 5 || !x.driven || !s.diagnoses g then .next s
  else .next (s.setPin g { x with curr := ma, limitSince := some (x.limitSince.getD s.now)
                                  shortAt := if x.short then x.shortAt else s.now })

/-- SHORT_LIMIT_TIMEOUT (R151): 2 ms after the limit began; `still` tells whether the pin is in limit. Every turn-off in limit writes
record 0x0321, a failed retry's too. -/
def execShortLimitTimeout (dt : Nat) (pin : Fin 96) (still : Bool) (ma : Nat) (s : State) :
    Host.Outcome State Fault Refusal :=
  let s := s.advance dt
  let g := 64 + pin.val
  let x := s.pin g
  match x.limitSince with
  | none => .next s
  | some t =>
    if s.now < t + 2000000 || x.cfg.mode ≠ 5 || !s.diagnoses g then .next s
    else if !still then
      let s := s.setPin g { x with limitSince := none, short := false, retries := if x.short then 0 else x.retries, curr := ma }
      .next (if x.short then shortRecord g 0 x.retries ma s else s)
    else
      let n := x.retries
      let again := s.retries g && decide (n < 3)
      let s := s.setPin g { x with short := true, limitSince := none, curr := ma
                                   retryAt := if again then some (x.shortAt + 1000000000 * (n + 1)) else none }
      let s := shortRecord g 1 n ma (setFault g (guardOff g s))
      .next (if again then s else latchPin g ma s)

/-- SHORT_RETRY (R151): the driver is switched on again, each retry as from t0. -/
def execShortRetry (dt : Nat) (pin : Fin 96) (s : State) : Host.Outcome State Fault Refusal :=
  let s := s.advance dt
  let g := 64 + pin.val
  let x := s.pin g
  match x.retryAt with
  | none => .next s
  | some t =>
    if s.now < t || x.latched || x.cfg.mode ≠ 5 || !s.diagnoses g then .next s
    else
      let s := s.setPin g { x with retries := x.retries + 1, retryAt := none, limitSince := some (s.now + s.preOf (pinIsl g)) }
      .next (repin g (shortRecord g 2 (x.retries + 1) x.curr s))

/-- THERMAL_SHUTDOWN (R152). -/
def execThermalShutdown (dt : Nat) (pin : Fin 96) (s : State) : Host.Outcome State Fault Refusal :=
  let s := s.advance dt
  let g := 64 + pin.val
  let x := s.pin g
  if x.cfg.mode ≠ 5 || x.thermal || !s.diagnoses g then .next s
  else .next (note 0x0323 g (le 1 1) (setFault g (guardOff g (s.setPin g { x with thermal := true, hot := true }))))

/-- THERMAL_REENABLE (R152): counts as a failed retry; the third one, or one without RETRY, latches the pin. -/
def execThermalReenable (dt : Nat) (pin : Fin 96) (s : State) : Host.Outcome State Fault Refusal :=
  let s := s.advance dt
  let g := 64 + pin.val
  let x := s.pin g
  if !x.hot || !s.diagnoses g then .next s
  else
    let n := min 3 (x.retries + 1)
    let s := s.setPin g { x with thermal := false, hot := false, retries := n }
    let s := if x.thermal then note 0x0323 g (le 1 0) s else s
    .next (if x.latched then repin g s else if !s.retries g || 3 ≤ n then latchPin g x.curr s else repin g s)

/-- Record 0x0322 (R602). -/
def openRecord (g diag event v : Nat) (s : State) : State :=
  note 0x0322 g (le 1 diag ++ le 1 event ++ le 2 (min v 65535)) s

/-- OPEN_ON_DETECT (R152): the pin current has stood at `ma` for 50 ms. Thresholds scale with the members (R154). -/
def execOpenOnDetect (dt : Nat) (pin : Fin 96) (ma : Nat) (s : State) : Host.Outcome State Fault Refusal :=
  let s := s.advance dt
  let g := 64 + pin.val
  let x := s.pin g
  let n := (s.groupOf g).length
  if x.cfg.mode ≠ 5 || !s.diagnoses g then .next s
  else
    let s := s.setPin g { x with curr := ma }
    if !x.openOn && x.driven && ma < 5 * n then
      .next (openRecord g 0 1 ma (setFault g (s.setPin g { s.pin g with openOn := true })))
    else if x.openOn && 10 * n ≤ ma then .next (openRecord g 0 0 ma (s.setPin g { s.pin g with openOn := false }))
    else .next s

/-- WIRE_BREAK_DETECT (R147, R152): input current in µA. -/
def execWireBreakDetect (dt : Nat) (pin : Fin 96) (ua : Nat) (s : State) : Host.Outcome State Fault Refusal :=
  let s := s.advance dt
  let g := 64 + pin.val
  let x := s.pin g
  if !x.cfg.wbEn || !(x.cfg.mode = 1 || x.cfg.mode = 2) || !(s.disl (pinIsl g)).powered then .next s
  else if !x.wireBreak && ua < 150 then
    .next (note 0x0320 g (le 1 1 ++ zeros 1 ++ le 2 ua) (setFault g (s.setPin g { x with wireBreak := true })))
  else if x.wireBreak && 250 ≤ ua then
    .next (note 0x0320 g (le 1 0 ++ zeros 1 ++ le 2 (min ua 65535)) (s.setPin g { x with wireBreak := false }))
  else .next s

/-- The driver that carries a pin: 0 to 15 its own, 16 SP0, 17 SP1 (R420, R440). -/
def State.driverPart (s : State) (g : Nat) : Nat :=
  if (s.pin g).onSpare then (if (s.disl (pinIsl g)).railDrv then 17 else 16) else pinNo g

/-- A hard failure of a pin's driver forces a swap onto the rail (R423, R432, R436). One of the pin itself that runs goes on; another
pin's planned swap not handed over, or a higher pin's forced swap that has not begun, gives the rail up. -/
def forceDriver (g : Nat) (s : State) : State :=
  let d := pinIsl g
  let p := pinNo g
  let start := fun (s : State) => match s.spareDriver d p with
    | some k => startDriverSwap d p (s.driverPart g) k 2 none s
    | none => checkPool 2 d (setShort 2 d true s)
  match s.spr.swaps.find? fun w => w.pool == 2 && w.isl == d with
  | none => start s
  | some w =>
    if w.idx = p then s.setSwap { w with fails := true }
    else if w.railOver then start s
    else if w.cause ≠ 2 && !w.fails then start (abortSwap w 0x00C5 1 s)
    else if p < w.idx && w.phase = 0 then start (checkPool 2 d (setShort 2 d true (abortSwap w 0x00C5 1 s)))
    else start s

/-- Wear of a driver (R420, R422, R423) at on-resistance `mohm`; `failed` tells a hard failure found otherwise. -/
def driverWear (g mohm : Nat) (failed : Bool) (s : State) : State :=
  let x := s.pin g
  let d := pinIsl g
  let p := pinNo g
  let i := min 255 ((mohm - 200) / 2)
  let hard := decide (1000 < mohm) || failed
  let lvl := max (if hard then 3 else wearLevelOf i) (if x.wearLevel = 3 then 3 else 0)
  let s := s.setPin g { x with wear := i, wearLevel := lvl }
  let part := s.driverPart g
  if lvl ≤ x.wearLevel then s
  else
    let s := wearRecord 2 d part i lvl (f32OfRat (mohm : Rat)) s
    if lvl = 2 then actOnReplace 2 d part p s
    else if lvl = 3 then forceDriver g s
    else s

/-- A hard failure of a driver other than its on-resistance (R420). -/
def driverFails (g : Nat) (s : State) : State :=
  let x := s.pin g
  driverWear g (if x.ron = 0xFFFF then 200 + 2 * x.wear else x.ron) true s

/-- RON_MEASURE (R152, R420): at a pin current of at least 100 mA; `rose` tells of a turn-on since the last measurement, below the
current limit, whether it reached 90 % of L+ within 300 µs. The third turn-on in a row that does not is a hard failure. -/
def execRonMeasure (dt : Nat) (pin : Fin 96) (mohm : Nat) (m : OnReading) (s : State) : Host.Outcome State Fault Refusal :=
  let s := s.advance dt
  let g := 64 + pin.val
  let x := s.pin g
  if x.cfg.mode ≠ 5 || !x.driven || !s.diagnoses g then .next s
  else
    let n := match m.rose with | none => x.missed | some true => 0 | some false => x.missed + 1
    let s := s.setPin g { x with missed := n }
    let s := if m.ma < 100 then s else driverWear g mohm false (s.setPin g { s.pin g with ron := min mohm 65534, curr := m.ma, ronAt := s.now })
    .next (if m.rose = some false && decide (3 ≤ n) then driverFails g s else s)

/-- OFF_STATE_TEST (R152, R420): pin voltage in mV with the test current on and off; `ua` is the current out of the pin in µA, of which
5 mA are a hard failure of its driver. -/
def execOffStateTest (dt : Nat) (pin : Fin 96) (mvOn : Nat) (off : OffReading) (s : State) : Host.Outcome State Fault Refusal :=
  let s := s.advance dt
  let g := 64 + pin.val
  let x := s.pin g
  if x.cfg.mode ≠ 5 || x.driven || !s.diagnoses g then .next s
  else
    let op := (s.pin (s.groupBase g)).cfg.olOff && decide (8000 < mvOn ∧ off.mv < 2000)
    let ext := decide (8000 < off.mv)
    let oc := if op then 0 else x.offClear + 1
    let ec := if ext then 0 else x.extClear + 1
    let s := s.setPin g { x with offClear := oc, extClear := ec }
    let s := if op && !x.openOff then
        openRecord g 1 1 mvOn (setFault g (s.setPin g { s.pin g with openOff := true }))
      else if x.openOff && decide (2 ≤ oc) then openRecord g 1 0 mvOn (s.setPin g { s.pin g with openOff := false })
      else s
    let s := if ext && !x.extSupply then
        openRecord g 2 1 off.mv (setFault g (s.setPin g { s.pin g with extSupply := true }))
      else if x.extSupply && decide (2 ≤ ec) then openRecord g 2 0 off.mv (s.setPin g { s.pin g with extSupply := false })
      else s
    .next (if off.ua < 5000 then s else driverFails g s)

/-- LPLUS_STATE_CHANGE (R141): L+ in mV, held for 1 ms. -/
def execLplusStateChange (dt : Nat) (isl : Fin 6) (mv : Nat) (s : State) : Host.Outcome State Fault Refusal :=
  let s := s.advance dt
  let d := isl.val
  let x := s.disl d
  let new := if 18000 ≤ mv then 0 else if 15000 ≤ mv then 1 else 2
  let s := s.setDisl d { x with volt := min mv 65535, lplus := some new }
  match x.lplus with
  | none => .next (note 0x0324 (168 + d) (le 1 new ++ le 1 0 ++ le 2 (min mv 65535)) s)
  | some old => if old = new then .next s else .next (note 0x0324 (168 + d) (le 1 new ++ le 1 old ++ le 2 (min mv 65535)) s)

/-- One member of a group is judged against the mean (R155). -/
def checkMember (members on : List Nat) (cur : Nat → Nat) (mean : Nat) (s : State) (g : Nat) : State :=
  let x := s.pin g
  let c := cur g
  let off := if c < mean then mean - c else c - mean
  let n := if decide (mean < off * 4) then x.deviates + 1 else 0
  let s := s.setPin g { x with deviates := n }
  if n < 2 then s
  else
    let total := (on.map cur).foldl (· + ·) 0
    let left := (on.filter fun m => m ≠ g && !(s.pin m).memberOff).length
    let ok := decide (total ≤ 500 * left)
    let s := guardOff g (s.setPin g { s.pin g with memberOff := true, deviates := 0 })
    let s := members.foldl (fun s m =>
      let s := s.setPin m { s.pin m with groupDegraded := (s.pin m).groupDegraded || ok, latched := (s.pin m).latched || !ok }
      if ok then s else guardOff m s) s
    note 0x0325 g (le 1 (pinNo g / 4) ++ le 1 (if ok then 0 else 1) ++ le 2 c ++ le 2 mean) s

/-- GROUP_MEMBER_CHECK (R155): currents of the quad's pins in mA; the members that are on are judged. -/
def execGroupMemberCheck (dt : Nat) (isl : Fin 6) (quad : Fin 4) (cur : Vector Nat 4) (s : State) :
    Host.Outcome State Fault Refusal :=
  let s := s.advance dt
  let base := 64 + isl.val * 16 + quad.val * 4
  let cur' := fun g => cur.toList.getD (g - base) 0
  if !s.diagnoses base then .next s
  else
  let s := (List.range 4).foldl (fun s k => s.setPin (base + k) { s.pin (base + k) with curr := cur' (base + k) }) s
  let groups := match s.gmode base with
    | 1 => [[base, base + 1], [base + 2, base + 3]]
    | 2 => [[base, base + 1, base + 2, base + 3]]
    | _ => []
  .next (groups.foldl (fun s m =>
    let on := m.filter fun g => (s.pin g).driven
    let total := (on.map cur').foldl (· + ·) 0
    on.foldl (checkMember m on cur' (total / on.length)) s) s)

/-! ### Spare rail -/

/-- A swap onto the rail is complete (R157, R432): the worn driver is isolated. -/
def railDone (w : Swap) (s : State) : State :=
  let d := w.isl
  let g := 64 + d * 16 + w.idx
  let newRole := if w.cause = 2 || w.fails then 6 else 5
  let x := s.disl d
  let s := s.setDisl d { x with
    railPin := some w.idx, railDrv := w.spare = 17, sp0Ok := x.sp0Ok && w.worn ≠ 16, sp1Ok := x.sp1Ok && w.worn ≠ 17 }
  let p := s.pin g
  let s := s.setPin g { p with onSpare := true, role := if w.worn < 16 then newRole else p.role, wear := 0, wearLevel := 0 }
  endSwap w newRole s

/-- The spare driver's readback lies within 10 % of L+ (R157); values in mV. -/
def railReads (volt mv : Nat) : Bool := decide ((if mv < volt then volt - mv else mv - volt) * 10 ≤ volt)

/-- RAIL_SWAP_STEP (R156, R157, R432): the next step of a swap onto the rail, or of the driver on the rail; `mv` is the spare driver's
readback. Steps: spare on with the rail isolated, both share the load, the spare carries it, the worn driver is isolated; a pin that is
off changes over in one. DESIGN CHOICE (log 101): a spare that fails the readback check ends the swap and is not good any more. -/
def execRailSwapStep (dt : Nat) (r : RailReading) (s : State) : Host.Outcome State Fault Refusal :=
  let s := s.advance dt
  let d := r.isl.val
  match s.spr.swaps.find? fun w => w.pool == 2 && w.isl == d with
  | none => .next s
  | some w =>
    let g := 64 + d * 16 + w.idx
    let x := s.disl d
    if !(s.pin g).driven then .next (railDone w s)
    else match w.phase with
    | 0 => .next (s.setSwap { w with phase := 1, joinAt := s.now })
    | 1 =>
      if railReads x.volt r.mv then
        let s := s.setDisl d { x with railPin := some w.idx, railDrv := w.spare = 17 }
        .next ((s.setPin g { s.pin g with onSpare := true }).setSwap { w with phase := 2 })
      else
        let s := s.setDisl d (if w.spare = 17 then { x with sp1Ok := false } else { x with sp0Ok := false })
        .next (abortSwap w 0x00C3 6 s)
    | 2 => .next (s.setSwap { w with phase := 3 })
    | _ => .next (railDone w s)

/-- DIGITAL_HOLD_EXPIRY (R161): every pin still held takes its safe value. -/
def execDigitalHoldExpiry (dt : Nat) (isl : Fin 6) (s : State) : Host.Outcome State Fault Refusal :=
  let s := s.advance dt
  let d := isl.val
  let x := s.disl d
  match x.silent with
  | none => .next s
  | some t =>
    if s.now < t + 20000000 * x.hold then .next s
    else
      let s := s.setDisl d { x with silent := none }
      .next ((List.range 16).foldl (fun s p =>
        let g := 64 + d * 16 + p
        if !(s.pin g).held then s
        else
          let s := pinSafe g s
          note 0x0326 g (le 1 (bit (s.pinTarget g) 0) ++ le 1 (s.pin g).cfg.safeMode) s) s)

/-! ### Commands -/

/-- Configuration named by a PIN_CONFIGURE packet (R164). -/
def pinCfgOf (c : Cmd) : PinCfg :=
  let f := c.u8 35
  { mode := c.u8 34, wbEn := f.testBit 0, olOff := f.testBit 1, inv := f.testBit 2, retry := f.testBit 3, edge := f / 16 % 4
    gate := c.u8 38, safeMode := c.u8 39, filter := c.u16 36 }

/-- Fields valid in the mode (R142, R164). DESIGN CHOICE (log 100): the spec gives no list; each field belongs to the modes whose rules
use it, INV to the input modes. -/
def PinCfg.fieldsOk (k : PinCfg) : Bool :=
  (!k.wbEn || k.mode = 1 || k.mode = 2) && (!k.olOff || k.mode = 5) && (!k.retry || k.mode = 5) &&
  (k.safeMode = 0 || k.mode = 5) && (!k.inv || decide (1 ≤ k.mode ∧ k.mode ≤ 4)) && (k.edge = 0 || k.mode = 3) &&
  (k.gate = 0 || k.mode = 4)

/-- The diagnostics that belong to the old mode end with it, each with its record (R152). DESIGN CHOICE (log 102): SHORT, THERMAL and
LATCHED stay until they clear by their own conditions. -/
def endDiagnostics (g : Nat) (s : State) : State :=
  let x := s.pin g
  let s := s.setPin g { x with wireBreak := false, openOn := false, openOff := false, extSupply := false, offClear := 0, extClear := 0 }
  let s := if x.wireBreak then note 0x0320 g (le 1 0) s else s
  let s := if x.openOn then openRecord g 0 0 0 s else s
  let s := if x.openOff then openRecord g 1 0 0 s else s
  if x.extSupply then openRecord g 2 0 0 s else s

/-- A mode change begins (R143): the driver is off and sampling stops at once; the new mode starts 1 ms later. -/
def leaveMode (g : Nat) (k : PinCfg) (id : Nat) (s : State) : State :=
  let s := endDiagnostics g (guardOff g (setOwner g 0 s))
  let x := s.pin g
  s.setPin g { x with
    cfg := { x.cfg with mode := 0 }, cmd := false, held := false, safeNow := false, staged := none, moveAt := none, moveCmd := none
    limitSince := none, retryAt := none, gateEdges := (0, 0, 0)
    modeNext := some { cfg := k, old := x.cfg, due := s.now + 1000000, cmd := id } }

/-- PIN_CONFIGURE (R142, R143, R159, R160, R164). -/
def doPinConfigure (e : CmdEntry) (_ : Env) (s : State) : Rep × State :=
  let c := e.c
  let k := pinCfgOf c
  let d := c.u8 32
  let g := 64 + d * 16 + c.u8 33
  let s := startMode g s
  let x := s.pin g
  if !c.restZero [(32, 8)] || !c.extZero 0 || 5 < d || 15 < c.u8 33 || 5 < k.mode || 63 < c.u8 35 || 2 < k.edge ||
      3 < k.gate || 2 < k.safeMode then (.bad 8, s)
  else if k.filter < 1 || 400 < k.filter then (.bad 0x31, s)
  else if k.mode ≠ x.cfg.mode && s.gmode g ≠ 0 then (.bad 0x32, s)
  else if !k.fieldsOk then (.bad 0x30, s)
  else if k.mode = x.cfg.mode then
    let s := s.setPin g { x with cfg := k }
    (.ok [], if x.safeNow then pinSafe g s else repin g s)
  else (.wait [g], leaveMode g k e.id s)

/-- DCH_PIN_STATUS as a word (R165). -/
def Pin.status (x : Pin) : Nat :=
  bit (if x.cfg.mode = 5 then x.driven else x.state) 0 + bit x.level 1 + bit x.wireBreak 2 + bit x.short 3 + bit x.thermal 4 +
  bit x.openOn 5 + bit x.openOff 6 + bit x.extSupply 7 + bit x.latched 8 + bit x.held 9 + bit x.safeNow 10 +
  bit x.onSpare 11 + x.owner * 2 ^ 12 + x.retries % 4 * 2 ^ 14 + bit x.groupDegraded 16

def Pin.diag (x : Pin) : Nat := min x.curr 65535 + 65536 * x.ron
def Pin.sqwNow (x : Pin) : Nat := match x.last with | some m => m.sqw.toNat | none => 0x8000
def Pin.timeNow (x : Pin) : Nat := match x.last with | some m => m.time | none => 0

/-- PIN_READ (R164). -/
def doPinRead (e : CmdEntry) (_ : Env) (s : State) : Rep × State :=
  let c := e.c
  let x := s.pin (64 + c.u8 32 * 16 + c.u8 33)
  if !c.restZero [(32, 2)] || !c.extZero 0 || 5 < c.u8 32 || 15 < c.u8 33 then (.bad 8, s)
  else
    (.ok (le 1 (x.status % 2) ++ le 1 (bit x.level 0) ++ le 2 x.sqwNow ++ le 4 x.count ++ le 4 x.freq.toNat ++ le 8 x.transAt ++
      le 4 x.diag ++ le 4 x.status), s)

/-- Pins of a mask. -/
def maskPins (d mask : Nat) : List Nat := ((List.range 16).filter fun p => mask.testBit p).map fun p => 64 + d * 16 + p

/-- DIGITAL_WRITE (R150, R158, R163, R164): the host's pins are the host's while DRV is 1 and CTL is 0. -/
def doDigitalWrite (e : CmdEntry) (_ : Env) (s : State) : Rep × State :=
  let c := e.c
  let d := c.u8 32
  let pins := maskPins d (c.u16 34)
  if !c.restZero [(32, 1), (34, 4)] || !c.extZero 0 || 5 < d then (.bad 8, s)
  else if !s.mode .drv then (.conflict 0x00A3, s)
  else if s.mode .ctl || pins.any fun g => (s.pin (s.groupBase g)).owner ≠ 1 then (.conflict 0, s)
  else if pins.any fun g => s.groupBase g ≠ g then (.bad 0x32, s)
  else if pins.isEmpty then (.ok [], s)
  else
    let t := if c.notBefore = 0 then s.now else max c.notBefore s.now
    (.wait [d], pins.foldl (fun s g => stagePin g ((c.u16 36).testBit (pinNo g)) t (some e.id) s) s)

/-- GROUP_CONFIGURE (R153, R154, R164): the members take the commanded state of their lowest pin. -/
def doGroupConfigure (e : CmdEntry) (_ : Env) (s : State) : Rep × State :=
  let c := e.c
  let d := c.u8 32
  let q := c.u8 33
  let m := c.u8 34
  let x := s.disl d
  let pins := (List.range 4).map fun k => 64 + d * 16 + q * 4 + k
  let owners := (pins.map fun g => (s.pin g).owner).eraseDups
  if !c.restZero [(32, 3)] || !c.extZero 0 || 5 < d || 3 < q || 2 < m then (.bad 8, s)
  else if m ≠ 0 && (pins.any (fun g => (s.pin g).cfg.mode ≠ 5) ||
      (if m = 2 then decide (1 < owners.length)
       else (s.pin (pins.getD 0 0)).owner ≠ (s.pin (pins.getD 1 0)).owner ||
         (s.pin (pins.getD 2 0)).owner ≠ (s.pin (pins.getD 3 0)).owner)) then (.bad 0x32, s)
  else if x.gmode.getD q 0 = m then (.ok [], s)
  else if pins.any fun g => (s.pin g).driven then (.bad 0x33, s)
  else
    let s := s.setDisl d { x with gmode := x.gmode.set q m }
    let s := pins.foldl (fun s g =>
      s.setPin g { s.pin g with groupDegraded := false, memberOff := false, deviates := 0, cmd := (s.pin (s.groupBase g)).cmd }) s
    (.ok [], pins.foldl (fun s g => repin g s) s)

/-- DIGITAL_FAULT_CLEAR (R151, R152, R164). -/
def doDigitalFaultClear (e : CmdEntry) (_ : Env) (s : State) : Rep × State :=
  let c := e.c
  let d := c.u8 32
  if !c.restZero [(32, 1), (34, 2)] || !c.extZero 0 || 5 < d then (.bad 8, s)
  else
    (.ok [], (maskPins d (c.u16 34)).foldl (fun s g =>
      let x := s.pin g
      let s := repin g (s.setPin g { x with latched := false, short := false, retries := 0, retryAt := none, limitSince := none })
      if x.short then shortRecord g 0 x.retries x.curr s else s) s)

/-- COUNTER_RESET (R148, R164). -/
def doCounterReset (e : CmdEntry) (_ : Env) (s : State) : Rep × State :=
  let c := e.c
  let d := c.u8 32
  if !c.restZero [(32, 1), (34, 2)] || !c.extZero 0 || 5 < d then (.bad 8, s)
  else (.ok [], (maskPins d (c.u16 34)).foldl (fun s g => s.setPin g { s.pin g with count := 0 }) s)

/-- DIGITAL_HOLD_SET (R161, R164). -/
def doDigitalHoldSet (e : CmdEntry) (_ : Env) (s : State) : Rep × State :=
  let c := e.c
  let d := c.u8 32
  if !c.restZero [(32, 2)] || !c.extZero 0 || 5 < d || 250 < c.u8 33 then (.bad 8, s)
  else (.ok [], s.setDisl d { s.disl d with hold := c.u8 33 })

def execPinConfigure (dt : Nat) (c : Cmd) (env : Env) (s : State) : Host.Outcome State Fault Refusal :=
  runHere .pinConfigure dt c env doPinConfigure s
def execPinRead (dt : Nat) (c : Cmd) (env : Env) (s : State) : Host.Outcome State Fault Refusal :=
  runHere .pinRead dt c env doPinRead s
def execDigitalWrite (dt : Nat) (c : Cmd) (env : Env) (s : State) : Host.Outcome State Fault Refusal :=
  runHere .digitalWrite dt c env doDigitalWrite s
def execGroupConfigure (dt : Nat) (c : Cmd) (env : Env) (s : State) : Host.Outcome State Fault Refusal :=
  runHere .groupConfigure dt c env doGroupConfigure s
def execDigitalFaultClear (dt : Nat) (c : Cmd) (env : Env) (s : State) : Host.Outcome State Fault Refusal :=
  runHere .digitalFaultClear dt c env doDigitalFaultClear s
def execCounterReset (dt : Nat) (c : Cmd) (env : Env) (s : State) : Host.Outcome State Fault Refusal :=
  runHere .counterReset dt c env doCounterReset s
def execDigitalHoldSet (dt : Nat) (c : Cmd) (env : Env) (s : State) : Host.Outcome State Fault Refusal :=
  runHere .digitalHoldSet dt c env doDigitalHoldSet s

end Sys2Proof.Machine
end

