-- ==== Sys2Proof/Machine/ProgLoad.lean ====
section
/-! DEFINITION. The compiled image: its layout (R305 to R308, R313) and the checks of the loader (R309 to R321, R349). -/

namespace Sys2Proof.Machine

/-- A refusal of an image: reason, item index, operand position (R349). -/
abbrev Bad := Nat × Nat × Nat

/-- The first failure of a list of checks. -/
def firstBad : List (Option Bad) → Option Bad
  | [] => none
  | some b :: _ => some b
  | none :: r => firstBad r

def badIf (c : Bool) (reason item pos : Nat) : Option Bad := if c then some (reason, item, pos) else none

/-! ### Layout -/

def hdr (l : List Byte) (i n : Nat) : Nat := leAt l i n

/-- Sections as (offset, length) (R305). -/
def sections (l : List Byte) : List (Nat × Nat) :=
  [(hdr l 32 4, 4 * hdr l 12 4), (hdr l 36 4, 8 * hdr l 16 4), (hdr l 40 4, 16 * hdr l 20 4), (hdr l 44 4, 32 * hdr l 8 4)]

/-- Two sections do not overlap. -/
def apart (a b : Nat × Nat) : Bool := a.2 = 0 || b.2 = 0 || decide (a.1 + a.2 ≤ b.1) || decide (b.1 + b.2 ≤ a.1)

/-- Header checks (R305): reasons 0x0001 and 0x0002. -/
def headerBad (l : List Byte) : Option Bad :=
  let secs := sections l
  firstBad [
    badIf (decide (l.length < 64 ∨ 1048576 < l.length) || hdr l 0 4 ≠ 0x31504744 || hdr l 4 2 ≠ 1 || hdr l 6 2 ≠ 0 ||
      hdr l 30 2 ≠ 0 || hdr l 60 4 ≠ 0) 1 0 0,
    badIf (decide (hdr l 8 4 < 1 ∨ 8192 < hdr l 8 4) || decide (hdr l 12 4 < 64 ∨ 16384 < hdr l 12 4) ||
      decide (16384 < hdr l 16 4 ∨ 4096 < hdr l 20 4) || decide (1024 < hdr l 24 2 ∨ 512 < hdr l 26 2 ∨ 4096 < hdr l 28 2)) 2 0 0,
    badIf (secs.any (fun e => e.1 % 8 ≠ 0 || decide (e.1 < 64 ∨ l.length < e.1 + e.2)) ||
      !decide (secs.Pairwise fun a b => apart a b = true)) 1 0 0,
    badIf (decide (crc32c (l.drop 64) ≠ hdr l 56 4)) 1 0 0]

/-- `n` entries of `k` bytes from byte `ofs`. -/
def entries (l : List Byte) (ofs k : Nat) (n : Nat) : List (List Byte) :=
  (List.range n).map fun j => (l.drop (ofs + k * j)).take k

/-- A variable table entry (R306). -/
def varOf (e : List Byte) : VarDef :=
  let v := leAt e 0 4
  { typ := v % 4, retain := v.testBit 2, forceable := v.testBit 3, init := v / 65536 }

def bindOf (e : List Byte) : Bind :=
  { kind := byteAt e 0, set := byteAt e 1, node := byteAt e 2, fallback := byteAt e 3, var := leAt e 4 2, index := leAt e 6 2 }

def blkOf (e : List Byte) : Blk :=
  { typ := leAt e 0 2, init := (byteAt e 2).testBit 0, res := leAt e 4 2, en := leAt e 6 2
    ins := (List.range 7).map fun k => leAt e (8 + 2 * k) 2
    outs := (List.range 3).map fun k => leAt e (22 + 2 * k) 2
    param := leAt e 28 4 }

/-- The image a byte string spells (R305). -/
def imageOf (l : List Byte) : Image :=
  { progId := leAt l 48 8, crc := leAt l 56 4
    vars := (entries l (hdr l 32 4) 4 (hdr l 12 4)).map varOf
    consts := (entries l (hdr l 36 4) 8 (hdr l 16 4)).map fun e => BitVec.ofNat 64 (leAt e 0 8)
    binds := (entries l (hdr l 40 4) 16 (hdr l 20 4)).map bindOf
    blocks := (entries l (hdr l 44 4) 32 (hdr l 8 4)).map blkOf
    ntimer := hdr l 24 2, ncount := hdr l 26 2, nedge := hdr l 28 2 }

/-! ### The catalogue (R316) -/

/-- Operand types: BOOL, INT32, REAL32, TIME, the block's own type, any. -/
inductive OpTy where
  | bool | int | real | time | own | any
  deriving DecidableEq, Repr

/-- Inputs, outputs and resource (0 none, 1 timer, 2 counter, 3 edge) of a block type (R316). -/
structure Sig where
  ins : List OpTy
  outs : List OpTy
  res : Nat := 0
  /-- R315: types the block's own type may be -/
  own : List Nat := []
  deriving DecidableEq, Repr

open OpTy in
/-- Signatures of the block types; none for an unknown TYPE (R315, R316). -/
def sigOf : Nat → Option Sig
  | 0x0101 | 0x0102 | 0x0103 => some { ins := [bool, bool, bool, bool, bool, bool, bool], outs := [bool] }
  | 0x0104 => some { ins := [bool], outs := [bool] }
  | 0x0105 => some { ins := [own], outs := [own], own := [0, 1, 2] }
  | 0x0106 => some { ins := [bool, own, own], outs := [own], own := [0, 1, 2] }
  | 0x0107 => some { ins := [int, own, own, own, own, own, own], outs := [own], own := [0, 1, 2] }
  | 0x0201 | 0x0202 => some { ins := [bool, bool], outs := [bool] }
  | 0x0301 | 0x0302 => some { ins := [bool], outs := [bool], res := 3 }
  | 0x0303 => some { ins := [any], outs := [bool], res := 3 }
  | 0x0401 | 0x0402 | 0x0403 => some { ins := [bool, time], outs := [bool, time], res := 1 }
  | 0x0404 => some { ins := [bool, time, bool], outs := [bool, time], res := 1 }
  | 0x0405 => some { ins := [bool, time, time], outs := [bool], res := 1 }
  | 0x0501 | 0x0502 => some { ins := [bool, bool, int], outs := [bool, int], res := 2 }
  | 0x0503 => some { ins := [bool, bool, bool, bool, int], outs := [bool, bool, int], res := 2 }
  | 0x0601 | 0x0602 | 0x0605 | 0x0606 => some { ins := [own, own], outs := [bool], own := [1, 2, 3] }
  | 0x0603 | 0x0604 => some { ins := [own, own], outs := [bool], own := [0, 1, 2, 3] }
  | 0x0607 => some { ins := [real, real, real], outs := [bool] }
  | 0x0701 => some { ins := [own, own, own, own, own, own, own], outs := [own], own := [1, 2, 3] }
  | 0x0702 => some { ins := [own, own], outs := [own], own := [1, 2, 3] }
  | 0x0703 => some { ins := [own, own, own, own, own, own, own], outs := [own], own := [1, 2] }
  | 0x0704 => some { ins := [own, own], outs := [own], own := [1, 2] }
  | 0x0705 => some { ins := [own], outs := [own], own := [1, 2, 3] }
  | 0x0706 | 0x0707 => some { ins := [own, own, own, own, own, own, own], outs := [own], own := [1, 2, 3] }
  | 0x0708 => some { ins := [int], outs := [real] }
  | 0x0709 => some { ins := [real], outs := [int] }
  | 0x0801 => some { ins := [own, own, own], outs := [own], own := [1, 2, 3] }
  | 0x0802 => some { ins := [real, real, real, real, real], outs := [real] }
  | 0x0803 => some { ins := [real, real], outs := [real] }
  | 0x0804 => some { ins := [real, real, real], outs := [real] }
  | 0x0805 => some { ins := [any], outs := [bool] }
  | 0x0806 => some { ins := [own, own], outs := [own], own := [0, 1, 2] }
  | 0x0901 => some { ins := [real, real, bool, real, real, real, real], outs := [real, real, real] }
  | 0x0A01 => some { ins := [bool, bool, bool, bool, bool, bool, bool], outs := [bool, bool, int], res := 1 }
  | 0x0A02 => some { ins := [bool, bool, bool, bool, bool, bool, bool], outs := [bool, int] }
  | 0x0A03 => some { ins := [bool, bool, bool, bool, time], outs := [int, time, bool], res := 2 }
  | 0x0A04 => some { ins := [bool, bool, bool, bool], outs := [bool, bool, int], res := 3 }
  | _ => none

/-- Comparisons take their type from their inputs (R315). -/
def isCompare (t : Nat) : Bool := decide (0x0601 ≤ t ∧ t ≤ 0x0606)

/-- The type number an operand position requires; none for any. -/
def OpTy.num (own : Nat) : OpTy → Option Nat
  | .bool => some 0 | .int => some 1 | .real => some 2 | .time => some 3 | .own => some own | .any => none

/-- One input operand (R310): reasons 0x0004, 0x0005 and 0x000B. -/
def operandBad (img : Image) (ty : Option Nat) (o item pos : Nat) : Option Bad :=
  if o = 0xFFFF then none
  else match o / 16384 with
  | 0 =>
    if img.vars.length ≤ opVar o then some (5, item, pos)
    else badIf (match ty with | some t => img.typ (opVar o) ≠ t | none => false) 4 item pos
  | 1 =>
    if img.consts.length ≤ opVar o then some (5, item, pos)
    else badIf (ty == some 2 && !f32Finite (constAs 2 (img.consts.getD (opVar o) 0)).real) 0x0B item pos
  | 2 =>
    if img.vars.length ≤ opVar o then some (5, item, pos)
    else badIf (img.typ (opVar o) ≠ 0 || (match ty with | some t => t ≠ 0 | none => false)) 4 item pos
  | _ => some (5, item, pos)

/-- PARAM of a block (R316, R319 to R321). -/
def paramBad (img : Image) (b : Blk) (item : Nat) : Option Bad :=
  let p := b.param
  let bad := some (5, item, 10)
  match b.typ with
  | 0x0401 | 0x0402 | 0x0403 | 0x0404 => if b.ins.getD 1 0xFFFF = 0xFFFF || p = 0 then none else bad
  | 0x0501 | 0x0502 => if b.ins.getD 2 0xFFFF = 0xFFFF || p = 0 then none else bad
  | 0x0503 => if b.ins.getD 4 0xFFFF = 0xFFFF || p = 0 then none else bad
  | 0x0901 =>
    let lo := p % 65536
    let hi := p / 65536
    if img.consts.length ≤ lo ∨ img.consts.length ≤ hi then bad
    else
      let a := (constAs 2 (img.consts.getD lo 0)).real
      let z := (constAs 2 (img.consts.getD hi 0)).real
      if !f32Finite a || !f32Finite z then some (0x0B, item, 10) else if f32Lt z a then bad else none
  | 0x0A01 => if p % 65536 = 0 ∨ 2 ^ 18 ≤ p then bad else none
  | 0x0A03 => if p % 256 = 0 ∨ 2 ^ 30 ≤ p then bad else none
  | _ => if p = 0 then none else bad

/-- Resources a block uses: kind (1 timer, 2 counter, 3 edge) and index. -/
def Blk.resources (b : Blk) : List (Nat × Nat) :=
  match sigOf b.typ with
  | none => []
  | some g => (if g.res = 0 then [] else [(g.res, b.res)]) ++
      (if b.typ = 0x0A03 then [(1, b.param / 256 % 1024), (3, b.param / 262144 % 4096)] else [])

def Image.resOk (img : Image) (r : Nat × Nat) : Bool :=
  decide (r.2 < (if r.1 = 1 then img.ntimer else if r.1 = 2 then img.ncount else img.nedge))

/-- Variables bound by an input binding. -/
def Image.inputBound (img : Image) (v : Nat) : Bool := img.binds.any fun b => decide (b.kind ≤ 3) && b.var == v

/-- One block (R313 to R316). -/
def blockBad (img : Image) (b : Blk) (item : Nat) : Option Bad :=
  match sigOf b.typ with
  | none => some (3, item, 0)
  | some g =>
    let own := if isCompare b.typ then cmpType img b else img.typ (b.outs.getD 0 0)
    let isEdge := g.res = 3 || b.typ = 0x0A03
    firstBad ([
      badIf (b.init && !isEdge) 5 item 0,
      operandBad img (some 0) b.en item 0] ++
      (b.ins.zipIdx.map fun (o, k) => match g.ins[k]? with
        | some t => operandBad img (t.num own) o item (k + 1)
        | none => badIf (o ≠ 0xFFFF) 5 item (k + 1)) ++
      (b.outs.zipIdx.map fun (o, k) => match g.outs[k]? with
        | none => badIf (o ≠ 0xFFFF) 5 item (k + 8)
        | some t =>
          if o = 0xFFFF then badIf (t = .own || (b.typ = 0x0901 && decide (1 ≤ k))) 5 item (k + 8)
          else if img.vars.length ≤ o then some (5, item, k + 8)
          else if some (img.typ o) ≠ t.num own then some (4, item, k + 8)
          else badIf (decide (o < 64) || img.inputBound o) 7 item (k + 8)) ++
      [ badIf (!g.own.isEmpty && !g.own.contains own) 4 item 8,
        paramBad img b item,
        badIf (g.res = 0 && b.res ≠ 0xFFFF) 8 item 0,
        badIf (!b.resources.all img.resOk) 8 item 0 ])

/-- No value stands twice in a list. -/
def distinct [DecidableEq α] (l : List α) : Bool := decide l.Nodup

/-- Variables that blocks and input bindings write (R349). -/
def Image.writers (img : Image) : List Nat :=
  (img.blocks.flatMap fun b => b.outs.filter (· ≠ 0xFFFF)) ++ ((img.binds.filter fun b => b.kind ≤ 3).map (·.var))

/-- Type required of system variable `v` (R312). -/
def sysType (v : Nat) : Nat :=
  if v = 0 ∨ v = 4 ∨ v = 6 ∨ v = 7 then 0
  else if v = 2 ∨ v = 3 then 3
  else if v < 16 then 1
  else if v < 48 then 0 else 1

/-- Output channel or DO pin a program may own (R125, R158, R159). -/
def outputOk (g : Nat) (s : State) : Bool :=
  if g < 64 then (s.chan g).cfg.kind = 8
  else decide (g < 160) && (s.pin g).cfg.mode = 5 && s.groupBase g = g && (s.pin g).owner ≠ 3

/-- Type of a pin's value as an input (R308). -/
def pinType (g : Nat) (s : State) : Option Nat :=
  match (s.pin g).cfg.mode with
  | 1 | 2 | 5 => some 0
  | 3 => some 1
  | 4 => some 2
  | _ => none

/-- One binding against the node's configuration (R308, R349 reason 0x0009). -/
def bindOk (img : Image) (b : Bind) (s : State) : Bool :=
  let typ := img.typ b.var
  let isLocal := b.node = 0
  let peer := decide (1 ≤ b.node ∧ b.node ≤ 32)
  let var := decide (b.var < img.vars.length)
  (decide (b.set ≤ 15) || b.set = 255) && decide (b.fallback ≤ 1) &&
  (b.fallback = 0 || b.kind = 4 || b.kind = 5 || b.kind = 7) &&
  match b.kind with
  | 0 => isLocal && var && typ = 2 && decide (b.index < 64) && decide (64 ≤ b.var) && (s.chan b.index).cfg.kind ≠ 0
  | 1 => isLocal && var && decide (64 ≤ b.index ∧ b.index < 160) && pinType b.index s = some typ && decide (64 ≤ b.var)
  | 2 => isLocal && var && typ = 1 && decide (b.index < 4096) && decide (64 ≤ b.var)
  | 3 => peer && var && typ ≠ 3 && decide (b.index ≤ 251) && decide (64 ≤ b.var)
  | 4 => isLocal && var && typ = 2 && decide (b.index < 64) && outputOk b.index s
  | 5 => isLocal && var && typ = 0 && decide (64 ≤ b.index) && outputOk b.index s
  | 6 => peer && var && ((decide (b.index < 64) && typ = 2) || (decide (64 ≤ b.index ∧ b.index < 160) && typ = 0))
  | 7 => peer && b.var = 0xFFFF && outputOk b.index s
  | 8 => isLocal && var && img.inputBound b.var && decide (b.index ≤ 251)
  | 9 => isLocal && var && typ ≠ 3 && decide (b.index ≤ 251)
  | _ => false

/-- Bindings of an image that do not match the node's configuration now. -/
def bindsBad (img : Image) (s : State) : Option Bad :=
  firstBad (img.binds.zipIdx.map fun (b, k) => badIf (!bindOk img b s) 9 k 0)

/-- Reserved bytes of the tables: variable bits [15:4], binding bytes 8 to 15, block flags and byte 3. -/
def reservedBad (l : List Byte) : Option Bad :=
  firstBad (
    ((entries l (hdr l 32 4) 4 (hdr l 12 4)).zipIdx.map fun (e, k) => badIf (leAt e 0 2 / 16 ≠ 0) 5 k 0) ++
    ((entries l (hdr l 40 4) 16 (hdr l 20 4)).zipIdx.map fun (e, k) => badIf ((e.drop 8).any (· ≠ 0)) 9 k 0) ++
    ((entries l (hdr l 44 4) 32 (hdr l 8 4)).zipIdx.map fun (e, k) => badIf (decide (1 < byteAt e 2) || byteAt e 3 ≠ 0) 5 k 0))

/-- The checks of R349 on the image of a byte string. -/
def imageBad (l : List Byte) (s : State) : Option Bad :=
  match headerBad l with
  | some b => some b
  | none =>
    let img := imageOf l
    firstBad ([reservedBad l] ++
      (img.vars.zipIdx.map fun (v, k) => firstBad [
        badIf (decide (k < 64) && v.typ ≠ sysType k) 0x0A k 0,
        badIf (v.init ≠ 0xFFFF && decide (img.consts.length ≤ v.init)) 5 k 0,
        badIf (v.typ = 2 && v.init ≠ 0xFFFF && !f32Finite (constAs 2 (img.consts.getD v.init 0)).real) 0x0B k 0]) ++
      [badIf (decide (1024 < (img.vars.filter (·.retain)).length)) 0x0C 0 0] ++
      (img.blocks.zipIdx.map fun (b, k) => blockBad img b k) ++
      [badIf (!distinct img.writers) 6 0 0,
       badIf (!distinct (img.blocks.flatMap Blk.resources)) 8 0 0,
       bindsBad img s])

/-- The initial value of a variable (R306). -/
def Image.initVar (img : Image) (v : VarDef) : Var :=
  { val := if v.init = 0xFFFF then 0 else constAs v.typ (img.consts.getD v.init 0) }

/-- The counter of a block whose CV output names a RETAIN variable goes on from it (R318). -/
def retainCount (img : Image) (vars : List Var) (counts : List CountRes) (b : Blk) : List CountRes :=
  let o := b.outs.getD (if b.typ = 0x0503 then 2 else 1) 0xFFFF
  if decide (0x0501 ≤ b.typ ∧ b.typ ≤ 0x0503) && o ≠ 0xFFFF && (img.vars.getD o {}).retain then
    counts.set b.res { cv := (vars.getD o {}).val.int }
  else counts

/-- Variables and resources at the start of a run (R323, R343): RETAIN variables of equal index and type carried from an
earlier run. -/
def freshWork (img : Image) (old : Option (Image × Work)) : Work :=
  let vars := img.vars.zipIdx.map fun (v, k) =>
    match old with
    | some (o, w) =>
      if v.retain && (o.vars.getD k {}).retain && decide (k < o.vars.length) && (o.vars.getD k {}).typ == v.typ then
        w.vars.getD k {} else img.initVar v
    | none => img.initVar v
  { vars := vars, timers := List.replicate img.ntimer {}
    counts := img.blocks.foldl (retainCount img vars) (List.replicate img.ncount {})
    edges := List.replicate img.nedge 0, seen := List.replicate img.blocks.length false }

/-- How many variables a switchover carries (R346). -/
def carried (img o : Image) : Nat :=
  (img.vars.zipIdx.filter fun (v, k) => v.retain && (o.vars.getD k {}).retain && decide (k < o.vars.length) &&
    (o.vars.getD k {}).typ == v.typ).length

end Sys2Proof.Machine
end

