-- ==== Sys2Proof/Machine/RingBase.lean ====
section
/-! DEFINITION. What the cycle and the ring share: frames originated, geometry (R337, R216), the timing of a cycle (R327,
R336, R337). -/

namespace Sys2Proof.Machine

def State.port (s : State) (k : Nat) : RPort := if k = 0 then s.rng.port0 else s.rng.port1
def State.setPort (s : State) (k : Nat) (x : RPort) : State :=
  { s with rng := if k = 0 then { s.rng with port0 := x } else { s.rng with port1 := x } }
def State.dirEntry (s : State) (n : Nat) : DirEntry := tget {} s.rng.dir n
def State.setDir (s : State) (n : Nat) (x : DirEntry) : State :=
  { s with rng := { s.rng with dir := tset {} s.rng.dir n x } }

/-- Nodes of the ring in direction 0 from this node, with the length in m of the hop each leaves in direction 0. -/
def State.ringOrder (s : State) : List (Nat × Nat) :=
  let others := (s.rng.members.filter (· ≠ s.nodeNo)).map fun n => ((s.dirEntry n).hops0, n, (s.dirEntry n).hopLen)
  (s.nodeNo, s.rng.port0.len) :: (sortBy Prod.fst others).map fun e => (e.2.1, e.2.2)

/-- Hops of the ring that are down, by their place in `ringOrder` (R363): hop i leaves the i-th node in direction 0. Direction k
leaves a node on port k. -/
def State.brokenHops (s : State) : List Nat :=
  let o := s.ringOrder.map Prod.fst
  ((s.rng.downPorts.filterMap fun e =>
    let i := (o.takeWhile (· ≠ e.1)).length
    if o.length ≤ i then none
    else some (if e.2 = 0 then i else (i + o.length - 1) % o.length))).eraseDups

/-- The path of frames of Nn to this node in a direction crosses a hop that is down. -/
def State.pathBroken (s : State) (n dir : Nat) : Bool :=
  let i := ((s.ringOrder.map Prod.fst).takeWhile (· ≠ n)).length
  s.brokenHops.any fun h => if dir = 1 then decide (h < i) else decide (i ≤ h)

/-- Direction in which this node reaches Nn: the shorter path, direction 0 on a tie (R356); the other one while a hop of it is down
(R364). -/
def State.dirTo (s : State) (n : Nat) : Nat :=
  let e := s.dirEntry n
  let d := if e.hops0 ≤ e.hops1 then 0 else 1
  let bad := fun (d : Nat) => !(s.port d).up || s.pathBroken n (1 - d)
  if !bad d then d else if !bad (1 - d) || !(s.port d).up then 1 - d else d

/-- GLB_ID (R2). -/
def glbId : Nat := 0x64960002

/-- Credits of a frame (R359). -/
def frameCredits (payload : Nat) : Nat := (max payload 32 + 48 + 63) / 64

/-- Port `k` is up and has its transmit clock (R27). -/
def State.canSend (s : State) (k : Nat) : Bool := (s.port k).up && !s.rng.txLost

/-- A frame starts on a port: it takes a HOP_SEQ and the credit of the downstream buffer (R355, R359, R361). -/
def startOn (k : Nat) (s : State) (e : Nat × Nat) : State :=
  let p := s.port k
  let u := frameCredits e.2
  if p.credit.getD e.1 0 < u || p.waiting.any (·.1 == e.1) then s.setPort k { p with waiting := p.waiting ++ [e] }
  else s.setPort k { p with
    txSeq := (p.txSeq + 1) % 2 ^ 32, sent := p.sent ++ [(p.txSeq, e.1, u, 0)], credit := p.credit.set e.1 (p.credit.getD e.1 0 - u) }

/-- A frame of a class goes to a port; while the downstream buffer has no credit for all of it, it waits, in order of its class (R359). -/
def sendOn (k cls payload : Nat) (s : State) : State := if s.canSend k then startOn k s (cls, payload) else s

/-- Frames that wait for credit start as far as it goes (R359). -/
def startWaiting (k : Nat) (s : State) : State :=
  let p := s.port k
  p.waiting.foldl (startOn k) (s.setPort k { p with waiting := [] })

/-- This node originates a frame (R355, R356). With RING at 0 it originates none of class C, A, S or M (R367). T, C and A go
both ways, S and M one way; `dst` 255 names the neighbour on port `only`. -/
def originate (cls typ dst : Nat) (only : Option Nat) (payload : List Byte) (s : State) : State :=
  let ports := match only with
    | some k => [k]
    | none => if cls ≤ 2 then [0, 1] else [s.dirTo dst]
  let ports := ports.filter fun k => s.canSend k
  if (cls ≠ 0 && !s.mode .ring) || ports.isEmpty then s
  else
    let q := s.rng.originSeq.getD cls 0
    let f : TxFrame := { cls := cls, typ := typ, src := s.nodeNo, dst := dst, dirs := (ports.map (2 ^ ·)).foldl (· + ·) 0, seq := q, payload := payload }
    let s := { s with rng := { s.rng with
      originSeq := s.rng.originSeq.set cls ((q + 1) % 2 ^ 32), out := s.rng.out ++ [f] } }
    ports.foldl (fun s k => sendOn k cls payload.length s) s

/-- Time-locked member of a ring (R312, R375). -/
def State.timeLocked (s : State) : Bool := (s.rng.tState = 2 || s.rng.isMaster) && s.rng.members.contains s.nodeNo && !s.rng.cut

/-- STATE of a pair (R381, R388): 1 aligned, 2 DEGRADED. -/
def State.pairState (s : State) (p : Pair) : Nat := if s.timeLocked && (s.dirEntry p.peer).locked then 1 else 2

/-- A source of a peer that belongs to a DEGRADED pair (R381). -/
def State.pairDegraded (s : State) (k : Nat × Nat × Nat) : Bool :=
  k.1 = 1 && k.2.1 ≠ 0 && s.rng.pairs.any fun e => match e.2 with
    | some p => p.peer = k.2.1 && p.peerCh = k.2.2 && s.pairState p = 2
    | none => false

/-! ### Geometry -/

/-- Delay of a hop in ns: 3 µs and 5 µs/km (R216, R337). -/
def hopNs (len : Nat) : Nat := 3000 + 5 * len

def sumNat (l : List Nat) : Nat := l.foldl (· + ·) 0

/-- H in ns (R337): every hop of the ring; 0 for a node on no ring. -/
def State.ringH (s : State) : Nat :=
  if s.rng.port0.up || s.rng.port1.up then sumNat (s.ringOrder.map fun e => hopNs e.2) else 0

/-- P_n in ns (R216): the hops from Nn to the master, by the shorter direction, or the longer one. -/
def State.originPath (s : State) (n : Nat) (long : Bool) : Nat :=
  let o := s.ringOrder
  let before := o.takeWhile (·.1 ≠ n)
  let a := sumNat (before.map fun e => hopNs e.2)
  let b := sumNat ((o.drop before.length).map fun e => hopNs e.2)
  (if long then max a b else min a b) + 2000

/-! ### The timing of a cycle -/

/-- Times are kept in fifths of a ns: one byte takes 4 of them at 1.25 × 10⁹ bytes/s (R337). -/
def fifths (ns : Nat) : Nat := 5 * ns
def byteFifths (n : Nat) : Nat := 4 * n
def upTo (u n : Nat) : Nat := (n + u - 1) / u * u

/-- Exports and remote outputs of an image (R337). -/
def Image.exports (i : Image) : Nat := (i.binds.filter fun b => b.kind = 8 || b.kind = 9).length
def Image.remotes (i : Image) : Nat := (i.binds.filter fun b => b.kind = 6).length

/-- IMPORT, REMOTE_OUT or ACCEPT (R336). -/
def Image.usesRing (i : Image) : Bool := i.binds.any fun b => b.kind = 3 || b.kind = 6 || b.kind = 7

def State.set (s : State) (n : Nat) : ConSet := tget {} s.prg.sets n
def State.putSet (s : State) (n : Nat) (x : ConSet) : State := { s with prg := { s.prg with sets := tset {} s.prg.sets n x } }

/-- A ring set is configured (R329, R336). -/
def State.hasRingSet (s : State) : Bool := s.prg.sets.any fun e => e.2.configured && e.2.members ≠ 0

/-- The image that runs or last ran. -/
def State.image (s : State) : Option Image := s.slotImage s.prg.slot

/-- The image that runs, or is parked (R342). -/
def State.activeImage (s : State) : Option Image := if s.prg.stateNum = 2 || s.prg.stateNum = 3 then s.image else none

/-- The master of a ring, at work with RING at 1 (R331, R334). -/
def State.leadsRing (s : State) : Bool := s.rng.isMaster && s.mode .ring

/-- Programs on the ring as (T_solve, exports, remote outputs): those announced by members, and `own` (R337). -/
def State.ringPrograms (s : State) (own : Option Image) : List (Nat × Nat × Nat) :=
  (match own with | some i => [(i.tSolve, i.exports, i.remotes)] | none => []) ++
  (s.rng.members.filter (· ≠ s.nodeNo)).filterMap fun n => (s.dirEntry n).prog

/-- The instants of R337, in fifths of a ns: G, the solve deadline, and C_off, P_min in ns. -/
structure Timing where
  gather : Nat
  deadline : Nat
  cofs : Nat
  pmin : Nat
  tSolve : Nat
  deriving DecidableEq, Repr

def ringTiming (own : Option Image) (s : State) : Timing :=
  let ps := s.ringPrograms own
  let h := fifths s.ringH
  let sumOf := fun (f : Nat × Nat × Nat → Nat) => sumNat ((ps.filter fun p => decide (0 < f p)).map fun p => byteFifths (32 + 8 * f p + 48))
  let xe := sumOf (·.2.1)
  let xo := sumOf (·.2.2)
  let xr := ps.length * byteFifths 80
  let xd := byteFifths 80
  let ts := (ps.map (·.1)).foldl max 0
  let g := fifths 25000 + h + fifths 6000 + xe
  let dl := g + fifths ts
  let c := dl + fifths 5000 + (h + fifths 6000 + xo) + fifths 10000 + (h + fifths 6000 + xr) + fifths 2000 + (h + fifths 6000 + xd)
  let cofs := upTo 5000 c / 5
  let p := max (if ps.isEmpty then 250000 else max 250000 (cofs + 10000)) (2 * (s.ringH + 6000))
  { gather := g, deadline := dl, cofs := cofs, pmin := upTo 10000 p, tSolve := ts }

/-- The instants of R327 and R336. -/
def localTiming (own : Option Image) : Timing :=
  let ts := match own with | some i => i.tSolve | none => 0
  let cofs := upTo 1000 (40000 + ts)
  { gather := fifths 25000, deadline := fifths (25000 + ts), cofs := cofs, pmin := upTo 10000 (max 250000 (cofs + 10000)), tSolve := ts }

/-- The timing that governs an image on this node (R336, R337). -/
def timingOf (own : Option Image) (s : State) : Timing :=
  let ring := s.hasRingSet || (match own with | some i => i.usesRing | none => false)
  if ring then ringTiming own s else localTiming own

/-- C_off of the ring in ns (R337, R365). -/
def State.ringCofs (s : State) : Nat := s.rng.cofs.getD (ringTiming s.activeImage s).cofs

/-- The timing the period in force must meet (R336 to R338): on the master that of the ring. -/
def State.cycleTiming (s : State) : Timing := if s.leadsRing then ringTiming s.activeImage s else timingOf s.activeImage s

/-- C_off in force in ns: the master's on a ring (R337, R365). -/
def State.cofs (s : State) : Nat :=
  let t := timingOf s.image s
  let ring := s.hasRingSet || (match s.image with | some i => i.usesRing | none => false)
  if ring && !s.rng.isMaster then s.rng.cofs.getD t.cofs else t.cofs

/-- C_off and P_min of the running cycle in ns, 0 while there is none (R351). -/
def State.cofsShown (s : State) : Nat := if s.activeImage.isSome then s.cofs else if s.leadsRing then s.ringCofs else 0
def State.pminShown (s : State) : Nat := if s.activeImage.isSome || s.leadsRing then s.cycleTiming.pmin else 0

end Sys2Proof.Machine
end

