-- ==== Sys2Proof/Machine/Admission.lean ====
section
/-! DEFINITION. Admission (R206, R213 to R218, R222, R237): the tests of R215, the ring shares of R217 and R360, FLOW_OPEN,
STREAM_OPEN and BUDGET_READ. -/

namespace Sys2Proof.Machine

/-! ### The tests of R215 -/

/-- Wait window W in ns (R206). -/
def classWindow : Nat → Nat
  | 0 => 64000 | 1 => 1814000 | 2 => 19814000 | _ => 199814000

/-- Cost c of an item (R215). -/
def Flow.cost (x : Flow) : Nat := (if x.stream then x.size else 64) + 32

/-- W' in ns (R216). -/
def Flow.win (x : Flow) : Nat := x.window / 1000

/-- Demand over `l` ns in 1e-9 bytes (R215), with the refusal allowance of R214. -/
def Flow.demand (x : Flow) (l : Nat) : Nat :=
  if l < x.win then 0 else x.cost * (1000000000 * x.chargedBurst + x.chargedRate * (l - x.win))

/-- Capacity in bytes/s at an effective width; C1 while it is below 1 (R215, R242). -/
def capacityOf : Nat → Nat
  | 4 => 2000000000 | 2 => 1000000000 | _ => 500000000

/-- Every open flow: c_max of R215 is taken over them, suspended ones too. -/
def State.openFlows (s : State) : List Flow := (s.flows.filter fun e => e.2.state ≠ .closed).map Prod.snd

/-- Flows under test: open ones that are not suspended (R223, R225). -/
def State.testFlows (s : State) : List Flow := (s.flows.filter fun e => e.2.state ≠ .closed && !e.2.suspended).map Prod.snd

def costMax (l : List Flow) : Nat := (l.map Flow.cost).foldl max 0

/-- Demand of a set over `l` ns, c_max included, in 1e-9 bytes (R215). -/
def demandOf (cmax l : Nat) (fs : List Flow) : Nat := sumNat (fs.map (·.demand l)) + 1000000000 * cmax

/-- A failing test as R222 reports it. -/
structure Failure where
  detail : Nat
  test : Nat
  part : Nat
  window : Nat
  demand : Nat
  capacity : Nat
  deriving DecidableEq, Repr

def sat32 (n : Nat) : Nat := min n 0xFFFFFFFF

def Failure.payload (f : Failure) : List Byte :=
  le 2 f.detail ++ le 1 f.test ++ le 1 f.part ++ le 4 (sat32 f.window) ++ le 4 (sat32 f.demand) ++ le 4 (sat32 f.capacity)

/-- Distinct windows, rising. -/
def windowsOf (fs : List Flow) : List Nat := sortBy id (fs.map Flow.win).eraseDups

/-- Tests 1 and 2 of R215 over one set: the first window at which the demand exceeds the capacity `cap` bytes/s. -/
def windowTest (test cap cmax : Nat) (fs : List Flow) : Option Failure :=
  ((windowsOf fs).find? fun l => decide (cap * l < demandOf cmax l fs)).map fun l =>
    { detail := 0x52, test := test, part := 0, window := l
      demand := (demandOf cmax l fs + 999999999) / 1000000000, capacity := cap * l / 1000000000 }

/-- Long-run bytes per second (R215). -/
def longRun (fs : List Flow) : Nat := sumNat (fs.map fun x => x.cost * x.chargedRate)

/-- Journal slots of test 4 in 1e-9 slots (R215), at the admitted class, whose reservation a demoted flow keeps (R224). -/
def slotsOf (fs : List Flow) : Nat :=
  sumNat ((fs.filter (!·.stream)).map fun x => 1000000000 * x.chargedBurst + x.chargedRate * classDeadline x.admitted)

/-- The first failing test of R215 over a set of flows, at effective width `eff` (R222). -/
def hostTests (eff cmax : Nat) (fs : List Flow) : Option Failure :=
  let recs := fs.filter (!·.stream)
  match windowTest 1 500000000 cmax recs with
  | some f => some f
  | none =>
  match windowTest 2 (capacityOf eff) cmax fs with
  | some f => some f
  | none =>
    if 500000000 < longRun recs then
      some { detail := 0x52, test := 3, part := 0, window := 1000000000, demand := longRun recs, capacity := 500000000 }
    else if capacityOf eff < longRun fs then
      some { detail := 0x52, test := 3, part := 1, window := 1000000000, demand := longRun fs, capacity := capacityOf eff }
    else if 16384 * 1000000000 < slotsOf recs then
      some { detail := 0x55, test := 4, part := 0, window := 0, demand := (slotsOf recs + 999999999) / 1000000000, capacity := 16384 }
    else none

/-- Test 2 of R215 holds at the width trained now (R223). -/
def test2Holds (s : State) : Bool :=
  (windowTest 2 (capacityOf s.eff) (costMax s.openFlows) s.testFlows).isNone

/-! ### Ring shares (R217, R360, R368, R378, R380) -/

/-- The node is on a ring. -/
def State.onRing (s : State) : Bool := s.rng.port0.up || s.rng.port1.up

/-- Direction in which frames of Nn reach this node by the shorter path, direction 0 on a tie (R356), or by the only path left
(R364). -/
def State.dirFrom (s : State) (n : Nat) : Nat :=
  let d := if (s.dirEntry n).hops1 ≤ (s.dirEntry n).hops0 then 0 else 1
  if s.pathBroken n d && !s.pathBroken n (1 - d) then 1 - d else d

/-- Lengths in m of the hops that frames of Nn cross to this node in a direction. -/
def State.hopsFrom (s : State) (n dir : Nat) : List Nat :=
  let o := s.ringOrder
  let before := o.takeWhile (·.1 ≠ n)
  if dir = 1 then before.map (·.2) else (o.drop before.length).map (·.2)

/-- cap of R360 for the 46 KiB classes, as a share of the lane. -/
def capShare (longest : Nat) : Rat := min 1 (mkRat (47104 * 1000000000) (12000 + 10 * longest) / 1250000000)

def sumRat (l : List Rat) : Rat := l.foldl (· + ·) 0

/-- Bytes per second as a share of a direction (R217). -/
def laneShare (bytes : Rat) : Rat := bytes / 1250000000

/-- Items per second charged for a subscription to a local source (R378). -/
def State.subRate (s : State) (kind g : Nat) : Rat :=
  if kind = 1 then mkRat (s.chan g).rate.1 (s.chan g).rate.2
  else if kind = 2 then
    match (s.pin g).cfg.mode with
    | 3 => 100
    | 4 => mkRat 1000000000 (gateTime (s.pin g).cfg.gate)
    | _ => 10 + (if (s.pin g).cfg.filter = 0 then 0 else mkRat 20000 (s.pin g).cfg.filter)
  else 100

/-- Items per second charged for a subscription at a peer: the rate its own settings give, known to the master only (R378). -/
def peerRate (node kind g : Nat) : Rat :=
  if kind = 1 || kind = 2 then Config.peerRate node kind g else 100

/-- C share of a direction (R368): bytes of a cycle's C frames over what the lane carries in a period. -/
def State.cShare (s : State) : Rat :=
  let ps := s.ringPrograms s.image
  let fr := fun (f : Nat × Nat × Nat → Nat) => sumNat ((ps.filter fun p => decide (0 < f p)).map fun p => 32 + 8 * f p + 48)
  let bytes := 112 + fr (·.2.1) + fr (·.2.2) + 80 * ps.length + (if ps.isEmpty then 0 else 80)
  if s.prg.period = 0 then 0 else laneShare (mkRat (1000000000 * bytes) s.prg.period)

/-- Subscribers in a mask (R378). -/
def subscribers (m : Nat) : Nat := ((List.range 32).filter fun k => m.testBit k).length

/-- A share of a direction (R217, R378): every subscription, the node's own, those it serves and those between peers, and flows
with ORIGIN bits. -/
def State.aShare (s : State) (fs : List Flow) (more : List (Nat × Nat × Nat)) : Rat :=
  let own := sumRat ((s.rng.subs ++ more).map fun k => 72 * peerRate k.2.1 k.1 k.2.2)
  let served := sumRat (s.rng.published.map fun e => 72 * subscribers e.2 * s.subRate (e.1 / 65536) (e.1 % 65536))
  let between := sumRat (s.rng.peerSubs.map fun k => 72 * peerRate k.2.1 k.2.2.1 k.2.2.2)
  let flows := sumNat ((fs.filter fun x => x.origin ≠ 0 && !x.stream).map fun x => 112 * x.chargedRate)
  laneShare (own + served + between + mkRat flows 1)

/-- S share of a direction (R217). -/
def State.sShare (s : State) (fs : List Flow) (dir : Nat) : Rat :=
  laneShare (mkRat (sumNat ((fs.filter fun x => x.stream && x.node ≠ 0 && x.node ≠ s.nodeNo && s.dirFrom x.node = dir).map fun x =>
    x.rate * (x.size + 48 * ((x.size + 2047) / 2048)))) 1)

/-- M share of a direction (R217, R380): the floor of 2 % and this node's mirror. -/
def State.mShare (s : State) (mirror : Option (Nat × Nat)) (dir : Nat) : Rat :=
  mkRat 2 100 + (match mirror with
    | some (to', rate) => if s.dirTo to' = dir then laneShare (mkRat (2096 * rate) 2048) else 0
    | none => 0)

def State.mirrorNow (s : State) : Option (Nat × Nat) := if s.rcd.mirTo = 0 then none else some (s.rcd.mirTo, s.rcd.mirRate)

/-- S limit of a direction: 80 % or the cap at the longest hop its streams cross (R217, R360). -/
def State.sLimit (s : State) (fs : List Flow) (dir : Nat) : Rat :=
  let hops := (fs.filter fun x => x.stream && x.node ≠ 0 && x.node ≠ s.nodeNo && s.dirFrom x.node = dir).flatMap fun x => s.hopsFrom x.node dir
  min (mkRat 4 5) (capShare (hops.foldl max 0))

/-- Sum of all shares of a direction (R217). -/
def State.totalShare (s : State) (fs : List Flow) (more : List (Nat × Nat × Nat)) (mirror : Option (Nat × Nat)) (dir : Nat) : Rat :=
  mkRat 1 100 + s.cShare + s.aShare fs more + s.sShare fs dir + s.mShare mirror dir

/-- 0.01 % units, rounded up and rounded down. -/
def shareUp (r : Rat) : Nat := (r * 10000).ceil.toNat
def shareDown (r : Rat) : Nat := (r * 10000).floor.toNat

/-- The ring test of R217 in one direction: its stream share, then its total. -/
def ringTest (s : State) (fs : List Flow) (more : List (Nat × Nat × Nat)) (mirror : Option (Nat × Nat)) (dir : Nat) : Option Failure :=
  if !s.onRing then none
  else
    let longest := (s.ringOrder.map (·.2)).foldl max 0
    let st := s.sShare fs dir
    let lim := s.sLimit fs dir
    let tot := s.totalShare fs more mirror dir
    let own : Bool := decide (s.cShare ≤ capShare longest) && decide (s.aShare fs more ≤ capShare longest) &&
      decide (s.mShare mirror dir ≤ capShare longest)
    if lim < st then
      some { detail := 0x54, test := dir, part := 0, window := 0, demand := shareUp st, capacity := shareDown lim : Failure }
    else if 1 < tot || !own then
      some { detail := 0x53, test := dir, part := 1, window := 0, demand := shareUp tot
             capacity := if own then 10000 else shareDown (capShare longest) : Failure }
    else none

/-- The first ring test of R217 that fails: direction 0, then direction 1 (R222). -/
def ringTests (s : State) (fs : List Flow) (more : List (Nat × Nat × Nat)) (mirror : Option (Nat × Nat)) : Option Failure :=
  match ringTest s fs more mirror 0 with
  | some f => some f
  | none => ringTest s fs more mirror 1

/-- Every test of R215 and R217 with `x` as one more flow. -/
def admissionFailure (s : State) (x : Flow) : Option Failure :=
  let fs := s.testFlows ++ [x]
  match hostTests s.eff (costMax (x :: s.openFlows)) fs with
  | some f => some f
  | none => ringTests s fs [] s.mirrorNow

/-- More subscriptions do not fit (R378). -/
def subscriptionsFail (s : State) (more : List (Nat × Nat × Nat)) : Option Failure :=
  if more.isEmpty then none else ringTests s s.testFlows more s.mirrorNow

/-! ### Commands -/

/-- Longest P_n over the origins of a mask, in ns (R216). -/
def State.originDelay (s : State) (origin : Nat) (long : Bool) : Nat :=
  (((List.range 32).filter fun k => origin / 2 ^ k % 2 = 1).map fun k => s.originPath (k + 1) long).foldl max 0

/-- A flow just opened (R220, R221). -/
def Flow.opened (x : Flow) (now : Nat) : Flow :=
  { x with state := .opened, tokens := 1000000000 * x.burst, tokenAt := now, allowance := 1000000000, allowanceAt := now }

/-- FLOW_OPEN (R212, R213, R216, R222). -/
def doFlowOpen (e : CmdEntry) (_ : Env) (s : State) : Rep × State :=
  let c := e.c
  let f := c.u8 32
  let cls := c.u8 33
  let flags := c.u8 35
  let rate := c.u32 36
  let burst := c.u16 40
  let reserve := c.u16 44
  let q := c.u8 46
  let qbase := c.u64 48
  let origin := c.u32 56
  if !c.restZero [(32, 2), (35, 1), (36, 4), (40, 2), (44, 3), (48, 8), (56, 4)] || !c.extZero 0 || 3 < flags then (.bad 8, s)
  else if f = 0 then (.bad 0x58, s)
  else if 2 < cls ∨ rate = 0 ∨ 1000000 < rate ∨ burst = 0 ∨ 4096 < burst ∨ reserve = 0 ∨ 32768 < reserve ∨ q < 6 ∨ 16 < q then (.bad 8, s)
  else if (s.flow f).state ≠ .closed then (.bad 0x56, s)
  else if reserve < burst ∨ 2 ^ q < reserve + burst ∨ qbase % 4096 ≠ 0 then (.bad 0x57, s)
  else
    let p := if origin = 0 then 0 else s.originDelay origin (decide (2 ≤ flags))
    let w := classWindow cls - p
    if classWindow cls < p + 8000 then (.final stDeadline (le 2 0x59), s)
    else
      let old := s.flow f
      let x : Flow :=
        { state := .opened, cls := cls, admitted := cls, replies := flags % 2 = 1, breakSafe := decide (2 ≤ flags), burst := burst
          rate := rate, reserve := reserve, size := 64, qlog2 := q, qbase := qbase, window := 1000 * w, origin := origin
          headErr := old.headErr, layoutErr := old.layoutErr, lowSeen := old.lowSeen, stallSeen := old.stallSeen }
      match admissionFailure s x with
      | some r => (.final stAdmission r.payload, s)
      | none => (.ok [], s.setFlow f (x.opened s.now))

/-- Waveform setting of a stream's channel, here or at a peer (R52, R218). -/
def State.waveOf (s : State) (node ch : Nat) : Nat :=
  if node = 0 || node = s.nodeNo then (s.chan ch).cfg.wave else Config.peerWave node ch

/-- STREAM_OPEN (R218, R264). -/
def doStreamOpen (e : CmdEntry) (_ : Env) (s : State) : Rep × State :=
  let c := e.c
  let f := c.u8 32
  let node := c.u8 33
  let ch := c.u8 34
  let size := c.u16 36
  let q := c.u8 38
  let qbase := c.u64 40
  let reserve := c.u16 48
  if !c.restZero [(32, 3), (36, 3), (40, 8), (48, 2)] || !c.extZero 0 then (.bad 8, s)
  else if f = 0 then (.bad 0x58, s)
  else if 32 < node ∨ 63 < ch ∨ size < 256 ∨ 4096 < size ∨ size % 64 ≠ 0 ∨ q < 4 ∨ 12 < q then (.bad 8, s)
  else if (s.flow f).state ≠ .closed then (.bad 0x56, s)
  else if reserve < 2 ∨ 2 ^ q < reserve + 2 ∨ qbase % 4096 ≠ 0 then (.bad 0x57, s)
  else
    let fs := waveRate (s.waveOf node ch)
    if fs = 0 then (.bad 0x5A, s)
    else
      let peer := node ≠ 0 && node ≠ s.nodeNo
      let p := if peer then s.originPath node false + sumNat ((s.hopsFrom node (s.dirFrom node)).map fun l => 10000 + 5 * l) else 0
      if classWindow 3 < p + 8000 then (.final stDeadline (le 2 0x59), s)
      else
        let w := size - 64
        let old := s.flow f
        let x : Flow :=
          { state := .opened, cls := 3, admitted := 3, stream := true, burst := 2, rate := (fs * 4 + w - 1) / w, reserve := reserve
            size := size, qlog2 := q, qbase := qbase, window := 1000 * (classWindow 3 - p), node := node, chan := ch
            headErr := old.headErr, layoutErr := old.layoutErr, lowSeen := old.lowSeen, stallSeen := old.stallSeen }
        match admissionFailure s x with
        | some r => (.final stAdmission r.payload, s)
        | none => (.ok [], s.setFlow f (x.opened s.now))

/-- Journal slots occupied now (R231, R237). -/
def State.journalSlots (s : State) : Nat := sumNat (s.flows.map fun e => (e.2.items.filter (·.journaled)).length)

/-- BUDGET_READ (R237). -/
def doBudgetRead (e : CmdEntry) (_ : Env) (s : State) : Rep × State :=
  let w := e.c.u8 32
  if !e.c.restZero [(32, 1)] || !e.c.extZero 0 || 3 < w then (.bad 8, s)
  else
    let l := classWindow w
    let fs := s.testFlows
    let recs := fs.filter (!·.stream)
    let up := fun (n : Nat) => sat32 ((n + 999999999) / 1000000000)
    let share := fun (f : Nat → Rat) => if s.onRing then le 2 (shareUp (f 0)) ++ le 2 (shareUp (f 1)) else zeros 4
    let cmax := costMax s.openFlows
    (.ok (le 4 (up (demandOf cmax l recs)) ++ le 4 (500000000 * l / 1000000000) ++
      le 4 (up (demandOf cmax l fs)) ++ le 4 (capacityOf s.eff * l / 1000000000) ++ le 4 (up (slotsOf recs)) ++
      share (s.sShare fs) ++ share (s.totalShare fs [] s.mirrorNow) ++ le 1 s.eff ++ zeros 3 ++ le 4 s.journalSlots), s)

def execFlowOpen (dt : Nat) (c : Cmd) (env : Env) (s : State) : Host.Outcome State Fault Refusal :=
  runHere .flowOpen dt c env doFlowOpen s
def execStreamOpen (dt : Nat) (c : Cmd) (env : Env) (s : State) : Host.Outcome State Fault Refusal :=
  runHere .streamOpen dt c env doStreamOpen s
def execBudgetRead (dt : Nat) (c : Cmd) (env : Env) (s : State) : Host.Outcome State Fault Refusal :=
  runHere .budgetRead dt c env doBudgetRead s

end Sys2Proof.Machine
end

