-- ==== Sys2Proof/Machine/Breaks.lean ====
section
/-! DEFINITION. The state of the ring (R363) and what its breaks do to flows and streams (R224, R225). -/

namespace Sys2Proof.Machine

/-- Ring state change with its record (R363, R386). -/
def setRingState (new detected : Nat) (s : State) : State :=
  if s.rng.state = new then s
  else note 0x0502 0 (le 1 new ++ le 1 s.rng.state ++ le 8 detected) { s with rng := { s.rng with state := new } }

/-- P_n after a break in ns: the path that is left, the shorter one while both are (R216, R224). -/
def State.pathNow (s : State) (n : Nat) : Nat :=
  let len := fun (d : Nat) => sumNat ((s.hopsFrom n d).map hopNs) + 2000
  match s.pathBroken n 0, s.pathBroken n 1 with
  | false, true => len 0
  | true, false => len 1
  | _, _ => min (len 0) (len 1)

/-- A class A flow without BREAK_SAFE whose window falls below 8 µs is demoted to class B (R224). -/
def demoteFlow (detected : Nat) (s : State) (f : Nat) : State :=
  let x := s.flow f
  let paths := ((List.range 32).filter fun k => x.origin / 2 ^ k % 2 = 1).map fun k => s.pathNow (k + 1)
  if x.state = .closed || x.stream || x.admitted ≠ 0 || x.demoted || x.breakSafe || x.origin = 0 ||
      decide (paths.foldl max 0 + 8000 ≤ classWindow 0) then s
  else note 0x0022 f (le 8 detected ++ le 8 s.now ++ le 1 1) (s.setFlow f { x with cls := 1, demoted := true })

/-- The ring is whole again: demoted flows return to their class (R224). -/
def promoteFlow (s : State) (f : Nat) : State :=
  let x := s.flow f
  if !x.demoted then s else note 0x0023 f (le 8 s.now) (s.setFlow f { x with cls := x.admitted, demoted := false })

/-- Peer streams of a direction that no longer fit there are suspended in falling flow number (R225). -/
def suspendRing (dir : Nat) : List Nat → State → State
  | [], s => s
  | f :: r, s =>
    if (ringTest s s.testFlows [] s.mirrorNow dir).isNone then s
    else
      let x := s.flow f
      suspendRing dir r (if x.suspended || s.dirFrom x.node ≠ dir then s else suspendStream 1 f s)

/-- Peer streams, open, by rising flow number. -/
def State.peerStreams (s : State) : List Nat :=
  (s.flows.filter fun e => e.2.state ≠ .closed && e.2.stream && e.2.node ≠ 0 && e.2.node ≠ s.nodeNo).map Prod.fst

def resumeRing (s : State) (f : Nat) : State :=
  let x := s.flow f
  if x.suspended && x.suspRing then note 0x0025 f [] (s.setFlow f { x with suspended := false, suspRing := false }) else s

/-- The master declares a break (R224, R225, R363): BROKEN for one hop down, SPLIT for more. -/
def declareBreak (detected : Nat) (s : State) : State :=
  let n := s.brokenHops.length
  let s := if n = 0 then s else setRingState (if n = 1 then 2 else 3) detected s
  let s := (s.flows.map Prod.fst).foldl (demoteFlow detected) s
  suspendRing 1 s.peerStreams.reverse (suspendRing 0 s.peerStreams.reverse s)

/-- Both laps have completed for two cycles: the ring is WHOLE (R224, R225, R363). -/
def ringWhole (t : Nat) (s : State) : State :=
  let s := setRingState 1 t { s with rng := { s.rng with downPorts := [] } }
  s.peerStreams.foldl resumeRing ((s.flows.map Prod.fst).foldl promoteFlow s)

end Sys2Proof.Machine
end

