-- ==== Sys2Proof/Machine/Package.lean ====
section
/-! DEFINITION. Packages: format, signature, hardware range and rollback checks (R556, R557). -/

namespace Sys2Proof.Machine

def stSignatureBad : Nat := 0x0B00
def stRollback : Nat := 0x0B01
def stIncompatible : Nat := 0x0B02
def stOutsideWindow : Nat := 0x0B03

/-- GLB_ID.REV (R2, R8). -/
def nodeRev : Nat := 2

/-- Fields of a package header (R556). -/
def pkgKind (l : List Byte) : Nat := byteAt l 6
def pkgSigner (l : List Byte) : Nat := byteAt l 7
def pkgVersion (l : List Byte) : Nat := leAt l 8 4
def pkgSvn (l : List Byte) : Nat := byteAt l 12
def pkgPayload (l : List Byte) : List Byte := (l.drop 256).take (leAt l 20 4)

/-- Stamps of a package: peer KIND, MIN and MAX VERSION (R556). -/
def pkgStamps (l : List Byte) : List (Nat × Nat × Nat) :=
  (List.range (byteAt l 13)).map fun k => (byteAt l (80 + 12 * k), leAt l (84 + 12 * k) 4, leAt l (88 + 12 * k) 4)

/-- Format, offsets and digest (R556, R557 item 1). -/
def pkgFormatOk (l : List Byte) : Bool :=
  let n := byteAt l 13
  decide (256 ≤ l.length) && leAt l 0 4 == 0x4B504744 && leAt l 4 2 == 1 && decide (pkgKind l ≤ 5 ∧ pkgSigner l ≤ 2) &&
  decide (pkgSvn l ≤ 63) && (decide (pkgKind l ≤ 3) || pkgSvn l == 0) && decide (n ≤ 6) &&
  leAt l 18 2 == 0 && leAt l 24 8 == 0 && leAt l 152 8 == 0 &&
  decide (leAt l 20 4 ≤ 67108864 ∧ 256 + leAt l 20 4 ≤ l.length) &&
  ((List.range n).all fun k => leAt l (81 + 12 * k) 3 == 0) &&
  Config.sha384 (pkgPayload l) == (l.drop 32).take 48

/-- Signature (R557 item 2): ECDSA P-384 over the SHA-384 of bytes 0 to 159. -/
def pkgSigOk (l : List Byte) (s : State) : Bool :=
  let sig := (l.drop 160).take 96
  let msg := l.take 160
  if pkgKind l ≤ 3 then pkgSigner l = 0 && Config.ecdsaOk Config.vendorKey msg sig
  else if pkgSigner l = 2 then s.mod.life = .opened
  else pkgSigner l = 1 && (match s.sec.ownerKey with | some k => Config.ecdsaOk k msg sig | none => false)

/-- The first failing check of R557. -/
def packageBad (l : List Byte) (s : State) : Option Rep :=
  if !pkgFormatOk l then some (.bad 0x0100)
  else if !pkgSigOk l s then some (.final stSignatureBad [])
  else if nodeRev < leAt l 14 2 ∨ leAt l 16 2 < nodeRev then some (.final stIncompatible (le 2 0x0102))
  else if pkgKind l ≤ 3 ∧ pkgSvn l < s.sec.rollback then some (.final stRollback [])
  else none

end Sys2Proof.Machine
end

