-- ==== Sys2Proof/Machine/Cycle.lean ====
section
/-! DEFINITION. The cyclic program at work (R324 to R345): snap, gather, solve, decide, commit, overrun, start and stop,
switchover, forces, consistency sets, and the commands of R347. -/

namespace Sys2Proof.Machine

def stProgramInvalid : Nat := 0x0500
def stCycleInfeasible : Nat := 0x0501
def stNotMaster : Nat := 0x0600

/-! ### Samples and their age -/

/-- Nominal period of a digital source in ns (R175). -/
def State.dchPeriod (s : State) (g : Nat) : Nat :=
  match (s.pin g).cfg.mode with
  | 3 => 10000000
  | 4 => gateTime (s.pin g).cfg.gate
  | _ => 100000000

/-- Automatic stale timeout of a source: three nominal periods and 100 ms (R175). -/
def State.autoStale (s : State) (g : Nat) : Nat := 3 * (if g < 64 then s.samplePeriod g else s.dchPeriod g) + 100000000

/-- The binding still matches the node's configuration (R349). -/
def inputIntact (b : Bind) (typ : Nat) (s : State) : Bool :=
  if b.kind = 0 then (s.chan b.index).cfg.kind ≠ 0 else pinType b.index s = some typ

/-- One input binding of the image at SNAP instant `t` (R308, R311, R325, R349); samples that carry CALIBRATING are not taken
(R401). -/
def snapInput (s : State) (img : Image) (t : Nat) (l : List Var) (b : Bind) : List Var :=
  let x := l.getD b.var {}
  let put := fun (y : Var) => writeVar s.prg.forces b.var y l
  match b.kind with
  | 0 | 1 =>
    let typ := img.typ b.var
    let old := match (s.prg.usable.find? (·.1 == b.index)) with | some (_, u) => decide (u + s.autoStale b.index < t) | none => true
    let held : Var := { x with sqw := x.sqw ||| sqStale }
    if !inputIntact b typ s then put { x with sqw := x.sqw ||| sqInvalid }
    else match ((tget [] s.prg.inputs b.index).filter fun m => decide (m.time ≤ t)).getLast? with
    | none => put held
    | some m =>
      if m.sqw.getLsbD 6 then put held
      else
        let v : Value := if typ = 0 then ofBool (f32Rat m.value ≠ 0) else if typ = 1 then BitVec.ofNat 64 (m.num % 2 ^ 32) else ofReal m.value
        put { val := v, sqw := if old then m.sqw ||| sqStale else m.sqw }
  | 2 => put { val := BitVec.ofNat 64 (s.point b.index).state }
  | _ => l

/-- A time in ns as a TIME value. -/
def timeVal (n : Nat) : Value := BitVec.ofNat 64 n

/-- The system variables of R312. -/
def sysVars (s : State) : List Value :=
  let p := s.prg
  [ofBool p.firstCycle, BitVec.ofNat 64 (p.cycleCount % 2 ^ 32), timeVal p.period, timeVal p.lastSolve, ofBool p.overrun,
   BitVec.ofNat 64 (p.ovrCount % 2 ^ 32), ofBool s.timeLocked, ofBool p.skipped, BitVec.ofNat 64 s.modeWord.toNat] ++
  List.replicate 7 0 ++
  ((List.range 16).map fun n => ofBool (s.set n).broken) ++
  ((List.range 16).map fun n => ofBool (s.set n).reduced) ++
  ((List.range 16).map fun n => BitVec.ofNat 64 (s.set n).missing.toNat)

/-- The node writes the system variables (R312). -/
def writeSys (s : State) (l : List Var) : List Var :=
  (sysVars s).zipIdx.foldl (fun l (e : Value × Nat) => writeVar s.prg.forces e.2 { val := e.1 } l) l

/-! ### Owning and releasing outputs -/

/-- Record 0x0401 (R346). -/
def progRecord (new old cause : Nat) (s : State) : State := note 0x0401 s.prg.slot (le 1 new ++ le 1 old ++ le 1 cause) s

/-- The program's state changes with its record (R342, R346). -/
def setProgState (new cause : Nat) (s : State) : State :=
  if s.prg.stateNum = new then s
  else progRecord new s.prg.stateNum cause { s with prg := { s.prg with stateNum := new } }

/-- Outputs an image binds (R308). -/
def Image.outputs (i : Image) : List Nat := ((i.binds.filter fun b => b.kind = 4 || b.kind = 5 || b.kind = 7).map (·.index)).eraseDups

/-- A program output takes its safe value and returns to the host (R159, R342, R343). -/
def releaseSafe (s : State) (g : Nat) : State :=
  if g < 64 then takeSafe g s
  else
    let s := if (s.pin g).owner = 2 then returnToHost g s else s
    pinSafe g s

/-- A program output keeps its last driven value and returns to the host (R342). -/
def releaseHeld (s : State) (g : Nat) : State :=
  if g < 64 then s
  else if (s.pin g).owner = 2 then
    let d := s.pinSource g
    repin g (setCmdState g d (setOwner g 1 s))
  else s

/-- CTL falls: RUNNING becomes PARKED (R342). -/
def parkProgram (s : State) : State :=
  if s.prg.stateNum ≠ 2 then s
  else
    let outs := match s.image with | some i => i.outputs | none => []
    let s := setProgState 3 1 s
    outs.foldl releaseHeld { s with prg := { s.prg with phase := .idle, pubAt := none } }

/-- A run begins (R322, R323): counts restart and every block takes its first-evaluation rule. -/
def beginRun (w : Work) (s : State) : State :=
  { s with prg := { s.prg with
    cur := { w with seen := w.seen.map fun _ => false }, work := {}, firstCycle := true, cycleCount := 0, lastSolve := 0
    maxSolve := 0, overrun := false, ovrCount := 0, ovrConsec := 0, phase := .idle, pubAt := none
    sets := s.prg.sets.map fun e => (e.1, { e.2 with count := 0, broken := false, cause := 0, missing := 0 }) } }

/-- CTL rises: PARKED becomes RUNNING with first-evaluation rules (R342). -/
def unparkProgram (s : State) : State :=
  if s.prg.stateNum ≠ 3 then s else beginRun s.prg.cur (setProgState 2 1 s)

/-- A program stops: the outputs it owns take their safe values and stay there (R342); a parked one owns none (R125, R159). FAULTED stays
(R341). -/
def stopProgram (cause : Nat) (s : State) : State :=
  if s.prg.stateNum ≠ 2 && s.prg.stateNum ≠ 3 then s
  else
    let outs := match s.image with | some i => if s.prg.stateNum = 2 then i.outputs else [] | none => []
    let s := setProgState 1 cause s
    outs.foldl releaseSafe { s with prg := { s.prg with phase := .idle, pubAt := none } }

/-- A start applies at a boundary (R342, R343). -/
def startProgram (slot : Nat) (auto : Bool) (cause : Nat) (s : State) : State :=
  match s.slotImage slot with
  | none => s
  | some img =>
    let old := s.image
    let running := s.prg.stateNum = 2
    let carryFrom := match old with | some o => if s.prg.cur.vars.isEmpty then none else some (o, s.prg.cur) | none => none
    let switched := running && s.prg.slot ≠ slot
    let gone := match old with
      | some o => if running then o.outputs.filter fun g => !img.bindsOut g else []
      | none => []
    let n := match carryFrom with | some (o, _) => carried img o | none => 0
    let w := freshWork img carryFrom
    let s := gone.foldl releaseSafe s
    let s := { s with prg := { s.prg with slot := slot, autostart := auto } }
    let s := if switched then note 0x0406 slot (le 8 img.progId ++ le 4 n) s else s
    beginRun w (setProgState 2 cause s)

/-! ### The boundary -/

/-- A force command applies (R345). -/
def applyForce (s : State) (r : Nat × Nat × Nat × BitVec 64 × BitVec 16) : State :=
  let (id, v, act, val, q) := r
  let s := { s with prg := { s.prg with forces := match act with
    | 0 => tput s.prg.forces v (val, q)
    | 1 => tdel s.prg.forces v
    | _ => [] } }
  completeCmd id stOk [] s

/-- Every force ends (R345). -/
def endForces (s : State) : State := { s with prg := { s.prg with forces := [] } }

/-- Members whose READY and exports the cycle needs (R330, R331, R333): on the master those at its last boundary, on a member those
of the last CYCLE frame. -/
def State.required (s : State) : List Nat := if s.rng.isMaster then s.rng.atSnap else s.rng.members

/-- Members of a ring set that the cycle does without (R333). -/
def State.absent (s : State) (m : BitVec 32) : List Nat :=
  ((List.range 32).map (· + 1)).filter fun n => m.getLsbD (n - 1) && !s.required.contains n

/-- Bit mask of nodes. -/
def nodeMask (l : List Nat) : BitVec 32 := BitVec.ofNat 32 (sumNat (l.eraseDups.map fun n => 2 ^ (n - 1)))

/-- A set at a boundary (R324, R333, R334, R346): changes apply; a reduction or its end in the cycle before is reported. -/
def setBoundary (t : Nat) (s : State) (n : Nat) : State :=
  let x := s.set n
  let x := match x.next with
    | some (m, r, a) => if a ≤ t then { x with configured := true, members := m, reduce := r, next := none } else x
    | none => x
  let gone := s.absent x.members
  let red := x.configured && x.reduce && !gone.isEmpty
  let s := s.putSet n { x with reduced := red, ready := [], go := none, goMissing := 0, goCause := 0 }
  if red = x.reduced then s else note 0x0404 n (le 1 (if red then 0 else 1) ++ le 1 (gone.headD 0)) s

/-- Sets that matter: configured ones and those an output binding names. -/
def State.usedSets (s : State) : List Nat :=
  (List.range 16).filter fun n => (s.set n).configured || (s.set n).next.isSome ||
    (match s.image with | some i => i.binds.any fun b => b.set = n | none => false)

/-- The period or a geometry change makes the cycle infeasible, or feasible again (R338). -/
def judgeFeasible (s : State) : State :=
  let bad := (s.activeImage.isSome || s.leadsRing) && decide (s.prg.period < s.cycleTiming.pmin)
  if bad = s.prg.infeasible then s
  else note 0x0404 0 (le 1 (if bad then 2 else 3) ++ le 1 s.nodeNo) { s with prg := { s.prg with infeasible := bad } }

/-- The EXPORT frame of this cycle (R308, R337): EXPORT_IN from this SNAP, EXPORT_VAR from the previous publish. -/
def exportFrame (k t : Nat) (s : State) : State :=
  match s.image with
  | none => s
  | some i =>
    let ex := i.binds.filter fun b => b.kind = 8 || b.kind = 9
    if ex.isEmpty then s
    else originate 1 1 0 none (le 8 k ++ le 8 t ++ zeros 16 ++ ex.flatMap fun b =>
      let x := if b.kind = 8 then s.prg.work.vars.getD b.var {} else s.prg.cur.vars.getD b.var {}
      le 1 b.index ++ le 1 (i.typ b.var) ++ le 2 x.sqw.toNat ++ le 4 x.val.toNat) s

/-- The master's CYCLE frame (R365). -/
def cycleFrame (k t : Nat) (s : State) : State :=
  let (tj, p, c) := s.rng.change.getD (0, 0, 0)
  let s := { s with rng := { s.rng with present := nodeMask [s.nodeNo], lapsBack := 0 } }
  originate 1 0 0 none (le 8 k ++ le 8 t ++ le 4 s.prg.period ++ le 4 s.ringCofs ++ le 4 (nodeMask s.rng.members).toNat ++
    le 4 (nodeMask [s.nodeNo]).toNat ++ le 8 tj ++ le 4 p ++ le 4 c ++ le 1 s.rng.standby ++ zeros 15) s

/-- The master judges the CYCLE frame of the cycle before (R363, R366): members whose PRESENT bit is missing, and the laps
that came back. -/
def judgeLaps (s : State) : State :=
  let s := s.rng.members.foldl (fun s n =>
    if n = s.nodeNo then s
    else
      let e := s.dirEntry n
      s.setDir n { e with missed := if s.rng.present.getLsbD (n - 1) then 0 else e.missed + 1 }) s
  { s with rng := { s.rng with laps := if 2 ≤ s.rng.lapsBack then s.rng.laps + 1 else 0 } }

/-- A pending change of P and C_off takes effect on the master and its members (R365). -/
def applyChange (t : Nat) (s : State) : State :=
  match s.rng.change with
  | some (tj, p, c) =>
    if tj ≤ t then { s with rng := { s.rng with change := none, cofs := some c }, prg := { s.prg with period := p } } else s
  | none => s

/-- The master's share of a boundary (R363, R365, R366). -/
def masterSnap (k t : Nat) (s : State) : State :=
  let ready := match s.rng.firstCycle with | some f => decide (f ≤ k) | none => true
  let above := match s.rng.handover with | some (n, tj, _) => n ≠ s.nodeNo && decide (tj ≤ t) | none => false
  if !s.rng.isMaster || !s.mode .ring || !ready || above then s
  else
    let s := judgeLaps { s with rng := { s.rng with firstCycle := none } }
    let s := if 2 ≤ s.rng.laps then ringWhole t s else s
    let c := (ringTiming s.activeImage s).cofs
    let s := match s.rng.cofs with
      | none => { s with rng := { s.rng with cofs := some c } }
      | some o => if o = c || s.rng.change.isSome then s
                  else { s with rng := { s.rng with change := some (t + 2 * s.prg.period, s.prg.period, c) } }
    cycleFrame k t { s with rng := { s.rng with cycle := k } }

/-- Requests accepted since the last boundary apply (R324, R342, R345). -/
def boundaryRequests (t : Nat) (s : State) : State :=
  let s := match s.prg.newPeriod with
    | some (p, a) => if a ≤ t then { s with prg := { s.prg with period := p, newPeriod := none } } else s
    | none => s
  let s := applyChange t s
  let s := s.usedSets.foldl (setBoundary t) s
  let s := { s with rng := { s.rng with atSnap := s.rng.members } }
  let s := match s.prg.stopReq with
    | some id => completeCmd id stOk [] (stopProgram 0 { s with prg := { s.prg with stopReq := none } })
    | none => s
  let s := match s.prg.startReq with
    | some (slot, auto, id) =>
      let s := { s with prg := { s.prg with startReq := none } }
      if s.mode .ctl then completeCmd id stOk [] (startProgram slot auto 0 s)
      else completeCmd id stModeConflict (le 2 0) s
    | none => s
  let rs := s.prg.forceReq
  rs.foldl applyForce { s with prg := { s.prg with forceReq := [] } }

/-- CYCLE_SNAP (R324, R325): a SNAP instant of the grid has been reached. -/
def execCycleSnap (dt : Nat) (s : State) : Host.Outcome State Fault Refusal :=
  let s := s.advance dt
  let p := s.prg.period
  let t := if p = 0 then s.now else s.now / p * p
  let done := match s.prg.lastSnap with | some u => decide (t ≤ u) | none => false
  if done || s.prg.phase ≠ .idle || s.pwr.state ≠ .run || s.pwr.phase = .asserted then .next s
  else
    let s := boundaryRequests t { s with prg := { s.prg with lastSnap := some t } }
    let k := if p = 0 then 0 else t / p
    let s := judgeFeasible (masterSnap k t s)
    match s.image with
    | none => .next s
    | some img =>
      if s.prg.stateNum ≠ 2 || decide (t < s.prg.notBefore) then .next s
      else
        let vars := writeSys s (img.binds.foldl (snapInput s img t) s.prg.cur.vars)
        let s := { s with prg := { s.prg with work := { s.prg.cur with vars := vars }, phase := .snapped, skipped := false } }
        .next (exportFrame k t s)

/-- Cycle number of the cycle in progress. -/
def State.cycleNo (s : State) : Nat := if s.prg.period = 0 then 0 else (s.prg.lastSnap.getD 0) / s.prg.period

/-- Ns since the SNAP of the cycle in progress. -/
def State.sinceSnap (s : State) : Nat := s.now - s.prg.lastSnap.getD 0

/-- One import at the gather instant (R325): a value of this cycle, or the previous one with STALE. -/
def gatherImport (s : State) (k : Nat) (l : List Var) (b : Bind) : List Var :=
  if b.kind ≠ 3 then l
  else
    let x := l.getD b.var {}
    match s.prg.imports.find? (·.1 == 256 * b.node + b.index) with
    | some (_, c, v, q) =>
      if c = k then writeVar s.prg.forces b.var { val := v, sqw := q } l
      else writeVar s.prg.forces b.var { x with sqw := x.sqw ||| sqStale } l
    | none => writeVar s.prg.forces b.var { x with sqw := x.sqw ||| sqStale } l

/-- IMPORT_GATHER (R325, R337): the gather instant G. -/
def execImportGather (dt : Nat) (s : State) : Host.Outcome State Fault Refusal :=
  let s := s.advance dt
  match s.image with
  | none => .next s
  | some img =>
    if s.prg.phase ≠ .snapped || fifths s.sinceSnap < (timingOf s.image s).gather then .next s
    else .next { s with prg := { s.prg with phase := .gathered
                                            work := { s.prg.work with vars := img.binds.foldl (gatherImport s s.cycleNo) s.prg.work.vars } } }

/-- The OUTPUT frame of this cycle (R308, R337). -/
def outputFrame (k : Nat) (s : State) : State :=
  match s.image with
  | none => s
  | some i =>
    let ro := i.binds.filter fun b => b.kind = 6
    if ro.isEmpty then s
    else originate 1 2 0 none (le 8 k ++ zeros 24 ++ ro.flatMap fun b =>
      let x := s.prg.work.vars.getD b.var {}
      le 1 b.index ++ le 1 b.node ++ le 1 b.set ++ le 1 (x.sqw.toNat / 32) ++ le 4 x.val.toNat) s

/-- SOLVE (R326, R327, R340): the end of SOLVE, within its deadline; the duration is kept. -/
def execSolve (dt : Nat) (s : State) : Host.Outcome State Fault Refusal :=
  let s := s.advance dt
  let tm := timingOf s.image s
  match s.image with
  | none => .next s
  | some img =>
    let ready := s.prg.phase = .gathered || (s.prg.phase = .snapped && !(img.binds.any fun b => b.kind = 3))
    if !ready || fifths s.sinceSnap < tm.gather || tm.deadline < fifths s.sinceSnap then .next s
    else
      let w := solveBlocks img s.prg.forces s.prg.period (s.prg.lastSnap.getD 0) s.prg.work
      let d := (fifths s.sinceSnap - tm.gather) / 5
      .next (outputFrame s.cycleNo { s with prg := { s.prg with work := w, phase := .solved, lastSolve := d, maxSolve := max s.prg.maxSolve d } })

/-- SOLVE_OVERRUN (R340, R341): SOLVE has not ended by its deadline. -/
def execSolveOverrun (dt : Nat) (s : State) : Host.Outcome State Fault Refusal :=
  let s := s.advance dt
  let tm := timingOf s.image s
  let running := s.prg.phase = .snapped || s.prg.phase = .gathered
  if !running || fifths s.sinceSnap ≤ tm.deadline then .next s
  else
    let n := min 255 (s.prg.ovrConsec + 1)
    let s := { s with prg := { s.prg with work := {}, phase := .overrun, ovrCount := min 65535 (s.prg.ovrCount + 1), ovrConsec := n } }
    .next (note 0x0402 s.prg.slot (le 4 s.prg.cycleCount ++ le 4 n) s)

/-! ### Decisions -/

/-- Set signature (R329): CRC-32C of mask and flags. -/
def setSignature (m : BitVec 32) (r : Bool) : Nat := crc32c (le 4 m.toNat ++ le 1 (if r then 1 else 0))

/-- The island of an output answers, so its value is staged (R327, R330). -/
def State.outLinked (s : State) (g : Nat) : Bool := if g < 64 then (s.aisl (g / 8)).linkUp else (s.disl ((g - 64) / 16)).linkUp

/-- This node's READY for a set (R330): 0 ready, else the cause of R332. -/
def ownReady (n : Nat) (s : State) : Nat :=
  let k := s.cycleNo
  match s.image with
  | none => 3
  | some img =>
    let bs := img.binds.filter fun b => b.set = n
    if s.prg.phase ≠ .solved then 3
    else if bs.any fun b => b.kind = 3 && s.required.contains b.node &&
        (match s.prg.imports.find? (·.1 == 256 * b.node + b.index) with | some (_, c, _) => c ≠ k | none => true) then 1
    else if bs.any fun b => (b.kind = 4 || b.kind = 5 || b.kind = 7) && !s.outLinked b.index then 4
    else if bs.any fun b => b.kind = 7 &&
        (match s.prg.remote.find? (·.1 == b.index) with | some (_, m, c, _) => m ≠ b.node || c ≠ k | none => true) then 1
    else 0

/-- This node is a member of the set's ring group. -/
def ConSet.names (x : ConSet) (n : Nat) : Bool := 1 ≤ n && x.members.getLsbD (n - 1)

/-- This node reports READY for its ring sets (R329, R330): to the master, or to itself. -/
def reportReady (s : State) (n : Nat) : State :=
  let x := s.set n
  if !x.configured || x.members = 0 || !x.names s.nodeNo || x.ready.any (·.1 == s.nodeNo) then s
  else
    let ok : Bool := ownReady n s = 0
    let sg := setSignature x.members x.reduce
    let s := s.putSet n { x with ready := x.ready ++ [(s.nodeNo, s.cycleNo, ok, sg, x.members, x.reduce)] }
    if ok && !s.rng.isMaster then originate 1 3 0 none (le 8 s.cycleNo ++ le 1 n ++ le 1 (bit x.reduce 0) ++ zeros 2 ++ le 4 sg ++ le 4 x.members.toNat ++ zeros 12) s else s

/-- The master decides a ring set (R331, R333): GO when a READY of this cycle with the right signature has come from every
member required. -/
def decideRing (s : State) (n : Nat) : State :=
  let x := s.set n
  let k := s.cycleNo
  let (mask, red) := if x.members ≠ 0 then (x.members, x.reduce) else match x.ready with
    | (_, _, _, _, m, r) :: _ => (m, r)
    | [] => (0, false)
  if mask = 0 then s
  else
    let sg := setSignature mask red
    let need := ((List.range 32).map (· + 1)).filter fun i => mask.getLsbD (i - 1) && (!red || s.required.contains i)
    let answer := fun (i : Nat) => x.ready.find? fun r => r.1 == i && r.2.1 == k && r.2.2.1
    let absent := need.filter fun i => (answer i).isNone
    let wrong := need.filter fun i => match answer i with | some (_, _, _, g, _) => g ≠ sg | none => false
    let ok := absent.isEmpty && wrong.isEmpty && !s.prg.infeasible
    s.putSet n { x with go := some ok, goMissing := nodeMask (absent ++ wrong), goCause := if ok then 0 else if absent.isEmpty && !wrong.isEmpty then 2 else 1 }

/-- A node decides its own local sets (R331). -/
def decideLocal (s : State) (n : Nat) : State :=
  let x := s.set n
  if x.members ≠ 0 then s
  else
    let c := ownReady n s
    s.putSet n { x with go := some (c = 0), goMissing := 0, goCause := c }

/-- The DECISION frame (R331). -/
def decisionFrame (s : State) : State :=
  let ds := (List.range 16).filter fun n => (s.set n).go.isSome && ((s.set n).members ≠ 0 || !(s.set n).ready.isEmpty)
  if ds.isEmpty then s
  else originate 1 4 0 none (le 8 s.cycleNo ++ le 2 (sumNat (ds.map (2 ^ ·))) ++
    le 2 (sumNat ((ds.filter fun n => (s.set n).go = some true).map (2 ^ ·))) ++
    le 2 (sumNat ((ds.filter fun n => (s.set n).goCause = 2).map (2 ^ ·))) ++ zeros 2 ++
    le 4 ((ds.map fun n => (s.set n).goMissing).foldl (· ||| ·) 0).toNat ++ zeros 12) s

/-- Ns after SNAP at which READY goes out, and at which the master decides (R337). -/
def readyAfter (s : State) : Nat := s.ringCofs - 2 * (s.ringH + 6000) - 4000
def decideAfter (s : State) : Nat := s.ringCofs - (s.ringH + 6000) - 1000

/-- SET_DECISION (R329 to R333): this node's READYs, the local decisions, and on the master the ring decisions. -/
def execSetDecision (dt : Nat) (s : State) : Host.Outcome State Fault Refusal :=
  let s := s.advance dt
  let u := s.sinceSnap
  let active := s.prg.phase = .solved || s.prg.phase = .overrun || (s.leadsRing && s.prg.lastSnap.isSome)
  if !active then .next s
  else
    let s := if readyAfter s ≤ u && s.prg.phase = .solved then s.usedSets.foldl reportReady s else s
    let s := if s.cofs - 5000 ≤ u && s.prg.phase ≠ .idle then s.usedSets.foldl decideLocal s else s
    if s.leadsRing && decide (decideAfter s ≤ u) && !((List.range 16).any fun n => (s.set n).go.isSome && (s.set n).members ≠ 0) then
      .next (decisionFrame ((List.range 16).foldl decideRing s))
    else .next s

/-! ### Commit -/

/-- Record 0x0405, at most once per second per binding (R328). -/
def notDriven (ix g : Nat) (s : State) : State :=
  let last := (s.prg.notDriven.find? (·.1 == ix)).map (·.2)
  if dueAfter last 1000000000 s.now then
    note 0x0405 ix (le 2 g) { s with prg := { s.prg with notDriven := tput s.prg.notDriven ix s.now } }
  else s

/-- One output is driven at COMMIT (R125, R126, R150, R159, R328). -/
def driveOutput (ix g : Nat) (x : Var) (s : State) : State :=
  if g < 64 then
    if (s.chan g).cfg.kind ≠ 8 || f32IsNaN x.val.real then notDriven ix g s
    else
      let o := s.out g
      let (w, _) := o.limited x.val.real
      if s.linkReaches g then applyPoint g w false (s.setOut g { o with set := x.val.real }) else s
  else if (s.pin g).cfg.mode ≠ 5 || (s.pin g).owner = 3 || s.groupBase g ≠ g then notDriven ix g s
  else
    let s := setOwner g 2 s
    applyState g x.val.bool s

/-- FALLBACK of an output (R331): HOLD keeps the driven value, SAFE drives the safe value. -/
def fallBack (b : Bind) (s : State) : State :=
  let s := if 64 ≤ b.index && (s.pin b.index).cfg.mode = 5 && (s.pin b.index).owner = 1 then setOwner b.index 2 s else s
  if b.fallback = 0 then s else if b.index < 64 then takeSafe b.index s else pinSafe b.index s

/-- A set's decision for the cycle (R331); with the period infeasible every ring set falls back (R338). -/
def State.setGoes (s : State) (n : Nat) : Bool := (s.set n).go = some true && !(s.prg.infeasible && (s.set n).members ≠ 0)

/-- The decision that governs a binding (R331, R340). -/
def State.goes (s : State) (b : Bind) : Bool :=
  if s.prg.phase = .overrun then false
  else if b.set = 255 then true
  else s.setGoes b.set

/-- One output binding at COMMIT (R328, R331, R397). -/
def commitOutput (s : State) (e : Bind × Nat) : State :=
  let (b, ix) := e
  let value : Option Var :=
    if b.kind = 4 ∨ b.kind = 5 then some (s.prg.work.vars.getD b.var {})
    else match s.prg.remote.find? (·.1 == b.index) with
      | some (_, m, c, v, q) => if m = b.node ∧ c = s.cycleNo then some { val := v, sqw := q } else none
      | none => none
  if !s.goes b then fallBack b s
  else match value with
    | none => fallBack b s
    | some x => if x.sqw.getLsbD 5 && !s.mod.forceField then fallBack b s else driveOutput ix b.index x s

/-- A set after COMMIT (R332). -/
def settleSet (s : State) (n : Nat) : State :=
  let x := s.set n
  let go := s.prg.phase ≠ .overrun && s.setGoes n
  if go then s.putSet n { x with broken := false, cause := 0, missing := 0, since := 0 }
  else
    let cause := if s.prg.phase = .overrun then 3 else match x.go with | some false => x.goCause | _ => 5
    let due := !x.broken || dueAfter x.recAt 1000000000 s.now
    let y := { x with broken := true, cause := cause, missing := x.goMissing, count := (x.count + 1) % 2 ^ 32
                      since := if due then 0 else x.since + 1, recAt := if due then some s.now else x.recAt }
    let s := s.putSet n y
    if due then note 0x0403 n (le 1 cause ++ zeros 3 ++ le 4 x.goMissing.toNat ++ le 4 (x.since + 1)) s else s

/-- Variables that points, derived slots or suppression name (R168). -/
def State.varSources (s : State) : List Nat :=
  ((s.alm.points.flatMap fun e => [e.2.srcA, e.2.srcB, e.2.srcS]) ++
   (s.alm.derived.flatMap fun e => match e.2 with | some d => d.operands | none => [])).filterMap fun k =>
    if k.1 = 3 && k.2.1 = 0 then some k.2.2 else none

/-- A published variable as a sample (R168). -/
def varSample (img : Image) (t v : Nat) (x : Var) : Sample :=
  let w := match img.typ v with
    | 0 => boolWord x.val.bool
    | 1 => f32OfRat x.val.int
    | _ => x.val.real
  { src := v, value := w, sqw := x.sqw, time := t }

/-- PUBLISH (R326): the work copy becomes current. -/
def publishWork (img : Image) (s : State) : State :=
  let t := s.prg.lastSnap.getD 0
  let s := { s with prg := { s.prg with
    cur := s.prg.work, pubAt := some t, pubCount := s.prg.cycleCount, ovrConsec := 0 } }
  s.varSources.eraseDups.foldl (fun s v =>
    if v < img.vars.length && img.typ v ≠ 3 then publish 3 (varSample img t v (s.prg.cur.vars.getD v {})) s else s) s

/-- CYCLE_COMMIT (R327, R328, R331, R340, R341). -/
def execCycleCommit (dt : Nat) (s : State) : Host.Outcome State Fault Refusal :=
  let s := s.advance dt
  let due := (s.prg.phase = .solved || s.prg.phase = .overrun) && decide (s.cofs ≤ s.sinceSnap)
  match s.image with
  | none => .next s
  | some img =>
    if !due then .next s
    else
      let above := s.prg.phase = .overrun
      let s := if above && decide (s.prg.ovrLimit ≤ s.prg.ovrConsec) then
          img.outputs.foldl releaseSafe (setProgState 4 2 s)
        else (img.binds.zipIdx.filter fun e => e.1.kind = 4 || e.1.kind = 5 || e.1.kind = 7).foldl commitOutput s
      let s := s.usedSets.foldl settleSet s
      let s := if above then s else publishWork img s
      .next { s with prg := { s.prg with
        phase := .idle, work := {}, overrun := above, firstCycle := false, cycleCount := (s.prg.cycleCount + 1) % 2 ^ 32 } }

/-- PROGRAM_AUTOSTART (R344): after a full reset a slot that was running runs again. -/
def execProgramAutostart (dt : Nat) (s : State) : Host.Outcome State Fault Refusal :=
  let s := s.advance dt
  let ready := s.pwr.phase = .acquiring || s.pwr.phase = .evaluating
  if !s.prg.wasRunning || !s.prg.autostart || !s.mode .ctl || !ready || decide (s.now < s.prg.notBefore) then .next s
  else .next (startProgram s.prg.slot true 3 { s with prg := { s.prg with wasRunning := false } })

/-! ### Commands -/

/-- The CYCLE_INFEASIBLE reply (R339). -/
def infeasible (t : Timing) (s : State) : Rep :=
  .final stCycleInfeasible (le 4 ((t.pmin + 999) / 1000) ++ le 4 t.tSolve ++ le 4 s.ringH)

/-- The PROGRAM_INVALID reply (R349). -/
def invalidImage (b : Bad) : Rep := .final stProgramInvalid (le 2 b.1 ++ zeros 2 ++ le 4 b.2.1 ++ le 1 b.2.2)

/-- PROGRAM_LOAD (R304, R348, R349, R350, R557). -/
def doProgramLoad (e : CmdEntry) (env : Env) (s : State) : Rep × State :=
  let c := e.c
  let slot := c.u8 32
  let len := c.u32 48
  if !c.restZero [(32, 1), (40, 12)] || !c.extZero 0 || 1 < slot then (.bad 8, s)
  else if c.u64 40 % 4096 ≠ 0 || len = 0 || 2097152 < len then (.bad 0x80, s)
  else if (s.prg.stateNum = 2 || s.prg.stateNum = 3) && s.prg.slot = slot then (.bad 0x81, s)
  else match env.dma with
  | none => (.bad 0x80, s)
  | some l =>
    match packageBad (l.take len) s with
    | some r => (r, s)
    | none =>
      let img := pkgPayload l
      if pkgKind l ≠ 5 then (.bad 0x0100, s)
      else match imageBad img s with
      | some b => (invalidImage b, s)
      | none =>
        let i := imageOf img
        let s := { s with prg := if slot = 0 then { s.prg with slot0 := some i } else { s.prg with slot1 := some i } }
        let s := if s.prg.slot = slot then { s with prg := { s.prg with cur := {}, pubAt := none } } else s
        let s := if s.prg.stateNum = 0 then note 0x0401 slot (le 1 1 ++ le 1 0 ++ le 1 0) { s with prg := { s.prg with stateNum := 1 } } else s
        (.ok (le 8 i.progId ++ le 4 i.crc ++ le 4 i.tSolve ++ le 4 (((timingOf (some i) s).pmin + 999) / 1000)), s)

/-- PROGRAM_START (R159, R338, R342, R350). -/
def doProgramStart (e : CmdEntry) (_ : Env) (s : State) : Rep × State :=
  let c := e.c
  let slot := c.u8 32
  if !c.restZero [(32, 2)] || !c.extZero 0 || 1 < slot || 1 < c.u8 33 then (.bad 8, s)
  else match s.slotImage slot with
  | none => (.bad 0x82, s)
  | some i =>
    let t := timingOf (some i) s
    if s.prg.period < t.pmin then (infeasible t s, s)
    else if !s.mode .ctl then (.conflict 0xA3, s)
    else match bindsBad i s with
    | some b => (invalidImage b, s)
    | none => (.wait [slot], { s with prg := { s.prg with startReq := some (slot, c.u8 33 = 1, e.id) } })

/-- PROGRAM_STOP (R342). -/
def doProgramStop (e : CmdEntry) (_ : Env) (s : State) : Rep × State :=
  if !e.c.restZero [] || !e.c.extZero 0 then (.bad 8, s)
  else (.wait [], { s with prg := { s.prg with stopReq := some e.id } })

/-- PRG_SOLVE (R351). -/
def State.solveWord (s : State) : Nat := min 65535 (s.prg.lastSolve / 100) + 65536 * min 65535 (s.prg.maxSolve / 100)

/-- Sets that fell back at the last COMMIT. -/
def State.brokenMask (s : State) : Nat := sumNat (((List.range 16).filter fun n => (s.set n).broken).map (2 ^ ·))

/-- PROGRAM_STATUS (R348). -/
def doProgramStatus (e : CmdEntry) (_ : Env) (s : State) : Rep × State :=
  let p := s.prg
  if !e.c.restZero [] || !e.c.extZero 0 then (.bad 8, s)
  else
    (.ok (le 1 p.stateNum ++ le 1 p.slot ++ le 1 (bit p.autostart 0 + bit (!p.forces.isEmpty) 1) ++ zeros 1 ++
      le 4 p.cycleCount ++ le 4 s.cofsShown ++ le 4 (match s.image with | some i => i.tSolve | none => 0) ++ le 4 s.solveWord ++
      le 4 p.ovrCount ++ le 4 s.brokenMask), s)

/-- VARIABLE_READ (R348). -/
def doVariableRead (e : CmdEntry) (_ : Env) (s : State) : Rep × State :=
  let c := e.c
  let v := c.u16 34
  let n := c.u8 36
  if !c.restZero [(34, 3)] || !c.extZero 0 || n = 0 || 3 < n then (.bad 8, s)
  else match s.image with
  | none => (.bad 8, s)
  | some i =>
    if i.vars.length < v + n then (.bad 8, s)
    else
      let one := fun (k : Nat) =>
        let x := s.prg.cur.vars.getD k {}
        le 8 x.val.toNat ++ le 2 x.sqw.toNat ++ le 1 (i.typ k) ++ le 1 (bit (s.prg.forces.any (·.1 == k)) 0)
      (.ok (fitBytes 36 ((List.range n).flatMap fun k => one (v + k)) ++ le 4 s.prg.pubCount), s)

/-- A value fits its type (R307, R345). -/
def valueFits (typ v : Nat) : Bool :=
  match typ with
  | 0 => decide (v ≤ 1)
  | 1 => decide (v < 2 ^ 32)
  | 2 => decide (v < 2 ^ 32) && f32Finite (BitVec.ofNat 32 v)
  | _ => true

/-- VARIABLE_FORCE (R345, R348, R350). -/
def doVariableForce (e : CmdEntry) (_ : Env) (s : State) : Rep × State :=
  let c := e.c
  let v := c.u16 34
  let a := c.u8 36
  if !c.restZero [(34, 3), (40, 10)] || !c.extZero 0 || 2 < a then (.bad 8, s)
  else match s.image with
  | none => if a = 2 && s.mode .sim then (.ok [], s) else if s.mode .sim then (.bad 8, s) else (.conflict 0xA3, s)
  | some i =>
    if a ≠ 2 && decide (i.vars.length ≤ v) then (.bad 8, s)
    else if !s.mode .sim then (.conflict 0xA3, s)
    else if a = 0 && !(i.vars.getD v {}).forceable then (.bad 0x84, s)
    else if a = 0 && !(s.prg.forces.any (·.1 == v)) && decide (256 ≤ s.prg.forces.length + (s.prg.forceReq.filter (·.2.2.1 == 0)).length) then (.bad 0x85, s)
    else if a = 0 && !valueFits (i.typ v) (c.u64 40) then (.bad 0x86, s)
    else (.wait [], { s with prg := { s.prg with forceReq := s.prg.forceReq ++ [(e.id, v, a, BitVec.ofNat 64 (c.u64 40), BitVec.ofNat 16 (c.u16 48))] } })

/-- CYCLE_CONFIGURE (R338, R348): the new period starts at the first SNAP instant of the new grid at least one old period
ahead; on a ring the master names it in its CYCLE frames (R365). -/
def doCycleConfigure (e : CmdEntry) (_ : Env) (s : State) : Rep × State :=
  let c := e.c
  let u := c.u32 36
  if !c.restZero [(33, 1), (36, 4)] || !c.extZero 0 || c.u8 33 = 0 then (.bad 8, s)
  else if u < 25 || 1000000 < u then (.bad 0x83, s)
  else if s.mode .ring && s.rng.roleNow ≠ 0 && !s.rng.isMaster then (.final stNotMaster [], s)
  else
    let p := 10000 * u
    let t := s.cycleTiming
    if p < t.pmin then (infeasible t s, s)
    else
      let at' := upTo p (s.now + s.prg.period)
      let s := { s with prg := { s.prg with ovrLimit := c.u8 33 } }
      if s.leadsRing then
        (.ok (le 8 at'), { s with rng := { s.rng with change := some (at', p, s.ringCofs) } })
      else (.ok (le 8 at'), { s with prg := { s.prg with newPeriod := some (p, at') } })

/-- SET_CONFIGURE (R324, R329, R348, R350). -/
def doSetConfigure (e : CmdEntry) (_ : Env) (s : State) : Rep × State :=
  let c := e.c
  let n := c.u8 33
  let m := c.w32 36
  if !c.restZero [(33, 2), (36, 4)] || !c.extZero 0 || 15 < n || 1 < c.u8 34 then (.bad 8, s)
  else if m ≠ 0 && (s.nodeNo = 0 || !m.getLsbD (s.nodeNo - 1)) then (.bad 0x87, s)
  else
    let at' := (s.now / s.prg.period + 1) * s.prg.period
    (.ok (le 8 at'), s.putSet n { s.set n with next := some (m, c.u8 34 = 1, at') })

def execProgramLoad (dt : Nat) (c : Cmd) (env : Env) (s : State) : Host.Outcome State Fault Refusal :=
  runHere .programLoad dt c env doProgramLoad s
def execProgramStart (dt : Nat) (c : Cmd) (env : Env) (s : State) : Host.Outcome State Fault Refusal :=
  runHere .programStart dt c env doProgramStart s
def execProgramStop (dt : Nat) (c : Cmd) (env : Env) (s : State) : Host.Outcome State Fault Refusal :=
  runHere .programStop dt c env doProgramStop s
def execProgramStatus (dt : Nat) (c : Cmd) (env : Env) (s : State) : Host.Outcome State Fault Refusal :=
  runHere .programStatus dt c env doProgramStatus s
def execVariableRead (dt : Nat) (c : Cmd) (env : Env) (s : State) : Host.Outcome State Fault Refusal :=
  runHere .variableRead dt c env doVariableRead s
def execVariableForce (dt : Nat) (c : Cmd) (env : Env) (s : State) : Host.Outcome State Fault Refusal :=
  runHere .variableForce dt c env doVariableForce s
def execCycleConfigure (dt : Nat) (c : Cmd) (env : Env) (s : State) : Host.Outcome State Fault Refusal :=
  runHere .cycleConfigure dt c env doCycleConfigure s
def execSetConfigure (dt : Nat) (c : Cmd) (env : Env) (s : State) : Host.Outcome State Fault Refusal :=
  runHere .setConfigure dt c env doSetConfigure s

end Sys2Proof.Machine
end

