-- ==== Sys2Proof/Machine/Wave.lean ====
section
/-! DEFINITION. Waveform sets (R519 to R521) and what a region drives: the code of a pixel in a frame, the ledger, the stages of a
CLEAR (R512, R529, R530). -/

namespace Sys2Proof.Machine

/-! ### DG-WFS sets -/

def wfFrameUs (b : List Byte) : Nat := leAt b 8 2
def wfNMode (b : List Byte) : Nat := byteAt b 6
def wfNBand (b : List Byte) : Nat := byteAt b 7
def wfSetId (b : List Byte) : Nat := leAt b 12 4
def wfCrc (b : List Byte) : Nat := leAt b 52 4
def wfOfsMode (b : List Byte) : Nat := leAt b 40 4
def wfOfsSeq (b : List Byte) : Nat := leAt b 44 4
def wfLength (b : List Byte) : Nat := leAt b 48 4
/-- An INT8 of the header. -/
def wfTemp (b : List Byte) (i : Nat) : Int := leInt b i 1

/-- Offset of the entry of a mode (R520). -/
def wfMode (b : List Byte) (m : Nat) : Option Nat :=
  ((List.range (wfNMode b)).map fun k => wfOfsMode b + 16 * k).find? fun o => byteAt b o = m

/-- INVERT of a mode (R520). -/
def wfInvert (b : List Byte) (m : Nat) : Nat :=
  match wfMode b m with | some o => byteAt b (o + 1) / 4 % 4 | none => 0

/-- Offset of a transition's index entry (R521). -/
def wfEntry (b : List Byte) (o band g h : Nat) : Nat := leAt b (o + 4) 4 + (256 * band + 16 * g + h) * 4

/-- Frame count and offset of a sequence from its index entry (R521). -/
def wfSeq (b : List Byte) (i : Nat) : Nat × Nat :=
  let e := leAt b i 4
  (e / 2 ^ 23, wfOfsSeq b + e % 2 ^ 23 * 4)

/-- Frame `f` of a sequence, VCOM past its end (R521). -/
def seqCode (b : List Byte) (q : Nat × Nat) (f : Nat) : Nat :=
  if f < q.1 then byteAt b (q.2 + f / 4) / 4 ^ (f % 4) % 4 else 0

/-- Sequence of a transition in a mode, empty where the mode is absent. -/
def seqOf (b : List Byte) (m band g h : Nat) : Nat × Nat :=
  match wfMode b m with | some o => wfSeq b (wfEntry b o band g h) | none => (0, 0)

/-- One sequence against the rules of R521. -/
def seqBad (b : List Byte) (o i : Nat) : Bool :=
  let q := wfSeq b i
  let codes := (List.range q.1).map (seqCode b q)
  let n := fun (k : Nat) => (codes.filter (· = k)).length
  let flags := byteAt b (o + 1)
  decide (256 < q.1) || decide (leAt b (o + 2) 2 < q.1) || decide (wfLength b < q.2 + (q.1 + 3) / 4) ||
  (flags / 4 % 4 = 0 && n 3 ≠ 0) ||
  (if flags.testBit 0 then n 1 ≠ n 2 || n 3 % 2 ≠ 0 else decide (n 2 + 3 < n 1) || decide (n 1 + 3 < n 2))

/-- First failing byte offset of a mode entry at `o` (R520, R521). -/
def modeBad (b : List Byte) (o : Nat) : Option Nat :=
  let m := byteAt b o
  let flags := byteAt b (o + 1)
  let idx := leAt b (o + 4) 4
  let n := 256 * wfNBand b
  if !(decide (m ≤ 3) || decide (8 ≤ m ∧ m ≤ 15)) then some o
  else if flags &&& 0xF2 ≠ 0 || (!flags.testBit 0 && (m = 0 || m = 1 || m = 3)) then some (o + 1)
  else if idx < 64 || wfLength b < idx + n * 4 then some (o + 4)
  else if (List.range 8).any fun k => byteAt b (o + 8 + k) ≠ 0 then some (o + 8)
  else ((List.range n).map fun k => idx + 4 * k).find? (seqBad b o)

/-- First failing byte offset of a set (R519 to R521). -/
def wfBad (b : List Byte) : Option Nat :=
  let nb := wfNBand b
  let rising := (List.range (nb - 1)).find? fun k => decide (wfTemp b (16 + k + 1) ≤ wfTemp b (16 + k))
  let modes := (List.range (wfNMode b)).map fun k => wfOfsMode b + 16 * k
  let nonZero := fun (i n : Nat) => (List.range n).any fun k => byteAt b (i + k) ≠ 0
  if b.length < 64 || leAt b 0 4 ≠ 0x53465744 then some 0
  else if leAt b 4 2 ≠ 1 then some 4
  else if wfNMode b < 1 ∨ 8 < wfNMode b then some 6
  else if nb < 1 ∨ 16 < nb then some 7
  else if wfFrameUs b < 10000 ∨ 25000 < wfFrameUs b then some 8
  else if nonZero 10 2 then some 10
  else match rising with
  | some k => some (16 + k + 1)
  | none =>
    if wfTemp b 32 ≤ wfTemp b (16 + nb - 1) then some 32
    else if nonZero 33 7 then some 33
    else if wfLength b ≠ b.length then some 48
    else if wfOfsMode b < 64 || wfLength b < wfOfsMode b + 16 * wfNMode b then some 40
    else if wfOfsSeq b < 64 || wfLength b < wfOfsSeq b then some 44
    else if crc32c (b.drop 64) ≠ wfCrc b then some 52
    else if nonZero 56 8 then some 56
    else if !decide ((modes.map fun o => byteAt b o).Nodup) then some (wfOfsMode b)
    else match modes.findSome? (modeBad b) with
    | some i => some i
    | none => if [0, 1, 3].any fun m => (wfMode b m).isNone then some (wfOfsMode b) else none

/-! ### Bands -/

/-- The set's range holds the temperature, in 0.1 °C (R519, R524). -/
def wfInRange (b : List Byte) (t : Int) : Bool :=
  decide (wfTemp b 16 * 10 ≤ t ∧ t ≤ wfTemp b 32 * 10)

/-- Band of a temperature, the nearest one outside the range (R519, R524). -/
def wfBand (b : List Byte) (t : Int) : Nat :=
  ((List.range (wfNBand b)).filter fun k => decide (wfTemp b (16 + k) * 10 ≤ t)).getLastD 0

/-! ### Frames -/

/-- Parity of a pixel under an INVERT pattern (R521). -/
def parity (invert f x y : Nat) : Nat :=
  match invert with | 1 => f % 2 | 2 => (f + y) % 2 | 3 => (f + x + y) % 2 | _ => 0

/-- Ledger charge of a drive code (R529). -/
def charge (code : Nat) : Int := if code = 1 then 1 else if code = 2 then -1 else 0

/-- Drive code in the balancing stage of a CLEAR (R530). -/
def balanceCode (invert : Nat) (led : Int) (f x y : Nat) : Nat :=
  if led = 0 then 0
  else
    let code := if 0 < led then 2 else 1
    if invert = 0 then (if f < led.natAbs then code else 0)
    else if parity invert f x y = code - 1 && decide (f / 2 < led.natAbs) then code else 0

/-- INV is resolved by parity: VPOS at 0, VNEG at 1 (R521). -/
def driveOf (invert code f x y : Nat) : Nat := if code = 3 then parity invert f x y + 1 else code

/-- Drive code of a pixel in frame `f` of a region's update; `p` is the pixel at the region's start (R512, R521, R530). -/
def regionCode (b : List Byte) (r : Region) (p : Pixel) (f x y : Nat) : Nat :=
  if f < r.n1 then balanceCode (wfInvert b 0) p.led f x y
  else if f < r.n1 + r.n2 then
    driveOf (wfInvert b 0) (seqCode b (seqOf b 0 r.band p.cur 15) (f - r.n1)) f x y
  else
    let old := if r.mode = 0 then 15 else p.cur
    driveOf (wfInvert b r.draw) (seqCode b (seqOf b r.draw r.band old p.tgt) (f - r.n1 - r.n2)) f x y

def Region.frames (r : Region) : Nat := r.n1 + r.n2 + r.n3

/-- Net charge of frames 0 to `n` − 1. -/
def regionCharge (b : List Byte) (r : Region) (p : Pixel) (x y n : Nat) : Int :=
  ((List.range n).map fun f => charge (regionCode b r p f x y)).foldl (· + ·) 0

/-- Ledger in 12 bits, and as the LEDGER plane holds it (R529, R532). -/
def sat12 (v : Int) : Int := max (-2047) (min 2047 v)
def sat4 (v : Int) : Int := max (-7) (min 7 v)

/-- Pixels of a rectangle. -/
def Rect.pixels (r : Rect) : List (Nat × Nat) :=
  (List.range r.h).flatMap fun j => (List.range r.w).map fun i => (r.x + i, r.y + j)

def pixelKey (p : Nat × Nat) : Nat := 2048 * p.2 + p.1

def Rect.overlaps (a b : Rect) : Bool :=
  decide (a.x < b.x + b.w ∧ b.x < a.x + a.w ∧ a.y < b.y + b.h ∧ b.y < a.y + a.h)

/-- `a` lies within `b`. -/
def Rect.within (a b : Rect) : Bool :=
  decide (b.x ≤ a.x ∧ a.x + a.w ≤ b.x + b.w ∧ b.y ≤ a.y ∧ a.y + a.h ≤ b.y + b.h)

def Rect.bytes (r : Rect) : List Byte := le 2 r.x ++ le 2 r.y ++ le 2 r.w ++ le 2 r.h

/-- Nibble of a packed image of width `w` (R525): rows of ⌈w / 2⌉ bytes, low nibble first. -/
def nibbleAt (l : List Byte) (w i j : Nat) : Nat :=
  let v := byteAt l (j * ((w + 1) / 2) + i / 2)
  if i % 2 = 0 then v % 16 else v / 16

end Sys2Proof.Machine
end

