-- ==== Sys2Proof/Machine/Panel.lean ====
section
/-! DEFINITION. The door panel: updates and their frames, recovery, tiles, rails, temperature, the panel commands (R511 to R538). -/

namespace Sys2Proof.Machine

def State.pixel (s : State) (p : Nat × Nat) : Pixel := tget {} s.pnl.frame (pixelKey p)
def State.setPixel (s : State) (p : Nat × Nat) (v : Pixel) : State :=
  { s with pnl := { s.pnl with frame := tset {} s.pnl.frame (pixelKey p) v } }

/-- A target grey is written and journaled (R525). -/
def setTarget (p : Nat × Nat) (g : Nat) (s : State) : State :=
  let s := s.setPixel p { s.pixel p with tgt := g }
  { s with pnl := { s.pnl with target := tset 0 s.pnl.target (pixelKey p) g } }

def State.panelSet (s : State) (k : Nat) : Option (List Byte) := if k = 0 then s.pnl.set0 else s.pnl.set1
def State.activeSet (s : State) : Option (List Byte) := s.panelSet s.pnl.active

def State.liveRegions (s : State) : List (Nat × Region) := s.pnl.regions.filter fun e => e.2.live
def State.setRegion (s : State) (n : Nat) (r : Region) : State := { s with pnl := { s.pnl with regions := tput s.pnl.regions n r } }
def State.dropRegion (s : State) (n : Nat) : State := { s with pnl := { s.pnl with regions := tdel s.pnl.regions n } }

/-- HOLD is at least 3.0 V (R447). -/
def State.holdGood (s : State) : Bool := decide (3000 ≤ s.pwr.holdMv)

/-- Fault source 186 (R181, R518, R523). -/
def State.panelFault (s : State) : Bool := s.pnl.railFault || s.pnl.sensorFault.isSome

/-- Pool 6 is SHORT (R518). -/
def State.railsShort (s : State) : Bool := s.poolNow 6 0 = 3

def enqueue (u : Update) (s : State) : State := { s with pnl := { s.pnl with queue := s.pnl.queue ++ [u] } }

def State.tile (s : State) (n : Nat) : Option Tile := tget none s.pnl.tiles n
def State.setTile (s : State) (n : Nat) (t : Tile) : State := { s with pnl := { s.pnl with tiles := tset none s.pnl.tiles n (some t) } }

/-! ### Tiles -/

/-- Bytes of one image of a tile (R525, R534). -/
def tileSize (r : Rect) : Nat := (r.w + 1) / 2 * r.h

/-- The image of a tile's state goes into the target of its area (R535). -/
def drawTile (t : Tile) (s : State) : State :=
  let img := t.images.drop (t.want * tileSize t.rect)
  t.rect.pixels.foldl (fun s p => setTarget p (nibbleAt img t.rect.w (p.1 - t.rect.x) (p.2 - t.rect.y)) s) s

/-- An ALERT update of a tile is queued, once (R535). -/
def queueTile (n : Nat) (t : Tile) (s : State) : State :=
  let s := drawTile t s
  if s.pnl.queue.any fun u => u.src = .tile n then s else enqueue ⟨t.rect, 3, .tile n, none⟩ s

def State.hitsActive (s : State) (r : Rect) : Bool := s.liveRegions.any fun e => e.2.rect.overlaps r

/-- A tile state is handed over (R198, R535). While an update of its area runs it waits; while PANEL is 0 it is only kept
(R528). -/
def tileHandoff (n st : Nat) (s : State) : State :=
  match s.tile n with
  | none => s
  | some t =>
    let t := { t with want := st }
    if !s.mode .panel then s.setTile n t
    else if s.hitsActive t.rect then s.setTile n { t with waits := true }
    else queueTile n t (s.setTile n t)

/-- Hand-offs that waited for an update of their area are drawn now (R533, R535). -/
def wakeTiles (s : State) : State :=
  s.pnl.tiles.foldl (fun s e => match e.2 with
    | some t =>
      if !t.waits || s.hitsActive t.rect then s
      else
        let t := { t with waits := false }
        if s.mode .panel then queueTile e.1 t (s.setTile e.1 t) else s.setTile e.1 t
    | none => s) s

/-- PANEL returns to 1: each tile whose state differs from the one last drawn is queued (R528). -/
def panelOn (s : State) : State :=
  s.pnl.tiles.foldl (fun s e => match e.2 with
    | some t => if t.drawn = some t.want then s else tileHandoff e.1 t.want s
    | none => s) s

/-- PANEL falls to 0: queued host updates end; tile updates leave the queue, their states being kept (R528). -/
def panelOff (s : State) : State :=
  let q := s.pnl.queue
  let s := { s with pnl := { s.pnl with queue := q.filter fun u => match u.src with | .host .. | .tile _ => false | _ => true } }
  q.foldl (fun s u => match u.src with
    | .host id _ => endJob id stModeConflict (le 2 0x00A3) s
    | _ => s) s

/-! ### Recovery -/

/-- A CLEAR of an interrupted region is queued (R530, R533). -/
def queueRecovery (n : Nat) (r : Region) (s : State) : State := enqueue ⟨r.rect, 0, .recovery n, none⟩ s

/-- The pixel as it stood at its region's start (R532). -/
def State.atStart (s : State) (p : Nat × Nat) : Pixel := { s.pixel p with led := tget 0 s.pnl.ledger (pixelKey p) }

/-- Of 0 to 4 further frames the number whose charge is largest in magnitude gives the charge (R533). -/
def worstPrefix (b : List Byte) (r : Region) (p : Pixel) (x y : Nat) : Int :=
  let v := fun (k : Nat) => p.led + regionCharge b r p x y (min (r.j + k) r.frames)
  [1, 2, 3, 4].foldl (fun m k => if m.natAbs < (v k).natAbs then v k else m) (v 0)

/-- An interrupted region is charged: `full` frames exactly, or up to J and then the largest prefix of its batch (R533). -/
def chargeRegion (r : Region) (full : Option Nat) (s : State) : State :=
  match s.panelSet r.set with
  | none => s
  | some b => r.rect.pixels.foldl (fun s p =>
      let q := s.atStart p
      let v := match full with
        | some n => q.led + regionCharge b r q p.1 p.2 n
        | none => worstPrefix b r q p.1 p.2
      s.setPixel p { s.pixel p with led := sat12 v }) s

/-- Largest ledger in magnitude over a rectangle. -/
def State.worstLedger (s : State) (r : Rect) : Int :=
  r.pixels.foldl (fun m p => let v := (s.pixel p).led; if m.natAbs < v.natAbs then v else m) 0

/-- Record 0x0802 at WARNING (R533, R537). -/
def uncertainRecord (regions parked : Nat) (led : Int) (s : State) : State :=
  let s := { s with pnl := { s.pnl with uncertain := true } }
  noteSev 2 0x0802 0 0 (le 1 regions ++ le 1 parked ++ le 1 ((max (-128) (min 127 led)) % 256).toNat) s

/-- A running region is interrupted: it stops, its frames driven are charged, a recovery CLEAR is queued, its host update
ends (R518, R531, R533). Its descriptor stays as the last batch wrote it, and is not PARKED (R532). -/
def interruptRegion (n : Nat) (r : Region) (s : State) : State :=
  let s := chargeRegion r (some r.frame) s
  let s := s.setRegion n { r with live := false }
  let s := wakeTiles (queueRecovery n r s)
  match r.src with
  | .host id _ => endJob id stResetIntervened (le 2 0 ++ le 1 2) s
  | _ => s

/-- Running regions are interrupted together: one record 0x0802. -/
def interruptRegions (l : List (Nat × Region)) (s : State) : State :=
  if l.isEmpty then s
  else
    let s := l.foldl (fun s e => interruptRegion e.1 e.2 s) s
    let led := l.foldl (fun (m : Int) e => let v := s.worstLedger e.2.rect; if m.natAbs < v.natAbs then v else m) 0
    uncertainRecord l.length 0 led s

/-- Frame memory is rebuilt from the planes and every region still described is charged and recovered (R533). -/
def panelRestore (s : State) : State :=
  let keys := (s.pnl.image.map Prod.fst ++ s.pnl.target.map Prod.fst ++ s.pnl.ledger.map Prod.fst).eraseDups
  let frame := keys.foldl (fun t k =>
    tset ({} : Pixel) t k ⟨tget 0 s.pnl.image k, tget 0 s.pnl.target k, tget 0 s.pnl.ledger k⟩) []
  let s := { s with pnl := { s.pnl with frame := frame } }
  let l := s.pnl.regions
  if l.isEmpty then s
  else
    let s := l.foldl (fun s e => queueRecovery e.1 e.2 (chargeRegion e.2 (if e.2.parked then some e.2.j else none) s)) s
    let led := l.foldl (fun (m : Int) e => let v := s.worstLedger e.2.rect; if m.natAbs < v.natAbs then v else m) 0
    uncertainRecord l.length (l.filter (·.2.parked)).length led s

/-- What a full reset leaves of the Panel Controller: class V is gone, the rails are down (R457, R517, R531). -/
def panelReset (s : State) : State :=
  let p := s.pnl
  { s with pnl := { p with
    railsUp := false, railFault := false, railMv := [0, 0, 0, 0, 0], idleAt := 0, frameAt := none, temp := 0, tempAt := none
    sensorFault := none, tempOut := false, bandForced := false, crcErr := false, loading := none, frame := [], queue := []
    regions := p.regions.map fun (e : Nat × Region) => (e.1, { e.2 with live := false, stop := false }) } }

/-- An update still running stops at its next frame batch and its region is parked; the rails go down (R450, R532). -/
def parkPanel (s : State) : State :=
  let s := s.liveRegions.foldl (fun s e =>
    let f := min e.2.frames ((e.2.frame + 3) / 4 * 4)
    s.setRegion e.1 { e.2 with frame := f, j := f, live := false, parked := true }) s
  { s with pnl := { s.pnl with railsUp := false, frameAt := none } }

/-! ### Rails -/

/-- Set value of a rail in mV (R515): 0 VPOS, 1 VNEG, 2 VGH, 3 VGL, 4 VCOM. -/
def State.railSet (s : State) : Nat → Int
  | 0 => 15000 | 1 => -15000 | 2 => 22000 | 3 => -20000 | _ => -(10 * (s.pnl.vcom : Int))

/-- In regulation: ±5 %, ±50 mV for VCOM (R515). -/
def State.railOk (s : State) (k : Nat) (mv : Int) : Bool :=
  let v := s.railSet k
  let off := (mv - v).natAbs
  if k = 4 then decide (off ≤ 50) else decide (off * 20 ≤ v.natAbs)

/-- Boost phase that serves a rail (R418, R515): VCOM is fed from VNEG. -/
def State.railPhase (s : State) (k : Nat) : Nat :=
  let k := if k = 4 then 1 else k
  if s.spr.boost.getD k 6 = 0 then k else 4

/-- Rails in the order in which they are enabled (R516, R538). -/
def State.railOrder (s : State) : List Nat := (List.range 5).map fun i => s.pnl.order / 8 ^ i % 8

/-- A rail fault (R518): emergency sequence, recovery of the active regions, record 0x0803, hard failure of the phase. -/
def railFault (k : Nat) (mv : Int) (s : State) : State :=
  let ph := s.railPhase k
  let s := { s with pnl := { s.pnl with railsUp := false, railFault := true, frameAt := none, railMv := s.pnl.railMv.set k mv } }
  let s := interruptRegions s.liveRegions s
  let s := note 0x0803 ph (le 1 k ++ zeros 1 ++ le 2 (mv % 65536).toNat) s
  let s := if s.spr.boostFailed.contains ph then s
    else
      let s := { s with spr := { s.spr with boostFailed := s.spr.boostFailed ++ [ph] } }
      wearRecord 6 0 ph (s.spr.boostWear.getD ph 0) 3 0 s
  if s.freePhase.isNone then
    checkPool 6 0 (setShort 6 0 true { s with spr := { s.spr with boost := s.spr.boost.set ph 6 } })
  else s

/-- A failed phase gives way to the spare at the next rail-up, and a planned swap that waits is made (R435). -/
def phaseSwaps (s : State) : State :=
  let s := s.spr.boostFailed.foldl (fun s ph =>
    let s := { s with spr := { s.spr with boostFailed := s.spr.boostFailed.filter (· ≠ ph) } }
    match s.freePhase with
    | none => s
    | some k =>
      let s := (s.spr.swaps.filter fun w => w.pool = 6).foldl (fun s w => abortSwap w 0x00C5 1 s) s
      let w : Swap := { cmd := none, pool := 6, isl := 0, idx := ph, worn := ph, spare := k, method := 4, cause := 2, phase := 0 }
      let s := swapStarted w s
      endSwap w 6 { s with spr := { s.spr with boost := (s.spr.boost.set ph 6).set k 0 } }) s
  match s.spr.swaps.find? fun w => w.pool = 6 with
  | none => s
  | some w => endSwap w 5 { s with spr := { s.spr with boost := (s.spr.boost.set w.worn 5).set w.spare 0 } }

/-- Rail that a phase serves (R435). -/
def State.phaseRail (s : State) (ph : Nat) : Nat := ((List.range 4).find? fun k => s.railPhase k = ph).getD ph

/-- Ripple of a phase at a rail-up, in % of its nominal ripple (R420, R422, R423). -/
def boostRipple (ph pct : Nat) (s : State) : State :=
  let old := s.spr.boostWear.getD ph 0
  let i := min 255 ((pct - 100) / 2)
  let s := { s with spr := { s.spr with boostWear := s.spr.boostWear.set ph i, boostAt := s.spr.boostAt.set ph (pct, s.now) } }
  if wearLevelOf i ≤ wearLevelOf old then s
  else
    let s := wearRecord 6 0 ph i (wearLevelOf i) (f32OfRat (pct : Rat)) s
    if wearLevelOf i = 2 then actOnReplace 6 0 ph (s.phaseRail ph) s else s

/-- An update is due: queued and allowed, or running (R516). -/
def State.updateDue (s : State) : Bool := !s.pnl.queue.isEmpty || !s.liveRegions.isEmpty

/-- PANEL_RAIL_UP (R435, R515, R516): voltages in mV 2 ms after each rail's enable, and the ripple of each rail's phase. -/
def execPanelRailUp (dt : Nat) (mv : Vector Int 5) (ripple : Vector Nat 4) (s : State) : Host.Outcome State Fault Refusal :=
  let s := s.advance dt
  if s.pnl.railsUp || !s.updateDue || !s.mode .panel || !s.holdGood || s.railsShort || s.pwr.state ≠ .run then .next s
  else
    let s := phaseSwaps s
    let v := mv.toList
    match s.railOrder.find? fun k => !s.railOk k (v.getD k 0) with
    | some k => .next (railFault k (v.getD k 0) s)
    | none =>
      let s := { s with pnl := { s.pnl with railsUp := true, railFault := false, railMv := v, idleAt := s.now, frameAt := none } }
      .next ((List.range 4).foldl (fun s k => boostRipple (s.railPhase k) (ripple.toList.getD k 100) s) s)

/-- PANEL_RAIL_DOWN (R516, R528): no update has run for RAIL_HOLD, or PANEL is 0. -/
def execPanelRailDown (dt : Nat) (s : State) : Host.Outcome State Fault Refusal :=
  let s := s.advance dt
  if !s.pnl.railsUp || !s.liveRegions.isEmpty || (s.mode .panel && s.now < s.pnl.idleAt + 100000000 * s.pnl.railHold) then .next s
  else .next { s with pnl := { s.pnl with railsUp := false, frameAt := none } }

/-- RAIL_FAULT (R518): a rail out of regulation for 100 µs. -/
def execRailFault (dt : Nat) (rail : Fin 5) (mv : Int) (s : State) : Host.Outcome State Fault Refusal :=
  let s := s.advance dt
  if !s.pnl.railsUp || s.railOk rail.val mv then .next s else .next (railFault rail.val mv s)

/-! ### Temperature -/

/-- A change of range writes record 0x0804 (R524, R537). -/
def setTempOut (b : Bool) (s : State) : State :=
  if s.pnl.tempOut = b then s
  else
    let s := { s with pnl := { s.pnl with tempOut := b } }
    note 0x0804 0 (le 1 (bit (!b) 0) ++ le 1 (bit s.pnl.sensorFault.isSome 0) ++ le 2 (s.pnl.temp % 65536).toNat) s

/-- A reading of the NTC in 0.1 °C, none for an open sensor (R523, R524). -/
def panelTemp (t : Option Int) (s : State) : State :=
  let s := { s with pnl := { s.pnl with tempAt := some s.now } }
  match t with
  | some v =>
    if decide (-400 ≤ v ∧ v ≤ 850) then
      let s := { s with pnl := { s.pnl with temp := v, sensorFault := none } }
      setTempOut (match s.activeSet with | some b => !wfInRange b v | none => false) s
    else { s with pnl := { s.pnl with sensorFault := some (s.pnl.sensorFault.getD s.now) } }
  | none => { s with pnl := { s.pnl with sensorFault := some (s.pnl.sensorFault.getD s.now) } }

/-- PANEL_TEMP_READ (R523): every second. -/
def execPanelTempRead (dt : Nat) (t : Option Int) (s : State) : Host.Outcome State Fault Refusal :=
  let s := s.advance dt
  if !dueAfter s.pnl.tempAt 1000000000 s.now then .next s else .next (panelTemp t s)

/-- PANEL_SENSOR_TIMEOUT (R523): 60 s of sensor fault. -/
def execPanelSensorTimeout (dt : Nat) (s : State) : Host.Outcome State Fault Refusal :=
  let s := s.advance dt
  match s.pnl.sensorFault with
  | some t => if s.now < t + 60000000000 then .next s else .next (setTempOut true s)
  | none => .next s

/-! ### Updates -/

/-- Order of starting (R527). -/
def Update.rank (u : Update) : Nat :=
  match u.src with
  | .recovery _ => 0
  | .tile _ => 1
  | .host .. => if u.mode = 3 then 2 else 4
  | .balance => 3

/-- An update may start now, the rails apart (R527). -/
def State.startable (s : State) (u : Update) : Bool :=
  let live := s.liveRegions
  !(live.any fun e => e.2.rect.overlaps u.rect) &&
  decide (live.length < (if s.mode .lean then 1 else 32)) &&
  (match u.src with | .recovery _ => true | _ => decide (s.pnl.regions.length < 32)) &&
  !((u.mode = 2 || decide (8 ≤ u.mode)) && u.rect.pixels.any fun p => decide (4 ≤ (s.pixel p).led.natAbs))

/-- The update that starts next (R527). -/
def State.nextUpdate (s : State) : Option Update :=
  [0, 1, 2, 3, 4].findSome? fun k => s.pnl.queue.find? fun u => u.rank = k && s.startable u

def State.unqueue (s : State) (u : Update) : State := { s with pnl := { s.pnl with queue := s.pnl.queue.erase u } }

/-- Frames the longest of a rectangle's sequences takes. -/
def longest (s : State) (r : Rect) (f : Pixel → Nat × Nat) : Nat :=
  r.pixels.foldl (fun m p => max m (f (s.pixel p)).1) 0

/-- A region for an update that starts (R524, R530, R532). -/
def newRegion (b : List Byte) (u : Update) (s : State) : Region :=
  let band := wfBand b s.pnl.temp
  let clear := u.mode = 0
  let draw := if !clear then u.mode
    else if s.pnl.tiles.any fun e => match e.2 with | some t => u.rect.within t.rect | none => false then 3 else 1
  let lmax := (s.worstLedger u.rect).natAbs
  { rect := u.rect, mode := u.mode, src := u.src, band := band, forced := s.pnl.tempOut, set := s.pnl.active, start := s.now
    n1 := if clear then (if wfInvert b 0 = 0 then lmax else 2 * lmax) else 0
    n2 := if clear then longest s u.rect fun p => seqOf b 0 band p.cur 15 else 0
    n3 := longest s u.rect fun p => seqOf b draw band (if clear then 15 else p.cur) p.tgt
    draw := draw, frame := 0, j := 0, live := true, parked := false, stop := false }

/-- An update leaves the queue and becomes a region (R527, R532): the LEDGER plane takes the ledger at its start. -/
def startUpdate (b : List Byte) (u : Update) (s : State) : State :=
  let s := s.unqueue u
  let n := match u.src with
    | .recovery n => n
    | _ => ((List.range 32).find? fun k => !(s.pnl.regions.any fun e => e.1 = k)).getD 0
  let r := newRegion b u s
  let s := u.rect.pixels.foldl (fun s p =>
    { s with pnl := { s.pnl with ledger := tset 0 s.pnl.ledger (pixelKey p) (sat4 (s.pixel p).led) } }) s
  let s := if r.forced then { s with pnl := { s.pnl with bandForced := true } } else s
  s.setRegion n r

/-- While pool 6 is SHORT every update of the host is refused, the queued ones when they would start (R518). -/
def refuseQueued (s : State) : State :=
  let host := fun (u : Update) => match u.src with | .host .. => true | _ => false
  (s.pnl.queue.filter host).foldl (fun s u => match u.src with
    | .host id _ => endJob id stFailedHardware (le 2 0x00F7 ++ le 1 0) (s.unqueue u)
    | _ => s) s

/-- PANEL_UPDATE_START (R518, R523, R524, R526, R527): the NTC is read first. -/
def execPanelUpdateStart (dt : Nat) (t : Option Int) (s : State) : Host.Outcome State Fault Refusal :=
  let s := s.advance dt
  if s.railsShort then .next (refuseQueued s)
  else if !s.pnl.railsUp || !s.mode .panel || s.pwr.state ≠ .run || s.pwr.dormantGoing.isSome then .next s
  else match s.activeSet, s.nextUpdate with
  | some b, some u =>
    let s := panelTemp t s
    match u.src with
    | .host id _ =>
      if s.pnl.tempOut && u.mode ≠ 3 then .next (endJob id 0x0900 [] (s.unqueue u))
      else .next (startUpdate b u s)
    | _ => .next (startUpdate b u s)
  | _, _ => .next s

/-- Bounding rectangle of the pixels of a region at a magnitude of 4 or more, rounded outward to multiples of 8 (R529). -/
def State.balanceRect (s : State) (r : Rect) : Option Rect :=
  let l := r.pixels.filter fun p => decide (4 ≤ (s.pixel p).led.natAbs)
  match l with
  | [] => none
  | p :: _ =>
    let x0 := (l.map Prod.fst).foldl min p.1 / 8 * 8
    let y0 := (l.map Prod.snd).foldl min p.2 / 8 * 8
    let x1 := ((l.map Prod.fst).foldl max 0 / 8 + 1) * 8
    let y1 := ((l.map Prod.snd).foldl max 0 / 8 + 1) * 8
    some ⟨x0, y0, x1 - x0, y1 - y0⟩

/-- Balancing still to come (R529). -/
def State.balPending (s : State) : Bool :=
  s.pnl.queue.any (fun u => u.src = .balance) || s.liveRegions.any fun e => e.2.src = .balance

/-- The sensor fault has lasted 60 s (R523). -/
def State.sensorOut (s : State) : Bool := match s.pnl.sensorFault with | some t => decide (t + 60000000000 ≤ s.now) | none => false

/-- A waiting WAVEFORM_LOAD takes the slot no region uses any more (R522). -/
def installSet (session : Nat) (b : List Byte) (s : State) : State :=
  let k := 1 - s.pnl.active
  let s := { s with pnl := if k = 0 then { s.pnl with set0 := some b, active := 0 } else { s.pnl with set1 := some b, active := 1 } }
  let s := setTempOut (s.sensorOut || (s.pnl.tempAt.isSome && !wfInRange b s.pnl.temp)) s
  note 0x0806 session (le 4 (wfSetId b) ++ le 4 (wfCrc b)) s

def State.slotHeld (s : State) (k : Nat) : Bool := s.pnl.regions.any fun e => e.2.set = k

def retryLoad (s : State) : State :=
  match s.pnl.loading with
  | none => s
  | some (id, ses, b) =>
    if s.slotHeld (1 - s.pnl.active) then s
    else
      let s := installSet ses b { s with pnl := { s.pnl with loading := none } }
      completeCmd id stOk (le 4 (wfSetId b) ++ le 4 (wfCrc b)) s

/-- An update ends (R527, R529): the target becomes the current image, image and ledger are journaled, the descriptor is
cleared; then its reply and record, balancing, and a hand-off that waited. -/
def endUpdate (n : Nat) (r : Region) (s : State) : State :=
  let s := r.rect.pixels.foldl (fun s p =>
    let q := s.pixel p
    let k := pixelKey p
    let s := s.setPixel p { q with cur := q.tgt }
    { s with pnl := { s.pnl with image := tset 0 s.pnl.image k q.tgt, ledger := tset 0 s.pnl.ledger k (sat4 q.led) } }) s
  let s := s.dropRegion n
  let s := { s with pnl := { s.pnl with idleAt := s.now } }
  let s := match s.balanceRect r.rect with
    | some q => if s.pnl.queue.any fun u => u.src = .balance && u.rect = q then s else enqueue ⟨q, 0, .balance, none⟩ s
    | none => s
  let s := match r.src with
    | .host id ses =>
      let s := endJob id stOk (le 2 r.frames ++ le 1 r.band ++ le 1 (bit r.forced 0)) s
      note 0x0801 ses (r.rect.bytes ++ le 1 r.mode ++ le 1 r.band ++ le 1 (bit r.forced 0) ++ zeros 1 ++ le 2 r.frames) s
    | .tile k =>
      match s.tile k with
      | none => s
      | some t => if t.waits || t.rect ≠ r.rect then s else s.setTile k { t with drawn := some t.want }
    | _ => s
  retryLoad (wakeTiles s)

/-- One frame of a region: J at each batch, then every pixel is driven and charged (R527, R529, R532). -/
def driveRegion (n : Nat) (r : Region) (s : State) : State :=
  match s.panelSet r.set with
  | none => s
  | some b =>
    let r := if r.frame % 4 = 0 then { r with j := r.frame } else r
    let s := r.rect.pixels.foldl (fun s p =>
      let q := s.pixel p
      s.setPixel p { q with led := sat12 (q.led + charge (regionCode b r (s.atStart p) r.frame p.1 p.2)) }) s
    s.setRegion n { r with frame := r.frame + 1 }

/-- Frame period of the active set in ns (R514). -/
def State.framePeriod (s : State) : Nat := match s.activeSet with | some b => 1000 * wfFrameUs b | none => 0

/-- PANEL_FRAME (R514, R527): at a frame boundary, updates whose frames are done end, those to be stopped stop, the others are
driven. -/
def execPanelFrame (dt : Nat) (s : State) : Host.Outcome State Fault Refusal :=
  let s := s.advance dt
  let due := match s.pnl.frameAt with | none => true | some t => decide (t + s.framePeriod ≤ s.now)
  if !s.pnl.railsUp || !due || s.liveRegions.isEmpty then .next s
  else
    let s := { s with pnl := { s.pnl with frameAt := some s.now } }
    let done := fun (r : Region) => decide (r.frames ≤ r.frame)
    let s := (s.liveRegions.filter fun e => done e.2 && !e.2.stop).foldl (fun s e => endUpdate e.1 e.2 s) s
    let s := interruptRegions (s.liveRegions.filter fun e => e.2.stop && (e.2.frame % 4 = 0 || done e.2)) s
    .next (s.liveRegions.foldl (fun s e => driveRegion e.1 e.2 s) s)

/-- PANEL_QUEUE_TIMEOUT (R526): an update not started by S + 3 s. -/
def execPanelQueueTimeout (dt : Nat) (s : State) : Host.Outcome State Fault Refusal :=
  let s := s.advance dt
  match s.pnl.queue.find? fun u => match u.limit with | some t => decide (t ≤ s.now) | none => false with
  | some u => match u.src with
    | .host id _ => .next (endJob id stDeadline (le 2 0x00F8) (s.unqueue u))
    | _ => .next (s.unqueue u)
  | none => .next s

/-- FRAME_MEMORY_SCRUB (R531): the CRC of a 64-line band of lines, and a mismatch. -/
def execFrameMemoryScrub (dt : Nat) (band : Fin 24) (bad : Bool) (s : State) : Host.Outcome State Fault Refusal :=
  let s := s.advance dt
  if !bad || s.pnl.height ≤ band.val * 64 then .next s
  else
    let k := band.val
    let area : Rect := ⟨0, k * 64, s.pnl.width, min 64 (s.pnl.height - k * 64)⟩
    let s := area.pixels.foldl (fun s p =>
      let j := pixelKey p
      s.setPixel p ⟨tget 0 s.pnl.image j, tget 0 s.pnl.target j, tget 0 s.pnl.ledger j⟩) s
    let hit := s.liveRegions.filter fun e => e.2.rect.overlaps area
    let s := hit.foldl (fun s e => s.setRegion e.1 { e.2 with stop := true }) s
    let s := { s with pnl := { s.pnl with crcErr := true } }
    .next (note 0x0805 k (le 1 hit.length) s)

/-! ### Registers -/

/-- PNL_STATUS (R538). -/
def State.panelStatus (s : State) : Nat :=
  let p := s.pnl
  bit p.railsUp 0 + bit p.railFault 1 + bit p.tempOut 2 + bit p.sensorFault.isSome 3 + bit p.bandForced 4 + bit p.uncertain 5 +
  bit p.crcErr 6 + bit s.balPending 7 + min 63 s.liveRegions.length * 2 ^ 8 + min 127 p.queue.length * 2 ^ 16

/-- PNL_TEMP (R538). -/
def State.panelTempReg (s : State) : Nat :=
  (s.pnl.temp % 65536).toNat + (match s.activeSet with | some b => wfBand b s.pnl.temp | none => 0) * 2 ^ 16

/-- PNL_WFS (R538). -/
def State.panelWfs (s : State) : Nat × Nat := match s.activeSet with | some b => (wfSetId b, wfCrc b) | none => (0, 0)

/-- PNL_RGN_STATE of a region (R538). -/
def Region.status (r : Region) : Nat :=
  bit r.live 0 + (match r.src with | .recovery _ => 2 | _ => 0) + r.mode % 16 * 4 + r.band % 16 * 2 ^ 6 + bit r.forced 10 +
  (match r.src with | .tile _ => 2 ^ 11 | _ => 0) + r.frame % 512 * 2 ^ 12 +
  (match r.src with | .tile n => n | .host _ n => n | _ => 0) * 2 ^ 21

/-! ### Commands -/

/-- Rectangle of a packet at byte `i` (R536). -/
def rectOf (c : Cmd) (i : Nat) : Rect := ⟨c.u16 i, c.u16 (i + 2), c.u16 (i + 4), c.u16 (i + 6)⟩

def State.panelBusy (s : State) : Bool := s.updateDue

/-- The frame period rule of R514. -/
def geometryOk (height lineClk frameUs : Nat) : Bool := decide ((height + 4) * (lineClk * 40) ≤ 1000 * frameUs)

def State.inPanel (s : State) (r : Rect) : Bool := decide (r.x + r.w ≤ s.pnl.width ∧ r.y + r.h ≤ s.pnl.height)
def State.hitsTile (s : State) (r : Rect) (except : Option Nat) : Bool :=
  s.pnl.tiles.any fun e => match e.2 with | some t => some e.1 ≠ except && t.rect.overlaps r | none => false

/-- PANEL_CONFIGURE (R511, R513, R514, R536). -/
def doPanelConfigure (e : CmdEntry) (_ : Env) (s : State) : Rep × State :=
  let c := e.c
  let w := c.u16 32
  let h := c.u16 34
  let l := c.u16 36
  let o := c.u16 40
  let steps := (List.range 5).map fun i => o / 8 ^ i % 8
  if !c.restZero [(32, 11), (44, 2)] || !c.extZero 0 || w < 256 || 2048 < w || w % 8 ≠ 0 || h < 64 || 1536 < h || h % 8 ≠ 0 ||
      l < w / 8 + 44 || 1023 < l || c.u16 38 < 20 || 330 < c.u16 38 || 2 ^ 15 ≤ o ||
      !(List.range 5).all (fun k => steps.contains k) || c.u8 42 < 1 || 100 < c.u8 42 || 600 < c.u16 44 then (.bad 8, s)
  else if match s.activeSet with | some b => !geometryOk h l (wfFrameUs b) | none => false then (.bad 0xF1, s)
  else if s.panelBusy then (.bad 0xF4, s)
  else
    (.ok [], { s with pnl := { s.pnl with
      width := w, height := h, lineClk := l, vcom := c.u16 38, order := o, dly := c.u8 42, railHold := c.u16 44 } })

/-- WAVEFORM_LOAD (R514, R519 to R522, R536). -/
def doWaveformLoad (e : CmdEntry) (env : Env) (s : State) : Rep × State :=
  let c := e.c
  let len := c.u32 48
  if !c.restZero [(40, 12)] || !c.extZero 0 || c.u64 40 % 4096 ≠ 0 || len = 0 || 4194304 < len then (.bad 8, s)
  else match env.dma with
  | none => (.hw 0 0, s)
  | some l =>
    let b := fitBytes len l
    match wfBad b with
    | some i => (.final stBadParam (le 2 0xF0 ++ zeros 2 ++ le 4 i), s)
    | none =>
      if s.pnl.height ≠ 0 && !geometryOk s.pnl.height s.pnl.lineClk (wfFrameUs b) then (.bad 0xF1, s)
      else if s.slotHeld (1 - s.pnl.active) then
        (.wait [], { s with pnl := { s.pnl with loading := some (e.id, c.session, b) } })
      else (.ok (le 4 (wfSetId b) ++ le 4 (wfCrc b)), installSet c.session b s)

/-- PANEL_WRITE (R525, R536). -/
def doPanelWrite (e : CmdEntry) (env : Env) (s : State) : Rep × State :=
  let c := e.c
  let r := rectOf c 32
  if !c.restZero [(32, 16)] || !c.extZero 0 then (.bad 8, s)
  else if r.w = 0 || r.h = 0 || !s.inPanel r then (.bad 0xF2, s)
  else if s.hitsActive r then (.bad 0xF4, s)
  else if s.hitsTile r none then (.bad 0xF5, s)
  else match env.dma with
  | none => (.hw 0 0, s)
  | some l => (.ok [], r.pixels.foldl (fun s p => setTarget p (nibbleAt l r.w (p.1 - r.x) (p.2 - r.y)) s) s)

/-- PANEL_UPDATE (R518, R524, R526, R536). -/
def doPanelUpdate (e : CmdEntry) (_ : Env) (s : State) : Rep × State :=
  let c := e.c
  let r := rectOf c 32
  let m := c.u8 40
  if !c.restZero [(32, 9)] || !c.extZero 0 || 15 < m then (.bad 8, s)
  else if r.x % 8 ≠ 0 || r.w % 8 ≠ 0 || r.w < 8 || r.h < 8 || !s.inPanel r then (.bad 0xF2, s)
  else if s.railsShort then (.hw 0x00F7 0, s)
  else if s.pnl.tempOut && m ≠ 3 then (.final 0x0900 [], s)
  else if match s.activeSet with | some b => (wfMode b m).isNone | none => true then (.bad 0xF3, s)
  else if s.hitsTile r none then (.bad 0xF5, s)
  else if !s.mode .panel then (.conflict 0x00A3, s)
  else if s.pwr.state ≠ .run || s.pwr.dormantGoing.isSome then (.conflict 0x00A2, s)
  else if 64 ≤ s.pnl.queue.length then (.final stDeadline (le 2 0x00F8), s)
  else (.job [], enqueue ⟨r, m, .host e.id c.session, some (e.start + 3000000000)⟩ s)

/-- TILE_IMAGE_LOAD (R534, R536). -/
def doTileImageLoad (e : CmdEntry) (env : Env) (s : State) : Rep × State :=
  let c := e.c
  let n := c.u16 32
  let r := rectOf c 34
  let others := s.pnl.tiles.foldl (fun (k : Nat) t => match t.2 with
    | some t' => if t.1 = n then k else k + t'.images.length | none => k) 0
  if !c.restZero [(32, 10), (48, 8)] || !c.extZero 0 || 511 < n || r.x % 8 ≠ 0 || r.w % 8 ≠ 0 || r.w < 8 || 512 < r.w ||
      r.h < 8 || 512 < r.h || 16777216 < others + 4 * tileSize r then (.bad 8, s)
  else if !s.inPanel r then (.bad 0xF2, s)
  else if s.hitsTile r (some n) then (.bad 0xF6, s)
  else if s.hitsActive r then (.bad 0xF4, s)
  else match env.dma with
  | none => (.hw 0 0, s)
  | some l =>
    let st := tget 0 s.alm.tstate n
    let s := { s with pnl := { s.pnl with queue := s.pnl.queue.filter fun (u : Update) => u.src ≠ UpdSrc.tile n } }
    let s := s.setTile n ⟨r, fitBytes (4 * tileSize r) l, st, none, false⟩
    (.ok [], tileHandoff n st s)

/-- PANEL_STATUS (R536). -/
def doPanelStatus (e : CmdEntry) (_ : Env) (s : State) : Rep × State :=
  if !e.c.restZero [] || !e.c.extZero 0 then (.bad 8, s)
  else
    let mask := (s.liveRegions.map fun x => 2 ^ x.1).foldl (· + ·) 0
    (.ok (le 4 s.panelStatus ++ le 4 s.panelTempReg ++ le 4 s.panelWfs.1 ++ le 4 mask), s)

/-- PANEL_POWER (R516, R536): the rail test raises the rails, measures them and lowers them. -/
def doPanelPower (e : CmdEntry) (env : Env) (s : State) : Rep × State :=
  let c := e.c
  if !c.restZero [(32, 1), (44, 2)] || !c.extZero 0 || 1 < c.u8 32 || (c.u8 32 = 0 && decide (600 < c.u16 44)) then (.bad 8, s)
  else if c.u8 32 = 0 then (.ok [], { s with pnl := { s.pnl with railHold := c.u16 44 } })
  else if s.panelBusy then (.bad 0xF4, s)
  else
    let v := (List.range 5).map fun k => env.sense.getD k 0
    let pay := v.flatMap fun (x : Int) => le 2 (x % 65536).toNat
    let s := phaseSwaps s
    match s.railOrder.find? fun k => !s.railOk k (v.getD k 0) with
    | some k => (.ok pay, railFault k (v.getD k 0) s)
    | none => (.ok pay, { s with pnl := { s.pnl with railMv := v, railFault := false, railsUp := false, frameAt := none } })

def execPanelConfigure (dt : Nat) (c : Cmd) (env : Env) (s : State) : Host.Outcome State Fault Refusal :=
  runHere .panelConfigure dt c env doPanelConfigure s
def execWaveformLoad (dt : Nat) (c : Cmd) (env : Env) (s : State) : Host.Outcome State Fault Refusal :=
  runHere .waveformLoad dt c env doWaveformLoad s
def execPanelWrite (dt : Nat) (c : Cmd) (env : Env) (s : State) : Host.Outcome State Fault Refusal :=
  runHere .panelWrite dt c env doPanelWrite s
def execPanelUpdate (dt : Nat) (c : Cmd) (env : Env) (s : State) : Host.Outcome State Fault Refusal :=
  runHere .panelUpdate dt c env doPanelUpdate s
def execTileImageLoad (dt : Nat) (c : Cmd) (env : Env) (s : State) : Host.Outcome State Fault Refusal :=
  runHere .tileImageLoad dt c env doTileImageLoad s
def execPanelStatus (dt : Nat) (c : Cmd) (env : Env) (s : State) : Host.Outcome State Fault Refusal :=
  runHere .panelStatus dt c env doPanelStatus s
def execPanelPower (dt : Nat) (c : Cmd) (env : Env) (s : State) : Host.Outcome State Fault Refusal :=
  runHere .panelPower dt c env doPanelPower s

end Sys2Proof.Machine
end

