-- ==== Sys2Proof/Machine/AlarmOut.lean ====
section
/-! DEFINITION. What the Alarm Engine drives: common outputs, horns, beacons, cabin calls, tiles; the duty engineer
(R192 to R198, R200). -/

namespace Sys2Proof.Machine

/-- The engine evaluates (R199, R450, R460): ALM is 1, the node runs, and the restart has reached evaluation. -/
def State.evalOn (s : State) : Bool := s.mode .alm && s.pwr.state = .run && s.pwr.phase = .evaluating

/-- Points with a source that satisfy `p`, ascending. -/
def State.pointsWhere (s : State) (p : Point → Bool) : List Nat :=
  (s.alm.points.filter fun e => e.2.srcKind ≠ 0 && p e.2).map Prod.fst

/-- AU, AS or RU (R194). -/
def Point.unack (x : Point) : Bool := x.state = 1 || x.state = 3 || x.state = 4

/-! ### The duty engineer (R196) -/

/-- Pins of the selector. -/
def State.selPins (s : State) : List Nat :=
  match s.alm.firstPin with
  | none => []
  | some f => if s.alm.dsrc = 1 then (List.range 4).map (f + ·) else if s.alm.dsrc = 2 then (List.range 12).map (f + ·) else []

/-- What the selector reads; none when invalid. -/
def State.selReading (s : State) : Option Nat :=
  let pins := s.selPins
  let usable := pins.all fun g => let x := s.pin g
    (x.cfg.mode = 1 || x.cfg.mode = 2) && (match x.last with | some m => m.usable | none => false)
  if pins.isEmpty || !usable then none
  else
    let on := pins.map fun g => (s.pin g).state
    if s.alm.dsrc = 1 then
      let v := (on.zipIdx.map fun (b, k) => bit b k).foldl (· + ·) 0
      if decide (1 ≤ v ∧ v ≤ 12) then some (v - 1) else none
    else
      match (on.zipIdx.filter (·.1)).map (·.2) with
      | [k] => some k
      | _ => none

/-- ALM_DUTY.INVALID and fault source 178 (R181, R196). -/
def State.dutyInvalid (s : State) : Bool :=
  s.pwr.phase = .evaluating && (if s.alm.dsrc = 0 then s.alm.cabin.isNone else s.alm.selInvalid)

/-! ### Outputs as functions of the state -/

/-- A member of a group with COMMON drives the common output (R192). -/
def State.commonWants (s : State) (g : Nat) : Bool :=
  let mode := (s.group g).mode
  s.alm.points.any fun e => e.2.srcKind ≠ 0 && e.2.group = g && e.2.common &&
    (e.2.state = 1 || e.2.state = 4 || e.2.state = (if mode then 3 else 2))

/-- Horn of a chain (R194). -/
def State.hornOn (s : State) (n : Nat) : Bool :=
  s.alm.points.any fun e => e.2.srcKind ≠ 0 && e.2.chain = n && e.2.state = 1 && decide (2 ≤ e.2.category)

/-- Beacon of a chain (R194): 0 off, 1 flashing, 2 steady. -/
def State.beaconOf (s : State) (n : Nat) : Nat :=
  let l := s.alm.points.filter fun e => e.2.srcKind ≠ 0 && e.2.chain = n
  if l.any fun e => e.2.unack then 1 else if l.any fun e => e.2.state = 2 then 2 else 0

/-- A point of a chain holds a step (R194, R205). -/
def State.holdsStep (s : State) (n k : Nat) : Bool :=
  s.alm.points.any fun e => e.2.srcKind ≠ 0 && e.2.chain = n && e.2.unack && e.2.step = k

def State.dutyCall (s : State) : Bool := (List.range 16).any fun n => s.holdsStep n 2
def State.allCall (s : State) : Bool := (List.range 16).any fun n => s.holdsStep n 3

/-- Cabin call `k`, or the all-engineers output for 12 (R194, R196): while INVALID is set, step 2 acts as step 3. -/
def State.callOn (s : State) (k : Nat) : Bool :=
  s.allCall || (s.dutyCall && (s.dutyInvalid || s.alm.cabin = some k))

/-- Outputs are driven (R199, R450). -/
def State.drives (s : State) : Bool := s.mode .alm && s.pwr.state = .run

/-- The state the Alarm Engine wants on a pin that is its own (R158, R192, R194): the OR over all it is assigned to. -/
def State.wanted (s : State) (g : Nat) : Bool :=
  s.drives &&
  ((s.alm.groups.any fun e => e.2.pin = some g && e.2.on) ||
   (s.alm.chains.any fun e => (e.2.horn = some g && s.hornOn e.1) ||
      (e.2.beacon = some g && (match s.beaconOf e.1 with | 1 => s.now / 500000000 % 2 = 0 | 2 => true | _ => false))) ||
   (s.alm.calls.any fun e => e.2 = some g && s.callOn e.1))

/-- Pins the Alarm Engine is assigned. -/
def State.alarmPins (s : State) : List Nat :=
  ((s.alm.groups.filterMap fun e => e.2.pin) ++ (s.alm.chains.flatMap fun e => e.2.horn.toList ++ e.2.beacon.toList) ++
    (s.alm.calls.filterMap fun e => e.2)).eraseDups

/-- A wanted state that differs from the one commanded or staged is staged. -/
def driveAlarm (g : Nat) (s : State) : State :=
  let x := s.pin g
  let v := s.wanted g
  let cur := match x.staged with | some (b, _, _) => b | none => x.cmd
  if x.owner ≠ 3 || cur = v then s else stagePin g v s.now none s

/-- Common outputs follow their members; REFLASH holds the output off (R192). -/
def settleGroups (s : State) : State :=
  s.alm.groups.foldl (fun s e =>
    let w := s.drives && s.commonWants e.1
    let x := s.group e.1
    s.setGroup e.1 { x with on := w && x.flashEnd.isNone, flashEnd := if w then x.flashEnd else none }) s

/-- Tile state of a point (R198). -/
def Point.tile (x : Point) : Nat :=
  if x.unack then 1 else if x.state = 7 || x.stale then 3 else if x.state = 2 then 2 else 0

/-- Tile state of a slot (R198). -/
def State.tileState (s : State) (n : Nat) : Nat :=
  match tget (0, 0) s.alm.tiles n with
  | (1, p) => (s.point p).tile
  | (2, g) =>
    let l := (s.pointsWhere fun x => x.group = g).map fun p => (s.point p).tile
    if l.contains 1 then 1 else if l.contains 3 then 3 else if l.contains 2 then 2 else 0
  | _ => 0

/-- Changes of tile states are handed to the Panel Controller (R198). -/
def settleTiles (s : State) : State :=
  s.alm.tiles.foldl (fun s e =>
    let st := s.tileState e.1
    if st = tget 0 s.alm.tstate e.1 then s
    else tileHandoff e.1 st { s with alm := { s.alm with tstate := tset 0 s.alm.tstate e.1 st } }) s

/-- After any change of a point, group, chain or duty: outputs and tiles follow (R192, R194, R198). -/
def settleAlarm (s : State) : State :=
  let s := settleGroups s
  let s := s.alarmPins.foldl (fun s g => driveAlarm g s) s
  if s.evalOn then settleTiles s else s

/-- DO_STATE_APPLY (R34, R65, R66, R143, R150): a new mode whose time has come starts, a transition whose PRE is over takes place, and
the staged state is applied. A flashing beacon is staged anew at each half second (R194). -/
def execDoStateApply (dt : Nat) (pin : Fin 96) (s : State) : Host.Outcome State Fault Refusal :=
  let g := 64 + pin.val
  let s := movePins g (startMode g (s.advance dt))
  .next (applyStaged g (if (s.pin g).staged.isNone then driveAlarm g s else s))

end Sys2Proof.Machine
end

