-- ==== Sys2Proof/Machine/AlarmSeq.lean ====
section
/-! DEFINITION. The alarm sequence and its masks (R182 to R190), first-out (R193), escalation step 1 (R194), the records of state
changes (R186, R202). -/

namespace Sys2Proof.Machine

/-- CATEGORY 1 (R185). -/
def Point.caution (x : Point) : Bool := x.category = 1

/-- Derived state D (R182). -/
def Point.derived (x : Point) : Nat := if x.cond then (if x.caution then 2 else 1) else 0

/-- Alarm sequence after C↑, C↓, ACK, SIL and SIL_END (R183, R185). -/
def seqRise (caution : Bool) : Nat → Nat
  | 0 => if caution then 2 else 1
  | 3 => if caution then 2 else 1
  | q => q
def seqFall : Nat → Nat
  | 1 => 3 | 2 => 0 | 4 => 3 | q => q
def seqAck : Nat → Nat
  | 1 => 2 | 3 => 0 | 4 => 2 | q => q
def seqSil : Nat → Nat
  | 1 => 4 | q => q
def seqSilEnd : Nat → Nat
  | 4 => 1 | q => q

/-- FLAGS byte of record 0x0201 and the flags a DISCREP point watches. -/
def Point.discFlag (x : Point) : Bool := x.disc || x.voteDegraded

/-- SUP_CAUSE (R205): bit 0 COND, bit 1 CAL; a cause of before the reset is not shown. -/
def Point.causes (x : Point) : Nat := bit (x.supCond && !x.supKept) 0 + bit (!x.calib.isEmpty && !x.calKept) 1

/-- SQW as read: the STALE mark is set on the held value (R104, R175). -/
def Point.sqwNow (x : Point) : BitVec 16 := if x.stale then x.sqw ||| 0x0080 else x.sqw

/-- A record of a point goes on its FLOW and to the recorder; a member's goes to its recorder and as a RECORD frame to the master, whose
flow FLOW names (R186, R379). -/
def emitPoint (sev f : Nat) (r : Rec) (s : State) : State :=
  if s.rng.roleNow < 2 then emit sev f r s
  else
    let (p, s) := offerRaw sev r f none s
    let s := afterOffer sev p s
    if s.rng.cut then s else originate 2 1 s.rng.master none (le 1 f ++ le 1 sev ++ r.bytes f 0xFFFFFFFF false false) s

/-- Record 0x0201 on the point's FLOW at its category's severity (R186, R202). -/
def stateRecord (p old t session : Nat) (s : State) : State :=
  let x := s.point p
  let pay := le 2 p ++ le 1 x.state ++ le 1 old ++ le 1 x.causes ++ le 1 x.category ++ le 1 x.group ++ le 1 x.chain ++
    le 4 x.value.toNat ++ le 2 x.sqwNow.toNat ++ le 1 (bit x.sim 0 + bit x.voteDegraded 1) ++ le 1 session ++ le 8 s.now
  emitPoint x.category x.flow { s.mkRec 0x0201 p 0 pay with time := t } s

/-- Record 0x0203 (R194, R202). -/
def stepRecord (p step : Nat) (s : State) : State :=
  let x := s.point p
  let cabin := if step = 2 && !s.dutyInvalid then s.alm.cabin.getD 0xFF else 0xFF
  emitPoint x.category x.flow (s.mkRec 0x0203 p 0 (le 2 p ++ le 1 x.chain ++ le 1 step ++ le 1 cabin)) s

/-- The group is quiet (R193): no member in AU, AS, AA or RU. -/
def State.quiet (s : State) (g : Nat) : Bool :=
  !(s.alm.points.any fun e => e.2.srcKind ≠ 0 && e.2.group = g && decide (1 ≤ e.2.state ∧ e.2.state ≤ 4))

/-- A group that is quiet arms its first-out record (R193). -/
def armQuiet (g : Nat) (s : State) : State :=
  let x := s.group g
  if x.foEn && !x.armed && s.quiet g then s.setGroup g { x with armed := true, foValid := false } else s

/-- First-out and REFLASH on a state change of a member (R192, R193). `key` is the record TIME, or the instant of the unmasking
evaluation. -/
def groupChange (p old new key : Nat) (s : State) : State :=
  let x := s.point p
  let g := x.group
  let grp := s.group g
  let enters := (new = 1 && old ≠ 4) || (new = 2 && x.caution && old ≠ 2)
  let grp := if enters && grp.foEn && grp.armed && !x.foExcl &&
      (!grp.provisional || decide (key < grp.key) || (key = grp.key && decide (p < grp.foPoint))) then
      { grp with provisional := true, foPoint := p, key := key } else grp
  let grp := if grp.foEn && !grp.armed && s.quiet g then { grp with armed := true, foValid := false } else grp
  let grp := if grp.reflash && x.common && new = 1 && old ≠ 4 && grp.on then
      { grp with flashEnd := some (s.now + 1000000000) } else grp
  s.setGroup g grp

/-- Point `p` takes new contents; where that changes the state it shows, the record, escalation, group and mark follow
(R182, R183, R186, R193, R194, R197). `t` is the record's TIME, `key` the first-out key. -/
def changePoint (p : Nat) (y : Point) (t key session : Nat) (s : State) : State :=
  let x := s.point p
  let old := x.state
  let masked := !y.inService || y.suppressed || y.shelf.isSome
  -- a mask that begins discards the sequence, the last one that ends restarts it in D
  let y := if masked then { y with seq := 0 } else if 5 ≤ old then { y with seq := y.derived } else y
  let new := y.state
  if new = old then s.setPoint p y
  else
    let escalates := y.unack
    let starts := escalates && !x.unack
    let y := { y with
      tU := if starts then some s.now else if escalates then y.tU else none
      escOff := if starts || !escalates then 0 else y.escOff
      step := if starts then (if y.chain ≤ 15 then 1 else 0) else if escalates then y.step else 0
      silUntil := if new = 4 then y.silUntil else none
      sim := if new = 0 || 5 ≤ new then false else if new = 1 && old ≠ 4 then y.sim || y.sqw.getLsbD 5 else y.sim }
    let s := s.setPoint p y
    let s := stateRecord p old t session s
    let s := groupChange p old new key s
    if starts && y.chain ≤ 15 then stepRecord p 1 s else s

/-- Sample of a point as a POINT source (R168): its condition state, with what a DISCREP point watches. -/
def pointSample (p : Nat) (s : State) : Sample :=
  let x := s.point p
  { src := p, value := boolWord x.cond, sqw := if x.sim then 0x0020 else 0, time := s.now, num := bit x.discFlag 0 }

/-- A change of C, DISC or VOTE_DEGRADED reaches the points that name this one (R171, R175). -/
def announce (p : Nat) (s : State) : State := publish 5 (pointSample p s) s

/-- C changes after a run that began at `start` (R176, R177, R183); inside a mask without a record (R186). -/
def flipCond (p start : Nat) (s : State) : State :=
  let x := s.point p
  let c := !x.cond
  let y := { x with cond := c, run := none, runOff := 0 }
  let y := if 5 ≤ x.state then y else { y with seq := if c then seqRise y.caution y.seq else seqFall y.seq }
  announce p (changePoint p y start start 0xFF s)

/-- The procedure of R176: a run that has lasted its delay changes C; `now` is the sample instant or Node Time. -/
def checkRun (p now : Nat) (s : State) : State :=
  let x := s.point p
  match x.run with
  | none => s
  | some r =>
    if r + x.runOff + x.delay ≤ now then flipCond p r s else s

/-- The raw condition is `raw` by a sample of instant `t` (R176). -/
def setRaw (p t : Nat) (raw : Bool) (s : State) : State :=
  let s := checkRun p t s
  let x := s.point p
  let y := { x with raw := raw }
  let y := if raw ≠ x.cond then (if x.run.isNone then { y with run := some t, runOff := 0 } else y)
    else { y with run := none, runOff := 0 }
  checkRun p t (s.setPoint p y)

/-- ACK and SIL of one point (R183, R184, R195): answers whether it changed. -/
def ackPoint (p session : Nat) (s : State) : Bool × State :=
  let x := s.point p
  if x.unack then (true, changePoint p { x with seq := seqAck x.seq } s.now s.now session s) else (false, s)

def silencePoint (p : Nat) (s : State) : Bool × State :=
  let x := s.point p
  if x.state = 1 || x.state = 4 then
    (true, changePoint p { x with seq := seqSil x.seq, silUntil := some (s.now + 30000000000) } s.now s.now 0xFF s)
  else (false, s)

/-- ACK or SIL of a list of points, with the number changed. -/
def overPoints (f : Nat → State → Bool × State) (l : List Nat) (s : State) : Nat × State :=
  l.foldl (fun (a : Nat × State) p =>
    let (b, s) := f p a.2
    (if b then a.1 + 1 else a.1, s)) (0, s)

/-- Points of a scope (R204): 0 point, 1 group, 2 chain, 3 all. -/
def State.scope (s : State) (scope index : Nat) : List Nat :=
  match scope with
  | 0 => [index]
  | 1 => s.pointsWhere fun x => x.group = index
  | 2 => s.pointsWhere fun x => x.chain = index
  | _ => s.pointsWhere fun _ => true

/-- The shelving timer of a point ends (R183, R189). -/
def unshelve (p t : Nat) (s : State) : State :=
  changePoint p { s.point p with shelf := none } t s.now 0xFF s

/-! ### ALM on and off (R199) -/

/-- ALM falls: timers stand still from now; outputs go off. -/
def alarmOff (s : State) : State :=
  settleAlarm { s with alm := { s.alm with offAt := some (s.alm.offAt.getD s.now) } }

/-- One point's timers go on after ALM stood at 0 for `d`. -/
def Point.resume (d : Nat) (x : Point) : Point :=
  { x with
    runOff := if x.run.isSome then x.runOff + d else x.runOff
    escOff := if x.tU.isSome then x.escOff + d else x.escOff
    silUntil := x.silUntil.map (· + d), supLeft := x.supLeft.map (· + d), supSeen := x.supSeen.map (· + d)
    seen := x.seen + d }

/-- ALM returns: timers resume. -/
def alarmOn (s : State) : State :=
  match s.alm.offAt with
  | none => settleAlarm s
  | some t =>
    let d := s.now - t
    let s := { s with alm := { s.alm with
      offAt := none, points := s.alm.points.map fun (e : Nat × Point) => (e.1, e.2.resume d) } }
    settleAlarm s

/-- A full reset: runs and C are class V; states, t_u, expiries and masks are kept, and C is taken as the journaled state
implies (R200). -/
def alarmReset (s : State) : State :=
  let off := match s.alm.offAt with | some t => s.now - t | none => 0
  let fix := fun (x : Point) =>
    let c := x.seq = 1 || x.seq = 2 || x.seq = 4
    { x.resume off with
      supLeft := none, supSeen := none, supKept := x.supCond, calKept := !x.calib.isEmpty, before := none, cond := c, raw := c, rawA := c, rawB := c, run := none, runOff := 0, value := 0, sqw := 0
      stale := false, sim := false, voteDegraded := false, disc := false, base := [], lastB := [], halves := [] }
  let points := (s.alm.points.map fun (e : Nat × Point) => (e.1, fix e.2)).filter fun e => e.2 ≠ {}
  let groups := (s.alm.groups.map fun (e : Nat × Group) =>
    (e.1, { e.2 with provisional := false, on := false, flashEnd := none })).filter fun e => e.2 ≠ {}
  let derived := s.alm.derived.map fun (e : Nat × Option DSlot) => (e.1, e.2.map fun d => { d with seen := [] })
  { s with alm := { s.alm with
    points := points, groups := groups, derived := derived, selInvalid := false, tstate := [], inbox := [], faults := []
    offAt := none, pointAt := s.now, selAt := s.now } }

/-- Alarm evaluation resumes (R200, R460): the timeouts of the sources run from here, tiles and outputs are computed anew. -/
def alarmResume (s : State) : State :=
  let now := s.now
  let fix := fun (x : Point) => { x with seen := now, supSeen := if x.supCond then some now else none }
  settleAlarm { s with alm := { s.alm with
    points := s.alm.points.map fun (e : Nat × Point) => (e.1, fix e.2), offAt := if s.mode .alm then none else some now } }

end Sys2Proof.Machine
end

