-- ==== Sys2Proof/Machine/AlarmCond.lean ====
section
/-! DEFINITION. How a sample acts on the points it feeds: usable values, conditions (R171 to R174), votes (R179, R180), suppression
and calibration causes (R187, R188), stale timeouts (R175), derived slots (R170). -/

namespace Sys2Proof.Machine

/-- A REAL32 as a number for comparison: none for NaN, infinities beyond every finite value. -/
def realOf (w : Word) : Option Rat :=
  if f32IsNaN w then none else if f32IsInf w then some (if f32Neg w then -(2 ^ 130 : Rat) else (2 ^ 130 : Rat)) else some (f32Rat w)

/-- LIMIT (R171): levels LL, L below, H, HH above; unchanged between the bounds. -/
def evalLimit (x : Point) (old : Bool) (v : Rat) : Bool :=
  let lim := f32Rat x.lim
  let hys := f32Rat x.hys
  if 2 ≤ x.level then (if lim < v then true else if v ≤ lim - hys then false else old)
  else if v < lim then true else if lim + hys ≤ v then false else old

/-- RATE and DEVIATION by DIR (R171): 0 both, 1 rising or positive, 2 falling or negative. -/
def evalDir (x : Point) (old : Bool) (v : Rat) : Bool :=
  let lim := f32Rat x.lim
  let hys := f32Rat x.hys
  if x.dir = 2 then (if v < -lim then true else if -lim + hys ≤ v then false else old)
  else
    let v := if x.dir = 0 then (if v < 0 then -v else v) else v
    if lim < v then true else if v ≤ lim - hys then false else old

/-- A span of ns as seconds. -/
def secs (ns : Nat) : Rat := mkRat ns 1000000000

/-- RATE at a usable sample (R173): against the newest baseline at least ARG old; without one the raw condition is cleared. -/
def evalRate (x : Point) (t : Nat) (v : Rat) : Bool :=
  match (x.base.reverse.find? fun b => f32Rat x.arg ≤ secs (t - b.1) && decide (b.1 < t)) with
  | none => false
  | some b => match realOf b.2 with
    | none => x.raw
    | some vb => evalDir x x.raw ((v - vb) / secs (t - b.1))

/-- Baselines after a usable sample (R173): 64, spaced at least ARG / 64. -/
def pushBase (x : Point) (t : Nat) (v : Word) : List (Nat × Word) :=
  match x.base.getLast? with
  | some b => if f32Rat x.arg / 64 ≤ secs (t - b.1) then (x.base ++ [(t, v)]).drop (x.base.length + 1 - 64) else x.base
  | none => [(t, v)]

/-- The sample of B that pairs with a sample of A (R174). -/
def pairB (x : Point) (t : Nat) : Option (Nat × Word) := x.lastB.reverse.find? fun b => decide (b.1 ≤ t)

/-- The value a usable sample gives the raw condition of a point without a vote (R171). -/
def evalSample (x : Point) (m : Sample) (disc : Bool) : Bool :=
  match realOf m.value with
  | none => x.raw
  | some v =>
    match x.ctype with
    | 0 => evalLimit x x.raw v
    | 1 => evalRate x m.time v
    | 2 => match pairB x m.time with
      | none => x.raw
      | some b => match realOf b.2 with
        | none => x.raw
        | some vb => if secs (m.time - b.1) ≤ f32Rat x.arg then evalDir x x.raw (v - vb) else x.raw
    | 3 => (v ≠ 0 : Bool) == x.digState
    | 6 => disc
    | _ => x.raw

/-! ### Stale timeouts (R175) -/

/-- Nominal sample period of a source in ns (R175). -/
def State.nominal (s : State) : Nat × Nat × Nat → Nat
  | (1, 0, g) => if (s.chan g).cfg.kind = 8 then 833334 else s.samplePeriod g
  | (2, 0, g) => s.dchPeriod g
  | (3, _, _) => s.prg.period
  | (5, _, _) => 100000000
  | (k, n, g) => Config.peerPeriod n k g

/-- The longest nominal period of a derived slot's operands, or that of any other source. -/
def State.period (s : State) (k : Nat × Nat × Nat) : Nat :=
  if k.1 = 4 then
    match tget none s.alm.derived k.2.2 with
    | some d => (d.operands.map s.nominal).foldl max 0
    | none => 0
  else s.nominal k

def autoTimeout (period : Nat) : Nat := 3 * period + 100000000

/-- Stale timeout of a point; of a voting point by the longer period of its two sources. -/
def State.staleAfter (s : State) (x : Point) : Nat :=
  if x.timeout ≠ 0 then x.timeout
  else autoTimeout (if x.vote = 0 then s.period x.srcA else max (s.period x.srcA) (s.period x.srcB))

/-- A repeated sample of the POINT sources of this node is due (R175). -/
def State.pointsDue (s : State) : Bool := decide (s.alm.pointAt + 100000000 ≤ s.now)

/-- FAULT sources never go stale; a POINT source of this node not before its repeated sample, where that is due (R175). -/
def State.canStale (s : State) (x : Point) : Bool :=
  x.srcKind ≠ 0 && x.srcKind ≠ 6 && !(x.srcKind = 5 && x.srcA.2.1 = 0 && s.pointsDue)

/-- Every point that is a source delivers its condition state, 100 ms after it last did (R175). The repetition is one for all points and
runs beside the samples at each change: DESIGN CHOICE (log 104). -/
def repeatPoints (s : State) : State :=
  if !s.pointsDue then s
  else (s.alm.points.map Prod.fst).foldl (fun s p => announce p s) { s with alm := { s.alm with pointAt := s.now } }

/-- A usable sample ends the stale state (R175), and a changed delay or timeout applies from it (R178). -/
def freshen (p : Nat) (s : State) : State := s.setPoint p { s.point p with stale := false, seen := s.now, before := none }

/-- A point goes stale (R175): value held, delays cancelled; QUALITY acts on the mark (R172). -/
def goStale (p : Nat) (s : State) : State :=
  let x := s.point p
  let s := s.setPoint p { x with stale := true, run := none, runOff := 0 }
  if x.ctype = 4 then setRaw p s.now ((x.sqw.toNat ||| 0x80) &&& x.qmask ≠ 0) s else s

/-! ### Votes (R179, R180) -/

/-- One instant of a voting point with the usable samples of its sides. -/
def evalVote (p t : Nat) (a b : Option Sample) (s : State) : State :=
  match a, b with
  | none, none => s
  | _, _ =>
    let s := freshen p s
    let x := s.point p
    let val := fun (m : Sample) => (realOf m.value).getD 0
    let side := fun (old : Bool) (m : Option Sample) => match m with
      | none => old
      | some m => if x.ctype = 0 then evalLimit x old (val m) else (val m ≠ 0 : Bool) == x.digState
    let rawA := side x.rawA a
    let rawB := side x.rawB b
    let one := a.isNone || b.isNone
    let mean : Rat := match a, b with
      | some m, some n => (val m + val n) / 2
      | some m, none => val m
      | none, some n => val n
      | none, none => 0
    let raw := match x.vote with
      | 3 => evalLimit x x.raw mean
      | v => if a.isNone then rawB else if b.isNone then rawA else if v = 1 then rawA || rawB else rawA && rawB
    let disc := match a, b with
      | some m, some n =>
        let d := val m - val n
        let d := if d < 0 then -d else d
        if f32Rat x.arg < d then true else if d ≤ f32Rat x.arg - f32Rat x.hys then false else x.disc
      | _, _ => x.disc
    let value := if x.vote = 3 then f32OfRat mean else match a, b with
      | some m, _ => m.value
      | none, some n => n.value
      | _, _ => 0
    let sqw := (match a with | some m => m.sqw | none => 0) ||| (match b with | some n => n.sqw | none => 0)
    let changed := x.disc ≠ disc || x.voteDegraded ≠ one
    let s := s.setPoint p { x with rawA := rawA, rawB := rawB, disc := disc, voteDegraded := one, value := value, sqw := sqw }
    setRaw p t raw (if changed then announce p s else s)

def usableOf (m : Sample) : Option Sample := if m.usable then some m else none

/-- A sample whose partner is absent (R179). -/
def evalLone (p : Nat) (h : Nat × Nat × Sample) (s : State) : State :=
  if h.1 = 0 then evalVote p h.2.2.time (usableOf h.2.2) none s else evalVote p h.2.2.time none (usableOf h.2.2) s

/-- A sample of side 0 (A) or 1 (B) of a voting point; the peer side of a DEGRADED pair is unusable (R381): samples of the other side that are older can find no partner any more. -/
def voteSample (p side : Nat) (m : Sample) (s : State) : State :=
  let x := s.point p
  let m := if s.pairDegraded (if side = 0 then x.srcA else x.srcB) then { m with sqw := m.sqw ||| 0x8000 } else m
  let past := x.halves.filter fun h => h.1 ≠ side && decide (h.2.2.time < m.time)
  let rest := x.halves.filter fun h => !(h.1 ≠ side && decide (h.2.2.time < m.time))
  let s := past.foldl (fun s h => evalLone p h s) (s.setPoint p { x with halves := rest })
  match rest.find? fun h => h.1 ≠ side && h.2.2.time = m.time with
  | some h =>
    let s := s.setPoint p { s.point p with halves := rest.erase h }
    if side = 0 then evalVote p m.time (usableOf m) (usableOf h.2.2) s else evalVote p m.time (usableOf h.2.2) (usableOf m) s
  | none => s.setPoint p { s.point p with halves := rest ++ [(side, s.now, m)] }

/-! ### Masks (R187, R188) -/

/-- A sample of the suppression source (R187). -/
def suppressSample (p : Nat) (m : Sample) (s : State) : State :=
  let x := { s.point p with supKept := false }
  if !m.usable then changePoint p { x with supCond := false, supLeft := none } m.time s.now 0xFF s
  else
    let zero := match realOf m.value with | some v => (v = 0 : Bool) | none => false
    let x : Point := { x with supSeen := some s.now }
    if zero = x.supWhen0 then changePoint p { x with supCond := true, supLeft := none } m.time s.now 0xFF s
    else if !x.supCond then s.setPoint p x
    else
      let left := x.supLeft.getD m.time
      if left + x.supRelease ≤ m.time then changePoint p { x with supCond := false, supLeft := none } m.time s.now 0xFF s
      else s.setPoint p { x with supLeft := some left }

/-- Cause CAL follows the samples of a channel (R188). -/
def calSample (p : Nat) (k : Nat × Nat × Nat) (m : Sample) (s : State) : State :=
  let x := { s.point p with calKept := false }
  let on := m.sqw.getLsbD 6
  if on = x.calib.contains k then s.setPoint p x
  else changePoint p { x with calib := if on then x.calib ++ [k] else x.calib.filter (· ≠ k) } m.time s.now 0xFF s

/-! ### A sample reaches a point -/

/-- A sample of source A of a point without a vote (R171 to R176). -/
def sampleA (p : Nat) (m : Sample) (s : State) : State :=
  let x := s.point p
  let ok := m.usable || x.ctype = 5
  let s := s.setPoint p { x with sqw := m.sqw, value := if ok then m.value else x.value }
  let s := if ok then freshen p s else s
  let x := s.point p
  match x.ctype with
  | 4 => setRaw p m.time (x.sqwNow.toNat &&& x.qmask ≠ 0) s
  | 5 => setRaw p m.time (f32Rat m.value ≠ 0) s
  | _ =>
    if !ok then s
    else
      let disc := if x.srcA.2.1 = 0 then (s.point x.srcA.2.2).discFlag else m.num ≠ 0
      let raw := evalSample x m disc
      let y := if x.ctype = 1 then { x with base := pushBase x m.time m.value }
        else if x.ctype = 2 then { x with lastB := match pairB x m.time with
          | some b => x.lastB.filter fun c => decide (b.1 ≤ c.1)
          | none => x.lastB }
        else x
      setRaw p m.time raw (s.setPoint p y)

/-- A point's derived source has the operand `k`. -/
def State.operandOf (s : State) (src k : Nat × Nat × Nat) : Bool :=
  src.1 = 4 && (match tget none s.alm.derived src.2.2 with | some d => d.operands.contains k | none => false)

/-- Cause CAL stays only for sources that the point still has (R188). -/
def recalibrate (s : State) : State :=
  (s.alm.points.map Prod.fst).foldl (fun s p =>
    let x := s.point p
    let l := x.calib.filter fun k => x.srcA = k || (x.b 5 ≠ 0 && x.srcB = k) || s.operandOf x.srcA k || (x.b 5 ≠ 0 && s.operandOf x.srcB k)
    if l = x.calib then s else changePoint p { x with calib := l } s.now s.now 0xFF s) s

/-- A sample of source `k` acts on point `p`: masks first, then its condition (R184). -/
def feedPoint (k : Nat × Nat × Nat) (m : Sample) (p : Nat) (s : State) : State :=
  let x := s.point p
  let hasB := x.b 5 ≠ 0
  let s := if k.1 = 1 && (x.srcA = k || (hasB && x.srcB = k) || s.operandOf x.srcA k || (hasB && s.operandOf x.srcB k)) then
    calSample p k m s else s
  let s := if x.b 40 ≠ 0 && x.srcS = k then suppressSample p m s else s
  let s := if x.srcA ≠ k then s else if x.vote = 0 then sampleA p m s else voteSample p 0 m s
  if !hasB || x.srcB ≠ k then s
  else if x.vote ≠ 0 then voteSample p 1 m s
  else if m.usable then
    let x := s.point p
    s.setPoint p { x with lastB := x.lastB ++ [(m.time, m.value)] }
  else s

/-! ### Derived slots (R170) -/

def derive (op : Nat) (l : List Word) : Word :=
  let a := l.headD 0
  match op with
  | 0 => l.drop 1 |>.foldl f32Add a
  | 1 => f32Div (l.drop 1 |>.foldl f32Add a) (f32OfRat (l.length : Rat))
  | 2 => l.drop 1 |>.foldl (fun m v => if f32Lt v m then v else m) a
  | 3 => l.drop 1 |>.foldl (fun m v => if f32Lt m v then v else m) a
  | 4 => f32Sub a (l.getD 1 0)
  | 5 => l.drop 1 |>.foldl f32Mul a
  | _ => f32Div a (l.getD 1 0)

/-- A usable sample of an operand computes the slot, unless an operand is unusable or stale. -/
def feedSlot (k : Nat × Nat × Nat) (m : Sample) (n : Nat) (s : State) : State :=
  match tget none s.alm.derived n with
  | none => s
  | some d =>
    if !d.operands.contains k then s
    else
      let d := { d with seen := (d.seen.filter fun e => e.1 ≠ k) ++ [(k, (s.now, m))] }
      let s := { s with alm := { s.alm with derived := tset none s.alm.derived n (some d) } }
      let ops := d.operands.map fun o => (o, (d.seen.find? fun e => e.1 = o).map (·.2))
      let ready := ops.all fun (o, v) => match v with
        | none => false
        | some (at', q) => q.usable && decide (s.now < at' + autoTimeout (s.nominal o))
      if !m.usable || !ready then s
      else
        let used := ops.filterMap (·.2)
        let v := derive d.op (used.map fun e => e.2.value)
        let q := (used.map fun e => e.2.sqw).foldl (· ||| ·) 0
        let t := (used.map fun e => e.2.time).foldl max 0
        publish 4 { src := n, value := v, sqw := if f32Finite v then q else q ||| 0x8000, time := t } s

/-- A sample reaches the engine: every point it feeds, in ascending order, then the derived slots (R170, R172). -/
def engineSample (k : Nat × Nat × Nat) (m : Sample) (s : State) : State :=
  let s := (s.alm.points.map Prod.fst).foldl (fun s p => feedPoint k m p s) s
  (s.alm.derived.map Prod.fst).foldl (fun s n => feedSlot k m n s) s

end Sys2Proof.Machine
end

