-- ==== Sys2Proof/Machine/Faults.lean ====
section
/-! DEFINITION. The 256 fault sources as functions of the state (R181). -/

namespace Sys2Proof.Machine

/-- A supply phase of an island is lost while the island is powered. -/
def phaseLost (powered : Bool) (supply : BitVec 2) : Bool := powered && supply ≠ 3

/-- Instances of each pool (R418): 0 to 7 islands, 0 to 5 digital islands, 14 supplies, 3 processor blocks, memory, rails. -/
def poolInstances (pool : Nat) : Nat := match pool with | 0 | 1 => 8 | 2 => 6 | 3 => 14 | 4 => 3 | _ => 1

/-- Fault source 183 (R437): some pool instance is LAST or SHORT. -/
def State.lastSpare (s : State) : Bool :=
  [0, 1, 2, 4, 5, 6, 7].any (fun p => (List.range (poolInstances p)).any fun i => decide (2 ≤ s.poolNow p i)) ||
  (List.range 14).any fun i =>
    (if i < 8 then (s.aisl i).powered else (s.disl (i - 8)).powered) && decide (2 ≤ s.poolNow 3 i)

/-- Fault source `i` is active now (R181). -/
def State.faultNow (s : State) (i : Nat) : Bool :=
  if i < 64 then (s.chan i).rbFault || (s.out i).compliance || (s.out i).failLatch
  else if i < 160 then
    let x := s.pin i
    x.wireBreak || x.short || x.thermal || x.openOn || x.openOff || x.extSupply || x.latched
  else if i < 168 then
    let x := s.aisl (i - 160)
    x.lost || x.refFault || phaseLost x.powered x.supply
  else if i < 174 then
    let x := s.disl (i - 168)
    x.lost || x.lplus = some 2 || phaseLost x.powered x.supply
  else match i with
  | 174 => !s.rng.port0.up || !s.rng.port1.up || decide (2 ≤ s.rng.state)
  | 175 => s.flows.any fun e => e.2.state = .stalled || e.2.state = .draining
  | 176 => s.mod.debug ≠ .closed && s.mod.life = .sealed
  | 177 => s.rcd.refused || !s.rcd.overflow.isEmpty
  | 178 => s.dutyInvalid
  | 179 => s.pwr.p1 ≠ .inRange
  | 180 => s.pwr.p2 ≠ .inRange
  | 181 => s.pwr.holdLow || (match s.pwr.holdMf with | some c => decide (c < 1000) | none => false)
  | 182 => s.spr.laneFault.any (·.2)
  | 183 => s.lastSpare
  | 184 => s.rtc.osf
  | 185 => s.sec.live
  | 186 => s.panelFault
  | _ => false

/-- A change of a fault source: record 0x0205, and the points with COND FAULT that name it (R172, R181). -/
def faultChanged (i : Nat) (s : State) : State :=
  let v := s.faultNow i
  if v = tget false s.alm.faults i then s
  else
    let s := { s with alm := { s.alm with faults := tset false s.alm.faults i v } }
    let s := note 0x0205 i (le 1 i ++ le 1 (bit v 0)) s
    publish 6 { src := i, value := boolWord v, sqw := 0, time := s.now } s

end Sys2Proof.Machine
end

