-- ==== Sys2Proof/Machine/Alarm.lean ====
section
/-! DEFINITION. The events and commands of the Alarm Engine (R166 to R204). -/

namespace Sys2Proof.Machine

/-! ### Events -/

/-- ALARM_SAMPLE (R172, R175): the repeated samples of POINT sources where they are due, then the oldest sample on its way to the engine. While ALM is 0 it is dropped (R199); before evaluation has
resumed it waits (R461). -/
def execAlarmSample (dt : Nat) (s : State) : Host.Outcome State Fault Refusal :=
  let s := s.advance dt
  let s := if s.evalOn then repeatPoints s else s
  match s.alm.inbox with
  | [] => .next s
  | (k, n, m) :: rest =>
    let t := { s with alm := { s.alm with inbox := rest } }
    if !s.mode .alm then .next t
    else if !s.evalOn then .next s
    else .next (settleAlarm (engineSample (k, n, m.src) m t))

/-- DELAY_EXPIRY (R176, R177). -/
def execDelayExpiry (dt : Nat) (point : Fin 4096) (s : State) : Host.Outcome State Fault Refusal :=
  let s := s.advance dt
  if !s.evalOn || (s.point point.val).stale && (s.point point.val).ctype ≠ 4 then .next s
  else .next (settleAlarm (checkRun point.val s.now s))

/-- STALE_TIMEOUT (R175, R187): of the point's source, or of its suppression source. -/
def execStaleTimeout (dt : Nat) (point : Fin 4096) (sup : Bool) (s : State) : Host.Outcome State Fault Refusal :=
  let s := s.advance dt
  let p := point.val
  let x := s.point p
  if !s.evalOn then .next s
  else if sup then
    match x.supSeen with
    | some t =>
      if !x.supCond || s.now < t + autoTimeout (s.period x.srcS) || (x.b 40 = 5 && x.srcS.2.1 = 0 && s.pointsDue) then .next s
      else .next (settleAlarm (changePoint p { x with supCond := false, supLeft := none, supKept := false } s.now s.now 0xFF s))
    | none => .next s
  else if !s.canStale x || x.stale || s.now < x.seen + s.staleAfter x then .next s
  else .next (settleAlarm (goStale p s))

/-- VOTE_PARTNER_TIMEOUT (R179): samples that have waited 2 ms for their partner. -/
def execVotePartnerTimeout (dt : Nat) (point : Fin 4096) (s : State) : Host.Outcome State Fault Refusal :=
  let s := s.advance dt
  let p := point.val
  let x := s.point p
  let late := fun (h : Nat × Nat × Sample) => decide (h.2.1 + 2000000 ≤ s.now)
  if !s.evalOn || !x.halves.any late then .next s
  else
    let t := s.setPoint p { x with halves := x.halves.filter fun h => !late h }
    .next (settleAlarm ((x.halves.filter late).foldl (fun s h => evalLone p h s) t))

/-- FAULT_SOURCE_CHANGE (R172, R181). -/
def execFaultSourceChange (dt : Nat) (index : Fin 256) (s : State) : Host.Outcome State Fault Refusal :=
  let s := s.advance dt
  .next (settleAlarm (faultChanged index.val s))

/-- SUPPRESSION_RELEASE (R187). -/
def execSuppressionRelease (dt : Nat) (point : Fin 4096) (s : State) : Host.Outcome State Fault Refusal :=
  let s := s.advance dt
  let p := point.val
  let x := s.point p
  match x.supLeft with
  | none => .next s
  | some t =>
    if !s.evalOn || s.now < t + x.supRelease then .next s
    else .next (settleAlarm (changePoint p { x with supCond := false, supLeft := none } s.now s.now 0xFF s))

/-- SILENCE_EXPIRY (R183): SIL_END. -/
def execSilenceExpiry (dt : Nat) (point : Fin 4096) (s : State) : Host.Outcome State Fault Refusal :=
  let s := s.advance dt
  let p := point.val
  let x := s.point p
  match x.silUntil with
  | none => .next s
  | some t =>
    if !s.evalOn || x.state ≠ 4 || s.now < t then .next s
    else .next (settleAlarm (changePoint p { x with seq := seqSilEnd x.seq } s.now s.now 0xFF s))

/-- SHELVE_EXPIRY (R183, R189). -/
def execShelveExpiry (dt : Nat) (point : Fin 4096) (s : State) : Host.Outcome State Fault Refusal :=
  let s := s.advance dt
  let p := point.val
  match (s.point p).shelf with
  | none => .next s
  | some t => if !s.evalOn || s.now < t then .next s else .next (settleAlarm (unshelve p s.now s))

/-- ESCALATION_STEP_DUE (R194, R197): the next step of a point. -/
def execEscalationStepDue (dt : Nat) (point : Fin 4096) (s : State) : Host.Outcome State Fault Refusal :=
  let s := s.advance dt
  let p := point.val
  let x := s.point p
  let c := s.chain x.chain
  let blocked := (x.sim && !s.alm.simCalls) || x.caution || decide (15 < x.chain) || c.t1 = 0 || decide (x.category < c.callMin)
  match x.tU with
  | none => .next s
  | some t =>
    let next := if x.step = 1 then some (2, c.t1) else if x.step = 2 then some (3, c.t2) else none
    match next with
    | none => .next s
    | some (k, d) =>
      if !s.evalOn || !x.unack || blocked || s.now < t + x.escOff + 1000000000 * d then .next s
      else .next (settleAlarm (stepRecord p k (s.setPoint p { x with step := k })))

/-- A chain's pin stands at 1 (R195). -/
def State.pinHigh (s : State) (g : Option Nat) : Bool :=
  match g with
  | some g => ((s.pin g).cfg.mode = 1 || (s.pin g).cfg.mode = 2) && (s.pin g).state
  | none => false

/-- ACK_PIN_EDGE (R195): an accepted rising edge of the chain's ACK pin. -/
def execAckPinEdge (dt : Nat) (chain : Fin 16) (s : State) : Host.Outcome State Fault Refusal :=
  let s := s.advance dt
  if !s.evalOn || !s.pinHigh (s.chain chain.val).ack then .next s
  else .next (settleAlarm (overPoints (fun p s => ackPoint p 0xFF s) (s.scope 2 chain.val) s).2)

/-- SILENCE_PIN_EDGE (R195). -/
def execSilencePinEdge (dt : Nat) (chain : Fin 16) (s : State) : Host.Outcome State Fault Refusal :=
  let s := s.advance dt
  if !s.evalOn || !s.pinHigh (s.chain chain.val).silence then .next s
  else .next (settleAlarm (overPoints silencePoint (s.scope 2 chain.val) s).2)

/-- Record 0x0204 (R196, R202). -/
def dutyRecord (old : Option Nat) (s : State) : State :=
  let new := s.alm.cabin.getD 0xF
  note 0x0204 new (le 1 new ++ le 1 (old.getD 0xF) ++ le 1 s.alm.dsrc ++ le 1 (bit s.dutyInvalid 0)) s

/-- Instant since which the selector's reading has not changed: the last accepted transition of its pins, their last change between usable
and unusable, and the last CALL_CONFIGURE of the selector. -/
def State.selMoved (s : State) : Nat := (s.selPins.map fun g => max (s.pin g).transAt (s.pin g).usableAt).foldl max s.alm.selAt

/-- DUTY_SELECTOR_STABLE (R196): a reading stable for 1 s. -/
def execDutySelectorStable (dt : Nat) (s : State) : Host.Outcome State Fault Refusal :=
  let s := s.advance dt
  match s.selReading with
  | none => .next s
  | some c =>
    if !s.evalOn || s.now < s.selMoved + 1000000000 || (s.alm.cabin = some c && !s.alm.selInvalid) then .next s
    else
      let old := s.alm.cabin
      .next (settleAlarm (dutyRecord old { s with alm := { s.alm with cabin := some c, selInvalid := false } }))

/-- DUTY_SELECTOR_INVALID (R196): a reading invalid for 1 s. -/
def execDutySelectorInvalid (dt : Nat) (s : State) : Host.Outcome State Fault Refusal :=
  let s := s.advance dt
  if !s.evalOn || s.alm.dsrc = 0 || s.selReading.isSome || s.alm.selInvalid || s.now < s.selMoved + 1000000000 then .next s
  else .next (settleAlarm (dutyRecord s.alm.cabin { s with alm := { s.alm with selInvalid := true } }))

/-- FIRST_OUT_DECIDE (R193): FO_WIN after the key. -/
def execFirstOutDecide (dt : Nat) (group : Fin 256) (s : State) : Host.Outcome State Fault Refusal :=
  let s := s.advance dt
  let g := group.val
  let x := s.group g
  if !s.evalOn || !x.provisional || s.now ≤ x.key + 1000000 * x.foWin then .next s
  else
    let s := s.setGroup g { x with provisional := false, foValid := true, armed := false }
    let s := note 0x0202 x.foPoint (le 1 g ++ zeros 1 ++ le 2 x.foPoint ++ le 8 x.key) s
    .next (if s.quiet g then s.setGroup g { s.group g with armed := true, foValid := false } else s)

/-- REFLASH_END (R192). -/
def execReflashEnd (dt : Nat) (group : Fin 256) (s : State) : Host.Outcome State Fault Refusal :=
  let s := s.advance dt
  let x := s.group group.val
  match x.flashEnd with
  | none => .next s
  | some t => if s.now < t then .next s else .next (settleAlarm (s.setGroup group.val { x with flashEnd := none }))

/-! ### POINT_CONFIGURE (R166 to R171, R178, R179, R204) -/

/-- Index space and peers of a source kind (R168). -/
def sourceOk (kind node idx : Nat) : Bool :=
  decide (node ≤ 32) &&
  match kind with
  | 1 => decide (idx < 64)
  | 2 => decide (64 ≤ idx ∧ idx < 160)
  | 3 => decide (idx < 16384) && node = 0
  | 4 => decide (idx < 256) && node = 0
  | 5 => decide (idx < 4096)
  | 6 => decide (idx < 256)
  | _ => false

/-- What a DCH source delivers (R168): 0 a level, 1 a count or frequency, 2 unknown. -/
def State.dchShape (s : State) (node g : Nat) : Nat :=
  if node ≠ 0 then 2 else match (s.pin g).cfg.mode with | 1 | 2 | 5 => 0 | 3 | 4 => 1 | _ => 2

/-- Type of a program variable, where an image is loaded (R168). -/
def State.varType (s : State) (v : Nat) : Option Nat :=
  match s.image with | some i => if v < i.vars.length then some (i.typ v) else none | none => none

/-- The source suits the condition (R168, R171). -/
def State.suits (s : State) (cond : Nat) (k : Nat × Nat × Nat) : Bool :=
  let notTime := k.1 ≠ 3 || s.varType k.2.2 ≠ some 3
  match cond with
  | 0 | 1 | 2 =>
    (k.1 = 1 || k.1 = 4 || k.1 = 3 || (k.1 = 2 && s.dchShape k.2.1 k.2.2 ≠ 0)) && notTime
  | 3 => k.1 = 5 || (k.1 = 2 && s.dchShape k.2.1 k.2.2 ≠ 1) ||
      (k.1 = 3 && (s.varType k.2.2 = none || s.varType k.2.2 = some 0))
  | 4 => decide (1 ≤ k.1 ∧ k.1 ≤ 4) && notTime
  | 5 => k.1 = 6
  | _ => k.1 = 5 && (k.2.1 ≠ 0 || (s.point k.2.2).vote ≠ 0)

/-- Reserved bytes and bits, codes, indices, delays and times of a descriptor (R167, R599): detail 0x0008. They are judged whether the point
has a source or not; the index of a source that is not used is not. -/
def descIndexBad (x : Point) : Bool :=
  let zero := fun (i n : Nat) => (List.range n).all fun k => x.b (i + k) = 0
  let long := fun (i : Nat) => decide (360000 < leAt x.desc i 4)
  let source := fun (kind : Nat) (k : Nat × Nat × Nat) => if kind = 0 then decide (k.2.1 ≤ 32) else sourceOk kind k.2.1 k.2.2
  !zero 50 2 || !zero 56 8 || decide (6 < x.srcKind) || decide (6 < x.ctype) || x.dir = 3 || decide (32 ≤ x.b 9) || decide (3 < x.vote) ||
  x.category = 0 || decide (4 < x.category) || (decide (15 < x.chain) && x.chain ≠ 255) || decide (8 ≤ x.b 15) ||
  !source x.srcKind x.srcA || !source (x.b 5) x.srcB || !(x.b 40 = 0 || x.b 40 = 2 || x.b 40 = 3 || x.b 40 = 5) ||
  !source (x.b 40) x.srcS || long 28 || long 32 || long 36 || long 44 || decide (86400 < x.shelveMax)

/-- Kinds (R171, R179): detail 0x0045. -/
def descKindBad (x : Point) (s : State) : Bool :=
  let needsB := x.ctype = 2 || x.vote ≠ 0
  x.srcKind ≠ 0 &&
  ((needsB != (x.b 5 ≠ 0 : Bool)) || (x.vote ≠ 0 && !(x.ctype = 0 || (x.ctype = 3 && x.vote ≠ 3))) || !s.suits x.ctype x.srcA ||
   (needsB && !s.suits x.ctype x.srcB) || (x.b 40 = 3 && s.varType x.srcS.2.2 = some 3))

/-- Values (R167, R171, R173, R180, R189): detail 0x0049, which is taken for every fault of LIM, HYS, ARG and QMASK. DEDUCED (log 106). -/
def descValueBad (x : Point) : Bool :=
  let lim := f32Rat x.lim
  let hys := f32Rat x.hys
  let arg := f32Rat x.arg
  (!f32Finite x.lim || !f32Finite x.hys || !f32Finite x.arg || decide (hys < 0) || (x.ctype = 0 && x.dir ≠ 0) ||
   ((x.ctype = 1 || x.ctype = 2) && !(decide (0 < lim) && decide (hys < lim))) ||
   (if x.ctype = 1 then decide (x.arg.toNat < 0x3C23D70A) || decide (3600 < arg) || f32Neg x.arg
    else if x.ctype = 2 || x.vote ≠ 0 then !decide (0 < arg) else decide (arg ≠ 0)) ||
   (x.ctype = 4 && x.qmask = 0) || (x.category = 4 && x.shelveMax ≠ 0))

/-- Points other than `p` that a source feeds (R169). -/
def State.fanout (s : State) (p : Nat) (k : Nat × Nat × Nat) : Nat :=
  (s.alm.points.filter fun e => e.1 ≠ p && e.2.srcKind ≠ 0 &&
    (e.2.srcA = k || (e.2.b 5 ≠ 0 && e.2.srcB = k) || (e.2.b 40 ≠ 0 && e.2.srcS = k))).length

/-- Sources a point names. -/
def Point.sources (x : Point) : List (Nat × Nat × Nat) :=
  (if x.srcKind = 0 then [] else [x.srcA]) ++ (if x.b 5 = 0 then [] else [x.srcB]) ++ (if x.b 40 = 0 then [] else [x.srcS])

/-- Sources at peers that are not subscribed to yet (R378). -/
def State.newSubs (s : State) (l : List (Nat × Nat × Nat)) : List (Nat × Nat × Nat) :=
  (l.filter fun k => k.2.1 ≠ 0 && !s.rng.subs.contains k).eraseDups

/-- A SUBSCRIBE frame (R378). -/
def subscribeTo (add : Bool) (k : Nat × Nat × Nat) (s : State) : State :=
  originate 4 2 k.2.1 none (le 1 (bit add 0) ++ le 1 k.1 ++ le 2 k.2.2) s

/-- Sources at peers that points, derived slots and pairs name (R169, R378, R381). -/
def State.peerSources (s : State) : List (Nat × Nat × Nat) :=
  let named := (s.alm.points.flatMap fun e => e.2.sources) ++
    (s.alm.derived.flatMap fun e => match e.2 with | some d => d.operands | none => []) ++
    s.rng.pairs.filterMap fun e => e.2.map fun p => (1, p.peer, p.peerCh)
  (named.filter fun k => k.2.1 ≠ 0).eraseDups

/-- The peers' sources now named are subscribed to, those no longer named are given up (R169, R378). -/
def resubscribe (s : State) : State :=
  let want := s.peerSources
  let old := s.rng.subs
  let s := { s with rng := { s.rng with subs := want } }
  let s := (old.filter fun k => !want.contains k).foldl (fun s k => subscribeTo false k s) s
  (want.filter fun k => !old.contains k).foldl (fun s k => subscribeTo true k s) s

/-- What a point's sequence becomes under a new descriptor: a CAUTION point never is in AU, AS or RU (R185). DESIGN CHOICE (log 105): a point
made CAUTION there goes on as if acknowledged. -/
def Point.asCategory (x : Point) : Point := if x.caution then { x with seq := seqAck x.seq } else x

/-- Escalation of a point whose chain is new (R194): step 1 is taken with the chain, and no step is held without one. -/
def rechain (p : Nat) (s : State) : State :=
  let x := s.point p
  if 15 < x.chain then (if x.step = 0 then s else s.setPoint p { x with step := 0 })
  else if x.unack && x.step = 0 then stepRecord p 1 (s.setPoint p { x with step := 1 })
  else s

/-- A configured point: with new sources, condition or vote it starts afresh (R178); else its state goes on, with new delays and a new
stale timeout from the next usable sample. -/
def configurePoint (p : Nat) (d : List Byte) (s : State) : State :=
  let x := s.point p
  let y := { x with desc := d }
  let same := y.srcA = x.srcA && y.srcB = x.srcB && y.b 5 = x.b 5 && y.ctype = x.ctype && y.vote = x.vote
  let sameSup := y.b 40 = x.b 40 && y.srcS = x.srcS && y.supWhen0 = x.supWhen0
  let kept := if x.onDly = y.onDly && x.offDly = y.offDly && x.staleTo = y.staleTo && x.before.isNone then none
    else some (x.before.getD (x.onDly, x.offDly, x.staleTo))
  let y := if same then { y with before := kept }.asCategory
    else { desc := d, oosCmd := x.oosCmd || x.srcKind = 0, shelf := x.shelf, seen := s.now }
  let y := if sameSup then y else { y with supCond := false, supKept := false, supLeft := none, supSeen := none }
  let y := if y.srcKind = 0 then { desc := d } else y
  resubscribe (armQuiet x.group (rechain p (changePoint p y s.now s.now 0xFF s)))

/-- POINT_CONFIGURE. -/
def doPointConfigure (e : CmdEntry) (_ : Env) (s : State) : Rep × State :=
  let c := e.c
  let p := c.u16 34
  let x := s.point p
  let d := fitBytes 64 c.ext
  let y := { x with desc := d }
  let same := y.srcA = x.srcA && y.srcB = x.srcB && y.b 5 = x.b 5 && y.ctype = x.ctype && y.vote = x.vote
  if !c.restZero [(34, 2)] || 4095 < p || c.paramLen ≠ 64 || c.ext.length ≠ 64 || descIndexBad y then (.bad 8, s)
  else if descKindBad y s then (.bad 0x45, s)
  else if descValueBad y then (.bad 0x49, s)
  else if !same && x.state ≠ 7 then (.bad 0x43, s)
  else if y.sources.any fun k => decide (64 ≤ s.fanout p k) then (.bad 0x4A, s)
  else if y.srcKind ≠ 0 && decide (s.rng.roleNow < 2) && ((s.flow y.flow).state = .closed || (s.flow y.flow).stream) then (.final stAdmission (le 2 0x56), s)
  else match subscriptionsFail s (s.newSubs y.sources) with
  | some f => (.final stAdmission { f with detail := 0x53 : Failure }.payload, s)
  | none => (.ok [], settleAlarm (configurePoint p d s))

/-! ### Other commands (R203, R204) -/

/-- ALM_PT_STATUS (R205). -/
def State.pointStatus (s : State) (p : Nat) : Nat :=
  let x := s.point p
  let g := s.group x.group
  x.state + bit x.cond 3 + bit x.stale 4 + bit x.sim 5 + bit x.voteDegraded 6 + bit x.disc 7 + x.causes * 2 ^ 8 +
  bit x.shelf.isSome 10 + bit (x.oosCmd && x.srcKind ≠ 0) 11 + x.step * 2 ^ 12 +
  bit (x.srcKind ≠ 0 && g.foValid && g.foPoint = p) 14 + x.category % 8 * 2 ^ 16

/-- POINT_READ. -/
def doPointRead (e : CmdEntry) (_ : Env) (s : State) : Rep × State :=
  let c := e.c
  let p := c.u16 34
  let x := s.point p
  if !c.restZero [(34, 3)] || !c.extZero 0 || 4095 < p || 2 < c.u8 36 then (.bad 8, s)
  else match c.u8 36 with
  | 0 => (.ok (le 4 (s.pointStatus p) ++ le 4 x.value.toNat ++ le 2 x.sqwNow.toNat ++ zeros 6 ++ le 8 (x.tU.getD 0) ++
      le 8 (x.shelf.getD 0)), s)
  | 1 => (.ok ((fitBytes 64 x.desc).take 40), s)
  | _ => (.ok ((fitBytes 64 x.desc).drop 40), s)

/-- Range of INDEX by SCOPE; for all, INDEX is unused. -/
def scopeOk (scope index : Nat) : Bool :=
  match scope with | 0 => decide (index < 4096) | 1 => decide (index < 256) | 2 => decide (index < 16) | 3 => true | _ => false

/-- ALARM_ACK (R183, R195, R199, R204). -/
def doAlarmAck (e : CmdEntry) (_ : Env) (s : State) : Rep × State :=
  let c := e.c
  if !c.restZero [(32, 1), (34, 2)] || !c.extZero 0 || !scopeOk (c.u8 32) (c.u16 34) then (.bad 8, s)
  else if !s.mode .alm then (.conflict 0x00A3, s)
  else
    let (n, s) := overPoints (fun p s => ackPoint p c.session s) (s.scope (c.u8 32) (c.u16 34)) s
    (.ok (le 2 (if c.u8 32 = 0 && n = 0 then 0x41 else 0) ++ zeros 2 ++ le 4 n), settleAlarm s)

/-- ALARM_SILENCE (R183, R195, R199, R204). -/
def doAlarmSilence (e : CmdEntry) (_ : Env) (s : State) : Rep × State :=
  let c := e.c
  if !c.restZero [(32, 1), (34, 2)] || !c.extZero 0 || !scopeOk (c.u8 32) (c.u16 34) then (.bad 8, s)
  else if !s.mode .alm then (.conflict 0x00A3, s)
  else
    let (n, s) := overPoints silencePoint (s.scope (c.u8 32) (c.u16 34)) s
    (.ok (zeros 4 ++ le 4 n), settleAlarm s)

/-- ALARM_SHELVE (R183, R189, R204). -/
def doAlarmShelve (e : CmdEntry) (_ : Env) (s : State) : Rep × State :=
  let c := e.c
  let p := c.u16 34
  let d := c.u32 36
  let x := s.point p
  if !c.restZero [(34, 6)] || !c.extZero 0 || 4095 < p then (.bad 8, s)
  else if d = 0 then (.ok [], if x.shelf.isSome then settleAlarm (unshelve p s.now s) else s)
  else if x.state = 7 || x.shelveMax < d then (.bad 0x44, s)
  else (.ok [], settleAlarm (changePoint p { x with shelf := some (s.now + 1000000000 * d) } s.now s.now 0xFF s))

/-- POINT_SERVICE (R166, R183, R190, R204). -/
def doPointService (e : CmdEntry) (_ : Env) (s : State) : Rep × State :=
  let c := e.c
  let p := c.u16 34
  let x := s.point p
  if !c.restZero [(34, 3)] || !c.extZero 0 || 4095 < p || 1 < c.u8 36 then (.bad 8, s)
  else if x.srcKind = 0 then (.ok [], s)
  else
    let y := if c.u8 36 = 0 then { x with oosCmd := true, shelf := none } else { x with oosCmd := false }
    (.ok [], settleAlarm (changePoint p y s.now s.now 0xFF s))

/-- A pin field: a global digital index or 0xFFFF. -/
def pinField (v : Nat) : Option Nat := if v = 0xFFFF then none else some v
def pinFieldOk (v : Nat) : Bool := v = 0xFFFF || decide (64 ≤ v ∧ v < 160)

/-- The Alarm Engine may take a DO pin (R153, R158, R159, R204). -/
def State.canTake (s : State) (v : Nat) : Bool :=
  v = 0xFFFF || ((s.pin v).cfg.mode = 5 && (s.pin v).owner ≠ 2 && s.groupBase v = v)

/-- A DI pin (R204). -/
def State.isInput (s : State) (v : Nat) : Bool := v = 0xFFFF || (s.pin v).cfg.mode = 1 || (s.pin v).cfg.mode = 2

/-- Owners follow the assignments (R159): a pin newly assigned goes to the Alarm Engine, one no longer assigned to the host. -/
def reown (old : List Nat) (s : State) : State :=
  let new := s.alarmPins
  let s := (old.filter fun g => !new.contains g).foldl (fun s g => returnToHost g s) s
  (new.filter fun g => (s.pin g).owner ≠ 3).foldl (fun s g =>
    let s := setOwner g 3 s
    repin g (setCmdState g false s)) s

/-- ALARM_GROUP_CONFIGURE (R192, R193, R204). -/
def doAlarmGroupConfigure (e : CmdEntry) (_ : Env) (s : State) : Rep × State :=
  let c := e.c
  let g := c.u8 33
  let v := c.u16 34
  let f := c.u8 36
  let x := s.group g
  if !c.restZero [(33, 5)] || !c.extZero 0 || !pinFieldOk v || 8 ≤ f || c.u8 37 < 1 || 100 < c.u8 37 then (.bad 8, s)
  else if !s.canTake v then (.bad 0x42, s)
  else
    let old := s.alarmPins
    let s := s.setGroup g { x with
      pin := pinField v, mode := f.testBit 0, reflash := f.testBit 1, foEn := f.testBit 2, foWin := c.u8 37
      flashEnd := if f.testBit 1 then x.flashEnd else none }
    (.ok [], settleAlarm (reown old s))

/-- CHAIN_CONFIGURE (R194, R204). -/
def doChainConfigure (e : CmdEntry) (_ : Env) (s : State) : Rep × State :=
  let c := e.c
  let n := c.u8 33
  let m := c.u8 34
  let t1 := c.u16 36
  let t2 := c.u16 38
  if !c.restZero [(33, 2), (36, 12)] || !c.extZero 0 || 15 < n || m < 1 || 4 < m || !pinFieldOk (c.u16 40) || !pinFieldOk (c.u16 42) ||
      !pinFieldOk (c.u16 44) || !pinFieldOk (c.u16 46) || (t1 ≠ 0 && (decide (t1 < 10) || decide (3600 < t1))) || 7200 < t2 then
    (.bad 8, s)
  else if t1 ≠ 0 && t2 < t1 + 10 then (.bad 0x46, s)
  else if !s.canTake (c.u16 40) || !s.canTake (c.u16 42) || !s.isInput (c.u16 44) || !s.isInput (c.u16 46) then (.bad 0x42, s)
  else
    let old := s.alarmPins
    let s := s.setChain n { callMin := m, t1 := t1, t2 := t2, horn := pinField (c.u16 40), beacon := pinField (c.u16 42)
                            ack := pinField (c.u16 44), silence := pinField (c.u16 46) }
    (.ok [], settleAlarm (reown old s))

/-- CALL_CONFIGURE (R196, R204): a call output, or the duty selector. -/
def doCallConfigure (e : CmdEntry) (_ : Env) (s : State) : Rep × State :=
  let c := e.c
  let t := c.u8 33
  let v := c.u16 36
  let d := c.u8 34
  if !c.restZero [(33, 2), (36, 2)] || !c.extZero 0 || (12 < t && t ≠ 0x80) || !pinFieldOk v || (t = 0x80 && decide (2 < d)) ||
      (t ≠ 0x80 && d ≠ 0) then (.bad 8, s)
  else if t = 0x80 then
    let k := if d = 1 then 4 else if d = 2 then 12 else 0
    let pins := (List.range k).map (v + ·)
    if k ≠ 0 && (v = 0xFFFF || decide (159 < v + k - 1) || pinIsl v ≠ pinIsl (v + k - 1)) then (.bad 0x47, s)
    else if !pins.all (fun g => s.isInput g) then (.bad 0x42, s)
    else
      let changed := s.alm.dsrc ≠ d
      let old := s.alm.cabin
      let was := s.dutyInvalid
      let s := { s with alm := { s.alm with
        dsrc := d, firstPin := if d = 0 then none else some v, cabin := if changed then none else s.alm.cabin, selInvalid := false, selAt := s.now } }
      let s := if s.alm.cabin ≠ old || s.dutyInvalid ≠ was then dutyRecord old s else s
      (.ok [], settleAlarm s)
  else if !s.canTake v then (.bad 0x42, s)
  else
    let old := s.alarmPins
    let s := { s with alm := { s.alm with calls := tset none s.alm.calls t (pinField v) } }
    (.ok [], settleAlarm (reown old s))

/-- DUTY_SET (R196, R204). -/
def doDutySet (e : CmdEntry) (_ : Env) (s : State) : Rep × State :=
  let c := e.c
  if !c.restZero [(33, 1)] || !c.extZero 0 || 11 < c.u8 33 then (.bad 8, s)
  else if s.alm.dsrc ≠ 0 then (.bad 0x47, s)
  else
    let old := s.alm.cabin
    let s := { s with alm := { s.alm with cabin := some (c.u8 33) } }
    (.ok [], settleAlarm (if old = some (c.u8 33) then s else dutyRecord old s))

/-- FIRSTOUT_RESET (R193, R204). -/
def doFirstoutReset (e : CmdEntry) (_ : Env) (s : State) : Rep × State :=
  let c := e.c
  let g := c.u8 33
  if !c.restZero [(33, 1)] || !c.extZero 0 then (.bad 8, s)
  else
    let arm := fun (s : State) (g : Nat) => s.setGroup g { s.group g with armed := true, foValid := false, provisional := false }
    (.ok [], if g = 0xFF then (s.alm.groups.map Prod.fst).foldl arm s else arm s g)

/-- TILE_BIND (R198, R204). -/
def doTileBind (e : CmdEntry) (_ : Env) (s : State) : Rep × State :=
  let c := e.c
  let n := c.u16 34
  let b := c.u8 36
  let i := c.u16 38
  if !c.restZero [(34, 3), (38, 2)] || !c.extZero 0 || 511 < n || 2 < b || (b = 1 && decide (4095 < i)) || (b = 2 && decide (255 < i)) then
    (.bad 8, s)
  else
    let s := { s with alm := { s.alm with tiles := tset (0, 0) s.alm.tiles n (if b = 0 then (0, 0) else (b, i)) } }
    let st := s.tileState n
    let s := if st = tget 0 s.alm.tstate n then s
      else tileHandoff n st { s with alm := { s.alm with tstate := tset 0 s.alm.tstate n st } }
    (.ok [], settleAlarm s)

/-- Operands of a DERIVED_CONFIGURE (R204): kind, node, index. -/
def operandsOf (c : Cmd) : List (Nat × Nat × Nat) :=
  (List.range (c.u8 35)).map fun k => (c.u8 (36 + 4 * k), c.u8 (37 + 4 * k), c.u16 (38 + 4 * k))

/-- DERIVED_CONFIGURE (R168, R170, R204). -/
def doDerivedConfigure (e : CmdEntry) (_ : Env) (s : State) : Rep × State :=
  let c := e.c
  let n := c.u8 33
  let op := c.u8 34
  let k := c.u8 35
  let l := operandsOf c
  if !c.restZero [(33, 3 + 4 * min k 4)] || !c.extZero 0 || 6 < op || k < 2 || 4 < k ||
      ((op = 4 || op = 6) && k ≠ 2) || !l.all (fun o => sourceOk o.1 o.2.1 o.2.2) then (.bad 8, s)
  else if !l.all (fun o => decide (o.1 ≤ 3) && (o.1 ≠ 3 || s.varType o.2.2 ≠ some 3)) then
    (.bad 0x45, s)
  else
    let d : DSlot := { op := op, operands := l }
    match subscriptionsFail s (s.newSubs l) with
    | some f => (.final stAdmission { f with detail := 0x53 : Failure }.payload, s)
    | none => (.ok [], settleAlarm (recalibrate (resubscribe { s with alm := { s.alm with derived := tset none s.alm.derived n (some d) } })))

def execPointConfigure (dt : Nat) (c : Cmd) (env : Env) (s : State) : Host.Outcome State Fault Refusal :=
  runHere .pointConfigure dt c env doPointConfigure s
def execPointRead (dt : Nat) (c : Cmd) (env : Env) (s : State) : Host.Outcome State Fault Refusal :=
  runHere .pointRead dt c env doPointRead s
def execAlarmAck (dt : Nat) (c : Cmd) (env : Env) (s : State) : Host.Outcome State Fault Refusal :=
  runHere .alarmAck dt c env doAlarmAck s
def execAlarmSilence (dt : Nat) (c : Cmd) (env : Env) (s : State) : Host.Outcome State Fault Refusal :=
  runHere .alarmSilence dt c env doAlarmSilence s
def execAlarmShelve (dt : Nat) (c : Cmd) (env : Env) (s : State) : Host.Outcome State Fault Refusal :=
  runHere .alarmShelve dt c env doAlarmShelve s
def execPointService (dt : Nat) (c : Cmd) (env : Env) (s : State) : Host.Outcome State Fault Refusal :=
  runHere .pointService dt c env doPointService s
def execAlarmGroupConfigure (dt : Nat) (c : Cmd) (env : Env) (s : State) : Host.Outcome State Fault Refusal :=
  runHere .alarmGroupConfigure dt c env doAlarmGroupConfigure s
def execChainConfigure (dt : Nat) (c : Cmd) (env : Env) (s : State) : Host.Outcome State Fault Refusal :=
  runHere .chainConfigure dt c env doChainConfigure s
def execCallConfigure (dt : Nat) (c : Cmd) (env : Env) (s : State) : Host.Outcome State Fault Refusal :=
  runHere .callConfigure dt c env doCallConfigure s
def execDutySet (dt : Nat) (c : Cmd) (env : Env) (s : State) : Host.Outcome State Fault Refusal :=
  runHere .dutySet dt c env doDutySet s
def execFirstoutReset (dt : Nat) (c : Cmd) (env : Env) (s : State) : Host.Outcome State Fault Refusal :=
  runHere .firstoutReset dt c env doFirstoutReset s
def execTileBind (dt : Nat) (c : Cmd) (env : Env) (s : State) : Host.Outcome State Fault Refusal :=
  runHere .tileBind dt c env doTileBind s
def execDerivedConfigure (dt : Nat) (c : Cmd) (env : Env) (s : State) : Host.Outcome State Fault Refusal :=
  runHere .derivedConfigure dt c env doDerivedConfigure s

end Sys2Proof.Machine
end

