-- ==== Sys2Proof/Machine/Delivery.lean ====
section
/-! DEFINITION. The Slalom Scheduler at work: deadline-ordered writes (R211), flushing reads and delivery (R210),
HOST_STALLED and DRAINING (R228 to R230), re-arming (R257, R232), closing (R235, R236), head writes (R253),
MSI-X messages (R256), FLOW_READ. -/

namespace Sys2Proof.Machine

/-- Items of a flow still to be written. -/
def Item.unwritten (i : Item) : Bool := i.stage = .queued

/-- Backlog of a flow: items that waited and are not yet written (R229, R230). -/
def Flow.backlog (x : Flow) : List Item := x.items.filter fun i => i.backlog && i.unwritten

/-- Function a flow writes through (R207). -/
def Flow.pf (x : Flow) : Nat := if x.stream then 1 else 0

/-- A closing flow ends: it is CLOSED, and the command that closes it is answered with the items it discarded
(R235, R236). -/
def endClose (f : Nat) (s : State) : State :=
  let x := s.flow f
  match x.closing with
  | none => s
  | some id =>
    let n := x.items.length
    let first := (x.items.head?.map (·.seq)).getD 0
    let last := (x.items.getLast?.map (·.seq)).getD 0
    let s := s.setFlow f { headErr := x.headErr, layoutErr := x.layoutErr, lowSeen := x.lowSeen
                           stallSeen := x.stallSeen }
    let pl := if n = 0 then zeros 12 else le 4 n ++ le 4 first ++ le 4 last
    let s := if n = 0 then s else note 0x0029 f pl s
    completeCmd id stOk pl s

/-- Flow `f` enters HOST_STALLED: its unwritten items wait in the backlog, record 0x0020 goes to F0; a close in
progress discards them instead (R228, R229, R236). -/
def enterStall (f : Nat) (s : State) : State :=
  let x := s.flow f
  if x.state ≠ .opened && x.state ≠ .draining then s
  else
    let wait := x.items.filter fun i => i.unwritten && i.entry.isNone
    let first := (wait.head?.map (·.seq)).getD x.seq
    let s := s.setFlow f { x with
      state := .stalled, stallSeen := true, waited := wait.length, stallLost := 0
      items := x.items.map fun i => if i.unwritten && i.entry.isNone then { i with backlog := true } else i }
    let s := note 0x0020 f (le 4 first) s
    if x.closing.isSome then endClose f s else s

/-- A draining flow whose backlog is empty returns to OPEN with record 0x0021 (R230). -/
def endDrain (f : Nat) (s : State) : State :=
  let x := s.flow f
  if x.state = .draining && x.backlog.isEmpty then
    note 0x0021 f (le 4 x.waited ++ le 4 x.stallLost)
      (s.setFlow f { x with state := .opened, waited := 0, stallLost := 0 })
  else s

/-- A stalled flow whose free entries reach RESERVE drains, once its function can write again (R230, R242). -/
def startDrain (f : Nat) (s : State) : State :=
  let x := s.flow f
  if x.state = .stalled && decide (x.reserve ≤ x.freeEntries) && s.canIssue x.pf then
    endDrain f (s.setFlow f { x with state := .draining })
  else s

/-- Bytes of a block header (R265), with FLAGS of R250. -/
def Block.header (b : Block) (f seq : Nat) (phase : Bool) : List Byte :=
  le 2 0x0340 ++ le 1 f ++ le 1 ((if b.gap then 8 else 0) + (if phase then 128 else 0)) ++ le 4 seq ++ le 8 b.time ++
  le 2 b.chan ++ le 1 2 ++ le 1 b.node ++ le 2 b.words.length ++ le 1 b.rate ++ le 1 b.range ++ le 8 b.wordIndex ++
  le 4 b.gapWords ++ zeros 28

/-- PHASE of entry `n` in a queue of `2^q` entries (R250). -/
def phaseOf (n q : Nat) : Bool := n / 2 ^ q % 2 = 0

/-- The posted writes of one item at entry `n` (R250, R252, R264): a block's words before its header. -/
def itemWrites (x : Flow) (f n : Nat) (i : Item) : List BusOp :=
  let size := if x.stream then x.size else 64
  let addr := x.qbase + n % 2 ^ x.qlog2 * size
  match i.body with
  | .record r => [.write 0 addr (r.bytes f i.seq i.late (phaseOf n x.qlog2))]
  | .block b =>
    [.write 1 (addr + 64) (b.words.flatMap fun w => le 4 w.toNat), .write 1 addr (b.header f i.seq (phaseOf n x.qlog2))]

def setLastAddr (pf addr : Nat) (s : State) : State :=
  { s with host := { s.host with
    lastAddr := if pf = 0 then (addr, s.host.lastAddr.2) else (s.host.lastAddr.1, addr) } }

/-- Item `i` of flow `f` is written to its entry: a new one at FLW_TAIL, one written before to the entry it occupies
(R210, R228, R250). -/
def writeItem (f : Nat) (i : Item) (s : State) : State :=
  let x := s.flow f
  let n := i.entry.getD x.tail
  let addr := x.qbase + n % 2 ^ x.qlog2 * (if x.stream then x.size else 64)
  let x' := { x with
    tail := if i.entry.isNone then (x.tail + 1) % 2 ^ 32 else x.tail
    items := x.items.map fun j => if j.seq = i.seq then
      { j with stage := .written, entry := some n, backlog := false } else j }
  let s := (itemWrites x f n i).foldl State.busOp (s.setFlow f x')
  setLastAddr x.pf addr s

/-- A write decision (R228): no free entry stalls the flow, fewer than RESERVE sets LOW_RESERVE with record 0x0027 at
most once per second. -/
def writeDue (f : Nat) (i : Item) (s : State) : State :=
  let x := s.flow f
  if !s.canIssue x.pf then enterStall f s
  else if i.entry.isSome then endDrain f (writeItem f i s)
  else if x.freeEntries = 0 then enterStall f s
  else
    let free := x.freeEntries
    let s :=
      if free < x.reserve then
        let s := s.setFlow f { x with lowSeen := true }
        if dueAfter x.lowAt 1000000000 s.now then
          note 0x0027 f (le 4 free) (s.setFlow f { s.flow f with lowAt := some s.now })
        else s
      else s
    endDrain f (writeItem f i s)

/-- Write order of R211: deadline, tighter class, lower flow; drain items after all others. -/
structure Cand where
  drain : Bool
  deadline : Nat
  cls : Nat
  flow : Nat
  item : Item
  deriving DecidableEq, Repr

def Cand.before (a b : Cand) : Bool :=
  if a.drain ≠ b.drain then !a.drain
  else if a.deadline ≠ b.deadline then decide (a.deadline < b.deadline)
  else if a.cls ≠ b.cls then decide (a.cls < b.cls)
  else decide (a.flow < b.flow)

/-- The items that may be written next: the first unwritten one of each OPEN or DRAINING flow (R209, R211), and of a stalled flow
whose function can deliver the first one to be written again (R210). Backlog and what follows it while DRAINING are drain items
(R230). -/
def candidates (s : State) : List Cand :=
  s.flows.filterMap fun e =>
    match e.2.items.find? (·.unwritten) with
    | none => none
    | some i =>
      if e.2.state = .opened || e.2.state = .draining || (e.2.state = .stalled && i.entry.isSome && s.canIssue e.2.pf) then
        some ⟨e.2.state = .draining && i.entry.isNone, i.deadline, e.2.cls, e.1, i⟩
      else none

def bestCand : List Cand → Option Cand
  | [] => none
  | c :: r => match bestCand r with
    | none => some c
    | some d => some (if d.before c then d else c)

/-- ITEM_WRITE_DUE. -/
def execItemWriteDue (dt : Nat) (s : State) : Host.Outcome State Fault Refusal :=
  let s := s.advance dt
  .next (match bestCand (candidates s) with
    | none => s
    | some c => writeDue c.flow c.item s)

/-- The pieces of a device reset that a delivered reply triggers are in the reset path; here the items of flow `f` that
satisfy `p` count as delivered: their slots are free, DTAIL follows, MSI-X counts them, LATE_RESET ends with the last
item journaled at the ARM (R210, R231, R232, R256). -/
def deliver (f : Nat) (p : Item → Bool) (s : State) : State :=
  let x := s.flow f
  let done := x.items.filter p
  if done.isEmpty then s
  else
    let rest := x.items.filter fun i => !p i
    let lateOver := x.lateReset && !(rest.any fun i => i.late && decide ((x.lateSeq + 2 ^ 32 - i.seq) % 2 ^ 32 < 2 ^ 31))
    let x := { x with
      items := rest
      dtail := match done.getLast? with | some i => (i.entry.getD x.dtail + 1) % 2 ^ 32 | none => x.dtail
      unannAt := if x.unannounced = 0 then s.now else x.unannAt
      unannounced := x.unannounced + done.length
      lateReset := x.lateReset && !lateOver }
    let s := s.setFlow f x
    if rest.isEmpty && x.closing.isSome then endClose f s else s

/-- Every flow's number. -/
def State.flowNumbers (s : State) : List Nat := s.flows.map Prod.fst

/-- Written and not yet delivered (R210). -/
def Stage.inFlight : Stage → Bool
  | .written | .flushing _ => true
  | _ => false

def Item.inFlight (i : Item) : Bool := i.stage.inFlight

/-- The new flushing read `n` goes out behind what is written and has none (R210). -/
def Stage.behind (n : Nat) (g : Stage) : Stage := if g = .written then .flushing n else g

/-- A flushing read of `n` or later covers it (R210). -/
def Stage.flushedBy (n : Nat) : Stage → Bool
  | .flushing k => decide (k ≤ n)
  | _ => false

/-- FLUSHING_READ_ISSUE: a zero-length read behind every written item of the function, due while any is not delivered (R210, R255). -/
def execFlushingReadIssue (dt : Nat) (pf : Fin 2) (s : State) : Host.Outcome State Fault Refusal :=
  let s := s.advance dt
  let pending := (s.flows.any fun e => e.2.pf == pf.val && e.2.items.any (·.inFlight)) ||
    (pf.val = 0 && s.host.answers.any (·.stage.inFlight))
  if !pending || !s.canIssue pf.val then .next s
  else
    let n := s.host.flushNext
    let s := { s with
      flows := s.flows.map fun (e : Nat × Flow) => if e.2.pf = pf.val then
        (e.1, { e.2 with items := e.2.items.map fun (i : Item) => { i with stage := i.stage.behind n } })
        else e
      host := { s.host with
        answers := if pf.val = 0 then s.host.answers.map fun (a : HostAnswer) => { a with stage := a.stage.behind n } else s.host.answers
        flushNext := n + 1
        flush0 := if pf.val = 0 then s.host.flush0 ++ [n] else s.host.flush0
        flush1 := if pf.val = 1 then s.host.flush1 ++ [n] else s.host.flush1 } }
    .next (s.busOp (.flush pf.val (if pf.val = 0 then s.host.lastAddr.1 else s.host.lastAddr.2)))

/-- Answers delivered by flushing read `n` of PF0: their commands are answered (R300, R490). -/
def answersDelivered (n : Nat) (s : State) : State :=
  let done := s.host.answers.filter (·.stage.flushedBy n)
  done.foldl (fun s a => completeCmd a.cmd stOk a.payload s)
    { s with host := { s.host with answers := s.host.answers.filter fun a => !a.stage.flushedBy n } }

/-- FLUSHING_READ_COMPLETION: the oldest outstanding read of the function returns, and every write before it counts as
delivered (R210, R231, R490). -/
def execFlushingReadCompletion (dt : Nat) (pf : Fin 2) (s : State) : Host.Outcome State Fault Refusal :=
  let s := s.advance dt
  match (if pf.val = 0 then s.host.flush0 else s.host.flush1) with
  | [] => .next s
  | n :: r =>
    let s := { s with host := if pf.val = 0 then { s.host with flush0 := r } else { s.host with flush1 := r } }
    let s := s.flowNumbers.foldl (fun s f => if (s.flow f).pf = pf.val then deliver f (·.stage.flushedBy n) s else s) s
    .next (if pf.val = 0 then answersDelivered n s else s)

/-- The flushing reads of a function are lost: what they covered is written again once the function can deliver
(R210). -/
def loseFlushes (pf : Nat) (s : State) : State :=
  { s with
    flows := s.flows.map fun e => if e.2.pf = pf then
      (e.1, { e.2 with items := e.2.items.map fun i =>
        if i.inFlight || i.entry.isSome then { i with stage := .lost } else i })
      else e
    host := match pf with
      | 0 => { s.host with
          flush0 := [], answers := s.host.answers.map fun a => if a.stage.inFlight then { a with stage := .queued } else a }
      | 1 => { s.host with flush1 := [] }
      | _ => s.host }

/-- Every flow of a function with undelivered items stalls at once (R228, R242, R244). -/
def stallAll (pf : Nat) (s : State) : State :=
  s.flowNumbers.foldl (fun s f =>
    if (s.flow f).pf = pf && !(s.flow f).items.isEmpty then enterStall f s else s) s

/-- The function stops delivering: link down, Bus Master Enable cleared, D3hot (R210, R244). -/
def stopFunction (pf : Nat) (s : State) : State := stallAll pf (loseFlushes pf s)

/-- Vectors pending while the function could issue nothing go out now, if the host has unmasked them (R256, R269). -/
def sendPending (pf : Nat) (s : State) : State :=
  ((s.host.pba.map Prod.fst).filter fun k => k / 1024 = pf && tget false s.host.unmasked k).foldl (fun s k =>
    raiseVector pf (k % 1024) { s with host := { s.host with pba := tset false s.host.pba k false } }) s

/-- Answer bytes not yet delivered go out now (R210, R244, R490). -/
def sendAnswers (pf : Nat) (s : State) : State :=
  if pf ≠ 0 then s
  else
    let again := s.host.answers.filter (·.stage = .queued)
    again.foldl (fun s a => s.busOp (.write 0 a.addr a.bytes))
      { s with host := { s.host with answers := s.host.answers.map fun a => if a.stage = .queued then { a with stage := .written } else a } }

/-- The function can deliver again: waiting answers and messages go out, released entries count as delivered, the other lost items are written again to the
entries they occupy, and stalled flows with room drain (R210, R230, R242). -/
def resumeFunction (pf : Nat) (s : State) : State :=
  if !s.canIssue pf then s
  else s.flowNumbers.foldl (fun s f =>
    let x := s.flow f
    if x.pf ≠ pf then s
    else
      let released := fun (i : Item) => i.stage = .lost &&
        (match i.entry with
         | some n => decide (0 < (x.head + 2 ^ 32 - n) % 2 ^ 32 ∧ (x.head + 2 ^ 32 - n) % 2 ^ 32 ≤ 2 ^ x.qlog2)
         | none => false)
      let s := deliver f released s
      let x := s.flow f
      let s := s.setFlow f { x with items := x.items.map fun i => if i.stage = .lost then { i with stage := .queued } else i }
      startDrain f s) (sendPending pf (sendAnswers pf s))

/-- FLUSH_READ_TIMEOUT: the read is reissued at once, record 0x002A goes to F0 at most once per 10 ms (R268, R270). -/
def execFlushReadTimeout (dt : Nat) (pf : Fin 2) (s : State) : Host.Outcome State Fault Refusal :=
  let s := s.advance dt
  let out := if pf.val = 0 then s.host.flush0 else s.host.flush1
  if out.isEmpty then .next s
  else
    let s := setIrq 5 (setErr 1 s)
    let n := (if pf.val = 0 then s.host.flushTo.1 else s.host.flushTo.2) + 1
    let last := if pf.val = 0 then s.host.flushToAt.1 else s.host.flushToAt.2
    let due := dueAfter last 10000000 s.now
    let keep := if due then 0 else n
    let at' := if due then some s.now else last
    let s := { s with host := { s.host with
      flushRetry := min 65535 (s.host.flushRetry + 1)
      flushTo := if pf.val = 0 then (keep, s.host.flushTo.2) else (s.host.flushTo.1, keep)
      flushToAt := if pf.val = 0 then (at', s.host.flushToAt.2) else (s.host.flushToAt.1, at') } }
    let s := s.busOp (.flush pf.val (if pf.val = 0 then s.host.lastAddr.1 else s.host.lastAddr.2))
    let s := if due then note 0x002A pf.val (le 4 n) s else s
    .next (note 0x0034 pf.val (le 4 0x4000 ++ zeros 16) s)

/-- Record 0x0032 of a refused head write or ARM (R253, R257, R270); only a head write sets the cause bit HEAD_ERR (R253). -/
def headRefused (f value cause journaled : Nat) (s : State) : State :=
  let x := s.flow f
  let s := s.setFlow f { x with headErr := true }
  let s := if cause = 0 then setIrq 4 s else s
  note 0x0032 f (le 4 value ++ le 4 x.head ++ le 4 x.tail ++ le 1 cause ++ zeros 3 ++ le 4 journaled) s

/-- A head write of an open record or stream flow (R253, R257, R263, R264). -/
def headWrite (f v : Nat) (s : State) : State :=
  let x := s.flow f
  if x.state = .closed then s
  else
    let size := 2 ^ x.qlog2
    let ok := decide ((v + 2 ^ 32 - x.head) % 2 ^ 32 ≤ size) &&
      (x.state = .held || decide ((x.tail + 2 ^ 32 - v) % 2 ^ 32 ≤ size))
    if !ok then headRefused f v 0 0 s
    else endDrain f (startDrain f (s.setFlow f { x with head := v }))

/-- A host write to the set of flow `f` reaches it: through PF0, or through PF1 for a stream flow (R244, R263). -/
def State.reachesFlow (s : State) (f : Nat) : Bool := s.reaches 0 || ((s.flow f).stream && s.reaches 1)

/-- FLW_HEAD_WRITE. -/
def execFlwHeadWrite (dt : Nat) (flow : Fin 256) (value : Word) (s : State) : Host.Outcome State Fault Refusal :=
  let s := s.advance dt
  .next (if s.reachesFlow flow.val then headWrite flow.val value.toNat s else s)

/-- A write of 1 to FLW_CTL.ARM (R257, R258, R232): the entries the host has read count as delivered, the journaled rest
is written again with LATE_RESET. IRQ_EN is written with the same access. -/
def armWrite (f : Nat) (v : Word) (s : State) : State :=
  let x := s.flow f
  if x.state = .closed then s
  else
    let x := { x with irqEn := v.getLsbD 1 }
    let s := s.setFlow f x
    if !v.getLsbD 0 || x.state ≠ .held then s
    else if f = 0 && !(decide (9 ≤ x.qlog2 ∧ x.qlog2 ≤ 16 ∧ 256 ≤ x.reserve ∧ x.reserve + 257 ≤ 2 ^ x.qlog2)) then
      s.setFlow f { x with layoutErr := true }
    else
      let j := x.items.filter (·.journaled)
      let n := j.length
      let k := (x.head + 2 ^ 32 - x.dtail) % 2 ^ 32
      if n < k && !decide ((x.dtail + 2 ^ 32 - x.head) % 2 ^ 32 ≤ 2 ^ x.qlog2) then
        headRefused f v.toNat 1 n s
      else
        let skip := if k ≤ n then k else 0
        let gone := (j.take skip).map (·.seq)
        let rest := x.items.filter fun i => !gone.contains i.seq
        let ext := s.now - s.pwr.tR
        let anyLate := rest.any (·.journaled)
        let rest := rest.map fun i => if anyLate then
          { i with late := true, deadline := i.deadline + ext, stage := .queued, entry := none, backlog := false }
          else { i with stage := .queued, entry := none, backlog := false }
        s.setFlow f { x with
          state := .opened
          tail := if k ≤ n then x.head else x.dtail
          dtail := if k ≤ n then x.head else x.dtail
          items := rest
          lateReset := anyLate
          lateExt := if anyLate then ext else 0
          lateSeq := (((rest.filter (·.journaled)).getLast?).map (·.seq)).getD 0
          unannounced := x.unannounced + skip
          unannAt := if x.unannounced = 0 then s.now else x.unannAt }

/-- FLW_CTL_ARM. -/
def execFlwCtlArm (dt : Nat) (flow : Fin 256) (value : Word) (s : State) : Host.Outcome State Fault Refusal :=
  let s := s.advance dt
  .next (if s.reachesFlow flow.val then armWrite flow.val value s else s)

/-- MSIX_MESSAGE_DUE: a count or time threshold of R256 is reached and the flow's vector is raised. -/
def execMsixMessageDue (dt : Nat) (flow : Fin 256) (s : State) : Host.Outcome State Fault Refusal :=
  let s := s.advance dt
  let x := s.flow flow.val
  let due := decide (0 < x.unannounced) &&
    (decide (max 1 x.irqCount ≤ x.unannounced) || decide (x.unannAt + 1000 * x.irqTime ≤ s.now))
  if x.irqEn && due then .next (raiseVector x.pf flow.val (s.setFlow flow.val { x with unannounced := 0 }))
  else .next s

/-- Vectors of each function's MSI-X table (R247). -/
def vectorsOf (pf : Nat) : Nat := if pf = 0 then 264 else if pf = 1 then 256 else 8

/-- The host unmasks a vector; a pending one is sent (R256). -/
def unmaskVector (pf v : Nat) (s : State) : State :=
  let k := 1024 * pf + v
  let s := { s with host := { s.host with unmasked := tset false s.host.unmasked k true } }
  if tget false s.host.pba k then raiseVector pf v { s with host := { s.host with pba := tset false s.host.pba k false } } else s

/-- MSIX_VECTOR_UNMASK. -/
def execMsixVectorUnmask (dt : Nat) (pf : Fin 3) (vector : Fin 264) (s : State) :
    Host.Outcome State Fault Refusal :=
  let s := s.advance dt
  .next (if s.reaches pf.val && decide (vector.val < vectorsOf pf.val) then unmaskVector pf.val vector.val s else s)

/-- The undelivered items of a closing flow are discarded now when it cannot deliver (R236); otherwise the close waits
for delivery (R234). -/
def closeFlow (e : CmdEntry) (f : Nat) (s : State) : Rep × State :=
  let x := s.flow f
  let s := s.setFlow f { x with closing := some e.id }
  if x.items.isEmpty || x.state = .stalled || x.state = .draining || x.state = .held then
    let n := x.items.length
    let first := (x.items.head?.map (·.seq)).getD 0
    let last := (x.items.getLast?.map (·.seq)).getD 0
    let s := s.setFlow f { headErr := x.headErr, layoutErr := x.layoutErr, lowSeen := x.lowSeen
                           stallSeen := x.stallSeen }
    let pl := if n = 0 then zeros 12 else le 4 n ++ le 4 first ++ le 4 last
    let s := if n = 0 then s else note 0x0029 f pl s
    (.ok pl, s)
  else (.wait [f], s)

/-- FLOW_CLOSE (R235, R236). -/
def doFlowClose (e : CmdEntry) (_ : Env) (s : State) : Rep × State :=
  let f := e.c.u8 32
  let x := s.flow f
  if !e.c.restZero [(32, 1)] || !e.c.extZero 0 then (.bad 0x08, s)
  else if f = 0 then (.bad 0x58, s)
  else if x.state = .closed || x.stream || x.closing.isSome then (.bad 0x56, s)
  else if s.alm.points.any fun p => p.2.flow == f then (.bad 0x5B, s)
  else closeFlow e f s

/-- STREAM_CLOSE (R235, R236): the block being filled goes out as a short last block (R265), unless WAVE is 0 (R226). -/
def doStreamClose (e : CmdEntry) (_ : Env) (s : State) : Rep × State :=
  let f := e.c.u8 32
  let x := s.flow f
  if !e.c.restZero [(32, 1)] || !e.c.extZero 0 then (.bad 0x08, s)
  else if f = 0 then (.bad 0x58, s)
  else if x.state = .closed || !x.stream || x.closing.isSome then (.bad 0x56, s)
  else closeFlow e f (if s.mode .wave then endFilling f s else s)

/-- Number of a flow state (R235). -/
def FlowState.num : FlowState → Nat
  | .closed => 0 | .opened => 1 | .stalled => 2 | .draining => 3 | .held => 4



/-- LOW_RESERVE: free entries below RESERVE now (R228). -/
def Flow.low (x : Flow) : Bool := x.state ≠ .closed && decide (x.freeEntries < x.reserve)

/-- FLOW_READ (R235). -/
def doFlowRead (e : CmdEntry) (_ : Env) (s : State) : Rep × State :=
  let x := s.flow (e.c.u8 32)
  if !e.c.restZero [(32, 1)] || !e.c.extZero 0 then (.bad 0x08, s)
  else
    (.ok (le 1 x.state.num ++ le 1 x.cls ++ le 1 x.admitted ++
      le 1 (bit x.demoted 0 + bit x.suspended 1 + bit x.low 2 + bit x.lateReset 3) ++ le 4 x.seq ++
      le 4 x.backlog.length ++ le 4 x.lost ++ le 4 x.refTotal ++ le 4 (x.window / 1000)), s)

def execFlowClose (dt : Nat) (c : Cmd) (env : Env) (s : State) : Host.Outcome State Fault Refusal :=
  runHere .flowClose dt c env doFlowClose s
def execStreamClose (dt : Nat) (c : Cmd) (env : Env) (s : State) : Host.Outcome State Fault Refusal :=
  runHere .streamClose dt c env doStreamClose s
def execFlowRead (dt : Nat) (c : Cmd) (env : Env) (s : State) : Host.Outcome State Fault Refusal :=
  runHere .flowRead dt c env doFlowRead s

/-- STREAM_BLOCK_COMPLETE: the last word of the oldest block is in core and the block is offered to its flow; it is lost while WAVE
is 0 (R206, R226, R229, R267). A block is also complete when the next one has begun. -/
def execStreamBlockComplete (dt : Nat) (flow : Fin 256) (s : State) : Host.Outcome State Fault Refusal :=
  let s := s.advance dt
  let f := flow.val
  let x := s.flow f
  match x.filling with
  | [] => .next s
  | b :: r =>
    if !x.stream || (r.isEmpty && decide (b.words.length < x.blockWords)) then .next s
    else
      let s := s.setFlow f { x with filling := r }
      .next (if s.mode .wave then offerBlock s.now f b s else lostBlock f b s)

end Sys2Proof.Machine
end

