-- ==== Sys2Proof/Machine/HostPort.lean ====
section
/-! DEFINITION. The host port's own events: session doorbells and rings (R260, R261), link changes (R242 to R244, R223),
function controls (R244), L1 (R243) and PCI Express errors (R268). -/

namespace Sys2Proof.Machine

/-- A refused doorbell stops its ring (R261, R270). -/
def doorbellRefused (n v : Nat) (s : State) : State :=
  let r := s.ring n
  let s := s.setRing n { r with stopped := true, dbErr := true }
  note 0x0030 n (le 2 v ++ le 2 r.db ++ le 2 r.head) (setIrq 2 s)

/-- GLB_SES_DB is written (R260, R261): accepted values announce slots; COMMAND_FETCH fetches them one by one. -/
def doorbellWrite (n v : Nat) (s : State) : State :=
  let r := s.ring n
  if !r.en || r.stopped then s
  else if (v + 65536 - r.db) % 65536 ≤ 2 ^ r.rlog2 ∧ (v + 65536 - r.head) % 65536 ≤ 2 ^ r.rlog2 then
    s.setRing n { r with db := v }
  else doorbellRefused n v s

/-- GLB_SES_DB_WRITE. -/
def execGlbSesDbWrite (dt : Nat) (ses : Fin 64) (value : BitVec 16) (s : State) :
    Host.Outcome State Fault Refusal :=
  let s := s.advance dt
  .next (if s.reaches 0 then doorbellWrite ses.val value.toNat s else s)

/-- A write to GLB_SES_CFG (R261, R271): size fields only while EN is 0, out-of-range ones kept with BAD_ACCESS; EN rising
clears HEAD and the doorbell count and restarts a stopped ring. -/
def sesCfgWrite (n : Nat) (w : Word) (s : State) : State :=
  let r := s.ring n
  let en := w.getLsbD 0
  let rl := (w.extractLsb' 4 4).toNat
  let sl := (w.extractLsb' 8 4).toNat
  let rlOk := decide (1 ≤ rl ∧ rl ≤ 8)
  let slOk := decide (7 ≤ sl ∧ sl ≤ 13)
  let r1 := if r.en then r else
    { r with rlog2 := if rlOk then rl else r.rlog2, slotLog2 := if slOk then sl else r.slotLog2 }
  let r2 := if en && !r.en then { r1 with en := true, head := 0, db := 0, stopped := false }
    else { r1 with en := en }
  let s := s.setRing n r2
  if rlOk && slOk then s else badAccess s

/-- SESSION_RING_ENABLE: the write of GLB_SES_CFG that takes EN from 0 to 1. -/
def execSessionRingEnable (dt : Nat) (ses : Fin 64) (value : Word) (s : State) :
    Host.Outcome State Fault Refusal :=
  let s := s.advance dt
  .next (if s.reaches 0 then sesCfgWrite ses.val value s else s)

/-- Record 0x0033 of a change of speed or width (R242, R270). -/
def linkRecord (s : State) : State :=
  note 0x0033 0 (le 1 s.host.speed ++ le 1 s.host.width ++ le 1 s.eff) s

/-- Streams are suspended in falling flow number until test 2 holds (R223). -/
def suspendUntil : List Nat → State → State
  | [], s => s
  | f :: r, s =>
    if test2Holds s then s
    else
      let x := s.flow f
      suspendUntil r (if x.suspended then s else suspendStream 0 f s)

/-- Streams suspended for the width resume in rising flow number while test 2 holds (R223). -/
def resumeWhile : List Nat → State → State
  | [], s => s
  | f :: r, s =>
    let x := s.flow f
    if !x.suspended || x.suspRing then resumeWhile r s
    else
      let s' := s.setFlow f { x with suspended := false }
      if test2Holds s' then resumeWhile r (note 0x0025 f [] s') else s

/-- The streams follow the width trained now (R223). -/
def streamsFollow (s : State) : State :=
  if test2Holds s then resumeWhile s.streams s else suspendUntil s.streams.reverse s

/-- The link now runs at this speed and width, 0 when it is down (R223, R230, R242, R271): a change sets the cause bit LINK and
writes its record; a training counts. -/
def linkChange (trained : Bool) (speed width : Nat) (s : State) : State :=
  let old := s.eff
  let same : Bool := s.host.speed = speed && s.host.width = width
  let s := { s with host := { s.host with
    speed := speed, width := width, inL1 := false
    retrains := if trained then (s.host.retrains + 1) % 65536 else s.host.retrains } }
  let s := if same then s else setIrq 1 s
  let s := if s.eff = 0 then [0, 1, 2].foldl (fun s pf => stopFunction pf s) s else s
  let s := if same then s else linkRecord s
  let s := if trained then streamsFollow s else s
  if old = 0 ∧ s.eff ≠ 0 then [0, 1, 2].foldl (fun s pf => resumeFunction pf s) s else s

/-- LINK_WIDTH_CHANGE. A speed or width of 0 is no trained link. -/
def execLinkWidthChange (dt : Nat) (speed : Fin 4) (width : Fin 5) (s : State) : Host.Outcome State Fault Refusal :=
  let w := if width.val = 3 then 2 else width.val
  .next (if speed.val = 0 ∨ w = 0 then linkChange false 0 0 (s.advance dt) else linkChange true speed.val w (s.advance dt))

/-- LINK_DOWN (R244): configuration space and registers are kept; flows stall; training restarts. -/
def execLinkDown (dt : Nat) (s : State) : Host.Outcome State Fault Refusal :=
  let s := s.advance dt
  .next (if s.host.speed = 0 then s else linkChange false 0 0 s)

/-- BUS_MASTER_DISABLE (R244): the function issues no requests until the bit is set again. -/
def execBusMasterDisable (dt : Nat) (pf : Fin 3) (cleared : Bool) (s : State) : Host.Outcome State Fault Refusal :=
  let s := s.advance dt
  let m := BitVec.ofNat 3 (2 ^ pf.val)
  if cleared then
    .next (stopFunction pf.val { s with host := { s.host with bme := s.host.bme &&& ~~~m } })
  else .next (resumeFunction pf.val { s with host := { s.host with bme := s.host.bme ||| m } })

/-- D3HOT_ENTRY (R244): as Bus Master Enable cleared; the return to D0 keeps all state. -/
def execD3hotEntry (dt : Nat) (pf : Fin 3) (entered : Bool) (s : State) : Host.Outcome State Fault Refusal :=
  let s := s.advance dt
  let m := BitVec.ofNat 3 (2 ^ pf.val)
  if entered then
    .next (stopFunction pf.val { s with host := { s.host with d3hot := s.host.d3hot ||| m } })
  else .next (resumeFunction pf.val { s with host := { s.host with d3hot := s.host.d3hot &&& ~~~m } })

/-- MEMORY_SPACE_DISABLE (R244): requests to the function's BARs complete with Unsupported Request. -/
def execMemorySpaceDisable (dt : Nat) (pf : Fin 3) (cleared : Bool) (s : State) : Host.Outcome State Fault Refusal :=
  let s := s.advance dt
  let m := BitVec.ofNat 3 (2 ^ pf.val)
  .next { s with host := { s.host with mse := if cleared then s.host.mse &&& ~~~m else s.host.mse ||| m } }

/-- L1 entry is withheld (R243): a class A flow is open, or an accepted item is not delivered. -/
def State.l1Blocked (s : State) : Bool :=
  s.flows.any fun e => (e.2.state ≠ .closed && !e.2.stream && e.2.cls == 0) || !e.2.items.isEmpty

/-- L1_ENTRY: the link has been idle for 20 µs; `aspm` is Link Control's ASPM L1 enable (R243). -/
def execL1Entry (dt : Nat) (aspm : Bool) (s : State) : Host.Outcome State Fault Refusal :=
  let s := s.advance dt
  if aspm && !s.l1Blocked && s.host.speed ≠ 0 then .next { s with host := { s.host with inL1 := true } } else .next s

/-- PCIE_CORRECTABLE_ERROR: replayed by the link and counted (R268). -/
def execPcieCorrectableError (dt : Nat) (s : State) : Host.Outcome State Fault Refusal :=
  let s := s.advance dt
  .next { s with host := { s.host with corr := min 65535 (s.host.corr + 1) } }

/-- Record 0x0034 (R270): at once when F0 can take it, else kept until it can. -/
def uncorrRecord (pf status : Nat) (header : List Byte) (s : State) : State :=
  note 0x0034 pf (le 4 status ++ fitBytes 16 header) (setIrq 5 s)

/-- PCIE_UNCORRECTABLE_ERROR (R268). -/
def execPcieUncorrectableError (dt : Nat) (pf : Fin 3) (kind : PcieError) (status : Word) (header : List Byte)
    (s : State) : Host.Outcome State Fault Refusal :=
  let s := s.advance dt
  match kind with
  | .unexpectedCompletion => .next (uncorrRecord pf.val status.toNat header (setErr 3 s))
  | .poisonedWrite => .next (uncorrRecord pf.val status.toNat header (setErr 2 s))
  | .fatalLink =>
    .next (uncorrRecord pf.val status.toNat header (linkChange false 0 0 (setErr 4 s)))
  | .internal =>
    let s := setErr 5 { s with host := { s.host with dead := s.host.dead ||| BitVec.ofNat 3 (2 ^ pf.val) } }
    .next (uncorrRecord pf.val status.toNat header (stopFunction pf.val s))

end Sys2Proof.Machine
end

