-- ==== Sys2Proof/Machine/Rtc.lean ====
section
/-! DEFINITION. The real-time clock (R493 to R509): the calendar, the halt method, shifts, trimming, oscillators, alarms,
discipline from Node Time and leap seconds. -/

namespace Sys2Proof.Machine

def stClockHalted : Nat := 0x0A00

/-! ### The calendar (R493, R494) -/

/-- Leap years among the first `y` years from 2000. -/
def leapsBefore (y : Nat) : Nat := (y + 3) / 4 - (y + 99) / 100 + (y + 399) / 400

def isLeap (y : Nat) : Bool := y % 4 = 0 && (y % 100 ≠ 0 || y % 400 = 0)

/-- Days from 2000-01-01 to the first day of year 2000 + `y`. -/
def daysBefore (y : Nat) : Nat := 365 * y + leapsBefore y

def monthDays (y : Nat) : Nat → Nat
  | 2 => if isLeap y then 29 else 28
  | 4 | 6 | 9 | 11 => 30
  | m => if 1 ≤ m ∧ m ≤ 12 then 31 else 0

/-- Days of the year before a month. -/
def daysToMonth (y m : Nat) : Nat := ((List.range (m - 1)).map fun k => monthDays y (k + 1)).foldl (· + ·) 0

def Cal7.days (c : Cal7) : Nat := daysBefore c.year + daysToMonth c.year c.month + (c.day - 1)

/-- WDAY: 2000-01-01 is a Saturday (R493). -/
def Cal7.wday (c : Cal7) : Nat := (c.days + 5) % 7 + 1

/-- Seconds from 2000-01-01T00:00:00. -/
def Cal7.secs (c : Cal7) : Nat := 86400 * c.days + 3600 * c.hour + 60 * c.min + c.sec

/-- The calendar `n` seconds after 2000-01-01T00:00:00, 400 years being a cycle (R494). -/
def calOf (n : Nat) : Cal7 :=
  let d := n / 86400 % 146097
  let y0 := d / 366
  let y := if daysBefore (y0 + 1) ≤ d then y0 + 1 else y0
  let r := d - daysBefore y
  let m := ((List.range 12).filter fun k => decide (daysToMonth y (k + 1) ≤ r)).length
  { year := y, month := m, day := r - daysToMonth y m + 1, hour := n / 3600 % 24, min := n / 60 % 60, sec := n % 60 }

/-- An impossible date (R497). -/
def Cal7.impossible (c : Cal7) : Bool :=
  c.month = 0 || decide (12 < c.month) || c.day = 0 || decide (monthDays c.year c.month < c.day) || decide (399 < c.year) ||
  decide (23 < c.hour) || decide (59 < c.min) || decide (59 < c.sec)

/-- RTC_TIME and RTC_DATE (R510). -/
def Cal7.timeWord (c : Cal7) : Nat := c.sec + 256 * c.min + 65536 * c.hour + 16777216 * c.wday
def Cal7.dateWord (c : Cal7) : Nat := c.day + 256 * c.month + 65536 * c.year

/-! ### Time of the clock -/

/-- Ticks of 1/32,768 s in `ns`. -/
def ticksOf (ns : Nat) : Nat := 32768 * ns / 1000000000

/-- SUBSEC now; 0 while halted (R493, R496). -/
def State.subsec (s : State) : Nat :=
  match s.rtc.halted with
  | some _ => 0
  | none => min 32767 (s.rtc.sub0 + ticksOf (s.now - s.rtc.subAt))

/-- RTC_HALT_ELAPSED now (R496). -/
def State.haltTicks (s : State) : Nat :=
  match s.rtc.halted with
  | some (t, _) => ticksOf (s.now - t)
  | none => s.rtc.haltElapsed

/-- Fields that a read shows (R496). -/
def State.calShown (s : State) : Cal7 := match s.rtc.halted with | some _ => s.rtc.staged | none => s.rtc.cal

/-- TIM_UTC_LEAP with the leaps applied while the node was off (R507). -/
def State.leapNow (s : State) : Int :=
  s.rtc.latched.foldl (fun n e => if e.1 = 0x0904 then n + (if e.2.1 = 1 then 1 else -1) else n) s.rng.leap

/-- Node Time as the clock gives it at a start without island power (R377). -/
def State.rtcNodeTime (s : State) : Nat := 1000000000 * (((s.rtc.cal.secs : Int) + s.leapNow).toNat) + 1000000000 * s.subsec / 32768

/-- Discipline is active (R506). -/
def State.discActive (s : State) : Bool :=
  s.rtc.discEn && (s.pwr.state = .run) && (s.rng.tState = 2 || (s.rng.isMaster && s.rng.ppsOk))

/-- The core runs and takes records. -/
def State.coreOn (s : State) : Bool :=
  (s.pwr.state = .run || s.pwr.state = .holdover) && (s.pwr.phase = .restored || s.pwr.phase = .acquiring || s.pwr.phase = .evaluating)

/-- A record of the clock, latched while the core is off (R504, R505, R507). -/
def rtcRecord (typ index : Nat) (payload : List Byte) (s : State) : State :=
  if s.coreOn then note typ index payload s
  else { s with rtc := { s.rtc with latched := s.rtc.latched ++ [(typ, index, payload)] } }

/-- Record 0x0903 (R509). -/
def timeRecord (cause : Nat) (ticks : Int) (s : State) : State :=
  rtcRecord 0x0903 0 (le 1 cause ++ zeros 3 ++ le 4 s.rtc.cal.dateWord ++ le 4 s.rtc.cal.timeWord ++
    le 4 (ticks % 4294967296).toNat) s

/-- The snapshot of R495. -/
def latchClock (s : State) : State :=
  { s with rtc := { s.rtc with snap := s.calShown, snapSub := s.subsec, snapNt := s.now } }

/-- A write is ignored (R499). -/
def clockError (cause : Nat) (s : State) : State := { s with rtc := { s.rtc with wErr := true, wErrCause := cause } }

/-- RTC_SUBSEC_READ (R495). -/
def execRtcSubsecRead (dt : Nat) (s : State) : Host.Outcome State Fault Refusal :=
  let s := s.advance dt
  .next (if s.reaches 0 then (latchClock s).reads s.subsec else s)

/-- RTC_SNAP_WRITE (R495). -/
def execRtcSnapWrite (dt : Nat) (_ : Word) (s : State) : Host.Outcome State Fault Refusal :=
  let s := s.advance dt
  .next (if s.reaches 0 then latchClock s else s)

/-! ### Seconds -/

/-- The label after a second (R494, R507): the new fields, whether the century wrapped, and the change of the leap count. -/
def nextLabel (c : Cal7) (leap : Option (Nat × Nat × Nat)) : Cal7 × Bool × Int :=
  let lastMin := c.hour = 23 && c.min = 59 && c.day = monthDays c.year c.month
  let due := match leap with | some (y, m, d) => if y = c.year && m = c.month && lastMin then d else 0 | none => 0
  let roll := calOf (({ c with sec := 59 } : Cal7).secs + 1)
  if due = 1 && c.sec = 59 then ({ c with sec := 60 }, false, 0)
  else if c.sec = 60 then (roll, decide (roll.year < c.year), if due = 1 then 1 else 0)
  else if due = 2 && c.sec = 58 then (roll, decide (roll.year < c.year), -1)
  else
    let r := calOf (c.secs + 1)
    (r, decide (r.year < c.year), 0)

/-- Record 0x0904; the leap count itself moves at once, or at the next start (R507). -/
def leapApplied (d : Int) (s : State) : State :=
  if d = 0 then s
  else
    let s := { s with rtc := { s.rtc with leap := none, leapSeen := true } }
    if s.coreOn then
      let s := { s with rng := { s.rng with leap := s.rng.leap + d } }
      note 0x0904 0 (le 1 (d % 256).toNat ++ zeros 1 ++ le 2 (s.rng.leap % 65536).toNat ++ le 8 s.now) s
    else { s with rtc := { s.rtc with latched := s.rtc.latched ++ [(0x0904, (d % 256).toNat, le 8 s.now)] } }

/-- One second of the calendar (R494, R507). -/
def labelStep (s : State) : State :=
  let (c, wrapped, d) := nextLabel s.rtc.cal s.rtc.leap
  leapApplied d { s with rtc := { s.rtc with
    cal := c, centuryWrap := s.rtc.centuryWrap || wrapped, leapSeen := s.rtc.leapSeen || c.sec = 60 } }

/-- The seconds that passed in a halt (R497): they are no alarm's, but they count in the window. -/
def passSeconds : Nat → State → State
  | 0, s => s
  | n + 1, s => passSeconds n (labelStep { s with rtc := { s.rtc with windowSecs := s.rtc.windowSecs + 1 } })

/-! ### The halt method -/

/-- HALT is written 1 (R496, R499). -/
def haltSet (s : State) : State :=
  if s.rtc.halted.isSome then s
  else if s.discActive then clockError 2 s
  else { s with rtc := { s.rtc with halted := some (s.now, s.subsec), staged := s.rtc.cal, haltElapsed := 0 } }

/-- RTC_HALT_SET. -/
def execRtcHaltSet (dt : Nat) (s : State) : Host.Outcome State Fault Refusal :=
  let s := s.advance dt
  .next (if s.reaches 0 then haltSet s else s)

/-- The clock resumes from the frozen time and the ticks of the halt (R497, R498). -/
def resumeClock (s : State) : State :=
  match s.rtc.halted with
  | none => s
  | some (t, sub) =>
    let k := ticksOf (s.now - t)
    let all := sub + k
    passSeconds (all / 32768) { s with rtc := { s.rtc with sub0 := all % 32768, subAt := s.now, halted := none, haltElapsed := k } }

/-- HALT is written 0 (R496, R497). -/
def haltRelease (s : State) : State :=
  match s.rtc.halted with
  | none => s
  | some (t, _) =>
    let k := ticksOf (s.now - t)
    if s.rtc.staged.impossible then
      let s := resumeClock s
      timeRecord 1 k { s with rtc := { s.rtc with impDate := true } }
    else
      timeRecord 0 k { s with rtc := { s.rtc with
        cal := s.rtc.staged, sub0 := 0, subAt := s.now, secAt := s.now, halted := none, haltElapsed := k
        windowSecs := s.rtc.windowSecs + k / 32768 } }

/-- RTC_HALT_RELEASE. -/
def execRtcHaltRelease (dt : Nat) (s : State) : Host.Outcome State Fault Refusal :=
  let s := s.advance dt
  .next (if s.reaches 0 then haltRelease s else s)

/-- A halt still running ends (R498). -/
def haltAbort (s : State) : State :=
  match s.rtc.halted with
  | none => s
  | some (t, _) =>
    let k := ticksOf (s.now - t)
    let s := resumeClock s
    timeRecord 2 k { s with rtc := { s.rtc with hAbort := true } }

/-- RTC_HALT_TIMEOUT (R498). -/
def execRtcHaltTimeout (dt : Nat) (s : State) : Host.Outcome State Fault Refusal :=
  let s := s.advance dt
  match s.rtc.halted with
  | some (t, _) => if t + 3600000000000 ≤ s.now then .next (haltAbort s) else .next s
  | none => .next s

/-- RTC_DATE or RTC_TIME is written (R496, R499). -/
def calendarWrite (date : Bool) (value : Word) (s : State) : State :=
  let f := fun (lo n : Nat) => (value.extractLsb' lo n).toNat
  if s.rtc.halted.isNone then clockError 1 s
  else
    let x := s.rtc.staged
    let y := if date then { x with day := f 0 5, month := f 8 4, year := f 16 9 }
      else { x with sec := f 0 6, min := f 8 6, hour := f 16 5 }
    { s with rtc := { s.rtc with staged := y } }

/-- RTC_CALENDAR_WRITE. -/
def execRtcCalendarWrite (dt : Nat) (date : Bool) (value : Word) (s : State) : Host.Outcome State Fault Refusal :=
  let s := s.advance dt
  .next (if s.reaches 0 then calendarWrite date value s else s)

/-! ### Shifts -/

/-- RTC_SHIFT is written (R499, R500). -/
def shiftWrite (value : Word) (s : State) : State :=
  let n := (value.extractLsb' 0 15).toNat
  if s.rtc.halted.isSome then clockError 3 s
  else if s.rtc.shift.isSome then clockError 4 s
  else if s.discActive then clockError 5 s
  else if n = 0 ∨ 32735 < n then clockError 6 s
  else { s with rtc := { s.rtc with shift := some (n, value.getLsbD 15, none) } }

/-- RTC_SHIFT_WRITE. -/
def execRtcShiftWrite (dt : Nat) (value : Word) (s : State) : Host.Outcome State Fault Refusal :=
  let s := s.advance dt
  .next (if s.reaches 0 then shiftWrite value s else s)

/-! ### The second boundary -/

/-- An alarm matches the new calendar (R505). -/
def RtcAlarm.hits (a : RtcAlarm) (c : Cal7) : Bool :=
  let v := fun (lo n : Nat) => (a.value.extractLsb' lo n).toNat
  let f := fun (k lo n x : Nat) => !a.mask.getLsbD k || decide (v lo n = x)
  a.mask.getLsbD 6 && f 0 0 6 c.sec && f 1 6 6 c.min && f 2 12 5 c.hour && f 3 17 5 c.day && f 4 22 4 c.month && f 5 26 3 c.wday

/-- Record 0x0901 (R505, R509). -/
def alarmMatch (n : Nat) (s : State) : State :=
  let s := { s with rtc := if n = 0 then { s.rtc with alm0F := true } else { s.rtc with alm1F := true } }
  rtcRecord 0x0901 n (le 8 s.now ++ le 1 (bit (!s.coreOn) 0)) s

/-- Record 0x0902 (R504). -/
def setSource (src : Nat) (s : State) : State :=
  let old := s.rtc.src
  if old = src then s
  else
    let s := { s with rtc := { s.rtc with src := src } }
    rtcRecord 0x0902 0 (le 1 src ++ le 1 old ++ le 1 (bit s.rtc.osf 0)) s

/-- Whole second of Node Time nearest to an instant, and the offset from it in ns (R506). -/
def nearestSecond (t : Nat) : Nat := (t + 500000000) / 1000000000
def secondError (t : Nat) : Int := (t : Int) - (nearestSecond t : Int) * 1000000000

/-- UTC seconds of a whole second of Node Time (R13). -/
def State.utcOf (s : State) (sec : Nat) : Nat := ((sec : Int) - s.rng.leap).toNat

/-- The calendar moves on, or is loaded from Node Time as it stands at the last whole second (R493, R494, R500, R506, R507). -/
def secondBoundary (s : State) : State :=
  let e := secondError s.now
  let s := { s with rtc := { s.rtc with
    windowSecs := s.rtc.windowSecs + 1, eSum := s.rtc.eSum + e, eCount := s.rtc.eCount + 1, subAt := s.now, secAt := s.now } }
  if s.rtc.step && s.discActive then
    let sec := s.now / 1000000000
    timeRecord 3 0 { s with rtc := { s.rtc with
      cal := calOf (s.utcOf sec), sub0 := 0, subAt := 1000000000 * sec, secAt := 1000000000 * sec, step := false, phase := 0 } }
  else labelStep { s with rtc := { s.rtc with sub0 := s.rtc.phase.toNat, phase := 0, step := false } }

/-- A staged shift takes effect (R500). -/
def applyShift (s : State) : State :=
  match s.rtc.shift with
  | none => s
  | some (n, sub, cmd) =>
    let s := { s with rtc := { s.rtc with shift := none, sub0 := if sub then 0 else n } }
    let s := timeRecord 4 (if sub then -(n : Int) else n) s
    match cmd with
    | some id => completeCmd id stOk [] s
    | none => s

/-- RTC_SECOND (R493, R505): a second boundary of the clock; a retard or a delayed tick is part of when it comes. -/
def execRtcSecond (dt : Nat) (s : State) : Host.Outcome State Fault Refusal :=
  let s := s.advance dt
  if s.rtc.halted.isSome then .next s
  else
    let s := applyShift (secondBoundary s)
    let s := if s.rtc.retryOk then setSource 0 { s with rtc := { s.rtc with retryOk := false } } else s
    let s := if s.rtc.alm0.hits s.rtc.cal then alarmMatch 0 s else s
    .next (if s.rtc.alm1.hits s.rtc.cal then alarmMatch 1 s else s)

/-- What was latched while the node was off is reported at the next start (R455, R504, R505, R507). -/
def reportLatched (s : State) : State :=
  let l := s.rtc.latched
  l.foldl (fun s e =>
    if e.1 = 0x0904 then
      let s := { s with rng := { s.rng with leap := s.rng.leap + (if e.2.1 = 1 then 1 else -1) } }
      note 0x0904 0 (le 1 e.2.1 ++ zeros 1 ++ le 2 (s.rng.leap % 65536).toNat ++ e.2.2) s
    else note e.1 e.2.1 e.2.2 s) { s with rtc := { s.rtc with latched := [] } }

/-! ### Trimming and discipline -/

/-- Linear interpolation between the points of a curve, the end points outside it (R501). -/
def curveAt (t : Int) : List (Int × Int) → Rat
  | [] => 0
  | [p] => p.2
  | p :: q :: r =>
    if t ≤ p.1 then p.2
    else if t ≤ q.1 then p.2 + mkRat ((q.2 - p.2) * (t - p.1)) (q.1 - p.1).toNat
    else curveAt t (q :: r)

def State.curve (s : State) : List (Int × Int) := s.rtc.curve.getD Config.factoryCurve

def clampInt (lo hi v : Int) : Int := max lo (min hi v)

/-- Nearest whole number, halves up. -/
def roundRat (r : Rat) : Int := (r + mkRat 1 2).floor

/-- TRIM of a window (R501): c in 0.01 ppm, DISC in steps. -/
def trimOf (c : Rat) (disc : Int) : Int := clampInt (-127) 127 (roundRat (c * mkRat 10 477 + disc))

/-- The judgement at the end of a window (R506, R507). -/
def judgeWindow (s : State) : State :=
  let r := s.rtc
  if !s.discActive || r.leapSeen || r.eCount = 0 then s
  else
    let e := secondError r.secAt
    let differ := r.cal ≠ calOf (s.utcOf (nearestSecond r.secAt))
    let s := if differ || decide (500000000 < e.natAbs) then { s with rtc := { s.rtc with step := true } }
      else if 61000 < e.natAbs then { s with rtc := { s.rtc with phase := roundRat (mkRat (e * 32768) 1000000000) } }
      else s
    { s with rtc := { s.rtc with disc := clampInt (-41) 41 (r.disc - r.eSum.sign) } }

/-- TRIM_WINDOW (R501, R506): a window ends and the next begins; in VIGIL every eighth one is measured. -/
def execTrimWindow (dt : Nat) (temp : Int) (s : State) : Host.Outcome State Fault Refusal :=
  let s := s.advance dt
  if s.rtc.windowSecs < 64 then .next s
  else
    let s := judgeWindow s
    let n := s.rtc.windows + 1
    let measured := s.pwr.state ≠ .vigil || n % 8 = 0
    let t := if measured then temp else s.rtc.temp
    .next { s with rtc := { s.rtc with
      temp := t, windows := n, windowSecs := 0, eSum := 0, eCount := 0, leapSeen := false
      trim := if measured then trimOf (curveAt t s.curve) s.rtc.disc else s.rtc.trim } }

/-! ### Oscillators -/

/-- RTC_OSC_FAIL (R504): `xtal2` is whether the second crystal runs. -/
def execRtcOscFail (dt : Nat) (xtal2 : Bool) (s : State) : Host.Outcome State Fault Refusal :=
  let s := s.advance dt
  if s.rtc.src = 2 then .next s
  else
    let to' := if s.rtc.xtal2En && xtal2 && s.rtc.src ≠ 1 then 1 else 2
    .next (setSource to' { s with rtc := { s.rtc with osf := true } })

/-- SRC_RETRY is written 1 (R504). -/
def srcRetry (s : State) : State := { s with rtc := { s.rtc with retryAt := some s.now } }

/-- RTC_SRC_RETRY. -/
def execRtcSrcRetry (dt : Nat) (s : State) : Host.Outcome State Fault Refusal :=
  let s := s.advance dt
  .next (if s.reaches 0 then srcRetry s else s)

/-- RTC_SRC_RETRY_END (R504): the check has run 1 s; the clock moves back at the next second boundary when it passed. -/
def execRtcSrcRetryEnd (dt : Nat) (ok : Bool) (s : State) : Host.Outcome State Fault Refusal :=
  let s := s.advance dt
  match s.rtc.retryAt with
  | some t =>
    if s.now < t + 1000000000 then .next s
    else .next { s with rtc := { s.rtc with retryAt := none, retryOk := ok && s.rtc.src ≠ 0 } }
  | none => .next s

/-! ### Commands -/

/-- RTC_STATUS (R510). -/
def State.rtcStatus (s : State) : Nat :=
  let r := s.rtc
  bit r.osf 0 + bit r.impDate 1 + bit r.hAbort 2 + bit r.wErr 3 + bit r.centuryWrap 4 + bit r.alm0F 5 + bit r.alm1F 6 +
  bit r.halted.isSome 7 + bit r.shift.isSome 8 + bit s.discActive 9 + bit r.leap.isSome 10 + 2048 * r.src + 8192 * r.wErrCause

/-- RTC_TRIM (R510). -/
def State.rtcTrim (s : State) : Nat :=
  (s.rtc.temp % 65536).toNat + 65536 * (s.rtc.trim % 256).toNat + 16777216 * (s.rtc.disc % 256).toNat

/-- CLOCK_READ (R508). -/
def doClockRead (e : CmdEntry) (_ : Env) (s : State) : Rep × State :=
  if !e.c.restZero [] || !e.c.extZero 0 then (.bad 8, s)
  else
    let s := latchClock s
    let r := s.rtc
    (.ok (le 4 r.snap.timeWord ++ le 4 r.snap.dateWord ++ le 2 r.snapSub ++ zeros 2 ++ le 4 s.rtcStatus ++ le 8 r.snapNt ++
      le 4 s.rtcTrim), s)

/-- CLOCK_SHIFT (R500, R508). -/
def doClockShift (e : CmdEntry) (_ : Env) (s : State) : Rep × State :=
  let w := e.c.u16 32
  let n := w % 32768
  if !e.c.restZero [(32, 2)] || !e.c.extZero 0 then (.bad 8, s)
  else if n = 0 ∨ 32735 < n then (.bad 0xE3, s)
  else if s.rtc.halted.isSome then (.final stClockHalted [], s)
  else if s.rtc.shift.isSome then (.bad 0xE2, s)
  else if s.discActive then (.conflict 0xE4, s)
  else (.wait [], { s with rtc := { s.rtc with shift := some (n, decide (32768 ≤ w), some e.id) } })

/-- CLOCK_ALARM_SET (R505, R508). -/
def doClockAlarmSet (e : CmdEntry) (_ : Env) (s : State) : Rep × State :=
  let c := e.c
  let n := c.u8 32
  let v := c.u32 36
  let m := c.u32 40
  if !c.restZero [(32, 1), (36, 8)] || !c.extZero 0 || 2 ^ 29 ≤ v || 128 ≤ m then (.bad 8, s)
  else if 1 < n then (.bad 8, s)
  else
    let a : RtcAlarm := { value := BitVec.ofNat 32 v, mask := BitVec.ofNat 32 m }
    (.ok [], { s with rtc := if n = 0 then { s.rtc with alm0 := a } else { s.rtc with alm1 := a } })

/-- Seconds from 2000-01-01 to the end of a month (R507). -/
def monthEnd (y m : Nat) : Nat := 86400 * (daysBefore y + daysToMonth y m + monthDays y m)

/-- LEAP_SET (R507, R508). -/
def doLeapSet (e : CmdEntry) (_ : Env) (s : State) : Rep × State :=
  let c := e.c
  let a := c.u8 32
  let d := c.u8 33
  let y := c.u16 34
  let m := c.u8 36
  let due := (((monthEnd (y - 2000) m : Nat) : Int) + s.rng.leap) * 1000000000
  if !c.restZero [(32, 5), (40, 2)] || !c.extZero 0 || 2 < a then (.bad 8, s)
  else if a = 0 && ((d ≠ 1 && d ≠ 255) || decide (y < 2000 ∨ 2399 < y ∨ m = 0 ∨ 12 < m)) then (.bad 8, s)
  else if a = 0 && (s.rtc.leap.isSome || decide (due < (e.start : Int) + 2000000000)) then (.bad 0xE1, s)
  else if a = 2 && s.rtc.leap.isSome then (.bad 0xE1, s)
  else if s.rtc.halted.isSome then (.final stClockHalted [], s)
  else if a = 0 then (.ok [], { s with rtc := { s.rtc with leap := some (y - 2000, m, if d = 1 then 1 else 2) } })
  else if a = 1 then (.ok [], { s with rtc := { s.rtc with leap := none } })
  else (.ok [], { s with rng := { s.rng with leap := leInt c.inl 8 2 } })

/-- Points of a loaded curve (R503). -/
def curvePoints (l : List Byte) : List (Int × Int) := (List.range 32).map fun k => (leInt l (4 * k) 2, leInt l (4 * k + 2) 2)

/-- A curve as bytes (R503). -/
def curveBytes (l : List (Int × Int)) : List Byte := l.flatMap fun p => le 2 (p.1 % 65536).toNat ++ le 2 (p.2 % 65536).toNat

def rising : List Int → Bool
  | a :: b :: r => decide (a < b) && rising (b :: r)
  | _ => true

/-- TRIM_CURVE_LOAD (R503). -/
def doTrimCurveLoad (e : CmdEntry) (_ : Env) (s : State) : Rep × State :=
  let c := e.c
  let ps := curvePoints c.ext
  if !c.restZero [] then (.bad 8, s)
  else if c.paramLen = 0 then (.ok (le 4 (crc32c (curveBytes Config.factoryCurve))), { s with rtc := { s.rtc with curve := none } })
  else if c.paramLen ≠ 128 then (.bad 8, s)
  else if ps.any (fun p => decide (p.1 < -550 ∨ 1250 < p.1 ∨ p.2 < -6000 ∨ 6000 < p.2)) || !rising (ps.map Prod.fst) then (.bad 0xE0, s)
  else (.ok (le 4 (crc32c (fitBytes 128 c.ext))), { s with rtc := { s.rtc with curve := some ps } })

def execClockRead (dt : Nat) (c : Cmd) (env : Env) (s : State) : Host.Outcome State Fault Refusal :=
  runHere .clockRead dt c env doClockRead s
def execClockShift (dt : Nat) (c : Cmd) (env : Env) (s : State) : Host.Outcome State Fault Refusal :=
  runHere .clockShift dt c env doClockShift s
def execClockAlarmSet (dt : Nat) (c : Cmd) (env : Env) (s : State) : Host.Outcome State Fault Refusal :=
  runHere .clockAlarmSet dt c env doClockAlarmSet s
def execLeapSet (dt : Nat) (c : Cmd) (env : Env) (s : State) : Host.Outcome State Fault Refusal :=
  runHere .leapSet dt c env doLeapSet s
def execTrimCurveLoad (dt : Nat) (c : Cmd) (env : Env) (s : State) : Host.Outcome State Fault Refusal :=
  runHere .trimCurveLoad dt c env doTrimCurveLoad s

end Sys2Proof.Machine
end

