-- ==== Sys2Proof/Machine/Mss.lean ====
section
/-! DEFINITION. The management subsystem (R539 to R547, R561, R562): sensors, health log, SMBus, proven set, update windows. -/

namespace Sys2Proof.Machine

/-! ### Health log (R542, R543) -/

/-- An entry of the health log; its TIME comes from the RTC while the core is off. -/
def logEntry (typ source : Nat) (data : List Byte) (s : State) : State :=
  let t := if s.coreOn then s.now else s.rtcNodeTime
  let m := s.mss
  let x : LogEntry := { time := t, hseq := m.hseq, typ := typ, source := source, data := fitBytes 16 data }
  { s with mss := { m with batch := m.batch ++ [x], hseq := (m.hseq + 1) % 2 ^ 32 } }

/-- The entries gathered go to the NAND; a full log loses its oldest (R543). -/
def writeBatch (s : State) : State :=
  let m := s.mss
  let all := m.log ++ m.batch
  let above := all.length - 32768
  { s with mss := { m with log := all.drop above, batch := [], batchAt := s.now, wrapped := m.wrapped || decide (0 < above) } }

/-- LOG_BATCH_WRITE. -/
def execLogBatchWrite (dt : Nat) (s : State) : Host.Outcome State Fault Refusal :=
  let s := s.advance dt
  if s.mss.batch.isEmpty then .next s else .next (raiseVector 2 0 (writeBatch s))

/-- The 32 bytes of an entry. -/
def LogEntry.bytes (x : LogEntry) : List Byte :=
  le 8 x.time ++ le 4 x.hseq ++ le 1 x.typ ++ le 1 x.source ++ zeros 2 ++ fitBytes 16 x.data

/-! ### Sensors (R540, R541) -/

def State.sensor (s : State) (k : Nat) : Sensor := tget {} s.mss.sensors k
def State.setSensor (s : State) (k : Nat) (x : Sensor) : State := { s with mss := { s.mss with sensors := tset {} s.mss.sensors k x } }

/-- A value lies within the limits by 2 % of the limit or one unit, whichever is more (R541). -/
def Sensor.inside (x : Sensor) (v : Int) : Bool :=
  let margin := fun (l d : Int) => decide (1 ≤ d) && decide (2 * (l.natAbs : Int) ≤ 100 * d)
  margin x.lo (v - x.lo) && margin x.hi (x.hi - v)

/-- STATE changes: record 0x0A01, a log entry, PF2 vector 1. -/
def sensorState (k new : Nat) (s : State) : State :=
  let x := s.sensor k
  if x.state = new then s
  else
    let data := le 1 new ++ zeros 1 ++ le 2 (x.value % 65536).toNat
    let s := s.setSensor k { x with state := new, lows := 0, highs := 0, backs := 0 }
    raiseVector 2 1 (logEntry 2 k data (noteSev 2 0x0A01 k 0 data s))

/-- STATE after one more value: three consecutive samples decide; a fault ends with the first value (R541). -/
def Sensor.judge (x : Sensor) : Nat :=
  if 3 ≤ x.lows then 1 else if 3 ≤ x.highs then 2 else if x.state = 3 || 3 ≤ x.backs then 0 else x.state

/-- The sensor belongs to an island that is LOST (R540). -/
def State.sensorLost (s : State) (k : Nat) : Bool :=
  let i := (k - 6) % 14
  decide (6 ≤ k ∧ k < 34) && (if i < 8 then (s.aisl i).lost else (tget {} s.dig.isls (i - 8)).lost)

/-- SENSOR_SAMPLE: none where the sensor gives no value; those of a lost island read as fault (R540). -/
def execSensorSample (dt : Nat) (index : Fin 40) (v : Option (BitVec 16)) (s : State) : Host.Outcome State Fault Refusal :=
  let s := s.advance dt
  let k := index.val
  if !s.mss.ok then .next s
  else match (if s.sensorLost k then none else v) with
    | none => .next (sensorState k 3 s)
    | some b =>
      let x := s.sensor k
      let v := b.toInt
      let x := { x with
        value := v, lows := if v < x.lo then x.lows + 1 else 0, highs := if x.hi < v then x.highs + 1 else 0
        backs := if x.inside v then x.backs + 1 else 0
        min := if x.count = 0 then v else min x.min v, max := if x.count = 0 then v else max x.max v
        sum := x.sum + v, count := x.count + 1 }
      .next (sensorState k x.judge (s.setSensor k x))

/-- LOG_SUMMARY (R542). -/
def execLogSummary (dt : Nat) (s : State) : Host.Outcome State Fault Refusal :=
  let s := s.advance dt
  if !s.mss.ok || s.now < s.mss.summaryAt + 3600000000000 * s.mss.summary then .next s
  else
    let i16 := fun (v : Int) => le 2 (v % 65536).toNat
    let s := (List.range 40).foldl (fun s k =>
      let x := s.sensor k
      let mean : Int := if x.count = 0 then 0 else x.sum.tdiv x.count
      let s := logEntry 1 k (i16 x.min ++ i16 mean ++ i16 x.max ++ le 4 x.count) s
      s.setSensor k { x with min := 0, max := 0, sum := 0, count := 0 }) s
    .next { s with mss := { s.mss with summaryAt := s.now } }

/-- MSS_HEARTBEAT_LOSS (R27, R539): the core restarts the MSS alone. -/
def execMssHeartbeatLoss (dt : Nat) (s : State) : Host.Outcome State Fault Refusal :=
  let s := s.advance dt
  if !s.coreOn then .next s
  else
    let fresh := fun (e : Nat × Sensor) => (e.1, { e.2 with lows := 0, highs := 0, backs := 0 })
    let s := { s with mss := { s.mss with restarts := min 255 (s.mss.restarts + 1), sensors := s.mss.sensors.map fresh } }
    .next (logEntry 7 0 [] (note 0x0A08 0 [] s))

/-- Word of MSS_SENSOR_k (R573). -/
def State.sensorWord (s : State) (k : Nat) : Nat :=
  let x := s.sensor k
  (x.value % 65536).toNat + 65536 * x.state

/-- SENSOR_READ. -/
def doSensorRead (e : CmdEntry) (_ : Env) (s : State) : Rep × State :=
  let c := e.c
  let k := c.u8 32
  let n := c.u8 33
  if !c.restZero [(32, 2)] || !c.extZero 0 || n = 0 || 8 < n || 40 < k + n then (.bad 8, s)
  else (.ok ((List.range n).flatMap fun i => le 4 (s.sensorWord (k + i))), s)

/-- HEALTH_READ. -/
def doHealthRead (e : CmdEntry) (_ : Env) (s : State) : Rep × State :=
  let c := e.c
  let first := c.u32 36
  let addr := c.u64 40
  let len := c.u32 48
  if !c.restZero [(36, 4), (40, 8), (48, 4)] || !c.extZero 0 || addr % 64 ≠ 0 || 1048576 < len then (.bad 8, s)
  else
    let all := s.mss.log ++ s.mss.batch
    let key := seqKey s.mss.hseq
    let out := (all.filter fun x => decide (key first ≤ key x.hseq)).take (len / 32)
    let next := match out.getLast? with | some x => (x.hseq + 1) % 2 ^ 32 | none => s.mss.hseq
    let oldest := match all.head? with | some x => x.hseq | none => s.mss.hseq
    let pl := le 4 out.length ++ le 4 next ++ le 4 oldest
    if out.isEmpty then (.ok pl, s) else answerThrough e.id addr (out.flatMap LogEntry.bytes) pl s

/-! ### SMBus (R547) -/

/-- Power state as SMBus and the restore record code it: 0 RUN, 1 HOLDOVER, 2 DORMANT, 3 VIGIL. -/
def PowerState.num : PowerState → Nat
  | .run => 0 | .holdover => 1 | .dormant => 2 | .vigil => 3

def Lifecycle.num : Lifecycle → Nat
  | .opened => 0 | .commission => 1 | .sealed => 2 | .retired => 3
def DebugLevel.num : DebugLevel → Nat
  | .closed => 0 | .observe => 1 | .full => 2
def Role.num : Role → Nat
  | .standalone => 0 | .master => 1 | .standbyMaster => 2 | .member => 3

/-- Word of MOD_STATE (R417). -/
def State.modState (s : State) : Nat :=
  s.mod.life.num + 4 * DebugLevel.num s.mod.debug + 16 * (if s.pwr.state = .holdover then 1 else 0) + 64 * s.mod.role.num +
  256 * s.mod.profile + 512 * s.mod.profileNext + bit s.mod.dbgEn 10 + 2048 * s.mod.startSrc

/-- SMBUS_STATUS_READ: the layout of the eight bytes is the model's. -/
def execSmbusStatusRead (dt : Nat) (s : State) : Host.Outcome State Fault Refusal :=
  let s := s.advance dt
  if s.pwr.state = .vigil then .next s
  else
    let v := fun k => le 2 ((s.sensor k).value % 65536).toNat
    .next (s.busOp (.smbus (le 1 s.pwr.state.num ++ le 1 (bit s.pwr.nodeOk 0) ++ le 1 s.modState ++ v 0 ++ v 3 ++ zeros 1)))

/-! ### Windows and the proven set -/

/-- UPDATE_WINDOW_SET. -/
def doUpdateWindowSet (e : CmdEntry) (_ : Env) (s : State) : Rep × State :=
  let c := e.c
  let w := c.u8 32
  let a := c.u64 40
  let b := c.u64 48
  let clear := a = 0 && b = 0
  if !c.restZero [(32, 1), (40, 8), (48, 8)] || !c.extZero 0 || 3 < w then (.bad 8, s)
  else if !clear && !(decide (a + 600000000000 ≤ b ∧ b ≤ a + 86400000000000 ∧ s.now < b)) then (.bad 0x106, s)
  else (.ok [], note 0x0A09 w (le 8 a ++ le 8 b) { s with mss := { s.mss with windows := s.mss.windows.set w (a, b) } })

def State.kindOf (s : State) (k : Nat) : ImageKind := s.mss.kinds.getD k {}
def ImageKind.bank (x : ImageKind) (b : Nat) : Option Bank := if b = 0 then x.bankA else x.bankB
def ImageKind.run (x : ImageKind) : Bank := (x.bank x.active).getD {}
def ImageKind.setBank (x : ImageKind) (b : Nat) (v : Option Bank) : ImageKind :=
  if b = 0 then { x with bankA := v } else { x with bankB := v }
def State.setKind (s : State) (k : Nat) (x : ImageKind) : State := { s with mss := { s.mss with kinds := s.mss.kinds.set k x } }

/-- VERSION of KIND 0 to 4 in force. -/
def State.versions (s : State) : List Byte := (List.range 5).flatMap fun k => le 4 (s.kindOf k).run.version

/-- A bank is usable: good, and of SVN at least the rollback counter for firmware (R560). -/
def State.usable (s : State) (k : Nat) (b : Option Bank) : Bool :=
  match b with | some x => x.good && (decide (3 < k) || decide (s.sec.rollback ≤ x.svn)) | none => false

/-- Slot of an island (R559). -/
def IslandImage.at (x : IslandImage) (slot : Nat) : Option Bank := if slot = 0 then x.slotA else x.slotB

/-- KIND of an island's firmware, A0 to A7 then D0 to D5. -/
def islandKind (i : Nat) : Nat := if i < 8 then 2 else 3

/-- Record 0x0A07 (R572). -/
def imageRecord (i : Nat) (kept : Bool) (s : State) : State :=
  let x := tget {} s.mss.islands i
  note 0x0A07 i (le 1 x.slot ++ le 1 (bit kept 0) ++ zeros 2 ++ le 4 ((x.at x.slot).getD {}).version) s

/-! ### A running activation (R567 to R569) -/

def State.dropAct (s : State) (a : Activation) : State := { s with mss := { s.mss with acts := s.mss.acts.filter fun x => x.cmd ≠ a.cmd } }
def State.setAct (s : State) (a : Activation) : State :=
  { s with mss := { s.mss with acts := s.mss.acts.map fun x => if x.cmd = a.cmd then a else x } }

/-- An activation ends with a status. -/
def endActivation (a : Activation) (st : Nat) (payload : List Byte) (s : State) : State :=
  raiseVector 2 2 (endJob a.cmd st payload (s.dropAct a))

/-- An activation has done its work: boot outcome and the islands that kept their image. -/
def finishActivation (a : Activation) (s : State) : State := endActivation a stOk (le 1 s.mss.outcome ++ le 2 a.kept) s

/-- Islands that have not restarted keep their images (R569). -/
def keepIslands (s : State) : State :=
  (s.mss.acts.filter (0 < ·.phase)).foldl (fun s a =>
    let s := a.islands.foldl (fun s i => imageRecord i true s) s
    let b := { a with kept := a.islands.foldl (fun k i => k + 2 ^ i) a.kept, islands := [] }
    if a.phase = 2 then finishActivation b s else s.setAct b) s

/-- Activations that have not begun end when SERV falls (R569). -/
def endWaiting (s : State) : State :=
  (s.mss.acts.filter (·.phase = 0)).foldl (fun s a => endActivation a stModeConflict (le 2 0xA3) s) s

/-- The rollback counter advances to the lowest SVN of the proven firmware; record 0x0A06 names the banks that fall below it
(R562). -/
def advanceRollback (s : State) : State :=
  let new := ((List.range 4).map fun k => (s.kindOf k).run.svn).foldl min 63
  let old := s.sec.rollback
  if new ≤ old then s
  else
    let gone := ((List.range 8).map fun i =>
      match (s.kindOf (i / 2)).bank (i % 2) with
      | some b => bit (decide (old ≤ b.svn ∧ b.svn < new)) i
      | none => 0).foldl (· + ·) 0
    note 0x0A06 new (le 1 old ++ le 1 gone) { s with sec := { s.sec with rollback := new } }

/-- The running set becomes the proven set (R561, R562); `by'` 0 the node itself, 1 the host. -/
def acceptProven (by' : Nat) (s : State) : State :=
  let set := (List.range 5).map fun k => ((s.kindOf k).active, (s.kindOf k).run.version)
  let s := { s with mss := { s.mss with proven := some (set, s.now), trial := none, proposed := false } }
  advanceRollback (note 0x0A05 by' s.versions s)

/-- PROVEN_SET_ACCEPT. -/
def doProvenSetAccept (e : CmdEntry) (_ : Env) (s : State) : Rep × State :=
  if !e.c.restZero [] || !e.c.extZero 0 then (.bad 8, s)
  else if 2 ≤ s.mss.outcome then (.bad 0x10D, s)
  else (.ok [], acceptProven 1 s)

/-- TRIAL_PROVEN (R561): in Delegated the set is proposed. -/
def execTrialProven (dt : Nat) (s : State) : Host.Outcome State Fault Refusal :=
  let s := s.advance dt
  match s.mss.trial with
  | none => .next s
  | some t =>
    if s.now < t + 86400000000000 || s.pwr.state ≠ .run || s.mod.holdSafe ≠ 0 || s.mss.proposed then .next s
    else if s.mod.profile = 0 then .next (acceptProven 0 s)
    else .next (raiseVector 2 3 { s with mss := { s.mss with proposed := true } })

/-! ### Security status -/

/-- Words of SEC_STATUS, SEC_TAMPER and SEC_SESSIONS (R573). -/
def State.secStatus (s : State) : Nat :=
  min 8 s.sec.ownerSlots + bit s.sec.ownerKey.isSome 4 + bit s.sec.storageOk 5 + 64 * s.sec.rollback +
  bit s.rng.key0.isSome 13 + bit s.rng.key1.isSome 14
def State.secTamper (s : State) : Nat := bit s.sec.live 0 + bit s.sec.latched 1 + 256 * s.sec.count
def State.secSessions (s : State) : Nat := ((List.range 64).map fun n => bit (s.sessionOpen n) n).foldl (· + ·) 0

/-- Key check value of a slot (R384, R388); 0 of an empty one. -/
def slotCheck (k : Option Nat) : Nat := if k.isNone then 0 else leAt (Config.ringTag k (zeros 12) (zeros 16)) 0 4

/-- SECURITY_STATUS. -/
def doSecurityStatus (e : CmdEntry) (_ : Env) (s : State) : Rep × State :=
  if !e.c.restZero [] || !e.c.extZero 0 then (.bad 8, s)
  else (.ok (le 4 s.secStatus ++ le 4 s.secTamper ++ le 8 s.secSessions ++ le 4 (slotCheck s.rng.key0) ++ le 4 (slotCheck s.rng.key1)), s)

/-- TAMPER_CLEAR (R555). -/
def doTamperClear (e : CmdEntry) (_ : Env) (s : State) : Rep × State :=
  if !e.c.restZero [] || !e.c.extZero 0 then (.bad 8, s)
  else if s.sec.live then (.bad 0x10A, s)
  else (.ok [], { s with sec := { s.sec with latched := false } })

/-- TAMPER_N_RELEASE (R181, R573). -/
def execTamperNRelease (dt : Nat) (s : State) : Host.Outcome State Fault Refusal :=
  let s := s.advance dt
  .next { s with sec := { s.sec with live := false } }

def execSensorRead (dt : Nat) (c : Cmd) (env : Env) (s : State) : Host.Outcome State Fault Refusal :=
  runHere .sensorRead dt c env doSensorRead s
def execHealthRead (dt : Nat) (c : Cmd) (env : Env) (s : State) : Host.Outcome State Fault Refusal :=
  runHere .healthRead dt c env doHealthRead s
def execUpdateWindowSet (dt : Nat) (c : Cmd) (env : Env) (s : State) : Host.Outcome State Fault Refusal :=
  runHere .updateWindowSet dt c env doUpdateWindowSet s
def execProvenSetAccept (dt : Nat) (c : Cmd) (env : Env) (s : State) : Host.Outcome State Fault Refusal :=
  runHere .provenSetAccept dt c env doProvenSetAccept s
def execSecurityStatus (dt : Nat) (c : Cmd) (env : Env) (s : State) : Host.Outcome State Fault Refusal :=
  runHere .securityStatus dt c env doSecurityStatus s
def execTamperClear (dt : Nat) (c : Cmd) (env : Env) (s : State) : Host.Outcome State Fault Refusal :=
  runHere .tamperClear dt c env doTamperClear s

end Sys2Proof.Machine
end

