-- ==== Sys2Proof/Machine/RingPorts.lean ====
section
/-! DEFINITION. The ring's ports: link words (R358), credits and retry (R359, R361), port states (R362), frames and their tags
(R355 to R357, R382, R383), SFP+ modules (R353) and hop delays (R373). -/

namespace Sys2Proof.Machine

/-! ### Keys (R382, R384) -/

def RingState.key (r : RingState) (slot : Nat) : Option Nat := if slot = 0 then r.key0 else r.key1

/-- Key check value (R384). -/
def keyCheck (k : Option Nat) : Nat := leAt (Config.ringTag k (zeros 12) (zeros 16)) 0 4

/-- The zero key is accepted only in OPEN and COMMISSION (R382). -/
def State.nullKeyOk (s : State) : Bool := s.mod.life = .opened || s.mod.life = .commission

/-- Header bytes of a frame (R355). -/
def frameHeader (f : RingFrame) : List Byte :=
  le 1 (f.cls + 8 * f.typ) ++ le 1 f.src ++ le 1 f.dst ++ le 1 f.hops ++ le 4 f.hopSeq ++ le 2 f.payload.length ++
  le 1 (f.dir + 2 * f.keySlot + bit f.first 2 + bit f.last 3) ++ zeros 1 ++ le 4 f.originSeq

/-- The tag of a frame is right (R382): under the active key, or either one for 10 cycles after a switch (R384); the zero key only while
no ring key is active. -/
def tagOk (k : Nat) (f : RingFrame) (s : State) : Bool :=
  let p := s.port k
  let iv := le 1 p.neighbour ++ le 1 f.dir ++ zeros 2 ++ le 4 p.epoch ++ le 4 f.hopSeq
  let key := s.rng.key f.keySlot
  (f.keySlot = s.rng.keySlot || s.rng.keyGrace.isSome) && (key.isSome || (s.nullKeyOk && (s.rng.key s.rng.keySlot).isNone)) &&
  f.tag = Config.ringTag key iv (frameHeader f ++ fitBytes (max 32 f.payload.length) f.payload)

/-! ### Port state (R362) -/

/-- Record 0x0501 (R386). -/
def portRecord (k : Nat) (up : Bool) (cause : Nat) (s : State) : State :=
  note 0x0501 k (le 1 (bit up 0) ++ le 1 cause ++ le 1 (s.port k).neighbour) s

/-- A port reported down becomes part of the state of the ring (R363). -/
def hearDown (n k detected : Nat) (s : State) : State :=
  let s := if s.rng.downPorts.contains (n, k) then s else { s with rng := { s.rng with downPorts := s.rng.downPorts ++ [(n, k)], laps := 0 } }
  if s.rng.isMaster then declareBreak detected s
  else
    let h := s.brokenHops.length
    if s.rng.roleNow = 0 || h = 0 then s else { s with rng := { s.rng with state := if h = 1 then 2 else 3 } }

/-- No port is up, or the node has no master: ALONE (R363). -/
def ringAlone (s : State) : State :=
  if s.rng.isMaster then setRingState 0 s.now { s with rng := { s.rng with downPorts := [0, 1].map fun k => (s.nodeNo, k), laps := 0 } }
  else { s with rng := { s.rng with state := 0 } }

/-- A port goes down: its retry buffer and the frames it holds are discarded, and the other port carries a RING_EVENT (R362,
R363). -/
def portDown (k cause : Nat) (s : State) : State :=
  let p := s.port k
  if !p.up then
    if p.downCause = cause then s else portRecord k false cause (s.setPort k { p with downCause := cause, alive := false })
  else
    let s := s.setPort k { p with
      up := false, alive := false, downCause := cause, sent := [], waiting := [], owed := [0, 0, 0, 0, 0], nak := false, failed := 0 }
    let s := portRecord k false cause s
    let s := originate 2 2 0 (some (1 - k)) (le 8 s.now ++ le 1 k) s
    if s.rng.port0.up || s.rng.port1.up then (if s.nodeNo = 0 then s else hearDown s.nodeNo k s.now s) else ringAlone s

/-- The cascade role keeps TX_DISABLE low (R403), and the port is enabled with a module present (R353). -/
def State.txDisable (s : State) (k : Nat) : Bool := !(s.port k).en || (s.port k).modAbs || s.mod.role = .standalone

/-- PORT_DOWN (R362): 1 block lock lost, 2 high BER, 8 disabled; loss of signal and retries have rows of their own. -/
def execPortDown (dt : Nat) (port : Fin 2) (cause : Fin 9) (s : State) : Host.Outcome State Fault Refusal :=
  let s := s.advance dt
  let k := port.val
  let p := s.port k
  match cause.val with
  | 1 => .next (portDown k 1 (s.setPort k { p with blockLock := false }))
  | 2 => .next (portDown k 2 (s.setPort k { p with hiBer := true }))
  | 3 => .next (portDown k 3 (s.setPort k { p with los := true }))
  | 8 => if p.en then .next s else .next (portDown k 8 s)
  | _ => .next s

/-- LINK_WORD_TIMEOUT (R362). -/
def execLinkWordTimeout (dt : Nat) (port : Fin 2) (s : State) : Host.Outcome State Fault Refusal :=
  let s := s.advance dt
  let p := s.port port.val
  if p.up && decide (p.wordAt + 10000 ≤ s.now) then .next (portDown port.val 4 s) else .next s

/-- A frame to the neighbour on a port that is not up yet (R362). -/
def sendLinkUp (k epoch : Nat) (s : State) : State :=
  if s.rng.txLost then s else
  let kcv := keyCheck (s.rng.key s.rng.keySlot)
  let q := s.rng.originSeq.getD 0 0
  let f : TxFrame := { cls := 0, typ := 4, src := s.nodeNo, dst := 255, dirs := 2 ^ k, seq := q, payload := le 1 s.nodeNo ++ zeros 3 ++ le 4 kcv ++ le 4 epoch }
  { s with rng := { s.rng with originSeq := s.rng.originSeq.set 0 ((q + 1) % 2 ^ 32), out := s.rng.out ++ [f] } }

/-- PORT_LOCK_STABLE (R362): block lock without high BER for 1 ms; LINK_UP goes out with a new epoch (R383). -/
def execPortLockStable (dt : Nat) (port : Fin 2) (s : State) : Host.Outcome State Fault Refusal :=
  let s := s.advance dt
  let k := port.val
  let p := s.port k
  if s.txDisable k || p.los || p.up || s.pwr.phase = .asserted then .next s
  else
    let (v, s) := s.free
    let e := v % 2 ^ 32
    .next (sendLinkUp k e (s.setPort k { p with blockLock := true, hiBer := false, epoch := e }))

/-- LINK_UP_FRAME (R362, R382, R383): the neighbour's number, key check value and epoch; `dup` when another node present on the
ring carries that number. -/
def execLinkUpFrame (dt : Nat) (port : Fin 2) (node : Fin 33) (kcv : Word) (epoch : Word) (dup : Bool) (s : State) :
    Host.Outcome State Fault Refusal :=
  let s := s.advance dt
  let k := port.val
  let p := s.port k
  let key := s.rng.key s.rng.keySlot
  if s.txDisable k || p.los || !p.blockLock || p.hiBer || s.pwr.phase = .asserted then .next s
  else if dup || node.val = s.nodeNo then .next (portDown k 6 (s.setPort k { p with neighbour := node.val }))
  else if kcv.toNat ≠ keyCheck key || (key.isNone && !s.nullKeyOk) then .next (portDown k 7 (s.setPort k { p with neighbour := node.val }))
  else
    let fresh := !p.up
    let s := s.setPort k { p with
      up := true, alive := true, neighbour := node.val, txEpoch := epoch.toNat, rxSeq := if fresh then 0 else p.rxSeq, txSeq := 0
      sent := [], waiting := [], credit := [128, 736, 736, 736, 736], owed := [0, 0, 0, 0, 0], nak := false, failed := 0, wordAt := s.now
      downCause := if fresh then 0 else p.downCause }
    .next (if fresh then portRecord k true 0 s else s)

/-- LINK_EPOCH_RENEW (R383): before HOP_SEQ reaches 2^31. The model renews in its last 2^20 numbers. -/
def execLinkEpochRenew (dt : Nat) (port : Fin 2) (s : State) : Host.Outcome State Fault Refusal :=
  let s := s.advance dt
  let k := port.val
  let p := s.port k
  if !p.up || p.rxSeq < 2 ^ 31 - 2 ^ 20 then .next s
  else
    let (v, s) := s.free
    let e := v % 2 ^ 32
    .next (sendLinkUp k e (s.setPort k { p with epoch := e, rxSeq := 0 }))

/-! ### Link words (R358) -/

/-- One byte step of CRC-8, polynomial 0x07. -/
def crc8Step (c b : BitVec 8) : BitVec 8 :=
  (List.range 8).foldl (fun (c : BitVec 8) _ => if c.getLsbD 7 then (c <<< 1) ^^^ 0x07#8 else c <<< 1) (c ^^^ b)

/-- CHECK of a link word over bits [47:0], lowest byte first. -/
def linkCheck (w : Nat) : Nat := ((le 6 w).foldl crc8Step 0#8).toNat

/-- The link word of a port (R358). -/
def linkWord (k : Nat) (s : State) : Nat :=
  let p := s.port k
  let c := (p.owed.takeWhile (· = 0)).length % 5
  let w := p.rxSeq % 65536 + bit p.nak 16 + c * 2 ^ 17 + (min 4095 (p.owed.getD c 0)) * 2 ^ 20 + s.nodeNo * 2 ^ 32
  w + linkCheck w * 2 ^ 48

/-- Samples that peers subscribe to go out in SAMPLES frames of at most 85 (R378). -/
def sendSamples (s : State) : State :=
  let l := s.rng.outbox.take 85
  if l.isEmpty then s
  else
    originate 2 0 0 none (l.flatMap fun e => le 2 e.2.1 ++ le 1 e.1 ++ zeros 1 ++ le 4 e.2.2.value.toNat ++ le 2 e.2.2.sqw.toNat ++ zeros 6 ++
      le 8 e.2.2.time) { s with rng := { s.rng with outbox := s.rng.outbox.drop 85 } }

/-- LINK_WORD_SEND (R358, R359): at least every 1 µs, at once after a failed frame. -/
def execLinkWordSend (dt : Nat) (port : Fin 2) (s : State) : Host.Outcome State Fault Refusal :=
  let s := s.advance dt
  let k := port.val
  let p := s.port k
  if !s.canSend k then .next s
  else if !(p.nak || dueAfter p.txWordAt 1000 s.now) then .next s
  else
    let c := (p.owed.takeWhile (· = 0)).length % 5
    let w := linkWord k s
    let s := s.setPort k { p with txWord := BitVec.ofNat 56 w, txWordAt := some s.now, nak := false
                                  owed := p.owed.set c (p.owed.getD c 0 - min 4095 (p.owed.getD c 0)) }
    .next (sendSamples s)

/-- Record 0x0507 sums resends and failed frames, at most once per second (R386). -/
def retrySummary (k resends fails : Nat) (s : State) : State :=
  let p := s.port k
  let p := { p with sumResends := p.sumResends + resends, sumFails := p.sumFails + fails }
  if dueAfter p.sumAt 1000000000 s.now then
    note 0x0507 k (le 4 p.sumResends ++ le 4 p.sumFails) (s.setPort k { p with sumResends := 0, sumFails := 0, sumAt := some s.now })
  else s.setPort k p

/-- Link retry (R361): the oldest unacknowledged frame and all after it are sent again, the oldest at most twice. -/
def retryFrames (k : Nat) (s : State) : State :=
  let p := s.port k
  match p.sent with
  | [] => s
  | (q, c, u, n) :: r =>
    if 2 ≤ n then portDown k 5 s
    else
      retrySummary k p.sent.length 0 (s.setPort k { p with
        sent := (q, c, u, n + 1) :: r, resends := min 65535 (p.resends + p.sent.length) })

/-- LINK_WORD_RECEIVE (R358, R359, R361): frames below ACK leave the retry buffer; credits are added; a NAK resends the frame ACK and
all after it, at most twice. A word whose CHECK fails is discarded. -/
def execLinkWordReceive (dt : Nat) (port : Fin 2) (word : BitVec 56) (s : State) : Host.Outcome State Fault Refusal :=
  let s := s.advance dt
  let k := port.val
  let p := s.port k
  let w := word.toNat
  let low := w % 2 ^ 48
  if !p.up || linkCheck low ≠ w / 2 ^ 48 then .next s
  else
    let ack := low % 65536
    let cls := low / 2 ^ 17 % 8
    let credit := low / 2 ^ 20 % 4096
    let rest := p.sent.dropWhile fun e => e.1 % 65536 ≠ ack
    let rest := if rest.isEmpty && p.txSeq % 65536 ≠ ack then p.sent else rest
    let p := { p with wordAt := s.now, alive := true, sent := rest
                      credit := if cls < 5 then p.credit.set cls (p.credit.getD cls 0 + credit) else p.credit }
    let s := startWaiting k (s.setPort k p)
    .next (if low / 65536 % 2 = 0 then s else retryFrames k s)

/-! ### Frames -/

/-- A frame failed its CRC or tag: NAK, and the port goes down at its second failed resend (R361, R362). -/
def frameFailed (k : Nat) (s : State) : State :=
  let p := s.port k
  let p := { p with nak := true, fails := min 65535 (p.fails + 1), failed := p.failed + 1 }
  let s := retrySummary k 0 1 (s.setPort k p)
  if 3 ≤ p.failed then portDown k 5 s else s

/-- A frame is forwarded on the other port (R356, R357), with the payload given. -/
def forwardFrame (k : Nat) (f : RingFrame) (payload : List Byte) (broken : Bool) (s : State) : State :=
  let o := 1 - k
  if f.dst = 255 || f.dst = s.nodeNo || f.src = s.nodeNo || !s.canSend o then s
  else
    let x : TxFrame := { cls := f.cls, typ := f.typ, src := f.src, dst := f.dst, hops := f.hops + 1, dirs := 2 ^ o, seq := f.originSeq
                         payload := payload, broken := broken }
    sendOn o f.cls payload.length { s with rng := { s.rng with out := s.rng.out ++ [x] } }

/-- ANNOUNCE (R367, R369, R384, R337), in the model's own layout. -/
def announcePayload (s : State) : List Byte :=
  let elig := s.mod.role = .master || s.mod.role = .standbyMaster
  let locked := s.rng.tState = 2 || s.rng.isMaster
  let prog := if s.prg.stateNum = 2 then s.image.map fun i => (i.tSolve, i.exports, i.remotes) else none
  let q := prog.getD (0, 0, 0)
  le 4 glbId ++ le 1 (bit locked 0 + bit (elig && s.mode .ring) 1 + bit prog.isSome 2 + 8 * s.rng.roleNow) ++ le 1 s.rng.priority ++
  le 2 s.rng.port0.len ++ le 4 (keyCheck (s.rng.key (1 - s.rng.keySlot))) ++ le 4 q.1 ++ le 2 q.2.1 ++ le 2 q.2.2 ++ zeros 12

/-- The directory entry of a node that announces itself (R367, R388). -/
def hearAnnounce (src : Nat) (l : List Byte) (s : State) : State :=
  let e := s.dirEntry src
  let fl := leAt l 4 1
  s.setDir src { e with
    id := leAt l 0 4, locked := fl % 2 = 1, eligible := fl / 2 % 2 = 1, role := fl / 8 % 4, priority := leAt l 5 1, hopLen := leAt l 6 2
    kcv := leAt l 8 4, heard := s.now, prog := if fl / 4 % 2 = 1 then some (leAt l 12 4, leAt l 16 2, leAt l 18 2) else none }

/-- A waveform block as STREAM frames carry it: the header of R265, with its decision instant t_d in bytes 40 to 47 (DESIGN CHOICE,
log 107), and the words. -/
def blockOf (src : Nat) (l : List Byte) : Block :=
  { time := leAt l 8 8, node := src, chan := leAt l 16 2, rate := leAt l 22 1, range := leAt l 23 1, wordIndex := leAt l 24 8
    gapWords := leAt l 32 4, gap := leAt l 3 1 / 8 % 2 = 1
    words := (List.range (leAt l 20 2)).map fun k => BitVec.ofNat 32 (leAt l (64 + 4 * k) 4) }

/-- A peer's block, in that peer's core at `td`, is offered to its stream flow; one that is lost leaves a gap (R206, R218, R225,
R267). -/
def peerBlock (td : Nat) (b : Block) (s : State) : State :=
  match s.flows.find? fun e => e.2.state ≠ .closed && e.2.stream && e.2.node = b.node && e.2.chan = b.chan with
  | none => s
  | some (f, x) =>
    let lost := (b.wordIndex - x.wordIndex) + x.gapWords
    let b := { b with gapWords := b.gapWords + lost, gap := b.gap || decide (0 < lost) }
    let n := b.words.length
    let s := s.setFlow f { x with wordIndex := b.wordIndex + n, gapWords := 0 }
    if s.mode .wave then offerBlock (min td s.now) f b s else lostBlock f b s

/-- A STREAM frame: FIRST and LAST mark the pieces of a block (R355). -/
def streamPiece (f : RingFrame) (s : State) : State :=
  let old := if f.first then [] else tget [] s.rng.pieces f.src
  let all := old ++ f.payload
  if f.last then peerBlock (leAt all 40 8) (blockOf f.src all) { s with rng := { s.rng with pieces := tset [] s.rng.pieces f.src [] } }
  else { s with rng := { s.rng with pieces := tset [] s.rng.pieces f.src all } }

/-- A SYNC as it goes on: bytes 8 to 15 of its payload, the correction field (DESIGN CHOICE, log 107), grow by the delay of the hop it came
on and by the residence time, which the spec does not give: a free value (R374); both in 0.1 ns. -/
def correctSync (k : Nat) (l : List Byte) (s : State) : List Byte × State :=
  let (v, s) := s.free
  (l.take 8 ++ le 8 (leAt l 8 8 + (s.port k).delay + v) ++ l.drop 16, s)

/-- RING_FRAME_RECEIVE (R355 to R357, R359, R361, R382, R383). CYCLE frames are forwarded by CYCLE_FRAME_RECEIVE, with PRESENT; of
the contents, ANNOUNCE and STREAM are taken here and every other type by its own row. -/
def execRingFrameReceive (dt : Nat) (port : Fin 2) (f : RingFrame) (s : State) : Host.Outcome State Fault Refusal :=
  let s := s.advance dt
  let k := port.val
  let p := s.port k
  let cyc : Bool := f.cls = 1 && f.typ = 0
  if !p.up then .next s
  else if !(f.crcOk && tagOk k f s) then .next (frameFailed k (forwardFrame k f f.payload true s))
  else if f.hopSeq ≠ p.rxSeq || 4 < f.cls then .next s
  else
    let s := s.setPort k { p with
      rxSeq := (p.rxSeq + 1) % 2 ^ 32, failed := 0, owed := p.owed.set f.cls (p.owed.getD f.cls 0 + frameCredits f.payload.length) }
    let (l, s) := if f.cls = 0 && f.typ = 0 then correctSync k f.payload s else (f.payload, s)
    let s := if cyc then s else forwardFrame k f l false s
    let key := (f.src, f.cls, f.originSeq)
    let mine : Bool := f.src ≠ s.nodeNo && (f.dst = s.nodeNo || f.dst = 0 || f.dst = 255)
    let e := s.dirEntry f.src
    let s := if f.src = s.nodeNo || f.src = 0 then s
      else s.setDir f.src (if f.dir = 0 then { e with hops1 := f.hops + 1 } else { e with hops0 := f.hops + 1 })
    if !mine then .next s
    else if s.rng.heard.contains key then .next { s with rng := { s.rng with heard := s.rng.heard.erase key } }
    else
      let both : Bool := f.cls ≤ 2 && f.dst ≠ 255
      let s := if both then { s with rng := { s.rng with heard := (key :: s.rng.heard).take 4096 } } else s
      .next (if f.cls = 0 && f.typ = 3 then hearAnnounce f.src f.payload s else if f.cls = 3 then streamPiece f s else s)

/-! ### Modules and delays -/

/-- SFP_DIAG_POLL (R353): once per second. -/
def execSfpDiagPoll (dt : Nat) (port : Fin 2) (diag : List Byte) (alarm : Bool) (s : State) : Host.Outcome State Fault Refusal :=
  let s := s.advance dt
  let k := port.val
  let p := s.port k
  if p.modAbs then .next s
  else
    let s := s.setPort k { p with sfp := fitBytes 12 diag, sfpAlarm := alarm }
    .next (if alarm && !p.sfpAlarm then note 0x0509 k (le 1 2) s else s)

/-- SFP_MODULE_EVENT (R353, R362): MOD_ABS and LOS as they now stand. -/
def execSfpModuleEvent (dt : Nat) (port : Fin 2) (absent los : Bool) (s : State) : Host.Outcome State Fault Refusal :=
  let s := s.advance dt
  let k := port.val
  let p := s.port k
  let s := s.setPort k { p with
    modAbs := absent, los := los, sfp := if absent then [] else p.sfp, sfpAlarm := p.sfpAlarm && !absent
    blockLock := p.blockLock && !absent && !los }
  let s := if absent || los then portDown k 3 s else s
  .next (if p.modAbs = absent then s else note 0x0509 k (le 1 (if absent then 1 else 0)) s)

/-- DELAY_EXCHANGE (R373): timestamps in 0.1 ns; the mean of the last 16, less the calibrated latency, and the length in m. -/
def execDelayExchange (dt : Nat) (port : Fin 2) (t1 t2 t3 t4 : Nat) (s : State) : Host.Outcome State Fault Refusal :=
  let s := s.advance dt
  let k := port.val
  let p := s.port k
  if !p.up || (!p.delays.isEmpty && decide (s.now < p.delayAt + 10000000)) then .next s
  else
    let d := ((t2 + t4) - (t1 + t3)) / 2
    let l := (d :: p.delays).take 16
    let mean := sumNat l / l.length - Config.portLatency k
    .next (s.setPort k { p with delays := l, delayAt := s.now, delay := mean % 2 ^ 24, len := (mean + 49) / 50 })

end Sys2Proof.Machine
end

