-- ==== Sys2Proof/Machine/Ring.lean ====
section
/-! DEFINITION. Membership, mastership, cycle and content frames, Node Time, subscriptions and the ring's commands (R330, R331,
R363 to R381, R384, R385). -/

namespace Sys2Proof.Machine

/-! ### Mastership -/

/-- Order of R369: PRIORITY, then node number. -/
def before (a b : Nat × Nat) : Bool := decide (a.1 < b.1 ∨ (a.1 = b.1 ∧ a.2 < b.2))

def best : List (Nat × Nat) → Option (Nat × Nat)
  | [] => none
  | a :: r => match best r with
    | none => some a
    | some b => if before b a then some b else some a

/-- Nodes heard in the last 10 ms. -/
def State.present (s : State) : List Nat := (s.rng.dir.filter fun e => e.2.heard ≠ 0 && decide (s.now ≤ e.2.heard + 10000000)).map Prod.fst

/-- This node may become master (R369, R403). -/
def State.eligible (s : State) : Bool := (s.mod.role = .master || s.mod.role = .standbyMaster) && s.mode .ring && s.nodeNo ≠ 0

/-- Eligible nodes among `l`, as (PRIORITY, node). -/
def State.candidates (s : State) (l : List Nat) : List (Nat × Nat) :=
  (l.filter fun n => (s.dirEntry n).eligible).map fun n => ((s.dirEntry n).priority, n)

/-- Record 0x0505 (R369, R386). -/
def masterRecord (new old cause cycle : Nat) (s : State) : State := note 0x0505 new (le 1 old ++ le 1 cause ++ le 8 cycle) s

/-- This node becomes master with the members given, and names the next eligible one as standby (R369, R370, R372). -/
def becomeMaster (cause first : Nat) (members : List Nat) (s : State) : State :=
  let old := s.rng.master
  let s := { s with rng := { s.rng with
    roleNow := 1, master := s.nodeNo, members := members, cut := false, election := none, rival := none, laps := 0, missedCycles := 0
    firstCycle := some first, present := nodeMask members, downPorts := if s.rng.port0.up && s.rng.port1.up then s.rng.downPorts else
      ([0, 1].filter fun k => !(s.port k).up).map fun k => (s.nodeNo, k) } }
  let s := { s with rng := { s.rng with standby := ((best (s.candidates (members.filter (· ≠ s.nodeNo)))).map (·.2)).getD 0 } }
  let s := masterRecord s.nodeNo old cause first s
  if (s.rng.port0.up || s.rng.port1.up) && s.rng.downPorts ≠ [] then declareBreak s.now s else s

/-- ANNOUNCE_SEND (R367, R369): every 1 ms; without a master it opens the election window. -/
def execAnnounceSend (dt : Nat) (s : State) : Host.Outcome State Fault Refusal :=
  let s := s.advance dt
  if s.mod.role = .standalone || s.nodeNo = 0 || s.pwr.state ≠ .run || s.pwr.phase = .asserted || !dueAfter s.rng.announceAt 1000000 s.now then
    .next s
  else
    let open' := s.rng.master = 0 && s.rng.election.isNone
    let s := { s with rng := { s.rng with announceAt := some s.now, election := if open' then some s.now else s.rng.election } }
    .next (originate 0 3 0 none (announcePayload s) s)

/-- ELECTION_END (R369, R403). A node that already announces itself as master is followed. -/
def execElectionEnd (dt : Nat) (s : State) : Host.Outcome State Fault Refusal :=
  let s := s.advance dt
  match s.rng.election with
  | none => .next s
  | some t =>
    if s.now < t + 10000000 then .next s
    else
      let l := s.present.filter (· ≠ s.nodeNo)
      let s := { s with rng := { s.rng with election := none } }
      if s.rng.master ≠ 0 then .next s
      else match l.find? fun n => (s.dirEntry n).role = 1 with
      | some n => .next { s with rng := { s.rng with master := n } }
      | none =>
        let own := if s.eligible then [(s.rng.priority, s.nodeNo)] else []
        let all := own ++ s.candidates l
        if l.isEmpty && s.mod.role ≠ .master then .next s
        else match best all with
        | none => .next s
        | some (_, n) =>
          let next := ((best (all.filter (·.2 ≠ n))).map (·.2)).getD 0
          if n = s.nodeNo then .next (becomeMaster 0 (s.cycleNo + 1) [n] s)
          else
            let old := s.rng.master
            .next (masterRecord n old 0 s.cycleNo { s with rng := { s.rng with master := n, standby := next, roleNow := if next = s.nodeNo then 2 else 0 } })

/-- CYCLE frames of two consecutive cycles have missed their expected arrival (R365, R366). -/
def State.masterSilent (s : State) : Bool :=
  match s.rng.cycleAt with
  | some t => decide (t + 2 * s.prg.period + s.ringH + 6000 ≤ s.now)
  | none => false

/-- MASTER_LOST (R366): the member runs as cut off until a CYCLE frame arrives. -/
def execMasterLost (dt : Nat) (s : State) : Host.Outcome State Fault Refusal :=
  let s := s.advance dt
  if s.rng.roleNow ≠ 3 || s.rng.cut || !s.masterSilent then .next s
  else .next { s with rng := { s.rng with cut := true, missedCycles := 2, master := 0, standby := 0, roleNow := 0, state := 0, cycleAt := none } }

/-- STANDBY_TAKEOVER (R370): the first CYCLE frame is k + 3, after the last one received, k. -/
def execStandbyTakeover (dt : Nat) (s : State) : Host.Outcome State Fault Refusal :=
  let s := s.advance dt
  if s.rng.roleNow ≠ 2 || !s.masterSilent || !s.mode .ring then .next s
  else .next (becomeMaster 1 (s.rng.cycle + 3) (s.rng.members.filter (· ≠ s.rng.master)) s)

/-- SPLIT_HEAL (R371): the master that comes later in the order of R369 gives up its role. -/
def execSplitHeal (dt : Nat) (s : State) : Host.Outcome State Fault Refusal :=
  let s := s.advance dt
  match s.rng.rival with
  | none => .next s
  | some (n, p) =>
    let t := { s with rng := { s.rng with rival := none } }
    if !s.rng.isMaster then .next t
    else if before (s.rng.priority, s.nodeNo) (p, n) then .next t
    else .next (masterRecord n s.nodeNo 3 s.cycleNo { t with rng := { t.rng with
      roleNow := 0, master := n, standby := 0, members := [], cut := true, downPorts := [], laps := 0 } })

/-- HANDOVER_SWITCH (R372): at t_j the named node takes over, and the old master steps back. -/
def execHandoverSwitch (dt : Nat) (s : State) : Host.Outcome State Fault Refusal :=
  let s := s.advance dt
  match s.rng.handover with
  | none => .next s
  | some (n, tj, _) =>
    if s.now < tj then .next s
    else if n = s.nodeNo then
      let j := if s.prg.period = 0 then 0 else tj / s.prg.period
      let s := becomeMaster 2 j s.rng.members { s with rng := { s.rng with handover := none } }
      .next (if s.prg.lastSnap = some tj then masterSnap j tj s else s)
    else if s.rng.isMaster then
      .next (masterRecord n s.nodeNo 2 s.cycleNo { s with rng := { s.rng with
        roleNow := 3, master := n, standby := 0, downPorts := [], laps := 0, cycleAt := some tj } })
    else .next s

/-! ### Members (R366, R367) -/

/-- NODE_ADMIT (R367, R378): the next CYCLE frame carries the node's MEMBERS bit. -/
def execNodeAdmit (dt : Nat) (node : Fin 33) (s : State) : Host.Outcome State Fault Refusal :=
  let s := s.advance dt
  let n := node.val
  let e := s.dirEntry n
  if !s.rng.isMaster || !s.mode .ring || n = 0 || n = s.nodeNo || s.rng.members.contains n || !e.locked || !s.present.contains n then .next s
  else
    let l := sortBy id (s.rng.members ++ [n])
    let s := (s.setDir n { e with missed := 0 })
    let s := { s with rng := { s.rng with
      members := l, present := s.rng.present ||| nodeMask [n]
      standby := if s.rng.standby = 0 && e.eligible then n else s.rng.standby } }
    let s := note 0x0504 n (le 8 (s.cycleNo + 1) ++ le 4 e.id) s
    .next ((s.rng.subs.filter (·.2.1 = n)).foldl (fun s k => subscribeTo true k s) s)

/-- A dropped member's place in commands, retry and the standby's role ends (R294, R361, R366). -/
def dropMember (n : Nat) (s : State) : State :=
  let s := s.setDir n { s.dirEntry n with missed := 0 }
  let s := { s with rng := { s.rng with members := s.rng.members.filter (· ≠ n) } }
  let s := if s.rng.standby = n then
      { s with rng := { s.rng with standby := ((best (s.candidates (s.rng.members.filter (· ≠ s.nodeNo)))).map (·.2)).getD 0 } } else s
  let s := note 0x0503 n (le 8 s.cycleNo) s
  let s := [0, 1].foldl (fun s k => if (s.port k).neighbour = n then s.setPort k { s.port k with sent := [] } else s) s
  let ids := (s.cp.exec.filter fun e => e.phase = .forwarded && e.c.target = n).map (·.id)
  ids.foldl (fun s id => completeCmd id stFailedRemote (le 2 0x6D ++ le 1 2) s) s

/-- MEMBER_DROP (R366): the PRESENT bit is missing from the CYCLE frames of two consecutive cycles, both laps counted. -/
def execMemberDrop (dt : Nat) (node : Fin 33) (s : State) : Host.Outcome State Fault Refusal :=
  let s := s.advance dt
  let n := node.val
  let e := s.dirEntry n
  let now := !s.rng.present.getLsbD (n - 1) && decide (s.ringH + 6000 ≤ s.sinceSnap)
  if !s.rng.isMaster || n = 0 || n = s.nodeNo || !s.rng.members.contains n || !(2 ≤ e.missed || (1 ≤ e.missed && now)) then .next s
  else .next (dropMember n s)

/-! ### Frames of the cycle -/

/-- A member's view of a new CYCLE frame (R334, R361, R363, R365, R366): retry to a neighbour dropped stops, and subscriptions are restored
when this node or the peer rejoins (R367, R378). -/
def followCycle (f : CycleFrame) (s : State) : State :=
  let members := ((List.range 32).map (· + 1)).filter fun n => f.members.getLsbD (n - 1)
  let inside := members.contains s.nodeNo && s.mode .ring
  let old := s.rng.master
  let was := s.rng.members
  let rejoin := inside && s.rng.cut
  let moved := s.prg.period ≠ f.period
  let s := if old = f.src then s else masterRecord f.src old (if s.rng.handover.isSome then 2 else if old = 0 then 0 else 1) f.cycle s
  let laps := if s.rng.lapsBack < 2 then 0 else s.rng.laps
  let s := { s with rng := { s.rng with
    master := f.src, standby := f.standby, members := members, cycle := f.cycle, cycleAt := some f.time, missedCycles := 0
    cofs := some f.cofs, cut := !inside, election := none, laps := laps, lapsBack := 1
    roleNow := if !inside then 0 else if f.standby = s.nodeNo then 2 else 3
    change := if f.changeAt = 0 then none else some (f.changeAt, f.newPeriod, f.newCofs) } }
  let s := if rejoin && moved then
      { s with prg := { s.prg with period := f.period, lastSnap := none, notBefore := f.time + f.period, skipped := true } }
    else { s with prg := { s.prg with period := f.period } }
  let s := [0, 1].foldl (fun s k =>
    let n := (s.port k).neighbour
    if was.contains n && !members.contains n then s.setPort k { s.port k with sent := [] } else s) s
  (s.rng.subs.filter fun k => rejoin || !was.contains k.2.1 && members.contains k.2.1).foldl (fun s k => subscribeTo true k s) s

/-- The second copy of a cycle's frame has come by the other direction (R363). -/
def secondLap (s : State) : State :=
  let n := s.rng.laps + 1
  let s := { s with rng := { s.rng with laps := n, lapsBack := 2 } }
  if 2 ≤ n then { s with rng := { s.rng with state := 1, downPorts := [] } } else s

/-- The MASTER_HANDOVER that waits for frame j completes (R372). -/
def handoverDone (f : CycleFrame) (second : Bool) (s : State) : State :=
  match s.rng.handover with
  | some (n, tj, id) =>
    if f.src = n && (decide (tj < f.time) || (f.time = tj && second)) then
      completeCmd id stOk [] { s with rng := { s.rng with handover := none } }
    else s
  | none => s

/-- CYCLE_FRAME_RECEIVE (R363, R365, R366, R371): forwarded with this node's PRESENT bit; the master counts its own frame's laps. -/
def execCycleFrameReceive (dt : Nat) (port : Fin 2) (f : CycleFrame) (s : State) : Host.Outcome State Fault Refusal :=
  let s := s.advance dt
  if !(s.port port.val).up || f.src = 0 then .next s
  else if f.src = s.nodeNo then
    if !s.rng.isMaster || f.cycle ≠ s.rng.cycle then .next s
    else .next { s with rng := { s.rng with lapsBack := s.rng.lapsBack + 1, present := s.rng.present ||| f.present } }
  else
    let mark := if s.mode .ring && 1 ≤ s.nodeNo then f.present ||| nodeMask [s.nodeNo] else f.present
    let fr : RingFrame := { cls := 1, typ := 0, src := f.src, dst := 0, hops := 0, hopSeq := 0, dir := 1 - port.val, keySlot := s.rng.keySlot
                            first := true, last := true, originSeq := f.cycle, tag := [], crcOk := true
                            payload := le 8 f.cycle ++ le 8 f.time ++ le 4 f.period ++ le 4 f.cofs ++ le 4 f.members.toNat ++ le 4 mark.toNat ++
                              le 8 f.changeAt ++ le 4 f.newPeriod ++ le 4 f.newCofs ++ le 1 f.standby ++ zeros 15 }
    let s := forwardFrame port.val fr fr.payload false s
    if s.rng.isMaster then .next { s with rng := { s.rng with rival := some (f.src, (s.dirEntry f.src).priority) } }
    else
      let second : Bool := s.rng.master = f.src && s.rng.cycle = f.cycle && s.rng.cycleAt = some f.time
      let s := handoverDone f second s
      .next (if second then (if s.rng.lapsBack = 1 then secondLap s else s) else followCycle f s)

/-- EXPORT_FRAME_RECEIVE (R308, R330). -/
def execExportFrameReceive (dt : Nat) (src : Fin 33) (cycle : Nat) (l : List ExportValue) (s : State) : Host.Outcome State Fault Refusal :=
  let s := s.advance dt
  let wants := fun (v : ExportValue) => match s.image with
    | some i => i.binds.any fun b => b.kind = 3 && b.node = src.val && b.index = v.slot
    | none => false
  let put := fun (s : State) (v : ExportValue) =>
    if wants v then { s with prg := { s.prg with
      imports := tput s.prg.imports (256 * src.val + v.slot) (cycle, v.value.setWidth 64, v.sqw) } } else s
  if src.val = 0 || src.val = s.nodeNo then .next s else .next (l.foldl put s)

/-- OUTPUT_FRAME_RECEIVE (R308, R330): a value for an ACCEPT binding of another SET is discarded and counted. -/
def execOutputFrameReceive (dt : Nat) (src : Fin 33) (cycle : Nat) (l : List RemoteValue) (s : State) : Host.Outcome State Fault Refusal :=
  let s := s.advance dt
  let put := fun (s : State) (v : RemoteValue) =>
    match s.image with
    | none => s
    | some i =>
      match i.binds.find? fun b => b.kind = 7 && b.node = src.val && b.index = v.index with
      | none => s
      | some b =>
        if v.node ≠ s.nodeNo then s
        else if b.set = v.set then { s with prg := { s.prg with remote := tput s.prg.remote v.index (src.val, cycle, v.value.setWidth 64, v.sqw) } }
        else
          let n := b.set
          s.putSet n { s.set n with discarded := min 65535 ((s.set n).discarded + 1) }
  if src.val = 0 || src.val = s.nodeNo then .next s else .next (l.foldl put s)

/-- READY_FRAME_RECEIVE (R330, R331): kept by the master for the decision of its cycle. -/
def execReadyFrameReceive (dt : Nat) (src : Fin 33) (cycle : Nat) (set : Fin 16) (signature : Word) (members : BitVec 32) (reduce : Bool)
    (s : State) : Host.Outcome State Fault Refusal :=
  let s := s.advance dt
  let x := s.set set.val
  if !s.rng.isMaster || src.val = 0 || cycle ≠ s.cycleNo || (x.ready.any fun r => r.1 == src.val && r.2.1 == cycle) then .next s
  else .next (s.putSet set.val { x with ready := x.ready ++ [(src.val, cycle, true, signature.toNat, members, reduce)] })

/-- DECISION_FRAME_RECEIVE (R331, R332). -/
def execDecisionFrameReceive (dt : Nat) (src : Fin 33) (cycle : Nat) (sets go mismatch : BitVec 16) (missing : BitVec 32) (s : State) :
    Host.Outcome State Fault Refusal :=
  let s := s.advance dt
  let one := fun (s : State) (n : Nat) =>
    let x := s.set n
    if !sets.getLsbD n || x.members = 0 then s
    else
      let g := go.getLsbD n
      s.putSet n { x with go := some g, goMissing := if g then 0 else missing
                          goCause := if g then 0 else if mismatch.getLsbD n then 2 else 1 }
  if src.val ≠ s.rng.master || src.val = 0 || s.rng.isMaster || s.rng.cut || !s.mode .ring || cycle ≠ s.cycleNo then .next s
  else .next ((List.range 16).foldl one s)

/-- RING_EVENT_FRAME (R363). -/
def execRingEventFrame (dt : Nat) (src : Fin 33) (ev : RingEvent) (s : State) : Host.Outcome State Fault Refusal :=
  let s := s.advance dt
  if src.val = 0 || src.val = s.nodeNo then .next s
  else match ev with
  | .portDown k det => .next (hearDown src.val (k % 2) det s)
  | .handover n t => if src.val = s.rng.master && n = s.nodeNo then .next { s with rng := { s.rng with handover := some (n, t, 0) } } else .next s
  | .keySwitch slot c => if src.val = s.rng.master then .next { s with rng := { s.rng with keySwitch := some (slot % 2, c) } } else .next s

/-! ### Keys -/

/-- RING_KEY_SWITCH (R384). -/
def execRingKeySwitch (dt : Nat) (s : State) : Host.Outcome State Fault Refusal :=
  let s := s.advance dt
  match s.rng.keySwitch with
  | none => .next s
  | some (slot, c) =>
    if s.cycleNo < c then .next s
    else
      let s := { s with rng := { s.rng with keySlot := slot, keySwitch := none, keyGrace := some (c + 10) } }
      .next (note 0x0508 slot (le 8 c ++ le 4 (keyCheck (s.rng.key slot))) s)

/-- RING_KEY_GRACE_END (R384). -/
def execRingKeyGraceEnd (dt : Nat) (s : State) : Host.Outcome State Fault Refusal :=
  let s := s.advance dt
  match s.rng.keyGrace with
  | some c => if c ≤ s.cycleNo then .next { s with rng := { s.rng with keyGrace := none } } else .next s
  | none => .next s

/-! ### Node Time (R373 to R377) -/

/-- Time state with its record (R375, R386). -/
def setTimeState (n : Nat) (s : State) : State :=
  if s.rng.tState = n then s
  else
    let s := { s with rng := { s.rng with tState := n } }
    note 0x0506 0 (le 1 n ++ le 1 s.rng.gm ++ le 4 (s.rng.offset % 4294967296).toNat) s

/-- Node Time takes a new value: the islands re-anchor their grids, the first sample on the new grid carries RESET_GAP, and the
program's grid starts anew (R54, R374, R377). -/
def stepTime (t : Nat) (s : State) : State :=
  let rtc := { s.rtc with
    sub0 := if s.rtc.halted.isSome then s.rtc.sub0 else min 32767 (s.rtc.sub0 + ticksOf (s.now - s.rtc.subAt)), subAt := t, secAt := t - (s.now - s.rtc.secAt)
    halted := s.rtc.halted.map fun (h : Nat × Nat) => (t - (s.now - h.1), h.2) }
  let s := { s with now := t, rtc := rtc }
  let anchor := fun (x : AIsland) => { x with strobes := x.strobes.map fun e =>
    let r := strobeRate e.1
    (e.1, 1000000000 * (t * r.1 / (1000000000 * r.2) + 1) * r.2 / r.1) }
  { s with
    ana := { s.ana with
      chans := s.ana.chans.map fun (e : Nat × Chan) => (e.1, { e.2 with lastAt := none, lastWave := none, gap := true })
      isls := s.ana.isls.map fun (e : Nat × AIsland) => (e.1, anchor e.2) }
    dig := { s.dig with pins := s.dig.pins.map fun (e : Nat × Pin) => (e.1, { e.2 with lastAt := none, gap := true }) }
    prg := { s.prg with lastSnap := none } }

def clamp32 (v : Int) : Int := clampInt (-2147483648) 2147483647 v

/-- Frequency correction in 0.001 ppm: the loop's law is open, its slew is at most `lim` (R374, R376). -/
def freeFreq (lim : Nat) (s : State) : Int × State :=
  let (v, s) := s.free
  (((v % (2 * lim + 1) : Nat) : Int) - lim, s)

/-- SYNC_SEND (R374). -/
def execSyncSend (dt : Nat) (s : State) : Host.Outcome State Fault Refusal :=
  let s := s.advance dt
  if !s.rng.isMaster || !dueAfter s.rng.syncSent 1000000 s.now then .next s
  else .next (originate 0 0 0 none (le 8 s.now ++ zeros 24) { s with rng := { s.rng with syncSent := some s.now } })

/-- SYNC_RECEIVE (R374, R375): `time` is the master's Node Time with the correction field and the last hop's delay, at reception. The
copy that travelled fewer hops is used, direction 0 on a tie. Slewing is part of how Node Time runs on. -/
def execSyncReceive (dt : Nat) (dir : Fin 2) (src : Fin 33) (hops : Fin 32) (time : Nat) (s : State) : Host.Outcome State Fault Refusal :=
  let s := s.advance dt
  let e := s.dirEntry src.val
  let h := hops.val + 1
  let other := if dir.val = 0 then e.hops0 else e.hops1
  let use : Bool := other = 0 || h < other || (h = other && dir.val = 0)
  if s.rng.isMaster || src.val = 0 || src.val ≠ s.rng.master || !use then .next s
  else
    let off := (time : Int) - s.now
    let locked : Bool := s.rng.tState = 2
    let step := !locked && decide (1000 < off.natAbs)
    let s := if step then stepTime time s else s
    let (fr, s) := freeFreq 100000 s
    let good := if !step && decide (off.natAbs ≤ 50) then s.rng.goodSyncs + 1 else 0
    let s := { s with rng := { s.rng with
      offset := clamp32 (if step then 0 else off), freq := fr, gm := src.val, tDir := dir.val, tHops := h, tSource := 1
      goodSyncs := good, syncAt := some s.now } }
    .next (setTimeState (if locked || 16 ≤ good then 2 else 1) s)

/-- TIME_HOLDOVER_TIMEOUT (R375). -/
def execTimeHoldoverTimeout (dt : Nat) (s : State) : Host.Outcome State Fault Refusal :=
  let s := s.advance dt
  match s.rng.syncAt with
  | some t =>
    if s.rng.isMaster || s.rng.tState ≠ 2 || s.now < t + 4000000 then .next s
    else .next (setTimeState 3 { s with rng := { s.rng with holdAt := s.now, goodSyncs := 0 } })
  | none => .next s

/-- TIME_FREE_TIMEOUT (R375): 10 s in HOLDOVER, or no master. -/
def execTimeFreeTimeout (dt : Nat) (s : State) : Host.Outcome State Fault Refusal :=
  let s := s.advance dt
  if s.rng.isMaster then .next s
  else if (s.rng.tState = 3 && decide (s.rng.holdAt + 10000000000 ≤ s.now)) || (s.rng.tState ≠ 0 && s.rng.master = 0) then
    .next (setTimeState 0 { s with rng := { s.rng with tSource := 0, goodSyncs := 0 } })
  else .next s

/-- PPS_IN_EDGE (R376): whole seconds come from TIME_CONFIGURE, or from the clock at first lock; the fraction is slewed. -/
def execPpsInEdge (dt : Nat) (falling : Bool) (s : State) : Host.Outcome State Fault Refusal :=
  let s := s.advance dt
  if !s.rng.ppsInEn || falling ≠ s.rng.ppsPol then .next s
  else if !s.rng.isMaster then .next { s with rng := { s.rng with ppsLast := s.now } }
  else
    let at' := ((s.now : Int) - s.rng.ppsDelay).toNat
    let sec := match s.rng.ppsSecond with
      | some n => n
      | none => if s.rng.ppsLocked then nearestSecond at' else nearestSecond s.rtcNodeTime
    let shift := ((sec : Int) - nearestSecond at') * 1000000000
    let s := if shift = 0 then s else stepTime ((s.now : Int) + shift).toNat s
    let (fr, s) := freeFreq 10000 s
    let was := s.rng.ppsOk
    let s := { s with rng := { s.rng with
      ppsLast := s.now, ppsOk := true, ppsSecond := none, ppsLocked := true, tSource := 2, freq := fr, gm := s.nodeNo } }
    .next (if was then s else note 0x050A 0 (le 1 1) s)

/-- PPS_IN_LOSS (R376). -/
def execPpsInLoss (dt : Nat) (s : State) : Host.Outcome State Fault Refusal :=
  let s := s.advance dt
  if !s.rng.ppsOk || s.now < s.rng.ppsLast + 1500000000 then .next s
  else .next (note 0x050A 0 (le 1 0) { s with rng := { s.rng with ppsOk := false, tSource := 0 } })

/-- PPS_OUT_PULSE (R376): 10 ms at each whole second of Node Time. -/
def execPpsOutPulse (dt : Nat) (s : State) : Host.Outcome State Fault Refusal :=
  let s := s.advance dt
  let t := 1000000000 * (s.now / 1000000000)
  if !s.rng.ppsOutEn || t ≤ s.rng.ppsOutAt then .next s
  else .next { s with rng := { s.rng with ppsOutAt := t, ppsOutEnd := some (t + 10000000) } }

/-! ### Subscriptions and records (R378, R379) -/

/-- SUBSCRIBE_FRAME (R378): one for this node makes it publish the source, or stop; one between two peers is charged by the
master that sees it (R217). -/
def execSubscribeFrame (dt : Nat) (n : FrameNodes) (add : Bool) (kind index : Nat) (s : State) : Host.Outcome State Fault Refusal :=
  let s := s.advance dt
  let e := (n.src.val, n.dst.val, kind, index)
  let k := 65536 * kind + index
  let m : BitVec 32 := BitVec.ofNat 32 (tget 0 s.rng.published k)
  let b := nodeMask [n.src.val]
  if n.src.val = 0 || n.src.val = s.nodeNo || 65535 < index then .next s
  else if n.dst.val ≠ s.nodeNo then
    let others := s.rng.peerSubs.filter (· ≠ e)
    .next (if s.rng.isMaster then { s with rng := { s.rng with peerSubs := if add then others ++ [e] else others } } else s)
  else .next { s with rng := { s.rng with published := tset 0 s.rng.published k (if add then m ||| b else m &&& ~~~b).toNat } }

/-- SAMPLES_FRAME (R169, R378). -/
def execSamplesFrame (dt : Nat) (src : Fin 33) (l : List PeerSample) (s : State) : Host.Outcome State Fault Refusal :=
  let s := s.advance dt
  let put := fun (s : State) (m : PeerSample) =>
    let k := (m.kind, src.val, m.index)
    if s.rng.subs.contains k && s.feeds k then
      { s with alm := { s.alm with inbox := s.alm.inbox ++
        [(m.kind, src.val, { src := m.index, value := m.value, sqw := m.sqw, time := m.time : Sample })] } }
    else s
  if src.val = 0 || src.val = s.nodeNo || s.rng.cut then .next s else .next (l.foldl put s)

/-- RECORD_FRAME (R206, R379): the master accepts the record onto an open flow with the member's ORIGIN bit, its deadline running from
the member's decision; else it counts it. -/
def execRecordFrame (dt : Nat) (src : Fin 33) (flow : Fin 256) (_sev : Fin 5) (r : PeerRecord) (s : State) : Host.Outcome State Fault Refusal :=
  let s := s.advance dt
  let f := flow.val
  let x := s.flow f
  let rec' : Rec := { typ := r.typ, time := r.time, node := src.val, subsys := r.subsys, index := r.index, code := r.code, payload := r.payload }
  if !s.rng.isMaster || src.val = 0 then .next s
  else if x.state ≠ .closed && !x.stream && x.origin / 2 ^ (src.val - 1) % 2 = 1 then
    .next (offerItem (min r.decided s.now) f (.record rec') r.time s).2
  else .next (s.setFlow f { x with lost := (x.lost + 1) % 2 ^ 32 })

/-! ### Commands (R385) -/

/-- RING_CONFIGURE. -/
def doRingConfigure (e : CmdEntry) (_ : Env) (s : State) : Rep × State :=
  let c := e.c
  let n := c.u8 32
  let en := c.u8 34
  if !c.restZero [(32, 3)] || !c.extZero 0 || 3 < en then (.bad 8, s)
  else if 32 < n then (.bad 0x90, s)
  else if s.mode .ring then (.conflict 0, s)
  else
    let s := { s with rng := { s.rng with
      node := n, priority := c.u8 33, port0 := { s.rng.port0 with en := en % 2 = 1 }, port1 := { s.rng.port1 with en := decide (2 ≤ en) } } }
    let s := if en % 2 = 1 then s else portDown 0 8 s
    (.ok [], if 2 ≤ en then s else portDown 1 8 s)

/-- RNG_STATUS (R388). -/
def State.ringStatus (s : State) : Nat :=
  let r := s.rng
  r.state + 4 * r.roleNow + 16 * r.master + 1024 * r.standby + bit (r.keySlot = 1) 16 + bit (r.key r.keySlot).isNone 17

/-- RNG_LOCKED (R388): as last announced, this node's own state included. -/
def State.ringLocked (s : State) : Nat :=
  (nodeMask ((s.rng.dir.filter (·.2.locked)).map Prod.fst ++ (if s.rng.tState = 2 && s.nodeNo ≠ 0 then [s.nodeNo] else []))).toNat

/-- RNG_PORT_STATUS, DELAY, LEN and CNT (R388). -/
def State.portStatus (s : State) (k : Nat) : Nat :=
  let p := s.port k
  bit p.up 0 + bit p.blockLock 1 + bit p.hiBer 2 + bit p.los 3 + bit p.modAbs 4 + bit (s.txDisable k) 5 + bit p.alive 6 +
  256 * p.neighbour + 65536 * p.downCause

def State.portRegs (s : State) (k : Nat) : List Byte :=
  let p := s.port k
  le 4 (s.portStatus k) ++ le 4 p.delay ++ le 4 p.len ++ le 4 (p.resends + 65536 * p.fails)

/-- ROLE of a node in the directory (R388). -/
def State.roleOf (s : State) (n : Nat) : Nat :=
  if n = s.rng.master then 1 else if n = s.rng.standby then 2 else if s.rng.members.contains n then 3 else 0

/-- RNG_DIR (R388), this node's own entry included. -/
def State.dirWord (s : State) (n : Nat) : Nat :=
  let e := if n = s.nodeNo then
    { s.dirEntry n with id := glbId, locked := s.rng.tState = 2 || s.rng.isMaster, eligible := s.eligible } else s.dirEntry n
  e.id + bit (s.rng.members.contains n) 32 + bit e.locked 33 + s.roleOf n * 2 ^ 34 + e.hops0 % 32 * 2 ^ 36 + e.hops1 % 32 * 2 ^ 41 +
  bit e.eligible 46

/-- RING_STATUS. -/
def doRingStatus (e : CmdEntry) (_ : Env) (s : State) : Rep × State :=
  let c := e.c
  let p := c.u8 32
  let n := c.u8 33
  if !c.restZero [(32, if p = 3 then 2 else 1)] || !c.extZero 0 || 3 < p then (.bad 8, s)
  else if p = 3 && (n = 0 || decide (32 < n)) then (.bad 0x90, s)
  else match p with
  | 0 => (.ok (le 4 s.ringStatus ++ le 4 (nodeMask s.rng.members).toNat ++ le 4 s.ringLocked ++ zeros 4 ++ le 8 s.rng.cycle), s)
  | 3 => (.ok (le 8 (s.dirWord n)), s)
  | k => (.ok (s.portRegs (k - 1) ++ fitBytes 12 (s.port (k - 1)).sfp), s)

/-- Every present node reports this node's key check value for the inactive slot (R384). -/
def State.keysAgree (s : State) (slot : Nat) : Bool :=
  let k := keyCheck (s.rng.key slot)
  (s.rng.key slot).isSome && (s.rng.members.filter (· ≠ s.nodeNo)).all fun n => (s.dirEntry n).kcv = k

/-- RING_KEY_SET (R384, R385, R554). -/
def doRingKeySet (e : CmdEntry) (_ : Env) (s : State) : Rep × State :=
  let c := e.c
  let slot := c.u8 32
  let a := c.u8 33
  let put := fun (k : Option Nat) => { s with rng := if slot = 0 then { s.rng with key0 := k } else { s.rng with key1 := k } }
  let reply := fun (k : Option Nat) (s : State) => (Rep.ok (le 4 (keyCheck k)), s)
  if !c.restZero [(32, 2)] || !c.extZero (if a = 0 then 40 else 0) then (.bad 8, s)
  else if 1 < slot ∨ 2 < a ∨ c.paramLen ≠ (if a = 0 then 40 else 0) then (.bad 8, s)
  else if a = 1 then
    if !s.rng.isMaster then (.final stNotMaster [], s)
    else if slot = s.rng.keySlot || !s.keysAgree slot then (.bad 0x93, s)
    else
      let at' := s.cycleNo + 11
      let s := { s with rng := { s.rng with keySwitch := some (slot, at') } }
      reply (s.rng.key slot) (originate 2 2 0 none (le 1 2 ++ le 1 slot ++ zeros 6 ++ le 8 at') s)
  else if slot = s.rng.keySlot then (.bad 0x95, s)
  else if a = 2 then reply none (put none)
  else
    let kek := (s.session c.session).key
    match (if kek.isSome || s.nullKeyOk then Config.unwrapKey kek (fitBytes 40 c.ext) else none) with
    | none => (.bad 0x108, s)
    | some k => reply (some k) (put (some k))

/-- TIME_CONFIGURE (R376, R377). -/
def doTimeConfigure (e : CmdEntry) (_ : Env) (s : State) : Rep × State :=
  let c := e.c
  let a := c.u8 32
  let fl := c.u8 33
  let d := leInt c.inl 4 4
  let v := c.u64 40
  if !c.restZero [(32, 2), (36, 12)] || !c.extZero 0 || 1 < a then (.bad 8, s)
  else if a = 0 && (decide (7 < fl) || decide (d < -8388608 ∨ 8388607 < d)) then (.bad 8, s)
  else if a = 0 then
    (.ok [], { s with rng := { s.rng with
      ppsInEn := fl % 2 = 1, ppsPol := fl / 2 % 2 = 1, ppsOutEn := decide (4 ≤ fl), ppsDelay := d
      ppsSecond := if v = 0 then none else some v, ppsOk := s.rng.ppsOk && fl % 2 = 1 } })
  else if 2 ≤ s.rng.roleNow then (.final stNotMaster [], s)
  else if s.mode .acq then (.conflict 0, s)
  else (.ok [], stepTime v s)

/-- PAIR_CONFIGURE (R381). -/
def doPairConfigure (e : CmdEntry) (_ : Env) (s : State) : Rep × State :=
  let c := e.c
  let n := c.u8 32
  let a := c.u8 33
  let p : Pair := { localCh := c.u8 34, peer := c.u8 35, peerCh := c.u8 36 }
  let k := 65536 + p.localCh
  if !c.restZero [(32, 5)] || !c.extZero 0 || 31 < n || 1 < a then (.bad 8, s)
  else if a = 1 then
    let s := match tget none s.rng.pairs n with
      | some q =>
        let m := (BitVec.ofNat 32 (tget 0 s.rng.published (65536 + q.localCh)) &&& ~~~nodeMask [q.peer]).toNat
        { s with rng := { s.rng with published := tset 0 s.rng.published (65536 + q.localCh) m } }
      | none => s
    (.ok [], resubscribe { s with rng := { s.rng with pairs := tset none s.rng.pairs n none } })
  else if 63 < p.localCh ∨ 63 < p.peerCh then (.bad 8, s)
  else if p.peer = 0 || decide (32 < p.peer) || p.peer = s.rng.node then (.bad 0x90, s)
  else if mkRat (s.chan p.localCh).rate.1 (s.chan p.localCh).rate.2 ≠ Config.peerRate p.peer 1 p.peerCh then (.bad 0x94, s)
  else match subscriptionsFail s (s.newSubs [(1, p.peer, p.peerCh)]) with
  | some f => (.final stAdmission { f with detail := 0x53 : Failure }.payload, s)
  | none =>
    let m := (BitVec.ofNat 32 (tget 0 s.rng.published k) ||| nodeMask [p.peer]).toNat
    let s := { s with rng := { s.rng with
      pairs := tset none s.rng.pairs n (some p)
      published := tset 0 s.rng.published k m } }
    (.ok [], resubscribe s)

/-- MASTER_HANDOVER (R372): completes when frame j has completed its lap. -/
def doMasterHandover (e : CmdEntry) (_ : Env) (s : State) : Rep × State :=
  let c := e.c
  let n := c.u8 32
  let d := s.dirEntry n
  if !c.restZero [(32, 1)] || !c.extZero 0 then (.bad 8, s)
  else if n = 0 ∨ 32 < n then (.bad 0x90, s)
  else if !s.rng.isMaster then (.final stNotMaster [], s)
  else if n = s.nodeNo || !d.eligible || !d.locked || !s.rng.members.contains n then (.bad 0x92, s)
  else
    let tj := if s.prg.period = 0 then s.now + 1000000 else upTo s.prg.period (s.now + 1000000)
    let s := { s with rng := { s.rng with handover := some (n, tj, e.id) } }
    (.wait [], originate 2 2 0 none (le 1 1 ++ le 1 n ++ zeros 6 ++ le 8 tj) s)

def execRingConfigure (dt : Nat) (c : Cmd) (env : Env) (s : State) : Host.Outcome State Fault Refusal :=
  runHere .ringConfigure dt c env doRingConfigure s
def execRingStatus (dt : Nat) (c : Cmd) (env : Env) (s : State) : Host.Outcome State Fault Refusal :=
  runHere .ringStatus dt c env doRingStatus s
def execRingKeySet (dt : Nat) (c : Cmd) (env : Env) (s : State) : Host.Outcome State Fault Refusal :=
  runHere .ringKeySet dt c env doRingKeySet s
def execTimeConfigure (dt : Nat) (c : Cmd) (env : Env) (s : State) : Host.Outcome State Fault Refusal :=
  runHere .timeConfigure dt c env doTimeConfigure s
def execPairConfigure (dt : Nat) (c : Cmd) (env : Env) (s : State) : Host.Outcome State Fault Refusal :=
  runHere .pairConfigure dt c env doPairConfigure s
def execMasterHandover (dt : Nat) (c : Cmd) (env : Env) (s : State) : Host.Outcome State Fault Refusal :=
  runHere .masterHandover dt c env doMasterHandover s

/-- RING falls: the node runs as cut off; a master gives up its role (R334, R367). -/
def ringOff (s : State) : State :=
  { s with rng := { s.rng with cut := true, roleNow := 0, master := 0, standby := 0, state := 0, members := [], cycleAt := none, election := none
                               change := none, firstCycle := none, laps := 0, downPorts := [], outbox := [] } }

/-- RING rises: the node rejoins (R367). -/
def ringOn (s : State) : State := { s with rng := { s.rng with cut := true, announceAt := none, election := none } }

end Sys2Proof.Machine
end

