-- ==== Sys2Proof/Machine/Sessions.lean ====
section
/-! DEFINITION. Sessions (R279 to R281, R300 to R303, R551 to R553): opening, closing, reading, ECHO, the expiry of a grant. -/

namespace Sys2Proof.Machine

/-- A session closes: key, rights and duplicate window go, record 0x0A21 (R281, R290). -/
def closeSession (n cause : Nat) (s : State) : State := note 0x0A21 n (le 1 cause) (s.setSession n {})

/-- Every open session from 1 to 63 closes (R281). -/
def closeSessions (cause : Nat) (s : State) : State :=
  ((List.range 64).filter fun n => n ≠ 0 && s.sessionOpen n).foldl (fun s n => closeSession n cause s) s

/-- A new SEC_SES_NONCE from the TRNG (R552): a free value. -/
def drawNonce (s : State) : State :=
  let (v, s) := s.free
  { s with sec := { s.sec with nonce := v % 2 ^ 64 } }

/-- Bits of GLB_ID's serial number (R240). -/
def serialNo : Nat := Config.serial.toNat

/-- The grant of SESSION_OPEN holds (R551, R552): owner and host signatures, SERIAL, session bit, expiry. -/
def grantOk (s : State) (n : Nat) (x : List Byte) : Bool :=
  let grant := (x.drop 128).take 256
  let sig := fun (k : Nat) => (x.drop k).take 96
  match s.sec.ownerKey with
  | none => false
  | some key =>
    Config.ecdsaOk key (Config.sha384 (grant.take 160)) (sig 288) &&
    Config.ecdsaOk ((grant.drop 32).take 97) (Config.sha384 (x.take 97 ++ le 1 n ++ le 8 s.sec.nonce)) (sig 384) &&
    leAt grant 4 8 = serialNo && (leAt grant 20 8).testBit n && decide (s.now < leAt grant 12 8)

/-- Every byte of some ranges is 0. -/
def zeroAt (x : List Byte) (l : List (Nat × Nat)) : Bool := l.all fun r => ((x.drop r.1).take r.2).all (· == 0)

/-- SESSION_OPEN (R300, R551 to R553). -/
def doSessionOpen (e : CmdEntry) (_ : Env) (s : State) : Rep × State :=
  let c := e.c
  let n := c.u8 32
  let addr := c.u64 40
  let x := fitBytes 480 c.ext
  let nonce := s.sec.nonce
  let next := drawNonce s
  if !c.restZero [(32, 1), (40, 8)] || !zeroAt x [(97, 31), (131, 1), (156, 4), (257, 31)] || !c.extZero 480 || c.paramLen ≠ 480 ||
      addr % 64 ≠ 0 || leAt x 128 2 ≠ 1 || 15 < byteAt x 130 || 63 < n then (.bad 8, next)
  else if s.sessionOpen n then (.bad 0x70, next)
  else if !grantOk s n x then (.unauth 0x6F, next)
  else
    let rights := byteAt x 130
    let until' := leAt x 140 8
    let (draw, s) := next.free
    let head := fitBytes 100 (Config.ephemeralKey draw) ++ le 1 n ++ le 1 rights ++ zeros 2 ++ le 8 until'
    let resp := head ++ zeros 48 ++ fitBytes 96 (Config.identitySign (head ++ x.take 97))
    let key := Config.sessionKey draw nonce n (x.take 97)
    let s := s.setSession n { opened := true, rights := BitVec.ofNat 4 rights, key := some key, lastCounter := 0, notAfter := until' }
    answerThrough e.id addr resp (le 1 n ++ le 1 rights ++ zeros 2 ++ le 8 until') (note 0x0A20 n (le 1 0) s)

/-- SESSION_CLOSE (R301). -/
def doSessionClose (e : CmdEntry) (_ : Env) (s : State) : Rep × State :=
  let c := e.c
  let n := c.u8 32
  if !c.restZero [(32, 1)] || !c.extZero 0 || 63 < n then (.bad 8, s)
  else if n ≠ c.session && !(s.sessionRights c.session).getLsbD 3 then (.unauth 0x66, s)
  else if n = 0 || !s.sessionOpen n then (.bad 0x70, s)
  else (.ok [], closeSession n 0 s)

/-- SESSION_READ (R302). -/
def doSessionRead (e : CmdEntry) (_ : Env) (s : State) : Rep × State :=
  let c := e.c
  let n := c.u8 32
  let x := s.session n
  if !c.restZero [(32, 1)] || !c.extZero 0 || 63 < n then (.bad 8, s)
  else
    let jobs := (s.jobs.filter fun j => j.c.session == n).length
    (.ok (le 1 (bit (s.sessionOpen n) 0) ++ le 1 (s.sessionRights n).toNat ++ le 1 (min 255 (s.inExec n)) ++ le 1 jobs ++
      le 8 x.notAfter ++ le 8 x.lastCounter ++ le 4 x.window.length), s)

/-- SESSION_GRANT_EXPIRY (R301). -/
def execSessionGrantExpiry (dt : Nat) (ses : Fin 64) (s : State) : Host.Outcome State Fault Refusal :=
  let s := s.advance dt
  let x := s.session ses.val
  if ses.val = 0 || !x.opened || s.now < x.notAfter then .next s else .next (closeSession ses.val 1 s)

def execSessionOpen (dt : Nat) (c : Cmd) (env : Env) (s : State) : Host.Outcome State Fault Refusal :=
  runHere .sessionOpen dt c env doSessionOpen s
def execSessionClose (dt : Nat) (c : Cmd) (env : Env) (s : State) : Host.Outcome State Fault Refusal :=
  runHere .sessionClose dt c env doSessionClose s
def execSessionRead (dt : Nat) (c : Cmd) (env : Env) (s : State) : Host.Outcome State Fault Refusal :=
  runHere .sessionRead dt c env doSessionRead s

/-- ECHO (R303). -/
def doEcho (e : CmdEntry) (_ : Env) (s : State) : Rep × State := (.ok (fitBytes 32 e.c.inl ++ le 8 s.now), s)

def execEcho (dt : Nat) (c : Cmd) (env : Env) (s : State) : Host.Outcome State Fault Refusal := runHere .echo dt c env doEcho s

end Sys2Proof.Machine
end

