-- ==== Sys2Proof/Machine/Spares.lean ====
section
/-! DEFINITION. Spare capacity, wear and glide-over (R418 to R442): the commands of group 0x07, audits and reference checks,
direct and forced swaps, processor lanes' self-tests and memory pages. -/

namespace Sys2Proof.Machine

/-! ### Registers of a pool instance (R442) -/

/-- Three bits for each of `n` parts. -/
def packRoles (l : List Nat) : Nat := ((List.range l.length).map fun k => l.getD k 0 % 8 * 8 ^ k).foldl (· + ·) 0

/-- Two bits for each lane. -/
def Lanes.word (x : Lanes) : Nat := ((List.range 3).map fun k => x.roles.getD k 0 % 4 * 4 ^ k).foldl (· + ·) 0

def State.sliceRoleReg (s : State) (i : Nat) : Nat :=
  packRoles ((List.range 10).map (s.partRole 0 i)) + min 2 (s.poolNow 0 i) * 2 ^ 30
def State.sliceChReg (s : State) (i : Nat) : Nat :=
  packRoles ((List.range 10).map fun p => (s.slice i p).ch) + bit (s.poolNow 0 i = 3) 30
def State.cellRoleReg (s : State) (i : Nat) : Nat := packRoles ((List.range 9).map (s.partRole 1 i)) + s.poolNow 1 i * 2 ^ 27
def State.cellChReg (s : State) (i : Nat) : Nat := packRoles ((List.range 9).map fun p => (s.cell i p).ch)
def State.boostReg (s : State) : Nat := packRoles s.spr.boost + 65536 * s.spr.boostWear.foldl max 0

/-- Role and channel registers of an instance as SPARE_STATUS gives them (R440): pools without such registers give 0. -/
def State.poolRegs (s : State) (pool inst : Nat) : Nat × Nat :=
  match pool with
  | 0 => (s.sliceRoleReg inst, s.sliceChReg inst)
  | 1 => (s.cellRoleReg inst, s.cellChReg inst)
  | 4 => ((s.lanes inst).word, 0)
  | 6 => (packRoles s.spr.boost, 0)
  | _ => (0, 0)

/-- Instances of a pool as the commands name them (R440). -/
def poolInsts (pool : Nat) : Nat := match pool with | 0 | 1 => 8 | 2 => 6 | 3 => 14 | 4 => 3 | _ => 1

/-- SPARE_STATUS. -/
def doSpareStatus (e : CmdEntry) (_ : Env) (s : State) : Rep × State :=
  let c := e.c
  let p := c.u8 32
  let i := c.u8 33
  if !c.restZero [(32, 2)] || !c.extZero 0 || 6 < p || poolInsts p ≤ i then (.bad 8, s)
  else
    let r := s.poolRegs p i
    (.ok (le 4 r.1 ++ le 4 r.2 ++ le 1 (s.poolNow p i) ++ le 1 (min 255 (s.workingSpares p i)) ++
      le 1 (min 255 (deliveredSpares p))), s)

/-! ### Planned swaps -/

/-- Part in service for a channel, pin or rail: what a swap would replace (R440). -/
def State.wornPart (s : State) (pool isl idx : Nat) : Option Nat :=
  let g := isl * 8 + idx
  match pool with
  | 0 => (s.chan g).pslice
  | 1 => if (s.chan g).cfg.kind = 8 then (s.out g).cellA else (s.chan g).psource
  | 2 =>
    let x := s.pin (64 + isl * 16 + idx)
    if x.cfg.mode ≠ 5 then none
    else if x.onSpare then some (if (s.disl isl).railDrv then 17 else 16) else some idx
  | _ => some (s.railPhase idx)

/-- Spare a swap takes: the one named, or the node's choice (R440). -/
def State.pickSpare (s : State) (pool isl idx part : Nat) : Option Nat :=
  match pool with
  | 2 => match s.spareDriver isl idx with | some k => if part = 255 ∨ part = k then some k else none | none => none
  | 6 => match s.sparePhase with | some k => if part = 255 ∨ part = k then some k else none | none => none
  | _ =>
    if part = 255 then s.repairSpare pool isl
    else if (s.partRole pool isl part = 1 ∨ s.partRole pool isl part = 2 ∨ s.partRole pool isl part = 4) &&
        !s.reserved pool isl part && !s.partHeld pool isl part then some part
    else none

/-- Milliseconds left to whatever holds the object (R295): to the job bound of its command where it has one, else a free
value. -/
def holdTime (pool isl idx : Nat) (s : State) : Nat × State :=
  let w := s.spr.swaps.find? fun w => w.pool == pool && w.isl == isl && (w.idx == idx || pool == 2)
  match w.bind fun w => w.cmd.bind s.cmd with
  | some e => ((e.jobEnd - s.now) / 1000000, s)
  | none => s.free

/-- A planned swap of a channel, pin or rail is judged and started (R423, R440). -/
def plannedSwap (pool isl idx part : Nat) (cmd : Option Nat) (s : State) : Option Rep × State :=
  match s.wornPart pool isl idx with
  | none => (some (.bad 0xC0), s)
  | some worn =>
    match s.pickSpare pool isl idx part with
    | none => (some (.final stNoSpare []), s)
    | some k =>
      if !s.mode .serv || (pool = 0 && !s.mode .acq) then (some (.conflict 0xA3), s)
      else if s.swapHolds pool isl idx || s.calHolds pool isl idx then
        let (ms, s) := holdTime pool isl idx s
        (some (.busy ms), s)
      else
        let g := isl * 8 + idx
        match pool with
        | 0 => (none, startSliceSwap g k 0 false cmd s)
        | 1 => (none, startCellSwap g k 0 false cmd s)
        | 2 => (none, startDriverSwap isl idx worn k 0 cmd s)
        | _ => (none, startPhaseSwap idx worn k 0 cmd s)

/-- SPARE_SWAP. -/
def doSpareSwap (e : CmdEntry) (_ : Env) (s : State) : Rep × State :=
  let c := e.c
  let p := c.u8 32
  let i := c.u8 33
  let x := c.u8 34
  let k := c.u8 35
  let fits := match p with
    | 0 => decide (i < 8 ∧ x < 8 ∧ (k < 10 ∨ k = 255))
    | 1 => decide (i < 8 ∧ x < 8 ∧ (k < 9 ∨ k = 255))
    | 2 => decide (i < 6 ∧ x < 16 ∧ (k = 16 ∨ k = 17 ∨ k = 255))
    | 6 => decide (i = 0 ∧ x < 4 ∧ (k < 5 ∨ k = 255))
    | _ => true
  if !c.restZero [(32, 4)] || !c.extZero 0 || 6 < p || !fits then (.bad 8, s)
  else if 3 ≤ p && p ≤ 5 then (.bad 0xC1, s)
  else match plannedSwap p i x k (some e.id) s with
    | (some r, s) => (r, s)
    | (none, s) => (.job [], s)

/-- Parts in service that stand at REPLACE: instance, part, and channel, pin or rail (R422, R423). -/
def State.replaceParts (s : State) (pool : Nat) : List (Nat × Nat × Nat) :=
  match pool with
  | 0 | 1 => (List.range 8).flatMap fun i => (List.range (poolParts pool)).filterMap fun n =>
      let x := s.part pool i n
      if x.role = 0 && x.level = 2 then some (i, n, x.ch) else none
  | 2 => (List.range 96).filterMap fun g =>
      let x := s.pin (64 + g)
      let d := g / 16
      if x.wearLevel = 2 && x.role = 0 then
        some (d, if x.onSpare then (if (s.disl d).railDrv then 17 else 16) else g % 16, g % 16) else none
  | _ => (List.range 5).filterMap fun n =>
      if s.spr.boost.getD n 6 = 0 && 100 ≤ s.spr.boostWear.getD n 0 then some (0, n, s.phaseRail n) else none

/-- Every part of a pool at REPLACE is acted on under the policy in force (R423). -/
def actOnPool (pool : Nat) (s : State) : State :=
  (s.replaceParts pool).foldl (fun s e => actOnReplace pool e.1 e.2.1 e.2.2 s) s

/-- SERV has become 1: AUTO swaps of worn parts start (R423). -/
def autoSwaps (s : State) : State :=
  ([0, 1, 2, 6].filter fun p => s.policy p = 2).foldl (fun s p => actOnPool p s) s

/-- SPARE_POLICY. -/
def doSparePolicy (e : CmdEntry) (_ : Env) (s : State) : Rep × State :=
  let c := e.c
  let p := c.u8 32
  let v := c.u8 33
  if !c.restZero [(32, 2)] || !c.extZero 0 || !(p = 0 || p = 1 || p = 2 || p = 6) || 2 < v then (.bad 8, s)
  else
    let s := { s with spr := { s.spr with policies := s.spr.policies.set (policyIdx p) v } }
    (.ok [], actOnPool p s)

/-- SPARE_APPROVE. -/
def doSpareApprove (e : CmdEntry) (_ : Env) (s : State) : Rep × State :=
  let c := e.c
  let a := c.u8 32
  if !c.restZero [(32, 1), (36, 4)] || !c.extZero 0 || 1 < a then (.bad 8, s)
  else match s.spr.proposals.find? fun p => p.num == c.u32 36 && decide (s.now < p.expiry) with
    | none => (.bad 0xC6, s)
    | some p =>
      let drop := fun (s : State) => { s with spr := { s.spr with proposals := s.spr.proposals.filter fun q => q.num ≠ p.num } }
      if a = 1 then (.ok [], drop s)
      else match plannedSwap p.pool p.isl p.idx 255 none s with
        | (some r, s) => (r, s)
        | (none, s) => (.ok [], drop s)

/-- PROPOSAL_LAPSE (R423). -/
def execProposalLapse (dt : Nat) (s : State) : Host.Outcome State Fault Refusal :=
  let s := s.advance dt
  .next { s with spr := { s.spr with proposals := s.spr.proposals.filter fun p => decide (s.now < p.expiry) } }

/-! ### Wear -/

/-- Wear of a part: index, level 0 to 3, raw metric, instant (R420, R440). -/
def State.wearOf (s : State) (pool inst part : Nat) : Nat × Nat × Word × Nat :=
  match pool with
  | 0 | 1 =>
    let x := s.part pool inst part
    (x.index, x.level, x.metric, x.measured)
  | 2 =>
    let g := 64 + inst * 16
    let d := s.disl inst
    let pin := if part < 16 then (if (s.pin (g + part)).onSpare then none else some part)
      else if d.railDrv = decide (part = 17) then d.railPin else none
    match pin with
    | some p =>
      let x := s.pin (g + p)
      (x.wear, x.wearLevel, if x.ron = 0xFFFF then 0 else f32OfRat (x.ron : Rat), x.ronAt)
    | none => (0, if part < 16 && (s.pin (g + part)).role = 6 then 3 else 0, 0, 0)
  | 3 =>
    let sh := tget 50 s.spr.shares inst
    let mine := if part = 0 then sh else 100 - sh
    let i := tget 0 s.spr.shareWear inst
    (i, if (s.supplyOf inst).getLsbD part then wearLevelOf i else 3, f32OfRat (mine : Rat), tget 0 s.spr.shareAt inst)
  | 4 => (0, if (s.lanes inst).roles.getD part 0 = 3 then 3 else 0, 0, 0)
  | 6 =>
    let i := s.spr.boostWear.getD part 0
    let m := s.spr.boostAt.getD part (100, 0)
    (i, if s.spr.boost.getD part 6 = 6 || s.spr.boostFailed.contains part then 3 else wearLevelOf i, f32OfRat (m.1 : Rat), m.2)
  | _ => (0, 0, 0, 0)

/-- WEAR_READ. -/
def doWearRead (e : CmdEntry) (_ : Env) (s : State) : Rep × State :=
  let c := e.c
  let p := c.u8 32
  let i := c.u8 33
  let n := c.u8 34
  let parts := match p with | 0 => 10 | 1 => 9 | 2 => 18 | 3 => 2 | 4 => 3 | 5 => 1 | _ => 5
  if !c.restZero [(32, 3)] || !c.extZero 0 || 6 < p || poolInsts p ≤ i || parts ≤ n then (.bad 8, s)
  else
    let w := s.wearOf p i n
    (.ok (le 1 w.1 ++ le 1 (bit (50 ≤ w.1) 0 + bit (100 ≤ w.1) 1 + bit (w.2.1 = 3) 2) ++ zeros 2 ++ le 4 w.2.2.1.toNat ++
      le 8 w.2.2.2), s)

/-- Wear index of a slice from its modulator's peak excursion in % of overload: 70 % is 50 and 85 % is 100 (R420). -/
def excursionIndex (pct : Nat) : Nat := (pct - 55) * 10 / 3

/-- SLICE_AUDIT (R420, R421): starts an audit of a channel, or ends the one that has its 16 pairs and charges the slice in
service; `excursion` is the slice's modulator peak in % of overload, `fails` the paths that the test of the spare's switches finds
bad (R40). -/
def execSliceAudit (dt : Nat) (c : SwitchedChan) (excursion : Nat) (s : State) : Host.Outcome State Fault Refusal :=
  let s := s.advance dt
  let g := c.ch.val
  let i := g / 8
  let x := s.chan g
  match s.audit i, x.pslice with
  | some a, some p =>
    if a.ch ≠ g || a.pairs < 16 then .next s
    else
      let s := endAudit i s
      let s := s.setSlice i p { s.slice i p with auditAt := some s.now }
      let s := chargeWear 0 i p (max a.pct (excursionIndex excursion)) a.dev s
      .next (if 200 ≤ a.pct then forceSlice g s else s)
  | none, some p =>
    let spare := (List.range 10).find? fun n =>
      let y := s.slice i n
      y.role = 1 && !s.sliceHeld i n && !s.reserved 0 i n &&
      (match y.checked with | some t => decide (s.now ≤ t + 10000000000) && decide (y.checkPct < 25) | none => false)
    let due := dueAfter (s.slice i p).auditAt 86400000000000 s.now
    match spare with
    | none => .next s
    | some n =>
      if !due || !s.glideOk g || x.spare.isSome || (s.sliceSwap g).isSome || !s.canSample g || !s.mode .acq then .next s
      else
        let (bad, s) := testNew i c.fails (x.twinJoins n) s
        .next (if bad then s else (s.setAudit i (some { ch := g, spare := n, joinAt := s.now })).setPartRole 0 i n 4)
  | _, none => .next s

/-- SPARE_REFERENCE_CHECK (R421, R424, R425): error of a spare's conversion of the references in % of A. -/
def execSpareReferenceCheck (dt : Nat) (isl : Fin 8) (slice : Fin 10) (pct : Nat) (s : State) : Host.Outcome State Fault Refusal :=
  let s := s.advance dt
  let i := isl.val
  let n := slice.val
  let r := s.partRole 0 i n
  if r = 0 || 5 ≤ r || !(s.aisl i).powered then .next s
  else
    let s := s.setSlice i n { s.slice i n with checked := some s.now, checkPct := pct }
    match s.spr.swaps.find? fun w => w.pool == 0 && w.isl == i && w.spare == n && w.phase == 4 with
    | none => .next s
    | some w =>
      if 25 < pct then .next (refuseSpare w 6 s)
      else .next ((markHard 0 i w.worn s).setSwap { w with fails := true, phase := 3 })

/-! ### Direct and forced swaps -/

/-- Instant `n` sample periods after the last grid instant (R53). -/
def gridAfter (r : Nat × Nat) (n now : Nat) : Nat :=
  let k := ((now + 1) * r.1 - 1) / (1000000000 * r.2)
  1000000000 * (k + n) * r.2 / r.1

/-- DIRECT_SWAP (R426, R427): at a frame boundary the spare takes the worn slice's switches; the instants whose filter
windows overlap the swap are left out, L of them on a continuous channel; `fails` holds the paths that the test of the spare's
switches finds bad (R40). -/
def execDirectSwap (dt : Nat) (c : SwitchedChan) (s : State) : Host.Outcome State Fault Refusal :=
  let s := s.advance dt
  let g := c.ch.val
  let x := s.chan g
  match s.sliceSwap g with
  | none => .next s
  | some w =>
    let sp := s.slice (g / 8) w.spare
    let fresh := match sp.checked with | some t => decide (s.now ≤ t + 10000000000) | none => false
    if w.method ≠ 1 || (x.cfg.pulsed && x.srcOn.isSome) || x.change.isSome || !(s.aisl (g / 8)).powered || !fresh then .next s
    else if 25 < sp.checkPct then .next (refuseSpare w 6 s)
    else if (x.moved w.spare).any (shortedIn c.fails) then .next (refuseSpare w 1 (testNew (g / 8) c.fails (x.moved w.spare) s).2)
    else
      let s := (testNew (g / 8) c.fails (x.moved w.spare) s).2
      let l := if x.cfg.pulsed then 0 else x.cfg.settle
      let newRole := if w.fails then 6 else 5
      let s := s.setChan g { x with
        conn := x.moveSlice w.spare, pslice := some w.spare, satLast := false, glideNext := true, gap := true, restart := s.now
        nextSeq := (x.nextSeq + l) % 65536, lastAt := if l = 0 then x.lastAt else some (gridAfter x.rate l s.now)
        waveMark := 1, waveFrom := s.now + 20000 + waveSettle x.cfg.wave }
      let s := (s.setPartRole 0 (g / 8) w.worn newRole).putInService 0 (g / 8) w.spare (g % 8)
      .next (endSwap w newRole s)

/-- FORCED_SLICE_SWAP (R420, R422, R427, R436): a hard failure of a slice, in service or spare, is found. -/
def execForcedSliceSwap (dt : Nat) (isl : Fin 8) (slice : Fin 10) (s : State) : Host.Outcome State Fault Refusal :=
  let s := s.advance dt
  let i := isl.val
  let n := slice.val
  let user := (List.range 8).find? fun c => (s.chan (i * 8 + c)).pslice = some n
  match user with
  | some c => .next (forceSlice (i * 8 + c) s)
  | none =>
    if 5 ≤ s.partRole 0 i n then .next s
    else match s.spr.swaps.find? fun w => w.pool == 0 && w.isl == i && w.spare == n with
      | some w => .next (refuseSpare w 6 (markHard 0 i n s))
      | none =>
        let s := freeHandoff i n (markHard 0 i n s)
        .next (checkPool 0 i (s.setPartRole 0 i n 6))

/-! ### Lanes and pages -/

/-- Transients of a block in the last 30 days (R433). -/
def Lanes.recent (x : Lanes) (now : Nat) : List (Nat × Nat) := x.transients.filter fun e => decide (now < e.1 + 2592000000000000)

/-- Record 0x0606 (R433, R441). -/
def laneRecord (b lane event : Nat) (s : State) : State :=
  note 0x0606 (poolSource 4 b) (le 1 lane ++ le 1 event ++ zeros 2 ++ le 4 ((s.lanes b).recent s.now).length) s

def setLaneFault (b : Nat) (v : Bool) (s : State) : State :=
  { s with spr := { s.spr with laneFault := tset false s.spr.laneFault b v } }

/-- LANE_SELF_TEST_END (R433). -/
def execLaneSelfTestEnd (dt : Nat) (block : Fin 3) (lane : Fin 3) (ok : Bool) (s : State) : Host.Outcome State Fault Refusal :=
  let s := s.advance dt
  let b := block.val
  let x := s.lanes b
  if x.roles.getD lane.val 0 ≠ 2 then .next s
  else
    let tr := if ok then x.recent s.now ++ [(s.now, lane.val)] else x.recent s.now
    let keep := ok && decide ((tr.filter fun e => e.2 = lane.val).length < 3)
    let s := s.setLanes b { roles := x.roles.set lane.val (if keep then 1 else 3), transients := tr }
    let s := setLaneFault b false s
    .next (checkPool 4 b (laneRecord b lane.val (if keep then 1 else 2) s))

/-- A page leaves use: record 0x0607 (R434, R441); with no spare page left the pool is SHORT (R437). -/
def retirePage (page : Nat) (s : State) : State :=
  let n := s.spr.sparePages
  let s := { s with spr := { s.spr with retiredPages := s.spr.retiredPages ++ [page], sparePages := n - 1 } }
  let s := if n = 0 then setShort 5 0 true s else s
  let s := note 0x0607 (poolSource 5 0) (le 8 (4096 * page) ++ le 2 (n - 1)) s
  checkPool 5 0 s

/-- PAGE_CORRECTED_ERROR (R420, R434). -/
def execPageCorrectedError (dt : Nat) (page : Fin 524544) (s : State) : Host.Outcome State Fault Refusal :=
  let s := s.advance dt
  let p := page.val
  let s := { s with spr := { s.spr with corrected := min 65535 (s.spr.corrected + 1) } }
  if s.spr.retiredPages.contains p then .next s
  else match s.spr.pageErrors.find? fun e => e.1 = p && decide (s.now < e.2 + 86400000000000) with
    | some _ => .next (retirePage p { s with spr := { s.spr with pageErrors := s.spr.pageErrors.filter fun e => e.1 ≠ p } })
    | none => .next { s with spr := { s.spr with pageErrors := (s.spr.pageErrors.filter fun e => e.1 ≠ p) ++ [(p, s.now)] } }

def execSpareStatus (dt : Nat) (c : Cmd) (env : Env) (s : State) : Host.Outcome State Fault Refusal :=
  runHere .spareStatus dt c env doSpareStatus s
def execSpareSwap (dt : Nat) (c : Cmd) (env : Env) (s : State) : Host.Outcome State Fault Refusal :=
  runHere .spareSwap dt c env doSpareSwap s
def execSparePolicy (dt : Nat) (c : Cmd) (env : Env) (s : State) : Host.Outcome State Fault Refusal :=
  runHere .sparePolicy dt c env doSparePolicy s
def execSpareApprove (dt : Nat) (c : Cmd) (env : Env) (s : State) : Host.Outcome State Fault Refusal :=
  runHere .spareApprove dt c env doSpareApprove s
def execWearRead (dt : Nat) (c : Cmd) (env : Env) (s : State) : Host.Outcome State Fault Refusal :=
  runHere .wearRead dt c env doWearRead s

end Sys2Proof.Machine
end

