-- ==== Sys2Proof/Machine/Modes.lean ====
section
/-! DEFINITION. Operating modes, role, profile, lifecycle and debug (R389 to R417), owner keys (R550), simulation and
calibration (R396 to R399). -/

namespace Sys2Proof.Machine

/-! ### The mode word (R389 to R392) -/

/-- Order in which bits fall, and in which they rise (R392). -/
def fallOrder : List ModeBit := [.drv, .ctl, .sim, .cal, .serv, .alm, .wave, .ring, .panel, .recd, .acq, .lean]
def riseOrder : List ModeBit := [.lean, .acq, .ring, .alm, .recd, .panel, .wave, .cal, .serv, .sim, .ctl, .drv]

def maskOf (l : List ModeBit) : BitVec 12 := l.foldl (fun m b => m ||| BitVec.ofNat 12 (2 ^ b.idx)) 0

/-- Bits forced off by the causes in force, were `cmd` the commanded word (R390): HOLD_SAFE 2 forces ACQ and ALM too. -/
def State.forceWant (s : State) (cmd : BitVec 12) : BitVec 12 :=
  if s.mod.life = .retired then 0xFFF
  else
    let a := if s.mod.holdSafe = 0 then 0 else maskOf [.ctl, .drv]
    let b := if s.mod.holdSafe = 2 || s.mss.islands.any (·.2.dead) then maskOf [.acq, .alm] else 0
    let c := if s.mod.debug = .full && s.mod.life = .sealed then maskOf [.drv, .sim] else 0
    let d := if s.mod.role = .standalone then maskOf [.ring] else 0
    let m := a ||| b ||| c ||| d
    m ||| (if (cmd &&& ~~~m).getLsbD ModeBit.lean.idx then maskOf [.wave] else 0)

/-- One simulation ends: a pin whose accepted state differs from the value shown gives a sample (R396). -/
def endSim (g : Nat) (s : State) : State :=
  match s.simOf g with
  | none => s
  | some y =>
    let s := { s with mod := { s.mod with sims := tdel s.mod.sims g } }
    let x := s.pin g
    let level := x.cfg.mode = 1 || x.cfg.mode = 2 || x.cfg.mode = 5
    if 64 ≤ g && level && boolWord x.state ≠ y.value then samplePin g s.now (boolWord x.state) 0 false s else s

/-- SIM falls: every simulation and force ends, with one record (R345, R395, R396). -/
def endSims (s : State) : State :=
  let l := s.mod.sims.map Prod.fst
  let s := endForces (l.foldl (fun s g => endSim g s) s)
  note 0x0316 0xFFFF (le 1 2 ++ zeros 9 ++ le 4 l.length) s

/-- Every calibration ends without a trim (R395). -/
def endCals (s : State) : State := (s.mod.cals.map Prod.fst).foldl (fun s g => abortCal g s) s

/-- ACQ falls (R72, R401 rows 6 and 7): sources off, calibrations, planned slice swaps and audits end. -/
def acqOff (s : State) : State :=
  let s := abortPlanned (fun w => w.pool ≠ 0) (endCals s)
  let s := (List.range 8).foldl (fun s i => endAudit i s) s
  { s with ana := { s.ana with chans := s.ana.chans.map fun (e : Nat × Chan) => (e.1, { e.2 with srcOn := none, window := none, rbFail := false }) } }

/-- ACQ rises: continuous sources come on, and the first samples of each channel carry UNSETTLED for one settling length (R72). -/
def acqOn (s : State) : State :=
  { s with ana := { s.ana with chans := s.ana.chans.map fun (e : Nat × Chan) =>
      (e.1, if e.2.cfg.usesSlice then { e.2 with
        unsettled := e.2.cfg.settle, unsettledW := 40, srcOn := if e.2.change.isNone then s.sourceOn e.2.cfg else none } else e.2) } }

/-- LEAN rises: no spare slice stays pre-armed (R395). -/
def leanOn (s : State) : State :=
  ((List.range 64).filter fun g => (s.chan g).spare.isSome).foldl (fun s g => releaseSpare g s) s

/-- What a bit does when it falls (R395). -/
def fallen (m : ModeBit) (s : State) : State :=
  match m with
  | .drv => pinsSafe (outputsSafe s)
  | .ctl => parkProgram s
  | .sim => endSims s
  | .cal => endCals s
  | .serv => endWaiting (abortPlanned (fun _ => false) s)
  | .alm => alarmOff s
  | .ring => ringOff s
  | .panel => panelOff s
  | .acq => acqOff s
  | .wave => wavesEnd s
  | .recd | .lean => s

/-- What a bit does when it rises (R395). -/
def risen (m : ModeBit) (s : State) : State :=
  match m with
  | .lean => leanOn s
  | .acq => acqOn s
  | .ring => ringOn s
  | .alm => alarmOn s
  | .panel => panelOn s
  | .serv => autoSwaps s
  | .ctl => unparkProgram s
  | .recd | .wave | .cal | .sim | .drv => s

/-- One bit of the commanded word and the forced mask takes its new value. -/
def putBit (m : ModeBit) (cmd forced : BitVec 12) (s : State) : State :=
  let b := BitVec.ofNat 12 (2 ^ m.idx)
  { s with mod := { s.mod with cmd := (s.mod.cmd &&& ~~~b) ||| (cmd &&& b), forced := (s.mod.forced &&& ~~~b) ||| (forced &&& b) } }

/-- A new commanded word and forced mask apply: falling bits, then rising bits (R392). -/
def applyWord (cmd forced : BitVec 12) (s : State) : State :=
  let eff := cmd &&& ~~~forced
  let s := fallOrder.foldl (fun s m => if s.mode m && !eff.getLsbD m.idx then fallen m (putBit m cmd forced s) else s) s
  let s := riseOrder.foldl (fun s m => if !s.mode m && eff.getLsbD m.idx then risen m (putBit m cmd forced s) else s) s
  { s with mod := { s.mod with cmd := cmd, forced := forced } }

/-- Record 0x0010 (R416). -/
def modeRecord (ses cause : Nat) (old : BitVec 12) (s : State) : State :=
  note 0x0010 ses (le 2 s.mod.cmd.toNat ++ le 2 s.modeWord.toNat ++ le 2 old.toNat ++ le 1 cause ++ zeros 1 ++ le 8 s.now) s

/-- The first cycle boundary at or after `t` (R324). -/
def State.boundaryFrom (s : State) (t : Nat) : Nat := if s.prg.period = 0 then t else upTo s.prg.period t

/-- Forces that no cause asks for are to be released at the next cycle boundary (R390). -/
def noteRelease (s : State) : State :=
  if s.mod.forced &&& ~~~(s.forceWant s.mod.cmd) = 0 then { s with mod := { s.mod with releaseAt := none } }
  else { s with mod := { s.mod with releaseAt := some (s.mod.releaseAt.getD (s.boundaryFrom (s.now + 1))) } }

/-- Causes that have come into force clear their bits now (R390). -/
def applyForces (cause : Nat) (s : State) : State :=
  let new := s.mod.forced ||| s.forceWant s.mod.cmd
  if new = s.mod.forced then noteRelease s
  else
    let old := s.modeWord
    noteRelease (modeRecord 0xFFFF cause old (applyWord s.mod.cmd new s))

/-- Cause of a release by the bits it frees (R390, R416). -/
def releaseCause (freed : BitVec 12) : Nat :=
  if freed.getLsbD ModeBit.wave.idx then 5
  else if freed.getLsbD ModeBit.ring.idx then 6
  else if freed.getLsbD ModeBit.sim.idx then 2
  else 4

/-- MODE_FORCE_RELEASE (R390). -/
def execModeForceRelease (dt : Nat) (s : State) : Host.Outcome State Fault Refusal :=
  let s := s.advance dt
  match s.mod.releaseAt with
  | none => .next s
  | some t =>
    if s.now < t then .next s
    else
      let want := s.forceWant s.mod.cmd
      let freed := s.mod.forced &&& ~~~want
      let old := s.modeWord
      let s := { s with mod := { s.mod with releaseAt := none } }
      .next (if freed = 0 then s else noteRelease (modeRecord 0xFFFF (releaseCause freed) old (applyWord s.mod.cmd want s)))

/-- MODE_SET (R391, R393). -/
def doModeSet (e : CmdEntry) (_ : Env) (s : State) : Rep × State :=
  let c := e.c
  let v := c.u16 32
  let m := c.u16 34
  let value := BitVec.ofNat 12 v
  let mask := BitVec.ofNat 12 m
  let new := (s.mod.cmd &&& ~~~mask) ||| (value &&& mask)
  if !c.restZero [(32, 4)] || !c.extZero 0 then (.bad 8, s)
  else if 4096 ≤ v ∨ 4096 ≤ m then (.bad 0xA0, s)
  else if s.rng.isMaster && !new.getLsbD ModeBit.ring.idx then (.conflict 0xA1, s)
  else if s.pwr.state = .holdover then (.conflict 0xA2, s)
  else
    let t := s.boundaryFrom (max e.start s.now)
    let t := if s.mod.applied = some t then s.boundaryFrom (t + 1) else t
    (.wait [], { s with mod := { s.mod with pending := some (new, t, e.id, c.session) } })

/-- MODE_WORD_APPLY (R391, R392): LEAN in force clears WAVE with a record of its own (R390). -/
def execModeWordApply (dt : Nat) (s : State) : Host.Outcome State Fault Refusal :=
  let s := s.advance dt
  match s.mod.pending with
  | none => .next s
  | some (new, t, id, ses) =>
    if s.now < t then .next s
    else
      let s := { s with mod := { s.mod with pending := none } }
      if s.pwr.state = .holdover then .next (completeCmd id stModeConflict (le 2 0xA2) s)
      else
        let old := s.modeWord
        let was := (s.mod.cmd, s.mod.forced)
        let forced := s.mod.forced ||| s.forceWant new
        let s := applyWord new forced { s with mod := { s.mod with applied := some t } }
        let s := if (new, old, forced) = (was.1, s.modeWord, was.2) then s else modeRecord ses 0 old s
        let s := if forced = was.2 then s else modeRecord 0xFFFF 5 s.modeWord s
        .next (completeCmd id stOk (le 2 new.toNat ++ le 2 s.modeWord.toNat ++ le 8 t) (noteRelease s))

/-- MODE_READ (R415). -/
def doModeRead (e : CmdEntry) (_ : Env) (s : State) : Rep × State :=
  if !e.c.restZero [] || !e.c.extZero 0 then (.bad 8, s)
  else
    let p := match s.mod.pending with | some (w, t, _) => (w.toNat, 1, t) | none => (0, 0, 0)
    (.ok (le 2 s.mod.cmd.toNat ++ le 2 s.modeWord.toNat ++ le 2 s.mod.forced.toNat ++ le 2 s.mod.start.toNat ++ le 2 p.1 ++ le 1 p.2.1 ++
      zeros 1 ++ le 8 p.2.2 ++ le 4 s.modState), s)

/-- ACQ and ALM (R406). -/
def acqAlm (w : Nat) : Bool := w % 4 = 3

/-- BAD_PARAM with detail SEAL_PRECONDITION and the condition that fails (R406). -/
def Rep.seal (n : Nat) : Rep := .final stBadParam (le 2 0xAB ++ le 1 n)

/-- START_WORD_SET (R394, R406, R415). -/
def doStartWordSet (e : CmdEntry) (_ : Env) (s : State) : Rep × State :=
  let c := e.c
  let w := c.u16 32
  if !c.restZero [(32, 2)] || !c.extZero 0 then (.bad 8, s)
  else if 4096 ≤ w then (.bad 0xA0, s)
  else if s.mod.life = .sealed && !acqAlm w then (.seal 2, s)
  else
    let old := s.mod.start
    (.ok [], note 0x0011 c.session (le 2 w ++ le 2 old.toNat) { s with mod := { s.mod with start := BitVec.ofNat 12 w } })

def roleOfNum : Nat → Role
  | 0 => .standalone | 1 => .master | 2 => .standbyMaster | _ => .member

/-- ROLE_SET (R403, R404): STANDALONE forces RING off and takes both ports down. -/
def doRoleSet (e : CmdEntry) (_ : Env) (s : State) : Rep × State :=
  let c := e.c
  let r := c.u8 32
  if !c.restZero [(32, 1)] || !c.extZero 0 || 3 < r then (.bad 8, s)
  else if s.mode .ring then (.conflict 0xA7, s)
  else
    let old := s.mod.role
    let s := note 0x0012 c.session (le 1 0 ++ le 1 r ++ le 1 old.num) { s with mod := { s.mod with role := roleOfNum r } }
    let s := if r = 0 then portDown 1 8 (portDown 0 8 s) else s
    (.ok [], applyForces 6 s)

/-- PROFILE_SET (R404). -/
def doProfileSet (e : CmdEntry) (_ : Env) (s : State) : Rep × State :=
  let c := e.c
  let p := c.u8 32
  if !c.restZero [(32, 1)] || !c.extZero 0 || 1 < p then (.bad 8, s)
  else
    let old := s.mod.profileNext
    (.ok [], note 0x0012 c.session (le 1 1 ++ le 1 p ++ le 1 old) { s with mod := { s.mod with profileNext := p } })

/-! ### Debug (R409 to R413) -/

/-- Debug closes and its token is revoked: record 0x0A12 (R412). -/
def closeDebug (cause : Nat) (s : State) : State :=
  if s.mod.debug = .closed then s
  else
    let lvl := DebugLevel.num s.mod.debug
    let ses := s.mod.dbgSession
    let s := { s with mod := { s.mod with debug := .closed, dbgToken := false, dbgCause := cause, dbgExpiry := 0 } }
    noteRelease (note 0x0A12 ses (le 1 cause ++ le 1 lvl) s)

/-- A new MOD_DBG_NONCE from the TRNG (R411): a free value. -/
def drawDebugNonce (s : State) : State :=
  let (v, s) := s.free
  { s with mod := { s.mod with nonce := v % 2 ^ 64 } }

/-- The level of DBG_EN as a command that reads the pin finds it. -/
def readDbgEn (env : Env) (s : State) : State :=
  match env.sense.head? with
  | some v => { s with mod := { s.mod with dbgEn := v ≠ 0 } }
  | none => s

/-- A debug token holds for a level (R411). -/
def tokenOk (s : State) (level : Nat) (x : List Byte) : Bool :=
  match s.sec.ownerKey with
  | none => false
  | some key =>
    Config.ecdsaOk key (Config.sha384 (x.take 32)) ((x.drop 32).take 96) && leAt x 4 8 = serialNo && leAt x 12 8 = s.mod.nonce &&
    decide (level ≤ byteAt x 2) && decide (s.now < leAt x 20 8)

/-- A point in service has COND FAULT and names fault source 176 (R406, R410). -/
def State.debugAlarm (s : State) : Bool :=
  s.alm.points.any fun e => e.2.inService && e.2.ctype = 5 && e.2.sources.any fun k => k.1 = 6 && k.2.2 = 176

/-- DEBUG_OPEN (R410, R411, R413). -/
def doDebugOpen (e : CmdEntry) (env : Env) (s : State) : Rep × State :=
  let c := e.c
  let s := readDbgEn env s
  let l := c.u8 32
  let x := fitBytes 128 c.ext
  let sealed := s.mod.life = .sealed
  let next := drawDebugNonce s
  if !c.restZero [(32, 1)] || (if sealed then !zeroAt x [(3, 1), (28, 4)] || !c.extZero 128 || c.paramLen ≠ 128 else !c.extZero 0) ||
      l = 0 || 2 < l || (sealed && (leAt x 0 2 ≠ 1 || byteAt x 2 = 0 || 2 < byteAt x 2)) then (.bad 8, next)
  else if !s.mod.dbgEn then (.bad 0xA9, next)
  else if sealed && !tokenOk s l x then (.unauth 0xA8, next)
  else if sealed && !s.debugAlarm then (.bad 0xAA, next)
  else if s.pwr.state = .holdover then (.conflict 0xA2, next)
  else
    let eight := s.now + 28800000000000
    let expiry := if sealed then min eight (leAt x 20 8) else eight
    let s := { next with mod := { next.mod with
      debug := if l = 1 then .observe else .full, dbgToken := sealed, dbgSession := c.session, dbgExpiry := expiry } }
    let s := applyForces 2 s
    (.ok [], note 0x0A11 c.session (le 1 l ++ le 1 (bit sealed 0) ++ zeros 2 ++ le 8 expiry) s)

/-- DEBUG_CLOSE (R412). -/
def doDebugClose (e : CmdEntry) (_ : Env) (s : State) : Rep × State :=
  if !e.c.restZero [] || !e.c.extZero 0 then (.bad 8, s) else (.ok [], closeDebug 0 s)

/-- DBG_EN_FALL (R412). -/
def execDbgEnFall (dt : Nat) (s : State) : Host.Outcome State Fault Refusal :=
  let s := s.advance dt
  .next (closeDebug 1 { s with mod := { s.mod with dbgEn := false } })

/-- DEBUG_EXPIRY (R412). -/
def execDebugExpiry (dt : Nat) (s : State) : Host.Outcome State Fault Refusal :=
  let s := s.advance dt
  if s.mod.debug = .closed || s.mod.life = .retired || s.now < s.mod.dbgExpiry then .next s else .next (closeDebug 2 s)

/-! ### Lifecycle (R405 to R407) and owner keys (R550) -/

/-- The lifecycle moves on: record 0x0A10; debug closes (R405, R412). -/
def setLife (new : Lifecycle) (ses : Nat) (s : State) : State :=
  let old := s.mod.life
  let s := closeDebug 5 s
  note 0x0A10 ses (le 1 new.num ++ le 1 old.num) { s with mod := { s.mod with life := new } }

/-- First 8 bytes of a key's SHA-384. -/
def keyPrefix (key : List Byte) : List Byte := fitBytes 8 (Config.sha384 key)

/-- OWNER_KEY_INSTALL (R405, R550, R571). -/
def doOwnerKeyInstall (e : CmdEntry) (_ : Env) (s : State) : Rep × State :=
  let c := e.c
  let key := fitBytes 97 c.ext
  if !c.restZero [] || !c.extZero 97 || c.paramLen ≠ 97 || byteAt key 0 ≠ 4 then (.bad 8, s)
  else if s.mod.life ≠ .opened then (.final stLifecycle [], s)
  else
    let s := { s with sec := { s.sec with ownerSlots := 1, ownerKey := some key } }
    (.ok (keyPrefix key), setLife .commission c.session (note 0x0A14 0 (keyPrefix key) s))

/-- OWNER_KEY_ROTATE (R550, R571). -/
def doOwnerKeyRotate (e : CmdEntry) (_ : Env) (s : State) : Rep × State :=
  let c := e.c
  let x := fitBytes 224 c.ext
  let key := x.take 97
  let good := match s.sec.ownerKey with
    | some k => Config.ecdsaOk k (Config.sha384 (key ++ le 8 serialNo)) ((x.drop 128).take 96)
    | none => false
  if !c.restZero [] || !zeroAt x [(97, 31)] || !c.extZero 224 || c.paramLen ≠ 224 || byteAt key 0 ≠ 4 then (.bad 8, s)
  else if 8 ≤ s.sec.ownerSlots then (.bad 0x107, s)
  else if !good then (.final 0x0B00 [], s)
  else
    let slot := s.sec.ownerSlots
    let s := { s with sec := { s.sec with ownerSlots := slot + 1, ownerKey := some key } }
    (.ok (keyPrefix key), closeDebug 5 (closeSessions 0 (note 0x0A14 slot (keyPrefix key) s)))

/-- CONFIRM names the node (R406, R407). -/
def confirmed (c : Cmd) : Bool := c.u32 36 = serialNo % 2 ^ 32

/-- SEAL (R405, R406). -/
def doSeal (e : CmdEntry) (env : Env) (s : State) : Rep × State :=
  let c := e.c
  let s := readDbgEn env s
  if !c.restZero [(36, 4)] || !c.extZero 0 then (.bad 8, s)
  else if !confirmed c then (.seal 1, s)
  else if !acqAlm s.mod.start.toNat then (.seal 2, s)
  else if !s.debugAlarm then (.seal 3, s)
  else if s.mod.debug ≠ .closed || s.mod.dbgEn then (.seal 4, s)
  else
    let s := closeSessions 0 s
    (.ok [], setLife .sealed c.session s)

/-- RETIRE (R405, R407, R549): every key the node can destroy is destroyed. -/
def doRetire (e : CmdEntry) (_ : Env) (s : State) : Rep × State :=
  let c := e.c
  if !c.restZero [(36, 4)] || !c.extZero 0 then (.bad 8, s)
  else if !confirmed c then (.seal 1, s)
  else
    let old := s.modeWord
    let was := s.mod.forced
    let s := applyWord s.mod.cmd 0xFFF s
    let s := if was = 0xFFF then s else modeRecord 0xFFFF 3 old s
    let s := { s with sec := { s.sec with ownerKey := none, ownerSlots := 8, storageOk := false }
                      rng := { s.rng with key0 := none, key1 := none, keySwitch := none, keyGrace := none } }
    let s := closeSessions 0 s
    let s := setLife .retired c.session s
    (.ok [], { s with mod := { s.mod with releaseAt := none } })

/-! ### Simulation (R396) -/

/-- Record 0x0316 (R416). -/
def simRecord (g action : Nat) (y : Sim) (s : State) : State :=
  note 0x0316 g (le 1 action ++ zeros 3 ++ le 4 y.value.toNat ++ le 2 y.qbits.toNat) s

/-- A simulation starts, is replaced, or ends: refused without SIM (R395), on an OUT channel (R396) and under calibration (R401). -/
def simulate (g action : Nat) (y : Sim) (s : State) : Rep × State :=
  if !s.mode .sim then (.conflict 0xA3, s)
  else if (s.chan g).cfg.kind = 8 then (.bad 0x20, s)
  else if s.mod.cals.any fun e => e.1 == g then (.conflict 0xA4, s)
  else if action = 0 then (.ok [], simRecord g 0 y { s with mod := { s.mod with sims := tput s.mod.sims g y } })
  else match s.simOf g with
    | none => (.ok [], s)
    | some old => (.ok [], simRecord g 1 old (endSim g s))

/-- QBITS with bit 5, 6, 7 or 15 (R396). -/
def qbitsBad (q : BitVec 16) : Bool := q &&& 0x80E0 ≠ 0

/-- CHANNEL_SIMULATE. -/
def doChannelSimulate (e : CmdEntry) (_ : Env) (s : State) : Rep × State :=
  let c := e.c
  let g := chanOf c
  let q := BitVec.ofNat 16 (c.u16 44)
  if !c.restZero [(32, 3), (36, 4), (40, 3), (44, 2)] || !c.extZero 0 || 7 < c.u8 32 || 7 < c.u8 33 || 1 < c.u8 34 then (.bad 8, s)
  else if qbitsBad q then (.bad 0xAD, s)
  else simulate g (c.u8 34) { value := c.w32 36, raw := leInt c.inl 8 3, qbits := q } s

/-- PIN_SIMULATE. -/
def doPinSimulate (e : CmdEntry) (_ : Env) (s : State) : Rep × State :=
  let c := e.c
  let q := BitVec.ofNat 16 (c.u16 44)
  if !c.restZero [(32, 3), (36, 4), (44, 2)] || !c.extZero 0 || 5 < c.u8 32 || 15 < c.u8 33 || 1 < c.u8 34 then (.bad 8, s)
  else if qbitsBad q then (.bad 0xAD, s)
  else simulate (64 + c.u8 32 * 16 + c.u8 33) (c.u8 34) { value := c.w32 36, raw := 0, qbits := q } s

/-! ### Calibration (R398, R399) -/

def State.cal (s : State) (g : Nat) : Option Cal := (s.mod.cals.find? (·.1 == g)).map (·.2)
def State.setCal (s : State) (g : Nat) (k : Cal) : State := { s with mod := { s.mod with cals := tput s.mod.cals g k } }
def State.setTrim (s : State) (g : Nat) (t : Word × Word) : State :=
  { s with mod := { s.mod with trims := tset (0x3F800000, 0) s.mod.trims g t } }

/-- A new trim applies from the first sample after it (R82, R398). -/
def State.newTrim (s : State) (g : Nat) (t : Word × Word) : State :=
  let u := s.setTrim g t
  { u with mod := { u.mod with trimsOld := tput s.mod.trimsOld g (s.now, s.trim g) } }

/-- Full-scale magnitude (R399). -/
def State.fullScale (s : State) (g : Nat) : Rat :=
  let x := s.chan g
  if x.cfg.kind = 8 then (if (s.out g).okind = 0 then 10 else 24) else rangeSpan x.cfg.range

/-- Field trim of one or two points, none outside its limits (R399). -/
def calTrim (fs : Rat) (l : List (Word × Word)) : Option (Word × Word) :=
  let t := match l with
    | [a] => some ((1 : Rat), f32Rat a.2 - f32Rat a.1)
    | a :: b :: _ =>
      let dx := f32Rat b.1 - f32Rat a.1
      if ratAbs dx * 10 < fs || dx = 0 then none
      else
        let g := (f32Rat b.2 - f32Rat a.2) / dx
        some (g, f32Rat a.2 - g * f32Rat a.1)
    | [] => none
  match t with
  | none => none
  | some (g, o) =>
    if g < mkRat 98 100 ∨ mkRat 102 100 < g ∨ fs * mkRat 5 1000 < ratAbs o then none else some (f32OfRat g, f32OfRat o)

/-- CLEAR under calibration resets the trim in force at once (R398). -/
def clearTrim (g : Nat) (s : State) : State :=
  let s := s.setTrim g (0x3F800000, 0)
  { s with mod := { s.mod with trimsOld := tdel s.mod.trimsOld g } }

/-- An output follows a change of its trim. -/
def retrim (g : Nat) (s : State) : State := if (s.chan g).cfg.kind = 8 then redrive g s else s

/-- Steps of a calibration in progress (R398). -/
def calStep (e : CmdEntry) (g : Nat) (k : Cal) (s : State) : Rep × State :=
  let c := e.c
  let out := (s.chan g).cfg.kind = 8
  let ref := c.w32 36
  let set := c.w32 40
  match c.u8 34 with
  | 1 =>
    if 2 ≤ k.points.length || k.capture.isSome then (.bad 0xA5, s)
    else if out then
      match k.set with
      | none => (.bad 0xA5, s)
      | some v => (.ok (le 4 0), s.setCal g { k with points := k.points ++ [(v, ref)] })
    else (.wait [g], s.setCal g { k with capture := some (e.id, ref, max e.start s.now, []) })
  | 2 =>
    if k.points.isEmpty then (.bad 0xA5, s)
    else match calTrim (s.fullScale g) k.points with
    | none => (.bad 0xA6, s)
    | some t =>
      let s := s.newTrim g t
      let s := { s with mod := { s.mod with cals := tdel s.mod.cals g } }
      (.ok (zeros 4 ++ le 4 t.1.toNat ++ le 4 t.2.toNat), calRecord g 2 k t.1 t.2 (retrim g s))
  | 3 => (.ok [], retrim g (abortCal g s))
  | _ =>
    if !out then (.bad 0x20, s)
    else if !outInRange (s.out g).okind set then (.bad 0x21, s)
    else if !s.mode .drv || s.outOwned g then (.conflict 0xA3, s)
    else (.ok [], applyPoint g set true (s.setCal g { k with set := some set }))

/-- CHANNEL_CALIBRATE. -/
def doChannelCalibrate (e : CmdEntry) (_ : Env) (s : State) : Rep × State :=
  let c := e.c
  let g := chanOf c
  let a := c.u8 34
  let finite := (a ≠ 1 || f32Finite (c.w32 36)) && (a ≠ 5 || f32Finite (c.w32 40))
  if !c.restZero [(32, 3), (36, 8)] || !c.extZero 0 || 7 < c.u8 32 || 7 < c.u8 33 || 5 < a || !finite then (.bad 8, s)
  else if !s.mode .cal || !s.mode .acq then (.conflict 0xA3, s)
  else match s.cal g with
  | none =>
    if a = 0 then
      if (s.chan g).cfg.kind = 0 then (.bad 0xA5, s)
      else if (s.simOf g).isSome then (.conflict 0xA4, s)
      else if s.swapHolds 0 (g / 8) (g % 8) || s.swapHolds 1 (g / 8) (g % 8) then
        let (ms, s) := holdTime (if s.swapHolds 0 (g / 8) (g % 8) then 0 else 1) (g / 8) (g % 8) s
        (.busy ms, s)
      else
        let t := s.trim g
        (.ok [], calRecord g 0 {} t.1 t.2 (s.setCal g {}))
    else if a = 4 then
      if (s.simOf g).isSome then (.conflict 0xA4, s)
      else (.ok [], calRecord g 4 {} 0x3F800000 0 (retrim g (s.newTrim g (0x3F800000, 0))))
    else (.bad 0xA5, s)
  | some k =>
    if a = 0 then (.bad 0xA5, s)
    else if a = 4 then (.ok [], calRecord g 4 k 0x3F800000 0 (clearTrim g s))
    else calStep e g k s

/-- CAL_CAPTURE_END (R398): 400 ms after S, or with the first usable sample up to 480 ms after it. -/
def execCalCaptureEnd (dt : Nat) (ch : Fin 64) (s : State) : Host.Outcome State Fault Refusal :=
  let s := s.advance dt
  let g := ch.val
  match s.cal g with
  | none => .next s
  | some k =>
    match k.capture with
    | none => .next s
    | some (id, ref, s0, vals) =>
      if s.now < s0 + 400000000 || (vals.isEmpty && s.now < s0 + 480000000) then .next s
      else if vals.isEmpty then .next (completeCmd id stBadParam (le 2 0xAE) (s.setCal g { k with capture := none }))
      else
        let mean := (vals.map f32Rat).foldl (· + ·) 0 / (vals.length : Rat)
        let s := s.setCal g { k with capture := none, points := k.points ++ [(f32OfRat mean, ref)] }
        .next (completeCmd id stOk (le 4 vals.length) s)

def execModeSet (dt : Nat) (c : Cmd) (env : Env) (s : State) : Host.Outcome State Fault Refusal :=
  runHere .modeSet dt c env doModeSet s
def execModeRead (dt : Nat) (c : Cmd) (env : Env) (s : State) : Host.Outcome State Fault Refusal :=
  runHere .modeRead dt c env doModeRead s
def execStartWordSet (dt : Nat) (c : Cmd) (env : Env) (s : State) : Host.Outcome State Fault Refusal :=
  runHere .startWordSet dt c env doStartWordSet s
def execRoleSet (dt : Nat) (c : Cmd) (env : Env) (s : State) : Host.Outcome State Fault Refusal :=
  runHere .roleSet dt c env doRoleSet s
def execProfileSet (dt : Nat) (c : Cmd) (env : Env) (s : State) : Host.Outcome State Fault Refusal :=
  runHere .profileSet dt c env doProfileSet s
def execDebugOpen (dt : Nat) (c : Cmd) (env : Env) (s : State) : Host.Outcome State Fault Refusal :=
  runHere .debugOpen dt c env doDebugOpen s
def execDebugClose (dt : Nat) (c : Cmd) (env : Env) (s : State) : Host.Outcome State Fault Refusal :=
  runHere .debugClose dt c env doDebugClose s
def execOwnerKeyInstall (dt : Nat) (c : Cmd) (env : Env) (s : State) : Host.Outcome State Fault Refusal :=
  runHere .ownerKeyInstall dt c env doOwnerKeyInstall s
def execOwnerKeyRotate (dt : Nat) (c : Cmd) (env : Env) (s : State) : Host.Outcome State Fault Refusal :=
  runHere .ownerKeyRotate dt c env doOwnerKeyRotate s
def execSeal (dt : Nat) (c : Cmd) (env : Env) (s : State) : Host.Outcome State Fault Refusal :=
  runHere .seal dt c env doSeal s
def execRetire (dt : Nat) (c : Cmd) (env : Env) (s : State) : Host.Outcome State Fault Refusal :=
  runHere .retire dt c env doRetire s
def execChannelSimulate (dt : Nat) (c : Cmd) (env : Env) (s : State) : Host.Outcome State Fault Refusal :=
  runHere .channelSimulate dt c env doChannelSimulate s
def execPinSimulate (dt : Nat) (c : Cmd) (env : Env) (s : State) : Host.Outcome State Fault Refusal :=
  runHere .pinSimulate dt c env doPinSimulate s
def execChannelCalibrate (dt : Nat) (c : Cmd) (env : Env) (s : State) : Host.Outcome State Fault Refusal :=
  runHere .channelCalibrate dt c env doChannelCalibrate s

end Sys2Proof.Machine
end

