-- ==== Sys2Proof/Machine/Recorder.lean ====
section
/-! DEFINITION. The event recorder: segments, quotas and overwrite (R473 to R478), the copy to NAND (R479, R480), NAND
blocks (R484, R485), the checkpoint (R488), mirroring (R481 to R483) and the recorder's commands (R489, R490). -/

namespace Sys2Proof.Machine

/-- U_s: segments that own severity `t` holds (R474). -/
def Recorder.held (r : Recorder) (t : Nat) : Nat :=
  (r.segments.filter fun g => !g.mirrored && g.sev == t).length

/-- Segments of mirrored records. -/
def Recorder.mirUsed (r : Recorder) : Nat := (r.segments.filter (·.mirrored)).length

/-- F: erased free segments (R475, R485). -/
def Recorder.freeSegs (r : Recorder) : Nat := 12288 - r.segLost - r.segments.length

def Recorder.q (r : Recorder) (t : Nat) : Nat := r.quota.getD t 0

/-- R_t of severity `t` (R475). -/
def Recorder.reserveOf (r : Recorder) (t : Nat) : Nat := r.q t - r.held t

/-- Sum of the reservations of every severity but `s`, the mirrored share included (R475). -/
def Recorder.reservedOthers (r : Recorder) (s : Nat) : Nat :=
  (((List.range 5).filter (· ≠ s)).map r.reserveOf).foldl (· + ·) 0 + (r.mirrorMax - r.mirUsed)

def Recorder.reservedAll (r : Recorder) : Nat :=
  ((List.range 5).map r.reserveOf).foldl (· + ·) 0 + (r.mirrorMax - r.mirUsed)

/-- An RSEQ every held RSEQ of its sequence space lies within 2^31 of: the node's next own one, or the first mirrored one
held (R470). -/
def Recorder.base (r : Recorder) (mir : Bool) : Nat :=
  if mir then
    ((((r.segments.filter (·.mirrored)).flatMap (·.recs) ++ r.staging.filter (·.mirrored)).head?).map (·.rseq)).getD 0
  else r.next

/-- Age of a closed segment: the RSEQ of its last record (R473), in sequence order. -/
def Segment.age (base : Nat) (g : Segment) : Nat := seqKey base (((g.recs.getLast?).map (·.rseq)).getD 0)

/-- The oldest of some segments (R473). -/
def oldestSeg (base : Nat) : List Segment → Option Segment
  | [] => none
  | g :: r => match oldestSeg base r with
    | none => some g
    | some h => some (if h.age base < g.age base then h else g)

/-- The victims of R475 for an own record of severity `s`. -/
def Recorder.victims (r : Recorder) (s : Nat) : List Segment :=
  r.segments.filter fun g => g.closed && !g.mirrored && (g.sev == s || (decide (g.sev < s) && decide (r.q g.sev < r.held g.sev)))

/-- A count of `n` is added to an entry of a per-severity counter, wrapping. -/
def addAt (l : List Nat) (k n : Nat) : List Nat := l.set k ((l.getD k 0 + n) % 2 ^ 32)

/-- An erased block joins the free ones with its erase counted (R484). -/
def Recorder.erase (g : Segment) (r : Recorder) : Recorder :=
  { r with
    segments := r.segments.filter fun h => h.block ≠ g.block
    erased := r.erased ++ [g.block]
    erases := tset 0 r.erases g.block (tget 0 r.erases g.block + 1) }

/-- A record of the node that the cursor has not passed (R482). -/
def Recorder.unmirrored (r : Recorder) (t : Stored) : Bool :=
  !r.mirSent || decide (seqKey r.next r.mirCursor < seqKey r.next t.rseq)

/-- Erasing a victim counts its own records as overwritten, and a record not yet mirrored as skipped
(R475, R482). -/
def Recorder.overwrite (g : Segment) (r : Recorder) : Recorder :=
  let r := if g.mirrored then r else { r with sevOver := addAt r.sevOver g.sev g.recs.length }
  let skip := if g.mirrored || r.mirTo = 0 || g.sev < r.mirSev then 0 else (g.recs.filter r.unmirrored).length
  { r with mirSkipped := (r.mirSkipped + skip) % 2 ^ 32, gone := r.gone ++ g.recs.map Stored.lost }.erase g

/-- Least erased of the blocks used before, lowest number first. -/
def leastErased (r : Recorder) : List Nat → Option Nat
  | [] => none
  | b :: l => match leastErased r l with
    | none => some b
    | some c => some (if tget 0 r.erases c < tget 0 r.erases b then c else b)

/-- First block that has never been used and is not retired. -/
def Recorder.neverUsed (r : Recorder) : Option Nat :=
  match (List.range (r.retired.length + 1)).find? fun i => !r.retired.contains (r.freshBlock + i) with
  | some i => if r.freshBlock + i < 12800 then some (r.freshBlock + i) else none
  | none => none

/-- The erased block with the lowest erase count (R484). -/
def Recorder.nextBlock (r : Recorder) : Option Nat :=
  match r.neverUsed with
  | some b => some b
  | none => leastErased r r.erased

/-- A block is in use from now. -/
def Recorder.takeBlock (b : Nat) (r : Recorder) : Recorder :=
  { r with freshBlock := max r.freshBlock (b + 1), erased := r.erased.filter (· ≠ b) }

/-- A new segment is opened on the erased block with the lowest erase count (R484). -/
def Recorder.openSeg (sev : Nat) (mir : Bool) (now : Nat) (r : Recorder) : Recorder :=
  let b := r.nextBlock.getD 0
  { r.takeBlock b with
    segments := r.segments ++
      [{ sev := sev, mirrored := mir, closed := false, block := b, used := 0, recs := [], scrubbed := now }] }

/-- SEGMENT_ALLOCATE for an own record of severity `s` (R475): none when it must be refused. -/
def Recorder.allocate (s now : Nat) (r : Recorder) : Option Recorder :=
  if 1 ≤ r.freeSegs ∧ (r.held s < r.q s ∨ r.reservedOthers s ≤ r.freeSegs - 1) then some (r.openSeg s false now)
  else match oldestSeg (r.base false) (r.victims s) with
    | none => none
    | some g => some ((r.overwrite g).openSeg s false now)

/-- SEGMENT_ALLOCATE for mirrored records (R483): at most MIRROR_MAX segments, the oldest mirrored one erased. -/
def Recorder.allocateMirror (now : Nat) (r : Recorder) : Option Recorder :=
  if r.mirUsed < r.mirrorMax ∧ 1 ≤ r.freeSegs then some (r.openSeg 0 true now)
  else match oldestSeg (r.base true) (r.segments.filter fun g => g.mirrored && g.closed) with
    | none => none
    | some g => some ((r.overwrite g).openSeg 0 true now)

/-- Segment that records of this kind fill now. -/
def Segment.fits (t : Stored) (g : Segment) : Bool := !g.closed && g.mirrored == t.mirrored && (t.mirrored || g.sev == t.sev)

/-- The record is added to the open segment it fits. -/
def Recorder.putOpen (t : Stored) (r : Recorder) : Recorder :=
  { r with segments := r.segments.map (fun g =>
      if Segment.fits t g then { g with used := g.used + t.len, recs := g.recs ++ [t] } else g) }

/-- A record goes to the open segment of its severity; a full one is closed and another allocated (R473, R475). The
Bool is false when the record was refused. -/
def Recorder.store (t : Stored) (now : Nat) (r : Recorder) : Bool × Recorder :=
  let put := Recorder.putOpen t
  match r.segments.find? (Segment.fits t) with
  | some g =>
    if g.used + t.len ≤ 262144 then (true, put r)
    else
      let r := { r with segments := r.segments.map fun h => if h.block = g.block then { h with closed := true } else h }
      match (if t.mirrored then r.allocateMirror now else r.allocate t.sev now) with
      | some r => (true, put r)
      | none => (false, r)
  | none =>
    match (if t.mirrored then r.allocateMirror now else r.allocate t.sev now) with
    | some r => (true, put r)
    | none => (false, r)

/-- Overflow records move into the ring as room returns, in RSEQ order (R480). -/
def moveOverflow : Nat → Recorder → Recorder
  | 0, r => r
  | n + 1, r =>
    match r.overflow with
    | [] => r
    | t :: rest =>
      if usedBytes r.staging + t.len ≤ 524288 then
        moveOverflow n { r with staging := r.staging ++ [t], overflow := rest }
      else r

/-- One record is copied from the staging ring to NAND (R479, R475). -/
def copyOne (s : State) : State :=
  match s.rcd.staging with
  | [] => s
  | t :: rest =>
    let (ok, r) := ({ s.rcd with staging := rest, catchup := s.rcd.catchup - 1 }).store t s.now
    if ok || t.mirrored then { s with rcd := r }
    else
      afterOffer t.sev .refused { s with rcd := { r with
        refused := true, sevRefused := bump r.sevRefused t.sev, refSince := bump r.refSince t.sev } }

/-- RECORD_COPY_NAND: the next `count` records of the ring, in RSEQ order; then room takes overflow records, and 0x0705
reports the end of overflow (R479, R480). -/
def execRecordCopyNand (dt : Nat) (count : Nat) (s : State) : Host.Outcome State Fault Refusal :=
  let s := s.advance dt
  let n := min count s.rcd.staging.length
  let s := (List.range n).foldl (fun s _ => copyOne s) s
  let had := !s.rcd.overflow.isEmpty
  let s := { s with rcd := moveOverflow s.rcd.overflow.length s.rcd }
  if had && s.rcd.overflow.isEmpty && dueAfter s.rcd.ovfAt 1000000000 s.now then
    let s := { s with rcd := { s.rcd with ovfAt := some s.now } }
    .next (note 0x0705 0 (le 4 0 ++ le 4 0 ++ le 4 s.rcd.displaced) s)
  else .next s

/-- QUOTA_RECLAIM: after a quota change, one over-quota segment at most every 10 ms until F covers the reservations
(R478). -/
def execQuotaReclaim (dt : Nat) (s : State) : Host.Outcome State Fault Refusal :=
  let s := s.advance dt
  let r := s.rcd
  if !r.reclaiming || s.now < r.reclaimAt + 10000000 then .next s
  else if r.reservedAll ≤ r.freeSegs then .next { s with rcd := { r with reclaiming := false } }
  else match oldestSeg (r.base false) (r.segments.filter fun g => g.closed && !g.mirrored && decide (r.q g.sev < r.held g.sev)) with
    | none => .next { s with rcd := { r with reclaiming := false } }
    | some g => .next { s with rcd := { r.overwrite g with reclaimAt := s.now } }

/-- NAND_SCRUB: one closed segment is read; above 16 corrected bits it is rewritten on another block (R484). -/
def execNandScrub (dt : Nat) (seg : Nat) (bits : Nat) (s : State) : Host.Outcome State Fault Refusal :=
  let s := s.advance dt
  let r := s.rcd
  match r.segments.find? (·.block == seg) with
  | none => .next s
  | some g =>
    if !g.closed then .next s
    else
      let scrubbed := { r with segments := r.segments.map fun h => if h.block = seg then { h with scrubbed := s.now } else h }
      if bits ≤ 16 then .next { s with rcd := scrubbed }
      else
        match r.nextBlock with
        | none => .next { s with rcd := scrubbed }
        | some b =>
          let moved := scrubbed.takeBlock b
          .next { s with rcd := { moved with
            erased := moved.erased ++ [seg]
            erases := tset 0 r.erases seg (tget 0 r.erases seg + 1)
            segments := scrubbed.segments.map fun h => if h.block = seg then { h with block := b } else h } }

/-- CHECKPOINT_WRITE: every 100 ms, into the other half of region 1 (R488). -/
def writeCheckpoint (s : State) : State :=
  { s with rcd := { s.rcd with
    checkpoint := s.now, checkHalf := !s.rcd.checkHalf
    checkProg := (s.prg.stateNum, s.prg.cycleCount) } }

def execCheckpointWrite (dt : Nat) (s : State) : Host.Outcome State Fault Refusal :=
  .next (writeCheckpoint (s.advance dt))

/-- REC_STATUS (R492). -/
def recStatus (s : State) : Nat :=
  let r := s.rcd
  bit r.refused 0 + 2 * r.mirState + bit (0 < r.catchup) 3 + 16 * s.poolNow 7 0 +
    256 * (100 * usedBytes r.staging / 524288) + bit (!r.overflow.isEmpty) 16

/-- RECORDER_STATUS (R489, R476): ends the refusal fault source. -/
def doRecorderStatus (e : CmdEntry) (_ : Env) (s : State) : Rep × State :=
  if !e.c.restZero [] || !e.c.extZero 0 then (.bad 0x08, s)
  else
    let r := s.rcd
    let pl := le 4 (recStatus s) ++ le 4 r.next ++ (List.range 5).flatMap (fun t => le 2 (r.held t)) ++
      le 2 r.mirUsed ++ (List.range 5).flatMap (fun t => le 4 (r.sevRefused.getD t 0))
    (.ok pl, { s with rcd := { r with refused := false } })

/-- Quota limits of R474. -/
def quotaOk (q : List Nat) (mir : Nat) : Bool :=
  decide (64 ≤ q.getD 3 0) && decide (64 ≤ q.getD 4 0) && decide (q.foldl (· + ·) 0 + mir ≤ 12032)

def quotaRecord (ses : Nat) (s : State) : State :=
  note 0x0702 ses ((List.range 5).flatMap (fun t => le 2 (s.rcd.q t)) ++ le 2 s.rcd.mirrorMax) s

/-- QUOTA_SET (R474, R478, R489). -/
def doQuotaSet (e : CmdEntry) (_ : Env) (s : State) : Rep × State :=
  let q := (List.range 5).map fun t => e.c.u16 (32 + 2 * t)
  if !e.c.restZero [(32, 10)] || !e.c.extZero 0 then (.bad 0x08, s)
  else if !quotaOk q s.rcd.mirrorMax then (.bad 0xD0, s)
  else
    let r := { s.rcd with quota := q }
    (.ok [], quotaRecord e.c.session { s with rcd := { r with reclaiming := decide (r.freeSegs < r.reservedAll) } })

/-- RECORD_MARK (R469, R470, R489): SEV 0 to 2, text of 1 to 1,004 bytes; the RSEQ is answered. -/
def doRecordMark (e : CmdEntry) (_ : Env) (s : State) : Rep × State :=
  let sev := e.c.u8 32
  if !e.c.restZero [(32, 1)] then (.bad 0x08, s)
  else if 2 < sev then (.bad 0x08, s)
  else if e.c.paramLen < 1 ∨ 1004 < e.c.paramLen then (.bad 0xD3, s)
  else
    let text := fitBytes e.c.paramLen e.c.ext
    let pad := (4 - text.length % 4) % 4
    let t : Stored := { sev := sev, mirrored := false, fmt := 1, rseq := 0, time := s.now
                        body := le 1 e.c.session ++ zeros 3 ++ text ++ zeros pad }
    let rseq := s.rcd.next
    if !s.mode .recd then (.ok (le 4 rseq), s)
    else
      let (p, r) := placeRecord t s.rcd
      (.ok (le 4 rseq), afterOffer sev p { s with rcd := r })

/-- Bytes of a stored record (R469). -/
def Stored.bytes (t : Stored) : List Byte :=
  le 2 t.len ++ le 1 (t.sev + bit t.mirrored 3) ++ le 1 t.fmt ++ le 4 t.rseq ++ le 8 t.time ++ t.body

/-- Every record held, in the store and the ring, own or mirrored (R479, R483). -/
def Recorder.all (r : Recorder) (mir : Bool) : List Stored :=
  let seg := (r.segments.filter (·.mirrored == mir)).flatMap (·.recs)
  (seg ++ r.staging.filter (·.mirrored == mir) ++ (if mir then [] else r.overflow))

/-- Records in RSEQ order. -/
def sortByRseq (base : Nat) (l : List Stored) : List Stored := sortBy (fun t => seqKey base t.rseq) l

/-- Records held of some severities, in RSEQ order (R490). -/
def Recorder.matching (r : Recorder) (mir : Bool) (mask : Nat) : List Stored :=
  (sortByRseq (r.base mir) (r.all mir)).filter fun t => mask.testBit t.sev

/-- GAP of RECORD_READ (R490): a matching record was overwritten in the range read, which ends before RSEQ `stop` when a
later record is left, or, read by TIME, at any earlier place. -/
def Recorder.gap (r : Recorder) (mir : Bool) (mask : Nat) (start stop : Option Nat) : Bool :=
  let key := seqKey (r.base mir)
  r.gone.any fun g => g.mirrored == mir && mask.testBit g.sev &&
    (match start with | some x => decide (key x ≤ key g.rseq) | none => true) &&
    (match stop with | some x => decide (key g.rseq < key x) | none => true)

/-- Whole records that fit a length. -/
def takeFit : Nat → List Stored → List Stored
  | _, [] => []
  | n, t :: r => if t.len ≤ n then t :: takeFit (n - t.len) r else []

/-- RECORD_READ (R489, R490). -/
def doRecordRead (e : CmdEntry) (_ : Env) (s : State) : Rep × State :=
  let c := e.c
  let mode := c.u8 32
  let mask := c.u8 33
  let mir := c.u8 34
  let start := c.u32 36
  let addr := c.u64 40
  let len := c.u32 48
  let time := c.u64 56
  if !c.restZero [(32, 3), (36, 4), (40, 8), (48, 4), (56, 8)] || !c.extZero 0 then (.bad 0x08, s)
  else if 1 < mode ∨ 31 < mask ∨ 1 < mir ∨ len < 1024 ∨ 1048576 < len then (.bad 0x08, s)
  else if addr % 64 ≠ 0 then (.bad 0xD1, s)
  else
    let l := s.rcd.matching (mir = 1) mask
    let key := seqKey (s.rcd.base (mir = 1))
    let none' := if mir = 1 then 0 else s.rcd.next
    let oldest := (l.head?.map (·.rseq)).getD none'
    if mode = 0 ∧ (∃ t, l.head? = some t ∧ key start < key t.rseq) then
      (.final 0x0800 (zeros 12 ++ le 4 oldest), s)
    else
      let from' := if mode = 0 then l.dropWhile fun t => decide (key t.rseq < key start)
        else l.dropWhile fun t => decide (t.time < time)
      let out := takeFit len from'
      let bytes := out.flatMap Stored.bytes
      let rest := from'.drop out.length
      let nextAsk := match rest.head? with
        | some t => t.rseq
        | none => match out.getLast? with
          | some t => (t.rseq + 1) % 2 ^ 32
          | none => if mode = 0 then start else none'
      let gap := s.rcd.gap (mir = 1) mask (if mode = 0 then some start else none) (rest.head?.map (·.rseq))
      let pl := le 4 out.length ++ le 4 bytes.length ++ le 4 nextAsk ++ le 4 oldest ++ le 1 (bit gap 0 + bit rest.isEmpty 1)
      if bytes.isEmpty then (.ok pl, s) else answerThrough e.id addr bytes pl s

/-- Size of a journal region (R486). -/
def regionSize : Nat → Nat
  | 0 => 8192 | 1 => 57344 | 2 => 524288 | 3 => 65536 | 4 => 65536 | 5 => 65536 | 6 => 65536
  | 7 => 65536 | 8 => 524288 | 9 => 1048576 | 10 => 5242880 | _ => 0

/-- JOURNAL_READ (R489, R490): the region's bytes, both copies of every entry, whose layout inside a region the spec does
not give; they are free bytes of Config at this instant. -/
def doJournalRead (e : CmdEntry) (_ : Env) (s : State) : Rep × State :=
  let c := e.c
  let off := c.u32 36
  let addr := c.u64 40
  let len := c.u32 48
  if !c.restZero [(32, 1), (36, 4), (40, 8), (48, 4)] || !c.extZero 0 then (.bad 0x08, s)
  else if 10 < c.u8 32 ∨ len = 0 ∨ 1048576 < len ∨ regionSize (c.u8 32) < off + len then (.bad 0xD4, s)
  else
    let (k, s) := s.free
    answerThrough e.id addr ((List.range len).map fun i => Config.freeByte k (off + i)) [] s

/-- Record 0x0704 of a change of mirror state (R483, R491). -/
def setMirState (n : Nat) (s : State) : State :=
  if s.rcd.mirState = n then s
  else
    let s := { s with rcd := { s.rcd with mirState := n } }
    note 0x0704 s.rcd.mirTo (le 1 n ++ zeros 3 ++ le 4 s.rcd.mirCursor ++ le 4 s.rcd.mirSkipped) s

/-- NAND_BLOCK_FAIL: the block is retired, a spare takes its place and its records are written again; without a spare the
store loses a segment (R485, R437). -/
def execNandBlockFail (dt : Nat) (block : Nat) (cause : Fin 3) (s : State) : Host.Outcome State Fault Refusal :=
  let s := s.advance dt
  let r := s.rcd
  if r.retired.contains block || 12800 ≤ block then .next s
  else
    let had := r.spares
    let r := { r with retired := r.retired ++ [block], erased := r.erased.filter (· ≠ block) }
    let holds := r.segments.any fun g => g.block == block
    let r :=
      if 0 < had then
        match (if holds then r.nextBlock else none) with
        | none => { r with spares := had - 1 }
        | some b =>
          { r.takeBlock b with
            spares := had - 1
            segments := r.segments.map fun g => if g.block = block then { g with block := b } else g }
      else
        { r with segLost := r.segLost + 1, reclaiming := true }
    let s := note 0x0703 block (le 2 r.spares ++ le 1 cause.val) { s with rcd := r }
    .next (checkPool 7 0 s)

/-- Records that still have to be mirrored, in RSEQ order (R482). -/
def mirrorQueue (r : Recorder) : List Stored :=
  (sortByRseq r.next (r.all false)).filter fun t => decide (r.mirSev ≤ t.sev) && r.unmirrored t

/-- A frame of whole records of at most 2,048 payload bytes goes to the partner, at RATE on average; the cursor waits while the
partner is absent, RING is 0 or the path is down (R482), and while the mirroring does not fit the path that is left (R380). -/
def sendMirror (s : State) : State :=
  let q := mirrorQueue s.rcd
  let out := takeFit 2048 q
  let n := usedBytes out
  if s.rcd.mirTo = 0 || !s.mode .ring || !s.rng.members.contains s.rcd.mirTo || out.isEmpty || decide (s.now < s.rcd.mirFree) ||
      (ringTest s s.testFlows [] s.mirrorNow (s.dirTo s.rcd.mirTo)).isSome then s
  else
    originate 4 3 s.rcd.mirTo none (out.flatMap Stored.bytes) { s with rcd := { s.rcd with
      mirWait := some s.now, mirFree := s.now + 1000000000 * n / max 1 s.rcd.mirRate } }

/-- MIRROR_FRAME: records of the accepted peer go to the staging ring with MIRRORED, and MIRROR_ACK answers with the highest
RSEQ placed; frames of any other node are refused (R481, R482). -/
def execMirrorFrame (dt : Nat) (src : Fin 33) (recs : List StoredRecord) (s : State) :
    Host.Outcome State Fault Refusal :=
  let s := s.advance dt
  if src.val = 0 || src.val ≠ s.rcd.mirFrom || !s.mode .ring then .next s
  else
    let place := fun (r : Recorder) (x : StoredRecord) =>
      { r with staging := r.staging ++
        [{ sev := x.sev, mirrored := true, fmt := x.fmt, rseq := x.rseq, time := x.time, body := x.body }] }
    let fits := recs.takeWhile fun x =>
      decide (usedBytes s.rcd.staging + (recs.map fun y => 16 + y.body.length).foldl (· + ·) 0 ≤ 524288) && decide (x.sev ≤ 4)
    let r := fits.foldl place s.rcd
    match fits.getLast? with
    | none => .next s
    | some x => .next (originate 4 4 src.val none (le 4 x.rseq) { s with rcd := r })

/-- MIRROR_ACK_FRAME: the cursor advances (R482). -/
def execMirrorAckFrame (dt : Nat) (src : Fin 33) (rseq : Word) (s : State) : Host.Outcome State Fault Refusal :=
  let s := s.advance dt
  if src.val = 0 || src.val ≠ s.rcd.mirTo then .next s
  else
    let n := rseq.toNat
    let cur := if s.rcd.mirSent && decide (seqKey s.rcd.next n < seqKey s.rcd.next s.rcd.mirCursor) then s.rcd.mirCursor else n
    let s := { s with rcd := { s.rcd with mirCursor := cur, mirSent := true, mirWait := none } }
    .next (sendMirror (setMirState (if (mirrorQueue s.rcd).isEmpty then 1 else 2) s))

/-- MIRROR_RESEND: 20 ms without an acknowledgement; the sender starts again from the cursor (R482). -/
def execMirrorResend (dt : Nat) (s : State) : Host.Outcome State Fault Refusal :=
  let s := s.advance dt
  if s.rcd.mirTo = 0 then .next s
  else match s.rcd.mirWait with
    | some t => if t + 20000000 ≤ s.now then .next (sendMirror (setMirState 2 s)) else .next s
    | none => .next (sendMirror s)

/-- MIRROR_CONFIGURE (R474, R481, R489). -/
def doMirrorConfigure (e : CmdEntry) (_ : Env) (s : State) : Rep × State :=
  let c := e.c
  let to' := c.u8 32
  let from' := c.u8 33
  let rate := c.u32 36
  let mx := c.u16 40
  let bad := fun (n : Nat) => decide (32 < n) || (n ≠ 0 && n = s.rng.node)
  if !c.restZero [(32, 3), (36, 6)] || !c.extZero 0 then (.bad 8, s)
  else if bad to' || bad from' then (.bad 0xD2, s)
  else if 4 < c.u8 34 ∨ rate < 1000 ∨ 10000000 < rate then (.bad 8, s)
  else if !quotaOk ((List.range 5).map s.rcd.q) mx then (.bad 0xD0, s)
  else match (if to' = 0 then none else ringTests s s.testFlows [] (some (to', rate))) with
  | some f => (.final stAdmission { f with detail := 0x53 : Failure }.payload, s)
  | none =>
    let s := { s with rcd := { s.rcd with
      mirTo := to', mirFrom := from', mirSev := c.u8 34, mirRate := rate, mirrorMax := mx, mirWait := none } }
    (.ok [], setMirState (if to' = 0 then 0 else if (mirrorQueue s.rcd).isEmpty then 1 else 2) s)

def execMirrorConfigure (dt : Nat) (c : Cmd) (env : Env) (s : State) : Host.Outcome State Fault Refusal :=
  runHere .mirrorConfigure dt c env doMirrorConfigure s
def execRecordRead (dt : Nat) (c : Cmd) (env : Env) (s : State) : Host.Outcome State Fault Refusal :=
  runHere .recordRead dt c env doRecordRead s
def execRecorderStatus (dt : Nat) (c : Cmd) (env : Env) (s : State) : Host.Outcome State Fault Refusal :=
  runHere .recorderStatus dt c env doRecorderStatus s
def execQuotaSet (dt : Nat) (c : Cmd) (env : Env) (s : State) : Host.Outcome State Fault Refusal :=
  runHere .quotaSet dt c env doQuotaSet s
def execRecordMark (dt : Nat) (c : Cmd) (env : Env) (s : State) : Host.Outcome State Fault Refusal :=
  runHere .recordMark dt c env doRecordMark s
def execJournalRead (dt : Nat) (c : Cmd) (env : Env) (s : State) : Host.Outcome State Fault Refusal :=
  runHere .journalRead dt c env doJournalRead s

end Sys2Proof.Machine
end

