-- ==== Sys2Proof/Machine/Reset.lean ====
section
/-! DEFINITION. The full reset (R456 to R459): what its assertion does and what is lost with class V and class I (R463, R464). Every
cause of R456 ends in `assertReset`. -/

namespace Sys2Proof.Machine

/-! ### What class V loses (R463, R464) -/

/-- Flows after a full reset (R231 to R233, R257): an open flow is HELD and keeps its journaled items; items held only in the backlog
are counted; the accepted blocks of a stream wait to be rebuilt, the words of a block not yet accepted are lost. -/
def resetFlow (now : Nat) (x : Flow) : Flow :=
  let keep := if x.stream then [] else x.items.filter (·.journaled)
  let gone := if x.stream then [] else x.items.filter fun i => !i.journaled
  let words := (x.filling.map fun b => b.gapWords + b.words.length).foldl (· + ·) 0
  let blocks := x.items.map fun i => { i with stage := .queued, entry := none, backlog := false }
  let y : Flow := { x with
    state := if x.state = .closed then .closed else .held
    lateReset := false, lateExt := 0, lateSeq := 0, tail := x.dtail, lost := 0, headErr := false, layoutErr := false
    lowSeen := false, stallSeen := false
    items := keep.map fun i => { i with stage := .queued, entry := none, backlog := false, late := false }
    tokens := 1000000000 * x.burst, tokenAt := now, allowance := 1000000000, allowanceAt := now, overCount := 0
    overFirst := 0, overAt := none, refCount := 0, refAt := none, refTotal := 0, unannounced := 0, unannAt := 0
    lowAt := none, waited := 0, stallLost := 0, filling := [], closing := none
    paused := x.stream, rebuilt := if x.stream then x.rebuilt ++ blocks else []
    gapWords := if x.stream then x.gapWords + words else x.gapWords }
  { y with resetLost := match gone.head?, gone.getLast? with
      | some a, some b => some (gone.length, a.seq, b.seq)
      | _, _ => none }

/-- The host port and the command processor: registers, rings, session keys and windows go, the command journal stays (R257, R281,
R288, R290). -/
def resetHost (s : State) : State :=
  { s with
    host := { bus := s.host.bus, flushNext := s.host.flushNext }
    flows := (s.flows.map fun (e : Nat × Flow) => (e.1, resetFlow s.now e.2)).filter fun (e : Nat × Flow) => e.2 ≠ {}
    cp := { nextId := s.cp.nextId, exec := s.cp.exec, resetEntry := s.cp.resetEntry } }

/-- The recorder: records held only in core memory are lost and counted (R480). -/
def resetRecorder (s : State) : State :=
  let r := s.rcd
  let gone := r.overflow ++ r.waiting
  let above := gone.foldl (fun l t => bump l t.sev) r.sevOver
  { s with rcd := { r with
    refused := false, refSince := [0, 0, 0, 0, 0], refAt := [none, none, none, none, none], sevOver := above, overflow := []
    gone := r.gone ++ r.overflow.map Stored.lost
    displaced := 0, ovfAt := none, restored := false, waiting := [], catchup := 0, mirState := 0, mirWait := none, mirFree := 0
    recLost := r.recLost || !gone.isEmpty } }

/-- The core's side of the islands: registers of the last samples, range handoffs, simulations and calibrations. The island
controllers keep their class I state (R463). -/
def resetCoreSide (s : State) : State :=
  let s := (List.range 64).foldl (fun s g => releaseSpare g s) s
  let s := (List.range 8).foldl (fun s i => endAudit i s) s
  let chan := fun (x : Chan) => { x with
    hstate := 0, hdir := 0, armCount := 0, relCount := 0, holdOff := 0, glides := 0, falls := 0, last := none, latch := none
    crossAt := none, claimed := false }
  let out := fun (o : Output) => { o with
    rbi := 0x7FC00000, rbv := 0x7FC00000, rbvLatch := none, rail := 0x7FC00000, compliance := false, fails := 0, passes := 0
    staged := o.staged.map fun (t : Word × Nat × Option Nat × Bool) => (t.1, t.2.1, none, t.2.2.2), pairCmd := none }
  let pin := fun (x : Pin) => { x with
    freq := 0, last := none, usableAt := s.now, latch := none, retries := 0, curr := 0, level := false, accepted := false, transAt := 0
    wireBreak := false, thermal := false, openOn := false, openOff := false, extSupply := false
    cfg := match x.modeNext with | some n => n.old | none => x.cfg
    modeNext := none, moveCmd := none
    staged := x.staged.map fun (t : Bool × Nat × Option Nat) => (t.1, t.2.1, none) }
  { s with
    ana := { s.ana with
      chans := (s.ana.chans.map fun (e : Nat × Chan) => (e.1, chan e.2)).filter fun (e : Nat × Chan) => e.2 ≠ ({} : Chan)
      outs := (s.ana.outs.map fun (e : Nat × Output) => (e.1, out e.2)).filter fun (e : Nat × Output) => e.2 ≠ ({} : Output)
      isls := (s.ana.isls.map fun (e : Nat × AIsland) => (e.1, { e.2 with
        blankCount := 0, refOk := 0, cjOk := 0, cj0 := [], cj1 := [] })).filter fun (e : Nat × AIsland) => e.2 ≠ ({} : AIsland) }
    dig := {
      pins := (s.dig.pins.map fun (e : Nat × Pin) => (e.1, pin e.2)).filter fun (e : Nat × Pin) => e.2 ≠ ({} : Pin)
      isls := (s.dig.isls.map fun (e : Nat × DIsland) => (e.1, { e.2 with
        lplus := none, volt := 0 })).filter fun (e : Nat × DIsland) => e.2 ≠ ({} : DIsland) }
    mod := { s.mod with sims := [], cals := [], trimsOld := [], pending := none, applied := none, releaseAt := none } }

/-- Swaps met by a full reset (R436): one not handed over is undone; a source transfer at a partial share gives its current back
after the hold. Class V of the pools is lost. -/
def resetSwaps (s : State) : State :=
  let s := (s.spr.swaps.filter fun w => w.pool ≤ 1).foldl (fun s w =>
    let g := w.isl * 8 + w.idx
    let o := s.out g
    if w.pool = 1 && w.method = 2 && o.cellB = some w.spare && 0 < 16 - o.shareA then
      s.setOut g { o with target := none, removing := none, waiting := false, giveBack := true }
    else
      let s := if w.pool = 1 && w.method = 2 && o.cellB = some w.spare then
          s.setOut g { o with cellB := none, target := none, removing := none, waiting := false } else s
      s.setPartRole w.pool w.isl w.spare 1) s
  let s := s.spr.swaps.foldl (fun s w => undoRail w s) s
  { s with spr := { s.spr with
    swaps := s.spr.swaps.filter (·.railOver)
    proposals := [], audits := [], corrected := 0, pageErrors := [], boostWear := [0, 0, 0, 0, 0], shares := [], shareWear := [] } }

/-- RETAIN variables stay, every other variable returns to its reset value (R306, R344). -/
def retained (img : Image) (w : Work) : Work :=
  { vars := w.vars.zipIdx.map fun (e : Var × Nat) => if (img.vars.getD e.2 {}).retain then e.1 else {} }

/-- What a reset leaves of a set: its configuration, one that waits for its boundary included. -/
def resetSet (x : ConSet) : ConSet :=
  match x.next with
  | some (m, r, _) => { configured := true, reduce := r, members := m }
  | none => { configured := x.configured, reduce := x.reduce, members := x.members }

/-- The program: only its images, its configuration, its state and its RETAIN variables stay (R344). A period or set configured and
not yet at its boundary is configuration already (R289). -/
def resetProgram (s : State) : State :=
  let p := s.prg
  { s with prg := { p with
    wasRunning := p.wasRunning || p.stateNum = 2
    period := match p.newPeriod, s.rng.change with | some (v, _), _ => v | none, some (_, v, _) => v | none, none => p.period
    newPeriod := none, startReq := none, stopReq := none, lastSnap := none, notBefore := 0, phase := .idle
    cur := match s.image with | some i => retained i p.cur | none => {}
    work := {}, pubAt := none, pubCount := 0, firstCycle := true, cycleCount := 0, lastSolve := 0, maxSolve := 0
    overrun := false, ovrCount := 0, ovrConsec := 0, skipped := false, infeasible := false, inputs := [], usable := []
    imports := [], remote := [], forces := [], forceReq := [], notDriven := []
    sets := (p.sets.map fun (e : Nat × ConSet) => (e.1, resetSet e.2)).filter fun (e : Nat × ConSet) => e.2 ≠ {} } }

/-- Sources that this node's own pairs publish (R381). -/
def pairsPublished (l : List (Nat × Option Pair)) : List (Nat × Nat) :=
  l.foldl (fun m e => match e.2 with
    | some p =>
      let k := 65536 + p.localCh
      tset 0 m k (BitVec.ofNat 32 (tget 0 m k) ||| nodeMask [p.peer]).toNat
    | none => m) []

/-- The ring and the Time Unit: ports, membership and lock are lost; configuration, what it subscribes to (R378) and keys stay. -/
def resetRing (s : State) : State :=
  let r := s.rng
  { s with rng := {
    subs := r.subs, published := pairsPublished r.pairs
    node := r.node, priority := r.priority, key0 := r.key0, key1 := r.key1, pairs := r.pairs, leap := r.leap
    ppsInEn := r.ppsInEn, ppsPol := r.ppsPol, ppsOutEn := r.ppsOutEn, ppsDelay := r.ppsDelay
    port0 := { en := r.port0.en, modAbs := r.port0.modAbs }, port1 := { en := r.port1.en, modAbs := r.port1.modAbs } } }

/-- A staging job met by a full reset: its bank is unusable (R569). -/
def dropStages (s : State) : State :=
  let s := (s.mss.stage.filter fun j => j.bad.isNone).foldl (fun s j => s.setKind j.kind (ImageKind.setBank (s.kindOf j.kind) j.bank none)) s
  { s with mss := { s.mss with stage := [] } }

/-- All of class V is lost (R463): debug and sessions close with their records first (R281, R412). -/
def loseVolatile (cause : Nat) (s : State) : State :=
  let s := closeDebug 3 s
  let s := { s with mod := { s.mod with dbgSession := 0, dbgCause := 0 }, mss := { s.mss with half := false } }
  let s := if s.mod.life = .sealed then closeSessions cause s else s
  let s := haltAbort { s with rtc := { s.rtc with
    shift := s.rtc.shift.map fun (x : Nat × Bool × Option Nat) => (x.1, x.2.1, none), snap := {}, snapSub := 0, snapNt := 0 } }
  let s := dropStages (resetRing (resetProgram (alarmReset s)))
  panelReset (resetRecorder (resetHost (resetCoreSide (resetSwaps s))))

/-! ### What class I loses -/

/-- The islands lose their supply phases: outputs fall, samples held are gone (R135, R161, R450). -/
def islandsOff (s : State) : State :=
  let s := (List.range 8).foldl (fun s i =>
    let x := s.aisl i
    s.setAisl i { blankCfg := x.blankCfg, hold := x.hold, present := x.present, lost := x.lost }) s
  let s := (List.range 6).foldl (fun s d =>
    let x := s.disl d
    s.setDisl d { hold := x.hold, gmode := x.gmode, present := x.present, lost := x.lost, sp0Ok := x.sp0Ok, sp1Ok := x.sp1Ok
                  railPin := x.railPin, railDrv := x.railDrv }) s
  let s := s.outputs.foldl (fun s g =>
    let o := s.out g
    s.setOut g { okind := o.okind, failLow := o.failLow, ne43 := o.ne43, safeMode := o.safeMode, tp := o.tp, tn := o.tn
                 safeValue := o.safeValue, cellA := o.cellA, cellB := o.cellB, degraded := o.degraded }) s
  { s with dig := { s.dig with
    pins := (s.dig.pins.map fun (e : Nat × Pin) =>
      (e.1, ({ cfg := e.2.cfg, onSpare := e.2.onSpare, owner := e.2.owner, wear := e.2.wear, wearLevel := e.2.wearLevel
               role := e.2.role } : Pin))).filter fun (e : Nat × Pin) => e.2 ≠ ({} : Pin) } }

/-- A channel of an island that starts cold, once it has its configuration (R71, R462). -/
def coldChan (x : Chan) : Chan :=
  let d := match x.condNext with | some n => n.cond | none => x.cond
  let y : Chan := { cfg := x.cfg, cond := d, pslice := x.pslice, psource := x.psource, mismatch := x.mismatch }
  if x.cfg.usesSlice then
    { y with conn := x.cfg.joins (x.pslice.getD 60) (x.psource.getD 60), rangeNow := startRange x.cfg d
             unsettled := x.cfg.settle, unsettledW := 40, gap := true }
  else { y with gap := x.cfg.kind ≠ 0 }

/-- The switches of a restored configuration are tested before they enter service (R40); a shorted one stays out. Failures are numbered
by island × 4096 + path. -/
def coldTests (fails : List Nat) (s : State) : State :=
  (List.range 8).foldl (fun s i =>
    let mine := (fails.filter fun n => decide (n / 4096 = i)).map (· % 4096)
    let l := (List.range 8).flatMap fun c => s.heldSwitches (i * 8 + c)
    let s := l.eraseDups.foldl (fun s j => testSwitch i 0 (if shortedIn mine j then 0 else 1) mine s j) s
    (List.range 8).foldl (fun s c =>
      let x := s.chan (i * 8 + c)
      s.setChan (i * 8 + c) { x with conn := x.conn.filter fun j => !shortedIn mine j }) s) s

/-- The islands start cold (R462): phases on, links up, switches tested, outputs at their safe values until their owner's first
value. -/
def islandsCold (answer : BitVec 14) (fails : List Nat) (s : State) : State :=
  let s := (List.range 8).foldl (fun s i => s.setAisl i { s.aisl i with
    powered := true, supply := 3, linkUp := answer.getLsbD i, lost := !answer.getLsbD i }) s
  let s := (List.range 6).foldl (fun s d => s.setDisl d { s.disl d with
    powered := true, supply := 3, linkUp := answer.getLsbD (8 + d), lost := !answer.getLsbD (8 + d) }) s
  let s := { s with ana := { s.ana with
    chans := (s.ana.chans.map fun (e : Nat × Chan) => (e.1, coldChan e.2)).filter fun (e : Nat × Chan) => e.2 ≠ ({} : Chan) } }
  let s := (List.range 64).foldl (fun s g =>
    let x := s.chan g
    if x.cfg.usesSlice then setMismatch g 1 (x.mismatch || !s.curveMatches x) (s.setChan g { x with srcOn := s.sourceOn x.cfg }) else s) s
  let s := coldTests fails s
  let s := s.outputs.foldl (fun s g => takeSafe g (s.setOut g { s.out g with active := true })) s
  let s := { s with dig := { s.dig with pins := s.dig.pins.map fun (e : Nat × Pin) => (e.1, { e.2 with gap := true }) } }
  pinsSafe s

/-! ### The assertion -/

/-- Every island finds its link silent and starts its hold (R133, R161, R457). -/
def islandsHold (s : State) : State :=
  let s := (List.range 8).foldl (fun s i =>
    let x := s.aisl i
    if !x.powered then s
    else
      let s := if x.quiet then s else holdOutputs i s
      s.setAisl i { s.aisl i with linkUp := false, lost := false }) s
  (List.range 6).foldl (fun s d =>
    let x := s.disl d
    if !x.powered then s
    else
      let s := if x.quiet then s else holdPins d s
      s.setDisl d { s.disl d with linkUp := false, lost := false }) s

/-- One more cause in the restore record's OTHER (R459). -/
def addOther (cause : Nat) (s : State) : State :=
  { s with pwr := { s.pwr with other := s.pwr.other ||| BitVec.ofNat 16 (2 ^ (cause - 1)) } }

/-- Causes that count against a trial (R561, R566). -/
def faultCause (cause : Nat) : Bool := decide (9 ≤ cause ∧ cause ≤ 13)

/-- The MSS counts a start that ended (R566), and the 24 h of a trial run anew after a fault (R561). -/
def judgeTrial (cause : Nat) (s : State) : State :=
  let m := s.mss
  let bad := if faultCause cause then s.now :: m.badStarts.take 2 else []
  let slow := if s.host.ready then 0 else if s.pwr.tRel + 1000000000 < s.now then m.slowStarts + 1 else m.slowStarts
  let three := match bad with | [a, _, c] => decide (a ≤ c + 600000000000) | _ => false
  let failed := m.trial.isSome && (three || decide (3 ≤ slow))
  { s with mss := { m with
    badStarts := bad, slowStarts := slow, trialFailed := m.trialFailed || failed
    trial := if faultCause cause then m.trial.map fun _ => s.now else m.trial } }

/-- The bookkeeping of an assertion (R457 to R459): a cause before READY (`nested`) restarts the timeline and is counted in NESTED. -/
def noteAssertion (cause : Nat) (kept nested : Bool) (s : State) : State :=
  let p := s.pwr
  let recent := if nested then s.now :: p.nestedAt.filter fun t => decide (s.now < t + 10000000000) else []
  let runs := if cause = 13 then p.coreSupplyRuns + 1 else 0
  let held := p.heldInReset || decide (3 ≤ runs)
  let s := { s with pwr := { p with
    cause := cause, prior := if p.state = .run then 0 else if p.state = .holdover then 1 else if p.state = .dormant then 2 else 3
    other := if nested then p.other else 0, nested := if nested then min 255 (p.nested + 1) else 0, nestedAt := recent
    coreSupplyRuns := runs, heldInReset := held, phase := .asserted, assertedAt := s.now, tR := s.now, nodeOk := false
    islandsKept := kept, catchup := false, dormantGoing := none, onHold := false, sealed := false, unsealed := false
    holdover := none, parked := false, state := .run
    powerOn := decide (1 ≤ cause ∧ cause ≤ 3) || cause = 14 || (p.powerOn && (p.phase = .asserted || p.phase = .released || p.phase = .links)) } }
  if held && !p.heldInReset then logEntry 9 cause [] s else s

/-- Assertion of the one full reset while the core is powered (R456 to R459). In HOLDOVER it is only recorded (R451), during an
assertion it is added to OTHER. `cycle` switches the island phases off too (R467). -/
def assertReset (cause : Nat) (cycle : Bool) (s : State) : State :=
  if s.pwr.state = .holdover then addOther cause s
  else if s.pwr.state ≠ .run then s
  else if s.pwr.phase = .asserted then addOther cause s
  else
    let nested := !s.host.ready
    let cycle := cycle || (match s.cp.resetPending with | some (_, 2, _, _) => true | _ => false)
    let s := judgeTrial cause s
    let s := if cycle then s else islandsHold s
    let s := loseVolatile 2 s
    let s := if cycle then islandsOff s else s
    noteAssertion cause (!cycle) nested s

/-- FULL_RESET_ASSERT (R457): the cause by its code of R456. -/
def execFullResetAssert (dt : Nat) (cause : Fin 15) (s : State) : Host.Outcome State Fault Refusal :=
  let s := s.advance dt
  .next (if cause.val = 0 then s else assertReset cause.val false s)

/-- PERST_ASSERT (R244, R459): the pin's assertion and its release; in DORMANT the release is a wake source. -/
def execPerstAssert (dt : Nat) (low : Bool) (s : State) : Host.Outcome State Fault Refusal :=
  let s := s.advance dt
  let s := { s with pwr := { s.pwr with perst := low, perstSeen := s.pwr.perstSeen || low } }
  .next (if low then assertReset 4 false s else s)

/-- HOT_RESET_RECEIVE (R244): Hot Reset or Link Disable. -/
def execHotResetReceive (dt : Nat) (s : State) : Host.Outcome State Fault Refusal := .next (assertReset 5 false (s.advance dt))

/-- RESET_N_PIN (R456, R457): held low for 10 µs, or released. -/
def execResetNPin (dt : Nat) (low : Bool) (s : State) : Host.Outcome State Fault Refusal :=
  let s := s.advance dt
  let s := { s with pwr := { s.pwr with resetN := low } }
  .next (if low then assertReset 6 false s else s)

/-- WATCHDOG_TIMEOUT (R456): core firmware silent for 50 ms. -/
def execWatchdogTimeout (dt : Nat) (s : State) : Host.Outcome State Fault Refusal := .next (assertReset 10 false (s.advance dt))

/-- CORE_SUPPLY_FAULT (R456, R459): a core rail out of regulation for 10 µs; three in a row hold the node in reset. -/
def execCoreSupplyFault (dt : Nat) (s : State) : Host.Outcome State Fault Refusal := .next (assertReset 13 false (s.advance dt))

/-- MEMORY_UE (R434): the page is retired at the restart. -/
def execMemoryUe (dt : Nat) (page : Fin 524544) (s : State) : Host.Outcome State Fault Refusal :=
  let s := s.advance dt
  let s := if s.pwr.state = .run || s.pwr.state = .holdover then { s with spr := { s.spr with uePage := some page.val } } else s
  .next (assertReset 11 false s)

/-- The Block Engine abandons its cycle (R340, R433). -/
def abandonCycle (s : State) : State := { s with prg := { s.prg with phase := .idle, work := {} } }

/-- LANE_DISAGREEMENT (R433): `lane` is the outvoted lane of the pair, none when the three lanes give three results. -/
def execLaneDisagreement (dt : Nat) (block : Fin 3) (lane : Option (Fin 3)) (s : State) : Host.Outcome State Fault Refusal :=
  let s := s.advance dt
  let b := block.val
  let x := s.lanes b
  let spare := (List.range 3).find? fun l => x.roles.getD l 3 = 1
  let s := setLaneFault b true s
  match lane, spare with
  | some l, some k =>
    if x.roles.getD l.val 3 ≠ 0 then .next s
    else
      let s := s.setLanes b { x with roles := (x.roles.set l.val 2).set k 0 }
      .next (checkPool 4 b (laneRecord b l.val 0 s))
  | _, _ =>
    let s := laneRecord b (match lane with | some l => l.val | none => 255) 3 s
    .next (if b = 2 then abandonCycle s else assertReset 12 false s)

/-- The reply of a DEVICE_RESET or DORMANT_ENTER has been delivered: its flow no longer holds it (R287, R452). -/
def State.replyGone (s : State) (flow seq : Nat) : Bool :=
  decide (flow < 256) && decide ((s.flow flow).seq ≠ seq) && !(s.flow flow).items.any (·.seq == seq)

/-- Flow and SEQ that a command's reply will have, and the latest instant to wait for it (R287, R452). -/
def replyWait (e : CmdEntry) (s : State) : Nat × Nat × Nat :=
  let f := if e.fromMaster.isSome then 256 else e.c.replyFlow
  (f, (s.flow f).seq, e.start + 2000000 + classDeadline (s.flow f).cls)

/-- DEVICE_RESET (R287, R467): completes with OK; the reset follows the reply. -/
def doDeviceReset (e : CmdEntry) (_ : Env) (s : State) : Rep × State :=
  let k := e.c.u8 32
  if !e.c.restZero [(32, 1)] || !e.c.extZero 0 || 1 < k then (.bad 8, s)
  else
    let (f, q, t) := replyWait e s
    (.ok [], { s with cp := { s.cp with resetPending := some (t, k, f, q) } })

def execDeviceReset (dt : Nat) (c : Cmd) (env : Env) (s : State) : Host.Outcome State Fault Refusal :=
  runHere .deviceReset dt c env doDeviceReset s

/-- DEVICE_RESET_ASSERT (R287, R467): with KIND 1 the island phases go off first, 50 ms before the assertion. -/
def execDeviceResetAssert (dt : Nat) (s : State) : Host.Outcome State Fault Refusal :=
  let s := s.advance dt
  match s.cp.resetPending with
  | none => .next s
  | some (t, k, f, q) =>
    if s.now < t && !s.replyGone f q then .next s
    else if k = 1 then
      let s := islandsOff s
      .next { s with cp := { s.cp with resetPending := some (s.now + 50000000, 2, 256, 0) } }
    else .next (assertReset 7 (k = 2) s)

/-! ### Clock losses (R27) -/

/-- HOST_REFCLK_LOSS (R27): the host port's link goes down and flows with items stall; the MSS logs what its clock monitor saw
(R542). -/
def execHostRefclkLoss (dt : Nat) (s : State) : Host.Outcome State Fault Refusal :=
  let s := s.advance dt
  if s.host.speed = 0 then .next s
  else
    let s := { s with host := { s.host with speed := 0, width := 0, inL1 := false } }
    let s := logEntry 6 0 (zeros 3) s
    .next (linkRecord ([0, 1, 2].foldl (fun s pf => stopFunction pf s) (setIrq 1 s)))

/-- RING_TX_CLOCK_LOSS (R27): both ports stop transmitting until the next full reset; the neighbours find no valid link word and no
CYCLE frame. The ports themselves go down by the rows of R362. -/
def execRingTxClockLoss (dt : Nat) (s : State) : Host.Outcome State Fault Refusal :=
  let s := s.advance dt
  .next { s with rng := { s.rng with txLost := true } }

end Sys2Proof.Machine
end

