-- ==== Sys2Proof/Machine/Boot.lean ====
section
/-! DEFINITION. From the release of a reset to normal running (R457 to R466): lane self-tests, boot set, island images, the journal
restore with its restore record, acquisition, alarm evaluation and READY; the cold start (R462). -/

namespace Sys2Proof.Machine

/-! ### Sets and their compatibility (R560, R563) -/

/-- What the stamps of an image say of another KIND's VERSION: nothing, contained or excluded. -/
def Bank.says (x : Bank) (kind version : Nat) : Option Bool :=
  let l := x.stamps.filter fun t => t.1 = kind
  if l.isEmpty then none else some (l.any fun t => decide (t.2.1 ≤ version ∧ version ≤ t.2.2))

/-- Two images of a set are declared compatible (R560). -/
def compatible (ka : Nat) (a : Bank) (kb : Nat) (b : Bank) : Bool :=
  let p := a.says kb b.version
  let q := b.says ka a.version
  p ≠ some false && q ≠ some false && (p = some true || q = some true)

/-- Pairs of KINDs 0 to 4, lower first. -/
def kindPairs : List (Nat × Nat) := (List.range 5).flatMap fun a => ((List.range 5).filter (a < ·)).map fun b => (a, b)

/-- The first pair of a set that is not declared compatible; the set names a bank of each KIND. -/
def State.badPair (s : State) (set : List Nat) : Option (Nat × Nat) :=
  let img := fun k => ((s.kindOf k).bank (set.getD k 0)).getD { good := false, stamps := [] }
  kindPairs.find? fun e => !compatible e.1 (img e.1) e.2 (img e.2)

def State.setUsable (s : State) (set : List Nat) : Bool :=
  (List.range 5).all fun k => s.usable k ((s.kindOf k).bank (set.getD k 0))

def State.activeSet4 (s : State) : List Nat := (List.range 5).map fun k => (s.kindOf k).active

/-- Bank of each KIND of the proven set. -/
def State.provenSet (s : State) : Option (List Nat) := s.mss.proven.map fun p => p.1.map Prod.fst

def activate (set : List Nat) (s : State) : State :=
  (List.range 5).foldl (fun s k =>
    let x := s.kindOf k
    s.setKind k { x with active := set.getD k 0, staged := x.staged && x.active = set.getD k 0 }) s

/-- The choice of R563: outcome and set, none when no core image is usable. -/
def bootChoice (s : State) : Option (Nat × List Nat) :=
  let cand := s.activeSet4
  let proven := s.provenSet
  let provenOk := match proven with | some p => s.setUsable p | none => false
  if s.mss.trialFailed && provenOk then some (4, proven.getD cand)
  else if s.setUsable cand && (proven = some cand || (s.badPair cand).isNone) then some (if proven = some cand then 1 else 0, cand)
  else if provenOk then some (2, proven.getD cand)
  else
    let x := s.kindOf 0
    let core := if s.usable 0 (x.bank x.active) then some x.active
      else if s.usable 0 (x.bank (1 - x.active)) then some (1 - x.active) else none
    core.map fun c => (3, cand.set 0 c)

/-- Banks of a set whose image has another hash than its DIGEST; bit 2 × KIND + bank. -/
def hashFails (bad : BitVec 10) (set : List Nat) : List (Nat × Nat) :=
  ((List.range 5).map fun k => (k, set.getD k 0)).filter fun e => bad.getLsbD (2 * e.1 + e.2)

/-- The configuration must suit the running core firmware too (R390). -/
def State.configSuits (s : State) : Bool := compatible 0 (s.kindOf 0).run 4 (s.kindOf 4).run

/-- BOOT_SET_SELECT (R561, R563, R564): the 24 h of a trial run anew after another power state or HOLD_SAFE; record 0x0A04 and log entry; an image with a wrong hash repeats the start. Answers whether the
start goes on. -/
def bootSelect (hashBad : BitVec 10) (s : State) : Bool × State :=
  match bootChoice s with
  | none => (false, logEntry 9 0 [] { s with pwr := { s.pwr with heldInReset := true } })
  | some (o, set) =>
    let fails := (hashFails hashBad set).filter fun e => ((s.kindOf e.1).bank e.2).isSome
    if !fails.isEmpty then
      let s := fails.foldl (fun s e =>
        let x := s.kindOf e.1
        s.setKind e.1 (x.setBank e.2 ((x.bank e.2).map fun b => { b with good := false }))) s
      (false, { s with pwr := { s.pwr with assertedAt := s.now, nested := min 255 (s.pwr.nested + 1), nestedAt := s.now :: s.pwr.nestedAt } })
    else
      let s := activate set s
      let m := s.mss
      let anew := s.pwr.prior ≠ 0 || s.mod.holdSafe ≠ 0 || o = 3
      let trial := if o = 0 ∨ o = 3 then some (if anew then s.now else m.trial.getD s.now) else none
      let s := { s with mss := { m with outcome := o, trial := trial, proposed := m.proposed && o = 0, trialFailed := false } }
      let s := { s with mod := { s.mod with holdSafe := if o ≠ 3 then 0 else if s.configSuits then 1 else 2 } }
      let s := noteSev (if o < 2 then 0 else if o = 2 then 2 else 3) 0x0A04 o 0 s.versions s
      (true, logEntry 4 0 (le 1 o ++ s.versions) s)

/-- An island takes its safe values because no image runs on it (R565). -/
def islandSafe (i : Nat) (s : State) : State :=
  if i < 8 then (s.outputs.filter fun g => g / 8 = i).foldl (fun s g => takeSafe g s) s
  else (s.doPins.filter fun g => pinIsl g = i - 8).foldl (fun s g => pinSafe g s) s

/-- ISLAND_IMAGE_SELECT (R565): the active slot when it is compatible with the running core firmware, else the other one. -/
def selectImage (s : State) (i : Nat) : State :=
  let x := tget {} s.mss.islands i
  let core := (s.kindOf 0).run
  let fits := fun (b : Option Bank) => match b with | some b => compatible 0 core (islandKind i) b | none => false
  let y := if fits (x.at x.slot) then { x with dead := false }
    else if fits (x.at (1 - x.slot)) then { x with slot := 1 - x.slot, dead := false }
    else { x with dead := true }
  let s := imageRecord i false { s with mss := { s.mss with islands := tset {} s.mss.islands i y } }
  if y.dead then islandSafe i s else s

/-! ### Release -/

/-- Every lane of a block runs its self-test (R433); `ok` has one bit per lane. -/
def testLanes (s : State) (b : Nat) (ok : Nat → Bool) : State :=
  let x := s.lanes b
  let alive := (List.range 3).filter fun l => x.roles.getD l 3 ≠ 3
  let pass := alive.filter ok
  let order := (pass.filter fun l => x.roles.getD l 3 = 0) ++ (pass.filter fun l => x.roles.getD l 3 ≠ 0)
  let role := fun l => if !pass.contains l then 3 else if order.idxOf l < 2 then 0 else 1
  let s := s.setLanes b { x with roles := (List.range 3).map role }
  (alive.filter fun l => !ok l).foldl (fun s l => laneRecord b l 2 s) s

/-- Reset causes of R456 released: MSS checks, lane self-tests, boot set (R433, R457, R459, R563). -/
def releaseReset (lanes : BitVec 9) (hashBad : BitVec 10) (s : State) : State :=
  let p := s.pwr
  let wait := if 4 ≤ (p.nestedAt.filter fun t => decide (s.now < t + 10000000000)).length then 1000000000 else 1000000
  let wait := if p.cause = 13 && decide (0 < p.coreSupplyRuns) then max wait (if 2 ≤ p.coreSupplyRuns then 1000000000 else 1000000) else wait
  if p.phase ≠ .asserted || p.state ≠ .run || p.heldInReset || p.resetN || decide (s.now < p.assertedAt + wait) then s
  else
    let s := { s with pwr := { s.pwr with phase := .released, tRel := s.now } }
    let s := (List.range 3).foldl (fun s b => testLanes s b (fun l => lanes.getLsbD (3 * b + l))) s
    let few := (List.range 3).any fun b => decide (((s.lanes b).roles.filter (· ≠ 3)).length < 2)
    let s := { s with spr := { s.spr with laneFault := [] } }
    if few then logEntry 9 0 [] { s with pwr := { s.pwr with phase := .asserted, heldInReset := true } }
    else
      let (go, s) := bootSelect hashBad s
      if !go then { s with pwr := { s.pwr with phase := .asserted } }
      else
        let s := drawDebugNonce (drawNonce s)
        if s.mod.life = .retired && s.mod.dbgEn then { s with mod := { s.mod with debug := .full } } else s

/-- RESET_RELEASE (R457): a reset over which the islands kept power. -/
def execResetRelease (dt : Nat) (lanes : BitVec 9) (hashBad : BitVec 10) (s : State) : Host.Outcome State Fault Refusal :=
  let s := s.advance dt
  if s.pwr.islandsKept then .next (releaseReset lanes hashBad s) else .next s

/-- Node Time resumes from the RTC (R377). -/
def resumeFromRtc (s : State) : State :=
  let d := s.now - s.pwr.tRel
  let t := s.rtcNodeTime
  let s := stepTime t s
  { s with pwr := { s.pwr with tRel := t - d } }

/-- RESTART_LINKS_UP (R460): `answer` has a bit per island, A0 to A7 then D0 to D5. Node Time resumes from the first that answers
(R377); each island reports its image (R565). -/
def execRestartLinksUp (dt : Nat) (answer : BitVec 14) (s : State) : Host.Outcome State Fault Refusal :=
  let s := s.advance dt
  if s.pwr.phase ≠ .released || !s.pwr.islandsKept then .next s
  else
    let up := fun (i : Nat) (powered : Bool) => powered && answer.getLsbD i
    let s := (List.range 8).foldl (fun s i => let x := s.aisl i; s.setAisl i { x with linkUp := up i x.powered, lost := x.powered && !answer.getLsbD i }) s
    let s := (List.range 6).foldl (fun s d => let x := s.disl d
                                              s.setDisl d { x with linkUp := up (8 + d) x.powered, lost := x.powered && !answer.getLsbD (8 + d) }) s
    let s := if answer = 0 then resumeFromRtc s else s
    let s := (List.range 14).foldl selectImage s
    .next { s with pwr := { s.pwr with phase := .links } }

/-! ### The journal restore -/

/-- The system flow as the node opens it (R208). -/
def systemFlow : Flow :=
  { state := .held, cls := 2, admitted := 2, rate := 2000, burst := 256, replies := true, size := 64, window := 19814000000
    tokens := 256000000000, allowance := 1000000000 }

/-- A part whose journaled wear is lost (R464, R487). -/
def Part.unworn (x : Part) : Part := { x with index := 0, level := 0, metric := 0, measured := 0 }

/-- The whole journal counts as empty (R487): class J returns to its reset values. -/
def emptyJournal (s : State) : State :=
  let point := fun (x : Point) => { x with
    oosCmd := false, seq := 0, shelf := none, tU := none, step := 0, silUntil := none, escOff := 0, cond := false, raw := false
    rawA := false, rawB := false }
  let group := fun (x : Group) => { x with foPoint := 0, foValid := false, armed := true, key := 0 }
  { s with
    flows := [], cp := { s.cp with exec := [], resetEntry := none }
    alm := { s.alm with
      points := (s.alm.points.map fun (e : Nat × Point) => (e.1, point e.2)).filter fun (e : Nat × Point) => e.2 ≠ ({} : Point)
      groups := (s.alm.groups.map fun (e : Nat × Group) => (e.1, group e.2)).filter fun (e : Nat × Group) => e.2 ≠ ({} : Group), cabin := none }
    prg := { s.prg with cur := {} }
    dig := { s.dig with pins := (s.dig.pins.map fun (e : Nat × Pin) => (e.1, { e.2 with wear := 0, wearLevel := 0 })).filter fun (e : Nat × Pin) => e.2 ≠ {} }
    spr := { s.spr with
      slices := s.spr.slices.map fun (e : Nat × Option Part) => (e.1, e.2.map Part.unworn)
      cells := s.spr.cells.map fun (e : Nat × Option Part) => (e.1, e.2.map Part.unworn)
      cp := { s.spr.cp with transients := [] }, ae := { s.spr.ae with transients := [] }, be := { s.spr.be with transients := [] } }
    rcd := { s.rcd with next := 0, sevRefused := [0, 0, 0, 0, 0], sevOver := [0, 0, 0, 0, 0], gone := [], staging := [], erases := []
                        mirCursor := 0, mirSent := false, mirSkipped := 0 }
    pnl := { s.pnl with image := [], target := [], ledger := [], regions := [], uncertain := false }
    mod := { s.mod with cmd := 0 }
    ana := { s.ana with chans := (s.ana.chans.map fun (e : Nat × Chan) => (e.1, { e.2 with seen := none })).filter fun (e : Nat × Chan) => e.2 ≠ ({} : Chan) } }

/-- Points whose two journal copies failed return to their reset value (R487). -/
def losePoint (s : State) (p : Nat) : State :=
  let x := s.point p
  s.setPoint p { x with oosCmd := false, seq := 0, shelf := none, tU := none, step := 0, silUntil := none, escOff := 0, cond := false, raw := false
                        rawA := false, rawB := false }

/-- Everything under the storage key is unreadable (R549): class P and class J content is gone, fuses and class B stay. -/
def unreadable (s : State) : State :=
  { s with
    flows := [], cp := { nextId := s.cp.nextId }, rcd := {}, ana := { isls := s.ana.isls.map fun (e : Nat × AIsland) => (e.1, { e.2 with blankCfg := 0x02000000, hold := 0 }) }
    dig := { isls := s.dig.isls.map fun (e : Nat × DIsland) => (e.1, { e.2 with hold := 0, gmode := [0, 0, 0, 0] }) }
    alm := {}, prg := {}, rng := {}, spr := {}, pnl := {}, other := none
    mod := { life := s.mod.life, dbgEn := s.mod.dbgEn, debug := s.mod.debug, nonce := s.mod.nonce, cmd := s.mod.cmd, forced := s.mod.forced } }

/-- The recorder takes up its ring; what waited in core memory is placed in RSEQ order (R479). -/
def restoreRecorder (s : State) : State :=
  let w := s.rcd.waiting
  let r := { s.rcd with restored := true, catchup := s.rcd.staging.length, waiting := [] }
  { s with rcd := w.foldl (fun r t => (placeRecord t r).2) r }

/-- The copy of the configuration in force now (R558). -/
def State.configCopy (s : State) : ConfigCopy :=
  { ana := s.ana, dig := s.dig, alm := s.alm, prg := s.prg, rng := s.rng, pnl := s.pnl, start := s.mod.start, role := s.mod.role
    forceField := s.mod.forceField, trims := s.mod.trims, quota := s.rcd.quota
    mirror := (s.rcd.mirrorMax, s.rcd.mirTo, s.rcd.mirFrom, s.rcd.mirSev, s.rcd.mirRate)
    slices := s.spr.slices, cells := s.spr.cells }

/-- A part works in the role the configuration gives it, when both are roles of a working part. -/
def useRole (old new : Part) : Part := if old.role ≤ 1 ∧ new.role ≤ 1 then { old with role := new.role, ch := new.ch } else old

/-- The pools take the roles of a configuration copy. -/
def usePools (c : ConfigCopy) (s : State) : State :=
  let t := { s with spr := { s.spr with slices := c.slices, cells := c.cells } }
  (List.range 8).foldl (fun s i =>
    let s := (List.range 10).foldl (fun s p => s.setSlice i p (useRole (s.slice i p) (t.slice i p))) s
    (List.range 9).foldl (fun s k => s.setCell i k (useRole (s.cell i k) (t.cell i k))) s) s

/-- Another configuration comes into force at a restart (R558, R460): class P of the copy, everything else as it is. Points, groups
and channels that the copy configures start as newly configured. -/
def useConfig (c : ConfigCopy) (s : State) : State :=
  let chan := fun (e : Nat × Chan) =>
    let old := s.chan e.1
    (e.1, { coldChan e.2 with nextSeq := old.nextSeq, seen := old.seen, lastAt := old.lastAt })
  let ais := fun (i : Nat) (s : State) =>
    let x := tget {} c.ana.isls i
    s.setAisl i { s.aisl i with blankCfg := x.blankCfg, hold := x.hold }
  let dis := fun (d : Nat) (s : State) =>
    let x := tget {} c.dig.isls d
    s.setDisl d { s.disl d with hold := x.hold, gmode := x.gmode }
  let pins := fun (e : Nat × Pin) =>
    let old := s.pin e.1
    (e.1, { old with cfg := e.2.cfg, owner := e.2.owner })
  let gone := (s.ana.chans.map Prod.fst).filter fun g => !c.ana.chans.any fun e => e.1 == g
  let s := { s with
    ana := { s.ana with chans := c.ana.chans.map chan, outs := c.ana.outs, slots := c.ana.slots }
    dig := { s.dig with pins := c.dig.pins.map pins }
    alm := c.alm
    prg := { s.prg with slot0 := c.prg.slot0, slot1 := c.prg.slot1, stateNum := if c.prg.stateNum = 0 then 0 else 1, slot := c.prg.slot
                        autostart := c.prg.autostart, wasRunning := (c.prg.wasRunning || c.prg.stateNum = 2) && c.prg.autostart, ovrLimit := c.prg.ovrLimit
                        period := c.prg.period, sets := c.prg.sets, cur := {} }
    rng := { s.rng with node := c.rng.node, priority := c.rng.priority, pairs := c.rng.pairs, ppsInEn := c.rng.ppsInEn, ppsPol := c.rng.ppsPol
                        ppsOutEn := c.rng.ppsOutEn, ppsDelay := c.rng.ppsDelay, leap := c.rng.leap
                        port0 := { s.rng.port0 with en := c.rng.port0.en }, port1 := { s.rng.port1 with en := c.rng.port1.en } }
    pnl := { s.pnl with width := c.pnl.width, height := c.pnl.height, lineClk := c.pnl.lineClk, railHold := c.pnl.railHold, order := c.pnl.order
                        dly := c.pnl.dly, vcom := c.pnl.vcom, set0 := c.pnl.set0, set1 := c.pnl.set1, active := c.pnl.active, tiles := c.pnl.tiles }
    mod := { s.mod with start := c.start, role := c.role, forceField := c.forceField, trims := c.trims }
    rcd := { s.rcd with quota := c.quota, mirrorMax := c.mirror.1, mirTo := c.mirror.2.1, mirFrom := c.mirror.2.2.1, mirSev := c.mirror.2.2.2.1
                        mirRate := c.mirror.2.2.2.2 } }
  let s := usePools c ((List.range 8).foldl (fun s i => ais i s) s)
  let s := (List.range 6).foldl (fun s d => dis d s) s
  let s := s.outputs.foldl (fun s g => takeSafe g s) s
  let s := pinsSafe s
  gone.foldl (fun s g => s.setChan g {}) s

/-- The active bank of KIND 4 differs from the configuration in force: the copies change places (R558, R563). -/
def swapConfig (s : State) : State :=
  let b := (s.kindOf 4).active
  if b = s.mss.cfgBank then s
  else
    let old := s.configCopy
    let s := { s with mss := { s.mss with cfgBank := b } }
    match s.other with
    | some c => { useConfig c s with other := some old }
    | none => s

/-- A configuration change met by the reset leaves the previous configuration in force in the island (R289, R460). -/
def undoChanges (s : State) : State :=
  (List.range 64).foldl (fun s g =>
    let x := s.chan g
    let late := match x.condNext with | some n => n.cmd.isNone | none => true
    if x.change.isNone && x.retune.isNone && late then s
    else
      let y := { x with change := none, retune := none, condNext := if late then x.condNext else none }
      s.setChan g (if x.change.isSome && x.cfg.usesSlice then
        { y with conn := x.cfg.joins (x.pslice.getD 60) (x.psource.getD 60), unsettled := x.cfg.settle, unsettledW := 40 } else y)) s

/-- EFFECT of a command that a full reset met (R289, R295, R436). -/
def resetEffect (e : CmdEntry) (s : State) : Nat :=
  if e.mark = 0 then 0
  else match e.op with
    | .outputWrite | .digitalWrite | .outputParallel | .clockShift | .masterHandover => 2
    | .panelUpdate => if s.pnl.regions.any fun r => match r.2.src with | .host id _ => id == e.id | _ => false then 2 else 0
    | .spareSwap => bit (s.spr.swaps.any fun w => w.cmd = some e.id && w.railOver) 0
    | _ => if e.phase = .forwarded then 2 else 0

/-- REPLY_RESET_INTERVENED (R289): one final reply per journal entry; a package activation goes on (R567). -/
def answerReset (s : State) : State :=
  let goesOn := fun (e : CmdEntry) => s.mss.acts.any fun a => a.cmd == e.id && decide (1 ≤ a.phase)
  let s' := (s.cp.exec.filter fun e => !goesOn e).foldl (fun s e =>
    completeCmd e.id stResetIntervened (le 2 0 ++ le 1 (resetEffect e s)) s) s
  { s' with mss := { s'.mss with acts := s.mss.acts.filter fun a => decide (1 ≤ a.phase) } }

/-- Activations go on after the restart (R567): the proven banks took over, or no island is left, and one ends; else the islands
receive their images. -/
def resumeActivations (s : State) : State :=
  let s := { s with mss := { s.mss with acts := s.mss.acts.map fun a => { a with phase := 2 } } }
  if 2 ≤ s.mss.outcome then keepIslands s else (s.mss.acts.filter (·.islands.isEmpty)).foldl (fun s a => finishActivation a s) s

/-- Restart of the mode word (R394, R390): the journaled word, or the start word after power-on; the causes in force clear their
bits. -/
def restoreModes (s : State) : State :=
  let old := s.modeWord
  let want := if s.pwr.powerOn then s.mod.start else s.mod.cmd
  let s := { s with mod := { s.mod with profile := s.mod.profileNext } }
  let s := if s.pwr.powerOn then { s with mod := { s.mod with cmd := 0, forced := 0 } } else s
  let s := { s with rng := { s.rng with subs := s.peerSources, published := pairsPublished s.rng.pairs } }
  let s := applyWord want (s.forceWant want) s
  let s := { s with mod := { s.mod with startSrc := if s.mod.holdSafe ≠ 0 then 2 else if s.pwr.powerOn then 1 else 0 } }
  modeRecord 0xFFFF 1 old s

/-- A program that ran or was parked is LOADED until it starts again (R344); in HOLD_SAFE it is stopped (R564). One that does not start
again gives its pins back to the host (R159). -/
def restoreProgram (s : State) : State :=
  let s := if s.prg.stateNum = 2 ∨ s.prg.stateNum = 3 then setProgState 1 3 s else s
  let s := { s with prg := { s.prg with wasRunning := s.prg.wasRunning && s.prg.autostart && s.mod.holdSafe = 0 } }
  if s.prg.wasRunning then s else (s.doPins.filter fun g => (s.pin g).owner = 2).foldl (fun s g => returnToHost g s) s

/-- Bytes 0 to 7 of the restore record (R465). -/
def restoreHead (lostJ torn : Bool) (s : State) : List Byte :=
  let p := s.pwr
  let lost := bit (!p.islandsKept) 0 + bit lostJ 1 + bit (!s.sec.storageOk) 2 + bit p.vbatLost 3
  let latched := p.prior = 3 && (s.sec.pending || s.rtc.latched.any fun e => e.1 = 0x0901)
  let caught := s.ana.isls.any fun e => !e.2.rtb.isEmpty
  let flags := bit p.unsealed 0 + bit torn 1 + 4 * s.mod.startSrc + bit caught 4 + bit p.vbatLow 5 + bit latched 6 + bit s.rcd.recLost 7
  le 1 p.cause ++ le 1 p.prior ++ le 1 (31 - lost) ++ le 1 lost ++ le 2 p.other.toNat ++ le 1 p.nested ++ le 1 flags

/-- Flows that lost backlog items, with counts (R233, R466). -/
def State.lostFlows (s : State) : List (List Byte) :=
  s.flows.filterMap fun e => e.2.resetLost.map fun l => le 1 e.1 ++ le 4 l.1 ++ le 4 l.2.1 ++ le 4 l.2.2

/-- Continuation records: three entries each (R466). -/
def continuations (fuel : Nat) (l : List (List Byte)) (s : State) : State :=
  match fuel, l with
  | _, [] | 0, _ => s
  | n + 1, l =>
    let r := s.mkRec 0x0001 0 0 ((l.take 3).flatten)
    continuations n (l.drop 3) (emit 0 0 { r with cont := true } s)

/-- The restore record and its continuations (R10, R465, R466); the instant at which the engine will have caught up is open. -/
def restoreRecord (lostJ : Bool) (torn : Nat) (s : State) : State :=
  let p := s.pwr
  let caught := s.ana.isls.any fun e => !e.2.rtb.isEmpty
  let (v, s) := s.free
  let endAt := if caught then s.now + v % 250000000 else 0
  let held := if p.islandsKept then
      ((List.range 8).map fun i => bit (s.aisl i).powered i).foldl (· + ·) 0 + ((List.range 6).map fun d => bit (s.disl d).powered (8 + d)).foldl (· + ·) 0
    else 0
  let lost := s.lostFlows
  let sev := if p.cause = 2 || faultCause p.cause then 3 else 2
  let head := restoreHead lostJ (decide (0 < torn)) s
  let s := { s with pwr := { s.pwr with catchup := caught, catchupEnd := endAt } }
  let s := noteSev sev 0x0001 0 0 (head ++ le 8 p.tR ++ le 8 p.tRel ++ le 2 held ++ le 2 torn ++ le 1 (if p.prior = 2 then p.wake else 0) ++
    le 1 lost.length ++ zeros 2 ++ le 8 endAt) s
  logEntry 3 p.cause head (continuations 256 lost s)

/-- R408 applied: in SEALED sessions and debug close, ring keys may be erased (R555); record 0x0A13. -/
def applyTamper (s : State) : State :=
  let s := { s with sec := { s.sec with pending := false } }
  let erase := s.mod.life = .sealed && s.sec.ringErase
  let s := if s.mod.life = .sealed then closeDebug 4 (closeSessions 3 s) else s
  let s := if erase then { s with rng := { s.rng with key0 := none, key1 := none, keySwitch := none, keyGrace := none } } else s
  let data := le 1 (bit s.sec.live 0) ++ le 1 s.sec.count ++ le 1 (bit erase 0)
  raiseVector 2 5 (logEntry 8 0 data (noteSev 3 0x0A13 0 0 data s))

/-- RESTART_JOURNAL_RESTORE (R460): `header` tells that the journal's header holds, `torn` how many entries were served by their
older copy, `lost` names points of which both copies failed (R487). -/
def journalRestore (header : Bool) (torn : Nat) (lost : List Nat) (s : State) : State :=
  let s := if s.sec.storageOk then s else unreadable s
  let s := if header then lost.foldl losePoint s else emptyJournal { s with pwr := { s.pwr with cause := 14, powerOn := true } }
  let lostJ := !header || !lost.isEmpty || s.pwr.cause = 14 || !s.sec.storageOk
  let s := if (s.flow 0).state = .closed then s.setFlow 0 { systemFlow with tokenAt := s.now, allowanceAt := s.now } else s
  let s := restoreRecorder s
  let s := { s with pwr := { s.pwr with phase := .restored } }
  let s := panelRestore (restoreProgram (resumeActivations (answerReset (undoChanges (swapConfig s)))))
  let s := restoreModes s
  let s := restoreRecord lostJ torn { s with rcd := { s.rcd with torn := torn, headerOk := header } }
  let s := { s with rcd := { s.rcd with recLost := false }
                    flows := s.flows.map fun (e : Nat × Flow) => (e.1, { e.2 with resetLost := none }) }
  let s := match s.spr.uePage with | some p => retirePage p { s with spr := { s.spr with uePage := none } } | none => s
  let s := reportLatched s
  let s := if s.sec.pending then applyTamper s else s
  { s with pwr := { s.pwr with other := 0, vbatLost := false, perstSeen := false } }

def execRestartJournalRestore (dt : Nat) (header : Bool) (torn : Fin 65536) (lost : List (Fin 4096)) (s : State) : Host.Outcome State Fault Refusal :=
  let s := s.advance dt
  if s.pwr.phase ≠ .links then .next s else .next (journalRestore header torn.val (lost.map (·.val)) s)

/-! ### Acquisition, alarm evaluation, READY -/

/-- ACQUISITION_RESUME (R460): stream blocks accepted before the reset are rebuilt (R233), and the samples that the islands buffered
are taken in sequence order (R71). -/
def execAcquisitionResume (dt : Nat) (s : State) : Host.Outcome State Fault Refusal :=
  let s := s.advance dt
  if s.pwr.phase ≠ .restored then .next s
  else
    let s := { s with pwr := { s.pwr with phase := .acquiring }, prg := { s.prg with notBefore := s.now + 10000000 } }
    let s := s.streams.foldl (fun s f => rebuildStream f s) s
    .next (resumeForced ((List.range 8).foldl (fun s i =>
      let x := s.aisl i
      if !x.linkUp then s
      else
        let s := s.setAisl i ({ x with rtb := [], waves := [], waveOld := x.waveOld ++ x.waves } : AIsland).trimOld
        let s := x.waves.foldl (fun s w => streamWord w s) s
        x.rtb.foldl (fun s m => coreAccept m s) s) s))

/-- ALARM_EVAL_RESUME (R200, R458, R460): due steps are taken by their own rows; NODE_OK is energised. -/
def execAlarmEvalResume (dt : Nat) (s : State) : Host.Outcome State Fault Refusal :=
  let s := s.advance dt
  if s.pwr.phase ≠ .acquiring then .next s
  else .next (alarmResume { s with pwr := { s.pwr with phase := .evaluating, nodeOk := s.mss.ok } })

/-- CATCHUP_END (R461): every sample buffered before acquisition resumed has been evaluated. -/
def execCatchupEnd (dt : Nat) (s : State) : Host.Outcome State Fault Refusal :=
  let s := s.advance dt
  if s.pwr.phase = .evaluating && s.pwr.catchup && s.alm.inbox.isEmpty then
    .next { s with pwr := { s.pwr with catchup := false, catchupEnd := s.now } }
  else .next s

/-- HOST_READY (R246, R459): not while PERST_N is held. The DEVICE_RESET entry stays valid for 10 s more (R290); three consecutive
starts slower than 1 s fail a trial (R566). -/
def execHostReady (dt : Nat) (s : State) : Host.Outcome State Fault Refusal :=
  let s := s.advance dt
  if s.host.ready || s.pwr.perst || !s.coreOn then .next s
  else
    let slow := if s.pwr.tRel + 1000000000 < s.now then s.mss.slowStarts + 1 else 0
    let s := { s with
      host := { s.host with ready := true }
      pwr := { s.pwr with nested := 0, nestedAt := [], coreSupplyRuns := 0, wakeN := false }
      mss := { s.mss with slowStarts := slow, trialFailed := s.mss.trialFailed || (s.mss.trial.isSome && decide (3 ≤ slow)) }
      cp := { s.cp with resetEntry := s.cp.resetEntry.map fun (e : Nat × DupEntry) => (e.1, { e.2 with keep := s.now + 10000000000 }) } }
    .next (setIrq 0 s)

/-! ### The cold start -/

/-- POWER_ON_SEQUENCE (R462): power-on, wake or DEVICE_RESET KIND 1. Rails, phases, release, links and journal restore in one row;
Node Time resumes from the RTC (R377). -/
def execPowerOnSequence (dt : Nat) (lanes : BitVec 9) (hashBad : BitVec 10) (answer : BitVec 14) (header : Bool) (torn : Fin 65536)
    (cold : ColdLinks) (s : State) : Host.Outcome State Fault Refusal :=
  let s := s.advance dt
  if s.pwr.islandsKept then .next s
  else
    let s := releaseReset lanes hashBad s
    if s.pwr.phase ≠ .released then .next s
    else
      let s := islandsCold answer cold.fails (resumeFromRtc s)
      let s := (List.range 14).foldl selectImage s
      .next (journalRestore header torn.val (cold.lost.map (·.val)) { s with pwr := { s.pwr with phase := .links } })

end Sys2Proof.Machine
end

