-- ==== Sys2Proof/Machine/Fetch.lean ====
section
/-! DEFINITION. COMMAND_FETCH with the checks of R282, refusals (R221, R280), the duplicate window (R290, R291),
forwarding (R293, R294) and the expiry of window entries. -/

namespace Sys2Proof.Machine

/-- What the fetch checks of R282 decide. -/
inductive Verdict where
  /-- refused: status, PAYLOAD, and whether the reply goes on F0 instead of REPLY_FLOW (R219) -/
  | refuse (status : Nat) (payload : List Byte) (onF0 : Bool)
  /-- a reissue: answered from the window entry (R291) -/
  | duplicate (d : DupEntry)
  /-- accepted -/
  | accept (op : Opc) (c : Cmd)
  deriving DecidableEq, Repr

def refuseBad (d : Nat) : Verdict := .refuse stBadParam (le 2 d) false

/-- Check 1 of R282. -/
def checkFormat (slotLog2 opcode : Nat) (c : Cmd) : Option Verdict :=
  let total := 64 + c.paramLen + (if c.auth then 32 else 0)
  if total > 2 ^ slotLog2 then some (refuseBad 0x5C)
  else if total > 4096 || c.flagsRsv ≠ 0 then some (refuseBad 0x60)
  else if decide (3 ≤ c.cls ∧ c.cls ≤ 254) then some (refuseBad 0x68)
  else match opcOf opcode with
    | some op => if c.cls < (opRow op).cls then some (refuseBad 0x68) else none
    | none => none

/-- Rights check of R280, applied in SEALED: session state, right, trailer. -/
def checkRights (op : Opc) (opcode : Nat) (c : Cmd) (s : State) : Option Verdict :=
  if s.mod.life ≠ .sealed then none
  else
    let need := (opRow op).right
    let x := s.session c.session
    let un := fun d => some (Verdict.refuse stNotAuthorised (le 2 d) false)
    if !s.sessionOpen c.session then un 0x62
    else if need ≠ 0 && !(s.sessionRights c.session).getLsbD (need - 1) then un 0x66
    else if need ≥ 2 && !c.auth then un 0x63
    else if !c.auth then none
    else match x.key with
      | none => if need ≥ 2 then un 0x64 else none
      | some k =>
        if !Config.gmacOk k c.session c.counter (packetBytes opcode c) c.tag then un 0x64
        else if c.counter ≤ x.lastCounter then un 0x65
        else none

/-- Check 7 of R282: the duplicate window of the session, and the journaled entry of a DEVICE_RESET (R290, R291). -/
def checkDuplicate (opcode : Nat) (c : Cmd) (s : State) : Option Verdict :=
  if c.token = 0 then none
  else
    let d := crc32c (packetBytes opcode c)
    let win := (s.session c.session).window ++
      (match s.cp.resetEntry with | some (n, e) => if n = c.session then [e] else [] | none => [])
    match win.find? (·.token == c.token) with
    | none => none
    | some e => some (if e.digest = d then .duplicate e else refuseBad 0x61)

/-- REPLY_FLOW can carry the reply of an accepted command (R219). -/
def checkReply (c : Cmd) (s : State) : Option Verdict :=
  let x := s.flow c.replyFlow
  if x.state = .closed || !x.replies then some (.refuse stBadParam (le 2 0x56) true)
  else if !x.hasToken s.now then some (.refuse stAdmission (le 2 0x50) false)
  else none

/-- Check 9 of R282: reply flow, tokens, execution limits, job limit (R219, R286). -/
def checkLimits (op : Opc) (c : Cmd) (s : State) : Option Verdict :=
  match checkReply c s with
  | some v => some v
  | none =>
    if 15 ≤ s.inExec c.session || 255 ≤ (s.cp.exec.filter (·.counts)).length then
      some (.refuse stAdmission (le 2 0x51) false)
    else if (opRow op).job ≠ 0 && decide (4 ≤ s.jobs.length) then
      let left := ((s.jobs.head?.map (·.jobEnd)).getD s.now) - s.now
      some (.refuse stBusyServ (le 2 0 ++ le 4 (left / 1000000)) false)
    else none

/-- TARGET as the node acts on it (R293): its own number counts as 0. -/
def effTarget (c : Cmd) (s : State) : Nat := if c.target ≠ 0 && c.target == s.nodeNo then 0 else c.target

/-- The node holds the master role of its ring. -/
def State.isMaster (s : State) : Bool := s.rng.isMaster

/-- Check 4 of R282 (R293). -/
def checkTarget (op : Opc) (c : Cmd) (s : State) : Option Verdict :=
  if c.target > 32 then some (refuseBad 0x6A)
  else if effTarget c s = 0 then none
  else if (opRow op).num / 256 = 13 then some (refuseBad 0x6A)
  else if !s.isMaster then some (.refuse 0x0600 [] false)
  else none

/-- Lifecycle state as a bit of OpRow.life. -/
def lifeBit : Lifecycle → Nat
  | .opened => 0 | .commission => 1 | .sealed => 2 | .retired => 3

/-- Check 8 of R282 (R299, R279). -/
def lifeAllows (op : Opc) (s : State) : Bool := ((opRow op).life).testBit (lifeBit s.mod.life)

/-- The fetch checks of R282 in order. -/
def fetchChecks (ses opcode : Nat) (c : Cmd) (s : State) : Verdict :=
  match checkFormat (s.ring ses).slotLog2 opcode c with
  | some v => v
  | none =>
  if c.session ≠ ses then refuseBad 0x67
  else match opcOf opcode with
  | none => .refuse stBadOpcode [] false
  | some op =>
  match checkTarget op c s with
  | some v => v
  | none =>
  if !(c.notBefore = 0 || decide (c.notBefore ≤ s.now + 10000000000)) then refuseBad 0x69
  else match checkRights op opcode c s with
  | some v => v
  | none =>
  let t := effTarget c s
  match (if t = 0 then checkDuplicate opcode c s else none) with
  | some (.duplicate d) => (match checkReply c s with | some v => v | none => .duplicate d)
  | some v => v
  | none =>
  if t = 0 && !lifeAllows op s then .refuse stLifecycle [] false
  else match checkLimits op c s with
  | some v => v
  | none => .accept op { c with target := t }

/-- The answer to a reissue (R291): at once when the original is final or a running job, at its completion otherwise. -/
def answerDuplicate (opHigh : Nat) (c : Cmd) (d : DupEntry) (s : State) : State :=
  match d.status with
  | some st => sendReply c opHigh (stDuplicate + 65536 * st) d.payload s
  | none =>
    if d.job then sendReply c opHigh (stDuplicate + 65536 * stAccepted) [] s
    else
      let x := s.session c.session
      s.setSession c.session { x with window := x.window.map fun e =>
        if e.token = d.token && e.cmd = d.cmd then { e with owed := e.owed ++ [(c.replyFlow, c.cookie)] } else e }

/-- An accepted packet becomes a command in execution with its journal entry and window entry (R288, R290); a command for
a peer is forwarded, or ends at once when the peer is absent (R293, R294). -/
def acceptCommand (opcode : Nat) (op : Opc) (c : Cmd) (s : State) : State :=
  let e : CmdEntry :=
    { id := s.cp.nextId, op := op, c := c, cls := if c.cls = 255 then (opRow op).cls else c.cls
      fetched := s.now, start := max s.now c.notBefore, mark := 0
      phase := if c.target = 0 then .waiting else .forwarded, jobEnd := 0, fromMaster := none, work := [] }
  let s := { s with cp := { s.cp with nextId := s.cp.nextId + 1, exec := s.cp.exec ++ [e] } }
  let x := s.session c.session
  let s := if c.auth && x.key.isSome then s.setSession c.session { x with lastCounter := c.counter } else s
  if c.target ≠ 0 then
    if s.rng.members.contains c.target then
      { s with cp := { s.cp with fwdOut := s.cp.fwdOut ++ [(c.target, e.id, opcode)] } }
    else completeCmd e.id stFailedRemote (le 2 0x6E ++ le 1 0) s
  else if c.token = 0 then s
  else
    let d : DupEntry :=
      { token := c.token, digest := crc32c (packetBytes opcode c), cmd := e.id, status := none, payload := []
        job := false, keep := 0, owed := [], isReset := op = .deviceReset }
    let x := s.session c.session
    let w := if 1024 ≤ x.window.length then x.window.drop 1 else x.window
    let s := s.setSession c.session { x with window := w ++ [d] }
    if op = .deviceReset then { s with cp := { s.cp with resetEntry := some (c.session, { d with status := some stOk }) } }
    else s

/-- A fetch that fails (R262, R268, R270): cause 0 timeout, 1 poisoned, 2 error completion. -/
def fetchFailed (ses cause : Nat) (s : State) : State :=
  let r := s.ring ses
  let slot := r.head
  let s := s.setRing ses { r with head := (r.head + 1) % 65536, fetchErr := true }
  let s := setIrq 3 s
  let s := if cause = 0 then setErr 1 s else if cause = 1 then setErr 2 s else s
  let reply : Rec :=
    { typ := 0x0101, time := 0, node := s.nodeNo, subsys := 0, index := ses, code := stFailedHardware
      payload := le 2 slot ++ le 1 0 }
  let (_, s) := offerItem s.now 0 (.record reply) s.now s
  let s := note 0x0031 ses (le 2 slot ++ le 1 cause) s
  uncorrRecord 0 (if cause = 0 then 0x4000 else if cause = 1 then 0x1000 else 0) [] s

/-- The ring has an announced slot and the node fetches now (R260, R261, R287, R244). -/
def State.canFetch (s : State) (ses : Nat) : Bool :=
  let r := s.ring ses
  r.en && !r.stopped && r.head ≠ r.db && s.canIssue 0 && s.cp.resetPending.isNone &&
    !s.cp.exec.any (·.op = .deviceReset) && s.pwr.dormantGoing.isNone

/-- The ring whose turn it is: the next one after the ring served last, in ascending session order (R260). -/
def State.nextRing (s : State) : Option Nat := ((List.range 64).map fun i => (s.cp.turn + 1 + i) % 64).find? s.canFetch

/-- The fetch read of the slot at HEAD goes out, and the turn passes on (R259, R260). The whole slot is read (DESIGN CHOICE, log 107). -/
def fetchSlot (n : Nat) (s : State) : State :=
  let r := s.ring n
  ({ s with cp := { s.cp with turn := n } }).busOp (.fetch (r.base + r.head % 2 ^ r.rlog2 * 2 ^ r.slotLog2) (2 ^ r.slotLog2))

/-- COMMAND_FETCH: the slot at HEAD of the ring whose turn it is is copied and judged (R260, R262, R282). -/
def execCommandFetch (dt : Nat) (ses : Fin 64) (opcode : BitVec 16) (c : Cmd) (err : Option (Fin 3)) (s : State) :
    Host.Outcome State Fault Refusal :=
  let s := s.advance dt
  if s.nextRing ≠ some ses.val then .next s
  else
  let s := fetchSlot ses.val s
  match err with
  | some cause => .next (fetchFailed ses.val cause.val s)
  | none =>
    let r := s.ring ses.val
    let s := s.setRing ses.val { r with head := (r.head + 1) % 65536 }
    let hi := opcode.toNat / 256
    match fetchChecks ses.val opcode.toNat c s with
    | .refuse st pl onF0 =>
      let f := if onF0 || (s.flow c.replyFlow).state = .closed || !(s.flow c.replyFlow).replies then 0 else c.replyFlow
      .next (sendRefusal f c hi st pl s)
    | .duplicate d => .next (answerDuplicate hi c d s)
    | .accept op c => .next (acceptCommand opcode.toNat op c s)

/-- FORWARD_ANSWER_RECEIVE: the target's answer reaches the master and goes to the host; after FAILED_REMOTE it is
discarded (R294). The ACCEPTED of a job is passed on, and its final answer is awaited. -/
def execForwardAnswerReceive (dt : Nat) (id : Nat) (code : Word) (payload : List Byte) (s : State) :
    Host.Outcome State Fault Refusal :=
  let s := s.advance dt
  match s.cmd id with
  | none => .next s
  | some e =>
    if e.phase ≠ .forwarded then .next s
    else if code.toNat = stAccepted then
      .next (sendReply e.c ((opRow e.op).num / 256) stAccepted [] (s.setCmd { e with work := [1], jobEnd := e.start + (opRow e.op).job }))
    else .next (completeCmd id code.toNat (fitBytes 40 payload) s)

/-- FORWARD_NO_ANSWER: no answer by S + B + 4 ms (R294). -/
def execForwardNoAnswer (dt : Nat) (id : Nat) (s : State) : Host.Outcome State Fault Refusal :=
  let s := s.advance dt
  match s.cmd id with
  | none => .next s
  | some e =>
    let last := if e.work = [1] then e.jobEnd else e.start + cmdBound e.op e.c s
    if e.phase = .forwarded && decide (last + 4000000 ≤ s.now) then
      .next (completeCmd id stFailedRemote (le 2 0x6C ++ le 1 2) s)
    else .next s

/-- DUP_WINDOW_EXPIRY: a final entry reaches its keep time (R290). -/
def execDupWindowExpiry (dt : Nat) (ses : Fin 64) (token : Word) (s : State) : Host.Outcome State Fault Refusal :=
  let s := s.advance dt
  let s := match s.cp.resetEntry with
    | some (n, d) => if n = ses.val && d.token = token.toNat && s.host.ready && d.keep ≤ s.now then
        { s with cp := { s.cp with resetEntry := none } } else s
    | none => s
  let gone := fun (d : DupEntry) => d.token == token.toNat && d.status.isSome && decide (d.keep ≤ s.now)
  let s := { s with cp := { s.cp with fwdWindow := s.cp.fwdWindow.filter fun (d : Nat × DupEntry) => !(d.1 == ses.val && gone d.2) } }
  let x := s.session ses.val
  .next (s.setSession ses.val { x with window := x.window.filter fun d => !gone d })

end Sys2Proof.Machine
end

