-- ==== Sys2Proof/Machine/Power.lean ====
section
/-! DEFINITION. Supplies and power states (R443 to R455): inputs, HOLD, VBAT, HOLDOVER, DORMANT, VIGIL; loss of the core clock (R27);
wake sources; TAMPER_N (R408, R555). -/

namespace Sys2Proof.Machine

def InputState.num : InputState → Nat
  | .inRange => 0 | .low => 1 | .lost => 2

def inputOf : Nat → InputState
  | 0 => .inRange | 1 => .low | _ => .lost

/-- The core runs and takes records, from the release on. -/
def State.coreUp (s : State) : Bool := (s.pwr.state = .run || s.pwr.state = .holdover) && s.pwr.phase ≠ .asserted

/-- Record 0x0002 (R468): source 0 P1, 1 P2, 2 HOLD, 3 VBAT. -/
def supplyRecord (src new old mv mf : Nat) (s : State) : State :=
  if s.coreUp then note 0x0002 src (le 1 new ++ le 1 old ++ le 2 mv ++ le 4 mf) s else s

/-- An input is IN_RANGE. -/
def State.inputBack (s : State) : Bool := s.pwr.p1 = .inRange || s.pwr.p2 = .inRange

/-- SUPPLY_INPUT_CHANGE (R443, R444): input 0 P1, 1 P2; state 0 IN_RANGE, 1 LOW, 2 LOST. -/
def execSupplyInputChange (dt : Nat) (input : Fin 2) (state : Fin 3) (mv : Nat) (s : State) : Host.Outcome State Fault Refusal :=
  let s := s.advance dt
  let old := if input.val = 0 then s.pwr.p1 else s.pwr.p2
  let new := inputOf state.val
  if old = new then .next s
  else
    let wasLost := s.pwr.p1 = .lost && s.pwr.p2 = .lost
    let p := if input.val = 0 then { s.pwr with p1 := new } else { s.pwr with p2 := new }
    let both := p.p1 = .lost && p.p2 = .lost
    let s := { s with pwr := { p with
      bothLost := if both then some (p.bothLost.getD s.now) else none
      busUp := if wasLost && !both && p.state ≠ .run then s.now else p.busUp } }
    .next (supplyRecord input.val new.num old.num mv 0 s)

/-! ### HOLD and VBAT -/

/-- Fault source 181 by the state of HOLD (R445); a change writes record 0x0002. -/
def judgeHold (s : State) : State :=
  let bad := s.pwr.holdLow || (match s.pwr.holdMf with | some c => decide (c < 1000) | none => false)
  if bad = s.pwr.holdBad then s
  else supplyRecord 2 (bit bad 0) (bit s.pwr.holdBad 0) s.pwr.holdMv (s.pwr.holdMf.getD 0) { s with pwr := { s.pwr with holdBad := bad } }

/-- HOLD_CAP_MEASURE (R445): `dv` is the voltage drop in mV of 200 mA drawn for 1.0 s. -/
def execHoldCapMeasure (dt : Nat) (dv mv : Nat) (s : State) : Host.Outcome State Fault Refusal :=
  let s := s.advance dt
  if dv = 0 || s.pwr.state ≠ .run || !dueAfter s.pwr.capAt 86400000000000 s.now then .next s
  else .next (judgeHold { s with pwr := { s.pwr with holdMf := some (200000 / dv), holdMv := mv, capAt := some s.now } })

/-- HOLD_LOW_CHECK (R445). -/
def execHoldLowCheck (dt : Nat) (mv : Nat) (s : State) : Host.Outcome State Fault Refusal :=
  let s := s.advance dt
  let c := s.pwr.holdMf.getD 3000
  let late := decide (s.pwr.busUp + 5000000000 + 10000000 * c < s.now)
  let s := { s with pwr := { s.pwr with holdMv := mv } }
  .next (if s.pwr.state = .run && late && decide (mv < 4750) then judgeHold { s with pwr := { s.pwr with holdLow := true } } else s)

/-- HOLD_CHARGED (R445, R447). -/
def execHoldCharged (dt : Nat) (mv : Nat) (s : State) : Host.Outcome State Fault Refusal :=
  let s := s.advance dt
  let s := { s with pwr := { s.pwr with holdMv := mv } }
  .next (if 4750 ≤ mv then judgeHold { s with pwr := { s.pwr with holdLow := false } } else s)

/-- VBAT_LOW (R448): below 2.2 V with main power a record; below 2.0 V in VIGIL class B is lost. -/
def execVbatLow (dt : Nat) (mv : Nat) (s : State) : Host.Outcome State Fault Refusal :=
  let s := s.advance dt
  if s.pwr.state = .vigil then
    if 2000 ≤ mv then .next s
    else .next { s with
      rtc := { curve := s.rtc.curve, discEn := true, osf := true, subAt := s.now, secAt := s.now }
      sec := { s.sec with latched := false, count := 0, time := 0, pending := false }
      pwr := { s.pwr with vbatLost := true } }
  else if mv < 2200 && !s.pwr.vbatLow then .next (supplyRecord 3 1 0 mv 0 { s with pwr := { s.pwr with vbatLow := true } })
  else .next { s with pwr := { s.pwr with vbatLow := decide (mv < 2200) } }

/-! ### Going without main power -/

/-- Everything but the MSS, the Always-On Domain and the wake logic loses its supply (R452, R453, R455). -/
def powerDown (new : PowerState) (s : State) : State :=
  let s := islandsOff (loseVolatile (if new = .dormant then 4 else 2) s)
  let p := s.pwr
  { s with pwr := { p with
    state := new, phase := .asserted, nodeOk := false, islandsKept := false, dormantGoing := none, catchup := false
    onHold := new = .dormant && !s.inputBack } }

/-- The last journal write of an unsealed end (R465): open between the last checkpoint and `t`. -/
def unsealedEnd (t : Nat) (s : State) : State :=
  let (v, s) := s.free
  { s with pwr := { s.pwr with unsealed := true, tR := s.rcd.checkpoint + v % (t - s.rcd.checkpoint + 1) } }

/-- VIGIL: the MSS loses its supply too, with the log entries not yet written (R455, R539). -/
def toVigil (s : State) : State :=
  let s := powerDown .vigil s
  { s with
    mss := { s.mss with batch := [], outcome := 0, restarts := 0, half := false, sensors := s.mss.sensors.map fun (e : Nat × Sensor) =>
      (e.1, { lo := e.2.lo, hi := e.2.hi }) }
    }

/-- Energy left above 2.2 V carries DORMANT for 10 s: 0.35 J from a converter of 0.85 (R446, R449, R454). -/
def dormantEnergy (mj : Nat) : Bool := decide (412 ≤ mj)

/-- The outcome of R449 at the end of HOLDOVER: 0 DORMANT, 1 off, 2 POWER_DIP. -/
def State.holdOutcome (s : State) (mj : Nat) : Nat :=
  if s.inputBack then 2 else if dormantEnergy mj && s.mod.life ≠ .retired then 0 else 1

/-- Holdover time t_h in ns (R446): C in mF, V_e in mV. -/
def holdTime_h (mf ve : Nat) : Nat :=
  min 1500000000 (85 * mf * (ve * ve - 4840000) / (2 * 520 * 1000))

/-- The Block Engine and the Ring Controller stop; planned swaps end, rail swaps already started complete (R157, R436, R450). -/
def stopEngines (s : State) : State :=
  let started := fun (w : Swap) => w.pool = 2 && decide (0 < w.phase)
  let s := abortPlanned started s
  let s := (s.spr.swaps.filter started).foldl (fun s w => railDone w s) s
  let s := { s with spr := { s.spr with swaps := [] } }
  let s := { s with prg := { s.prg with wasRunning := s.prg.wasRunning || s.prg.stateNum = 2, phase := .idle, work := {} } }
  resetRing s

/-- Staging jobs end with MODE_CONFLICT, their banks unusable (R569). -/
def endStages (s : State) : State :=
  let jobs := s.mss.stage
  jobs.foldl (fun s j => endJob j.cmd stModeConflict (le 2 0xA2) s) (dropStages s)

/-- HOLDOVER_ENTER (R444, R446, R450, R451): both inputs LOST for 10 ms; `ve` is V_e in mV. -/
def execHoldoverEnter (dt : Nat) (ve : Nat) (s : State) : Host.Outcome State Fault Refusal :=
  let s := s.advance dt
  match s.pwr.bothLost with
  | none => .next s
  | some t =>
    if s.pwr.state ≠ .run || s.now < t + 10000000 then .next s
    else
      let early := s.pwr.phase = .asserted || s.pwr.phase = .released || s.pwr.phase = .links
      if early then
        let s := toVigil (keepIslands (parkPanel (unsealedEnd s.pwr.tR s)))
        .next { s with pwr := { s.pwr with prior := 3 } }
      else if ve < 2200 then
        let s := toVigil (unsealedEnd s.now s)
        .next { s with pwr := { s.pwr with prior := 3 } }
      else
        let s := haltAbort s
        let th := holdTime_h (s.pwr.holdMf.getD 1000) ve
        let s := noteSev 0 0x0003 0 0 (le 2 (th / 1000000) ++ le 2 ve ++ le 4 (s.pwr.holdMf.getD 1000)) s
        let s := islandsOff (keepIslands (endStages (stopEngines s)))
        let s := { s with pwr := { s.pwr with
          state := .holdover, holdover := some (s.now, th), holdVe := ve, holdMv := ve, parked := false, parkedRegions := 0, sealed := false
          tR := s.now, nodeOk := false, dormantGoing := none } }
        .next s

/-- The panel is parked and its rails go down (R450). -/
def holdPark (s : State) : State :=
  let n := s.liveRegions.length
  parkPanel { s with pwr := { s.pwr with parked := true, parkedRegions := n } }

/-- HOLDOVER_PANEL_PARK (R450, R451): at t_h − 300 ms, at once when t_h is shorter. -/
def execHoldoverPanelPark (dt : Nat) (s : State) : Host.Outcome State Fault Refusal :=
  let s := s.advance dt
  match s.pwr.holdover with
  | none => .next s
  | some (t, th) =>
    if s.pwr.state ≠ .holdover || s.pwr.parked || s.now < t + (th - 300000000) then .next s else .next (holdPark s)

/-- The journal is sealed: checkpoint, DTAIL of every flow, seal instant (R450, R452). -/
def sealJournal (s : State) : State :=
  let s := writeBatch (writeCheckpoint s)
  { s with pwr := { s.pwr with sealed := true, unsealed := false, sealAt := s.now } }

/-- HOLDOVER_SEAL (R450): `mj` is the energy above 2.2 V that will be left, in mJ. -/
def execHoldoverSeal (dt : Nat) (mj : Nat) (s : State) : Host.Outcome State Fault Refusal :=
  let s := s.advance dt
  match s.pwr.holdover with
  | none => .next s
  | some (t, th) =>
    if s.pwr.state ≠ .holdover || !s.pwr.parked || s.pwr.sealed || s.now < t + (if th < 300000000 then 0 else th - 200000000) then .next s
    else
      let s := sealJournal s
      .next (note 0x0004 0 (le 1 (s.holdOutcome mj) ++ le 1 s.pwr.parkedRegions ++ zeros 2 ++ le 4 mj) s)

/-- HOLDOVER ends as R449 decides. -/
def endHoldover (mj : Nat) (s : State) : State :=
  let t0 := s.pwr.tR
  let s := { s with pwr := { s.pwr with holdover := none } }
  match s.holdOutcome mj with
  | 2 =>
    let other := s.pwr.other
    let un := s.pwr.unsealed
    let s := assertReset 2 true { s with pwr := { s.pwr with state := .run } }
    { s with pwr := { s.pwr with prior := 1, tR := t0, other := other, unsealed := un, powerOn := true, nested := 0 } }
  | 0 =>
    let s := powerDown .dormant s
    { s with pwr := { s.pwr with prior := 2, wakeMask := 0, wakeAt := 0, tR := t0 } }
  | _ =>
    let s := toVigil s
    { s with pwr := { s.pwr with prior := 3, tR := t0 } }

/-- HOLDOVER_END (R449, R450). -/
def execHoldoverEnd (dt : Nat) (mj : Nat) (s : State) : Host.Outcome State Fault Refusal :=
  let s := s.advance dt
  match s.pwr.holdover with
  | none => .next s
  | some (t, th) => if s.pwr.state ≠ .holdover || !s.pwr.sealed || s.now < t + th then .next s else .next (endHoldover mj s)

/-- CORE_CLOCK_LOSS (R27, R451, R542): the MSS logs what its clock monitor saw. In HOLDOVER the sequence ends at once, unsealed;
`mj` is the energy left then. -/
def execCoreClockLoss (dt : Nat) (mj : Nat) (s : State) : Host.Outcome State Fault Refusal :=
  let s := logEntry 6 0 [] (s.advance dt)
  if s.pwr.state = .holdover then
    .next (endHoldover mj (if s.pwr.sealed then s else unsealedEnd s.now (if s.pwr.parked then s else holdPark s)))
  else .next (assertReset 9 false s)

/-! ### DORMANT -/

/-- DORMANT_ENTER (R452). -/
def doDormantEnter (e : CmdEntry) (_ : Env) (s : State) : Rep × State :=
  let c := e.c
  let m := c.u8 32
  let at' := c.u64 40
  if !c.restZero [(32, 1), (40, 8)] || !c.extZero 0 || 31 < m then (.bad 8, s)
  else if s.pwr.state = .holdover then (.conflict 0xA2, s)
  else if s.rng.isMaster && s.mode .ring then (.conflict 0xA1, s)
  else if m = 0 then (.bad 0xB0, s)
  else if at' ≠ 0 && at' < e.start + 1000000000 then (.bad 0xB1, s)
  else
    let (f, q, t) := replyWait e s
    let r : DormantReq := { mask := m, wakeAt := at', limit := t, flow := f, seq := q, session := c.session }
    (.ok [], { s with pwr := { s.pwr with dormantGoing := some r } })

def execDormantEnter (dt : Nat) (c : Cmd) (env : Env) (s : State) : Host.Outcome State Fault Refusal :=
  runHere .dormantEnter dt c env doDormantEnter s

/-- DORMANT_SHUTDOWN (R452): once the reply is delivered or its time has passed, and no panel update runs or 10 s more have. -/
def execDormantShutdown (dt : Nat) (s : State) : Host.Outcome State Fault Refusal :=
  let s := s.advance dt
  match s.pwr.dormantGoing with
  | none => .next s
  | some r =>
    let replied := decide (r.limit ≤ s.now) || s.replyGone r.flow r.seq
    let still := !s.liveRegions.isEmpty && decide (s.now < r.limit + 10000000000)
    if !replied || still || s.pwr.state ≠ .run then .next s
    else
      let s := keepIslands (endStages (abortPlanned (fun _ => false) (parkPanel s)))
      let s := note 0x0005 r.session (le 1 r.mask ++ zeros 7 ++ le 8 r.wakeAt) s
      let s := powerDown .dormant (sealJournal s)
      .next { s with pwr := { s.pwr with prior := 2, wakeMask := r.mask, wakeAt := r.wakeAt, perstSeen := false, holdover := none, tR := s.now } }

/-- A wake or an input's return starts the node (R449, R454, R456): the islands are cold, WAKE_N is asserted after DORMANT. -/
def startNode (cause wake : Nat) (s : State) : State :=
  let p := s.pwr
  { s with pwr := { p with
    state := .run, phase := .asserted, assertedAt := s.now, cause := cause, wake := wake, nested := 0, nestedAt := []
    coreSupplyRuns := 0, heldInReset := false, powerOn := true, islandsKept := false, onHold := false, wakeN := decide (wake ≠ 0)
    tR := if p.prior = 2 && p.wakeMask ≠ 0 then s.rtcNodeTime else p.tR, bothLost := none, busUp := s.now } }

/-- DORMANT_WAKE (R454): 0 TIMER, 1 RESET_N, 2 PERST_N, 3 SMBUS, 4 TAMPER, 5 POWER_RETURN. -/
def dormantWake (src : Nat) (s : State) : State :=
  let on := match src with
    | 0 => s.pwr.wakeMask.testBit 0 && s.pwr.wakeAt ≠ 0 && decide (s.pwr.wakeAt ≤ s.rtcNodeTime)
    | 1 => s.pwr.wakeMask.testBit 1 && s.pwr.resetN
    | 2 => s.pwr.wakeMask.testBit 2 && s.pwr.perstSeen && !s.pwr.perst
    | 3 | 4 => s.pwr.wakeMask.testBit src
    | _ => s.pwr.onHold && s.inputBack
  if s.pwr.state = .dormant && on then startNode 3 (src + 1) s else s

def execDormantWake (dt : Nat) (src : Fin 6) (s : State) : Host.Outcome State Fault Refusal :=
  let s := s.advance dt
  .next (if src.val = 3 ∨ src.val = 4 then s else dormantWake src.val s)

/-- SMBUS_WAKE (R547): in SEALED only with SEC_CFG.SMBUS_WAKE. -/
def execSmbusWake (dt : Nat) (data : Byte) (s : State) : Host.Outcome State Fault Refusal :=
  let s := s.advance dt
  if data = 0xA5 && (s.mod.life ≠ .sealed || s.sec.smbusWake) then .next (dormantWake 3 s) else .next s

/-- DORMANT_HOLD_EXHAUSTED (R449): HOLD reaches 2.2 V while DORMANT runs on HOLD. -/
def execDormantHoldExhausted (dt : Nat) (s : State) : Host.Outcome State Fault Refusal :=
  let s := s.advance dt
  if s.pwr.state = .dormant && !s.inputBack then
    let s := { s with pwr := { s.pwr with onHold := false, holdMv := 2200 } }
    let s := toVigil s
    .next { s with pwr := { s.pwr with prior := 3 } }
  else .next s

/-- VIGIL_POWER_ON (R449, R455): an input becomes IN_RANGE. -/
def execVigilPowerOn (dt : Nat) (s : State) : Host.Outcome State Fault Refusal :=
  let s := s.advance dt
  if s.pwr.state = .vigil && s.inputBack then .next (startNode 1 0 s) else .next s

/-! ### Tamper -/

/-- TAMPER_ASSERT (R408, R454, R555): latched in every state; applied in RUN, at the next start otherwise; a wake source of DORMANT. -/
def execTamperAssert (dt : Nat) (s : State) : Host.Outcome State Fault Refusal :=
  let s := s.advance dt
  let t := if s.coreOn then s.now else s.rtcNodeTime
  let s := { s with sec := { s.sec with live := true, latched := true, count := min 255 (s.sec.count + 1), time := t, pending := true } }
  if s.coreOn then .next (applyTamper s) else .next (dormantWake 4 s)

/-! ### Island supply phases (R420, R422, R437) -/

/-- SUPPLY_PHASE_CHECK: `share` is the share of phase 0 in %, `ok` tells which phases deliver current. An island without any is
unpowered. -/
def execSupplyPhaseCheck (dt : Nat) (isl : Fin 14) (share : Fin 101) (ok : BitVec 2) (s : State) : Host.Outcome State Fault Refusal :=
  let s := s.advance dt
  let i := isl.val
  let powered := if i < 8 then (s.aisl i).powered else (s.disl (i - 8)).powered
  if !powered || !s.coreOn then .next s
  else
    let old := s.supplyOf i
    let was := wearLevelOf (tget 0 s.spr.shareWear i)
    let index := min 255 (4 * (if share.val < 50 then 50 - share.val else share.val - 50))
    let weak := if share.val < 50 then 0 else 1
    let lvl := wearLevelOf index
    let s := { s with spr := { s.spr with
      shares := tset 50 s.spr.shares i share.val, shareWear := tset 0 s.spr.shareWear i index, shareAt := tset 0 s.spr.shareAt i s.now } }
    let s := if i < 8 then s.setAisl i { s.aisl i with supply := ok, powered := ok ≠ 0 }
      else s.setDisl (i - 8) { s.disl (i - 8) with supply := ok, powered := ok ≠ 0 }
    let metric := f32OfRat (if share.val < 50 then 50 - share.val else share.val - 50 : Nat)
    let lost := (List.range 2).filter fun p => old.getLsbD p && !ok.getLsbD p
    let s := lost.foldl (fun s p => wearRecord 3 i p index 3 metric s) s
    let s := if was < lvl && lost.isEmpty then wearRecord 3 i weak index lvl metric s else s
    .next (checkPool 3 i s)

end Sys2Proof.Machine
end

