-- ==== Sys2Proof/Machine/RunCfg.lean ====
section
/-! DEFINITION. The meaning of each opcode but the two package opcodes, in the order of R299. -/

namespace Sys2Proof.Machine

/-- The meaning of an opcode; the package opcodes are left to the update chapter. -/
def runBase (op : Opc) (e : CmdEntry) (env : Env) (s : State) : Rep × State :=
  match op with
  | .deviceReset => doDeviceReset e env s
  | .modeSet => doModeSet e env s
  | .modeRead => doModeRead e env s
  | .startWordSet => doStartWordSet e env s
  | .roleSet => doRoleSet e env s
  | .profileSet => doProfileSet e env s
  | .dormantEnter => doDormantEnter e env s
  | .channelConfigure => doChannelConfigure e env s
  | .channelRead => doChannelRead e env s
  | .blankConfigure => doBlankConfigure e env s
  | .crosspointTest => doCrosspointTest e env s
  | .conditionConfigure => doConditionConfigure e env s
  | .tableLoad => doTableLoad e env s
  | .tableRead => doTableRead e env s
  | .outputConfigure => doOutputConfigure e env s
  | .outputWrite => doOutputWrite e env s
  | .outputParallel => doOutputParallel e env s
  | .outputFaultClear => doOutputFaultClear e env s
  | .outputHoldSet => doOutputHoldSet e env s
  | .channelSimulate => doChannelSimulate e env s
  | .channelCalibrate => doChannelCalibrate e env s
  | .pinConfigure => doPinConfigure e env s
  | .pinRead => doPinRead e env s
  | .digitalWrite => doDigitalWrite e env s
  | .groupConfigure => doGroupConfigure e env s
  | .digitalFaultClear => doDigitalFaultClear e env s
  | .counterReset => doCounterReset e env s
  | .digitalHoldSet => doDigitalHoldSet e env s
  | .pinSimulate => doPinSimulate e env s
  | .pointConfigure => doPointConfigure e env s
  | .pointRead => doPointRead e env s
  | .alarmAck => doAlarmAck e env s
  | .alarmSilence => doAlarmSilence e env s
  | .alarmShelve => doAlarmShelve e env s
  | .pointService => doPointService e env s
  | .alarmGroupConfigure => doAlarmGroupConfigure e env s
  | .chainConfigure => doChainConfigure e env s
  | .callConfigure => doCallConfigure e env s
  | .dutySet => doDutySet e env s
  | .firstoutReset => doFirstoutReset e env s
  | .tileBind => doTileBind e env s
  | .derivedConfigure => doDerivedConfigure e env s
  | .programLoad => doProgramLoad e env s
  | .programStart => doProgramStart e env s
  | .programStop => doProgramStop e env s
  | .programStatus => doProgramStatus e env s
  | .variableRead => doVariableRead e env s
  | .variableForce => doVariableForce e env s
  | .cycleConfigure => doCycleConfigure e env s
  | .setConfigure => doSetConfigure e env s
  | .ringConfigure => doRingConfigure e env s
  | .ringStatus => doRingStatus e env s
  | .ringKeySet => doRingKeySet e env s
  | .timeConfigure => doTimeConfigure e env s
  | .pairConfigure => doPairConfigure e env s
  | .masterHandover => doMasterHandover e env s
  | .spareStatus => doSpareStatus e env s
  | .spareSwap => doSpareSwap e env s
  | .sparePolicy => doSparePolicy e env s
  | .spareApprove => doSpareApprove e env s
  | .wearRead => doWearRead e env s
  | .recordRead => doRecordRead e env s
  | .recorderStatus => doRecorderStatus e env s
  | .quotaSet => doQuotaSet e env s
  | .mirrorConfigure => doMirrorConfigure e env s
  | .recordMark => doRecordMark e env s
  | .journalRead => doJournalRead e env s
  | .panelConfigure => doPanelConfigure e env s
  | .waveformLoad => doWaveformLoad e env s
  | .panelWrite => doPanelWrite e env s
  | .panelUpdate => doPanelUpdate e env s
  | .tileImageLoad => doTileImageLoad e env s
  | .panelStatus => doPanelStatus e env s
  | .panelPower => doPanelPower e env s
  | .clockRead => doClockRead e env s
  | .clockShift => doClockShift e env s
  | .clockAlarmSet => doClockAlarmSet e env s
  | .leapSet => doLeapSet e env s
  | .trimCurveLoad => doTrimCurveLoad e env s
  | .updateWindowSet => doUpdateWindowSet e env s
  | .provenSetAccept => doProvenSetAccept e env s
  | .healthRead => doHealthRead e env s
  | .sensorRead => doSensorRead e env s
  | .ownerKeyInstall => doOwnerKeyInstall e env s
  | .seal => doSeal e env s
  | .retire => doRetire e env s
  | .debugOpen => doDebugOpen e env s
  | .debugClose => doDebugClose e env s
  | .securityStatus => doSecurityStatus e env s
  | .tamperClear => doTamperClear e env s
  | .ownerKeyRotate => doOwnerKeyRotate e env s
  | .sessionOpen => doSessionOpen e env s
  | .sessionClose => doSessionClose e env s
  | .sessionRead => doSessionRead e env s
  | .echo => doEcho e env s
  | .flowOpen => doFlowOpen e env s
  | .flowClose => doFlowClose e env s
  | .flowRead => doFlowRead e env s
  | .streamOpen => doStreamOpen e env s
  | .streamClose => doStreamClose e env s
  | .budgetRead => doBudgetRead e env s
  | .packageStage | .packageActivate => (.final stBadOpcode [], s)

end Sys2Proof.Machine
end

