-- ==== Sys2Proof/Machine/Update.lean ====
section
/-! DEFINITION. Updates (R556 to R569, R571): staging, the replay of a configuration, activation, windows, island images. -/

namespace Sys2Proof.Machine

/-! ### The packets of a configuration (R273, R274, R558) -/

/-- The packet at the head of a byte string. -/
def packetOf (l : List Byte) : Cmd :=
  let n := leAt l 12 4
  let t := l.drop (64 + n)
  let auth := (leAt l 2 2).testBit 0
  { auth := auth, flagsRsv := leAt l 2 2 / 2 % 512, target := leAt l 2 2 / 1024, token := leAt l 4 4, session := leAt l 8 2
    replyFlow := byteAt l 10, cls := byteAt l 11, paramLen := n, cookie := leAt l 16 8, notBefore := leAt l 24 8
    inl := (l.drop 32).take 32, ext := (l.drop 64).take n
    counter := if auth then leAt t 0 8 else 0, tag := if auth then (t.drop 8).take 24 else [] }

/-- Length of a packet (R273). -/
def packetLen (c : Cmd) : Nat := 64 + c.paramLen + if c.auth then 32 else 0

/-- The packets of a payload, each aligned to 64 bytes; none when the sequence is cut short. -/
def packetsOf : Nat → List Byte → Option (List (Nat × Cmd))
  | 0, l => if l.isEmpty then some [] else none
  | n + 1, l =>
    if l.isEmpty then some []
    else
      let c := packetOf l
      let len := packetLen c
      if l.length < 64 ∨ 4096 < len ∨ l.length < len then none
      else (packetsOf n (l.drop ((len + 63) / 64 * 64))).map fun r => (leAt l 0 2, c) :: r

/-- An opcode that a configuration may hold: of right C, outside groups 0x0B to 0x0D (R558). -/
def cfgOpcode (n : Nat) : Bool :=
  match opcOf n with
  | some op => (opRow op).right = 2 && !(decide (0x0B ≤ n / 256 ∧ n / 256 ≤ 0x0D))
  | none => false

/-- The packets of a configuration package, none when one is not allowed in it. -/
def configPackets (l : List Byte) : Option (List (Nat × Cmd)) :=
  match packetsOf (l.length / 64 + 1) l with
  | some p => if p.all fun e => cfgOpcode e.1 then some p else none
  | none => none

/-! ### Replay (R558) -/

/-- The node with its delivery configuration: what the hardware is and what runs in it stay. -/
def deliveryState (s : State) : State :=
  let d := unreadable s
  { d with
    flows := s.flows
    rcd := { s.rcd with quota := d.rcd.quota, mirrorMax := d.rcd.mirrorMax, mirTo := d.rcd.mirTo, mirFrom := d.rcd.mirFrom
                        mirSev := d.rcd.mirSev, mirRate := d.rcd.mirRate }
    rng := { d.rng with port0 := { modAbs := s.rng.port0.modAbs }, port1 := { modAbs := s.rng.port1.modAbs }, key0 := s.rng.key0, key1 := s.rng.key1 }
    spr := { s.spr with swaps := [], proposals := [], audits := [] }
    mod := { d.mod with holdSafe := s.mod.holdSafe, profile := s.mod.profile, profileNext := s.mod.profileNext } }

/-- A packet's command as the replay executes it: session 0, all rights. -/
def replayEntry (i : Nat) (op : Opc) (c : Cmd) (s : State) : CmdEntry :=
  { id := s.cp.nextId + i, op := op, c := { c with session := 0, target := 0, notBefore := 0 }, cls := (opRow op).cls, fetched := s.now
    start := s.now, mark := 1, phase := .running, jobEnd := 0, fromMaster := none, work := [] }

/-- What would complete a command later is done at once: nothing moves in a configuration that is being built. A capture finds no
samples. -/
def settleNow (op : Opc) (c : Cmd) (s : State) : Nat × State :=
  match op with
  | .channelConfigure =>
    let g := chanOf c
    let x := s.chan g
    match x.change, x.retune with
    | some k, _ => (stOk, putConfig g k s)
    | none, some r => (stOk, applyTune g r.cfg s)
    | none, none => (stOk, s)
  | .conditionConfigure => (stOk, applyCond (chanOf c) s.now s)
  | .pinConfigure =>
    let g := 64 + c.u8 32 * 16 + c.u8 33
    let x := s.pin g
    (stOk, startMode g (s.setPin g { x with modeNext := x.modeNext.map fun (n : ModeNext) => { n with due := s.now } }))
  | .outputParallel =>
    let g := chanOf c
    let o := s.out g
    (stOk, transferDone g (s.setOut g { o with shareA := o.target.getD o.shareA, pairCmd := none }))
  | .modeSet =>
    match s.mod.pending with
    | some (w, _) => (stOk, applyWord w (s.forceWant w) { s with mod := { s.mod with pending := none } })
    | none => (stOk, s)
  | .programStart =>
    match s.prg.startReq with
    | some (slot, auto, _) => (stOk, startProgram slot auto 0 { s with prg := { s.prg with startReq := none } })
    | none => (stOk, s)
  | .programStop => (stOk, stopProgram 0 { s with prg := { s.prg with stopReq := none } })
  | .variableForce => (stOk, { s with prg := { s.prg with forceReq := [] } })
  | .channelCalibrate => (stFailedHardware, s)
  | _ => (stOk, s)

/-- Status of one packet of a configuration and the configuration after it. -/
def replayOne (i : Nat) (n : Nat) (c : Cmd) (env : Env) (s : State) : Nat × State :=
  match opcOf n with
  | none => (stBadOpcode, s)
  | some op =>
    if c.target ≠ 0 then (stBadParam, s)
    else
      let e := replayEntry i op c s
      let (r, s) := runBase op e { env with dma := env.dmas[i]? } s
      match r with
      | .final st _ => (st, s)
      | .job _ | .done => (stOk, s)
      | .wait _ => settleNow op e.c s

/-- The packets in order; the first failing one ends it with its index and status. -/
def replay (env : Env) : Nat → List (Nat × Cmd) → State → Option (Nat × Nat) × State
  | _, [], s => (none, s)
  | i, (n, c) :: r, s =>
    let (st, s) := replayOne i n c env s
    if st = stOk then replay env (i + 1) r s else (some (i, st), s)

/-- Period and sets whose boundary would still lie ahead belong to the configuration. -/
def settleProgram (s : State) : State :=
  { s with prg := { s.prg with
    period := match s.prg.newPeriod with | some (v, _) => v | none => s.prg.period
    newPeriod := none
    sets := (s.prg.sets.map fun (e : Nat × ConSet) => (e.1, resetSet e.2)).filter fun (e : Nat × ConSet) => e.2 ≠ {} } }

/-- The configuration that a package builds, or the packet at which it fails. -/
def buildConfig (packets : List (Nat × Cmd)) (env : Env) (s : State) : Option (Nat × Nat) × ConfigCopy × Nat :=
  let (bad, t) := replay env 0 packets (deliveryState s)
  (bad, (settleProgram t).configCopy, t.fresh)

/-! ### Staging (R557, R559) -/

/-- Update, diagnostic and read opcodes run in HOLD_SAFE whatever SERV reads (R564). -/
def State.updatesAllowed (s : State) : Bool := s.mode .serv || s.mod.holdSafe ≠ 0

/-- Kinds with a job running and that job's command (R569). -/
def State.jobOn (s : State) (k : Nat) : Option Nat :=
  match s.mss.stage.find? (·.kind == k) with
  | some j => some j.cmd
  | none => (s.mss.acts.find? fun a => a.mask.testBit k).map (·.cmd)

/-- BUSY_SERV with the job bound left. -/
def State.busyWith (s : State) (id : Nat) : Rep :=
  .busy (match s.cmd id with | some e => (e.jobEnd - s.now) / 1000000 | none => 0)

/-- The image that a package puts into a bank. -/
def imageOfPackage (l : List Byte) (packets : List (Nat × Cmd)) : Bank :=
  { version := pkgVersion l, svn := pkgSvn l, stamps := pkgStamps l, good := true, packets := packets }

/-- The first failing check of a package for a KIND (R557, R558, R562), or its image. -/
def judgePackage (k : Nat) (l : List Byte) (s : State) : Rep ⊕ Bank :=
  if pkgKind l ≠ k then .inl (.bad 0x0100)
  else match packageBad l s with
  | some r => .inl r
  | none =>
    if k ≠ 4 then .inr (imageOfPackage l [])
    else match configPackets (pkgPayload l) with
    | some p => .inr (imageOfPackage l p)
    | none => .inl (.bad 0x0100)

/-- Status and payload of a final answer. -/
def Rep.parts : Rep → Nat × List Byte
  | .final st pl => (st, pl)
  | _ => (stOk, [])

/-- The bank that is not active holds an image of the proven set while the running set is not proven (R559). -/
def State.provenBank (s : State) (k : Nat) : Bool :=
  match s.mss.proven with
  | none => false
  | some (set, _) =>
    let target := 1 - (s.kindOf k).active
    let running := (List.range 5).map fun k => ((s.kindOf k).active, (s.kindOf k).run.version)
    set ≠ running && (set.getD k (0, 0)).1 = target && ((s.kindOf k).bank target).isSome

/-- One more staging job. -/
def State.stageJob (s : State) (j : StageJob) : State := { s with mss := { s.mss with stage := s.mss.stage ++ [j] } }

/-- PACKAGE_STAGE (R557, R559, R564, R569, R571): a job; while it writes, its bank holds no image. -/
def doPackageStage (e : CmdEntry) (env : Env) (s : State) : Rep × State :=
  let c := e.c
  let k := c.u8 32
  let len := c.u32 48
  if !c.restZero [(32, 1), (40, 12)] || !c.extZero 0 || 4 < k then (.bad 8, s)
  else if c.u64 40 % 4096 ≠ 0 then (.bad 0x0101, s)
  else if s.pwr.state = .holdover then (.conflict 0xA2, s)
  else if !s.updatesAllowed then (.conflict 0xA3, s)
  else if s.provenBank k then (.bad 0x0105, s)
  else match s.jobOn k with
  | some id => (s.busyWith id, s)
  | none =>
    match env.dma with
    | none => (.bad 0x0101, s)
    | some l =>
      let x := s.kindOf k
      let target := 1 - x.active
      match judgePackage k (l.take len) s with
      | .inl r =>
        let j : StageJob := { cmd := e.id, kind := k, bank := target, image := {}, bad := some r.parts }
        (.job [], s.stageJob j)
      | .inr b =>
        let j : StageJob := { cmd := e.id, kind := k, bank := target, image := b }
        (.job [], (s.setKind k { x.setBank target none with staged := false }).stageJob j)
/-- STAGE_JOB_END (R557, R559, R571, R572): the oldest staging job. -/
def execStageJobEnd (dt : Nat) (s : State) : Host.Outcome State Fault Refusal :=
  let s := s.advance dt
  match s.mss.stage with
  | [] => .next s
  | j :: rest =>
    if !s.coreOn then .next s
    else
      let s := { s with mss := { s.mss with stage := rest } }
      match j.bad with
      | some (st, pl) => .next (raiseVector 2 2 (endJob j.cmd st pl s))
      | none =>
        let x := s.kindOf j.kind
        let s := s.setKind j.kind { x.setBank j.bank (some j.image) with staged := true }
        let data := le 4 j.image.version ++ le 1 j.image.svn ++ le 1 j.bank
        .next (raiseVector 2 2 (endJob j.cmd stOk data (logEntry 5 j.kind data (note 0x0A02 j.kind data s))))

/-! ### Activation (R567, R568) -/

/-- Banks in force once the masked kinds change theirs. -/
def State.flipped (s : State) (mask : Nat) : List Nat :=
  (List.range 5).map fun k => let a := (s.kindOf k).active; if mask.testBit k then 1 - a else a

/-- Islands that receive an image, in index order (R567). -/
def islandsOf (mask : Nat) : List Nat :=
  (if mask.testBit 2 then List.range 8 else []) ++ (if mask.testBit 3 then (List.range 6).map (· + 8) else [])

/-- A set other than the proven one runs on trial from now (R561). -/
def beginTrial (s : State) : State :=
  { s with mss := { s.mss with trial := if s.provenSet = some s.activeSet4 then none else some s.now, proposed := false } }

/-- The banks change; KIND 0, 1 and 4 need the reset of cause ACTIVATION (R567). -/
def switchBanks (a : Activation) (s : State) : State :=
  let s := activate (s.flipped a.mask) s
  let resets := a.mask.testBit 0 || a.mask.testBit 1 || a.mask.testBit 4
  let b := { a with phase := if resets then 1 else 2, islands := islandsOf a.mask }
  let s := beginTrial (s.setAct b)
  if resets then assertReset 8 false s else if b.islands.isEmpty then finishActivation b s else s

/-- An activation begins (R567, R572): the configuration is built first. -/
def beginActivation (a : Activation) (env : Env) (s : State) : State :=
  let data := le 1 a.wh ++ zeros 7 ++ le 8 s.now
  let s := raiseVector 2 2 (logEntry 5 a.mask data (note 0x0A03 a.mask data s))
  if !a.mask.testBit 4 then switchBanks a s
  else
    let x := s.kindOf 4
    match buildConfig (((x.bank (1 - x.active)).getD {}).packets) env s with
    | (some (i, st), _) =>
      endActivation a stBadParam (le 2 0x010C ++ le 1 0 ++ zeros 1 ++ le 4 i ++ le 2 st) s
    | (none, copy, fresh) => switchBanks a { s with other := some copy, fresh := fresh }

/-- A granted window that is open now, and the first that opens within 3 h of `t` (R568). -/
def State.openWindow (s : State) : Bool := s.mss.windows.any fun w => decide (w.1 ≤ s.now ∧ s.now < w.2)
def State.nextWindow (s : State) (t : Nat) : Option (Nat × Nat) :=
  s.mss.windows.foldl (fun o w =>
    if w.1 < w.2 ∧ t ≤ w.1 ∧ w.1 ≤ t + 10800000000000 then
      (match o with | some v => some (if w.1 < v.1 then w else v) | none => some w)
    else o) none

/-- INCOMPATIBLE with the first failing pair (R567). -/
def stampPair (set : List Nat) (p : Nat × Nat) (s : State) : Rep :=
  let v := fun k => (((s.kindOf k).bank (set.getD k 0)).getD {}).version
  .final stIncompatible (le 2 0x010B ++ le 1 p.1 ++ le 1 p.2 ++ le 4 (v p.1) ++ le 4 (v p.2))

/-- PACKAGE_ACTIVATE (R564, R567 to R569, R571). -/
def doPackageActivate (e : CmdEntry) (env : Env) (s : State) : Rep × State :=
  let c := e.c
  let mask := c.u8 32
  let wh := c.u8 33
  let kinds := (List.range 5).filter mask.testBit
  let window := s.nextWindow e.start
  if !c.restZero [(32, 2)] || !c.extZero 0 || 31 < mask || 1 < wh then (.bad 8, s)
  else if s.pwr.state = .holdover then (.conflict 0xA2, s)
  else if !s.updatesAllowed then (.conflict 0xA3, s)
  else if kinds.any fun k => !(s.kindOf k).staged then (.bad 0x0104, s)
  else match s.badPair (s.flipped mask) with
  | some p => (stampPair (s.flipped mask) p s, s)
  | none =>
    if wh = 1 && s.mod.profile = 1 then (.conflict 0x0109, s)
    else if (wh = 1 && window.isNone) || (wh = 0 && s.mod.profile = 0 && !s.openWindow) then (.final stOutsideWindow [], s)
    else match kinds.findSome? s.jobOn with
      | some id => (s.busyWith id, s)
      | none =>
        let (a, b) := window.getD (0, 0)
        let x : Activation :=
          { cmd := e.id, mask := mask, wh := wh, start := e.start, phase := 0, opens := a, closes := b, islands := [], kept := 0 }
        let s := { s with mss := { s.mss with acts := s.mss.acts ++ [x] } }
        if wh = 1 then (.job [], s) else (.done, beginActivation x env (acceptJob e [] s))

/-- End of the wait of a WHEN 1 activation (R568). -/
def Activation.last (a : Activation) : Nat := min a.closes (a.start + 12600000000000)

/-- UPDATE_WINDOW_OPEN (R568): a window has opened and no point is unacknowledged. -/
def execUpdateWindowOpen (dt : Nat) (env : Env) (s : State) : Host.Outcome State Fault Refusal :=
  let s := s.advance dt
  let ready := fun (a : Activation) => a.phase = 0 && decide (a.opens ≤ s.now ∧ s.now < a.last)
  match s.mss.acts.find? ready with
  | none => .next s
  | some a => if !s.coreOn || s.pwr.state ≠ .run || s.alm.points.any (fun e => e.2.unack) then .next s else .next (beginActivation a env s)

/-- ACTIVATION_WINDOW_EXPIRY (R568). -/
def execActivationWindowExpiry (dt : Nat) (s : State) : Host.Outcome State Fault Refusal :=
  let s := s.advance dt
  match s.mss.acts.find? fun a => a.phase = 0 && decide (a.last ≤ s.now) with
  | none => .next s
  | some a => .next (endActivation a stOutsideWindow [] s)

/-- Output stages whose hold time is shorter than a restart of `ms` take their safe values; the next samples carry RESET_GAP
(R567). -/
def islandRestarts (i ms : Nat) (s : State) : State :=
  let hold := if i < 8 then (s.aisl i).hold else (s.disl (i - 8)).hold
  let s := if hold * 20 < ms then islandSafe i s else s
  if i < 8 then
    (List.range 8).foldl (fun s c =>
      let x := s.chan (i * 8 + c)
      if x.cfg.kind = 0 then s else s.setChan (i * 8 + c) { x with gap := true }) s
  else
    (List.range 16).foldl (fun s p =>
      let g := 64 + (i - 8) * 16 + p
      let x := s.pin g
      if x = {} then s else s.setPin g { x with gap := true }) s

/-- ISLAND_IMAGE_RESTART (R567, R572): the next island has its image in its inactive slot and restarts from it within `ms`; one that
does not answer within 1 s returns to its previous slot. -/
def execIslandImageRestart (dt : Nat) (isl : Fin 14) (answered : Bool) (ms : Fin 201) (s : State) : Host.Outcome State Fault Refusal :=
  let s := s.advance dt
  let i := isl.val
  match s.mss.acts.find? fun a => a.phase = 2 && a.islands.head? == some i with
  | none => .next s
  | some a =>
    if !s.coreOn then .next s
    else
      let x := tget {} s.mss.islands i
      let img := (s.kindOf (islandKind i)).run
      let y := if x.slot = 0 then { x with slotB := some img } else { x with slotA := some img }
      let z := if answered then { y with slot := 1 - y.slot, dead := false } else y
      let b := { a with islands := a.islands.tail, kept := if answered then a.kept else a.kept + 2 ^ i }
      let s := { s with mss := { s.mss with islands := tset {} s.mss.islands i z } }.setAct b
      let s := islandRestarts i (if answered then ms.val else 1000 + ms.val) s
      let s := noteRelease (imageRecord i (!answered) s)
      .next (if b.islands.isEmpty then finishActivation b s else s)

/-! ### The command rows -/

def execPackageStage (dt : Nat) (c : Cmd) (env : Env) (s : State) : Host.Outcome State Fault Refusal :=
  runHere .packageStage dt c env doPackageStage s
def execPackageActivate (dt : Nat) (c : Cmd) (env : Env) (s : State) : Host.Outcome State Fault Refusal :=
  runHere .packageActivate dt c env doPackageActivate s

end Sys2Proof.Machine
end

