-- ==== Sys2Proof/Machine/Start.lean ====
section
/-! DEFINITION. The start of accepted commands (R283), commands from the master (R293), and what ends commands and jobs at their
bounds (R284, R286). -/

namespace Sys2Proof.Machine

/-- The meaning of every opcode. -/
def runOpcode (op : Opc) (e : CmdEntry) (env : Env) (s : State) : Rep × State :=
  match op with
  | .packageStage => doPackageStage e env s
  | .packageActivate => doPackageActivate e env s
  | op => runBase op e env s

/-- A command may start now but for its turn among the classes. -/
def State.cmdDue (s : State) (e : CmdEntry) : Bool := e.phase = .waiting && decide (e.start ≤ s.now) && !s.blocked e

/-- COMMAND_START (R276, R283, R288, R599): in order of class, and of fetch within a class. -/
def execCommandStart (dt : Nat) (id : Nat) (env : Env) (s : State) : Host.Outcome State Fault Refusal :=
  let s := s.advance dt
  match s.cmd id with
  | none => .next s
  | some e =>
    let sooner := fun (f : CmdEntry) => s.cmdDue f && (decide (f.cls < e.cls) || (f.cls == e.cls && decide (f.id < e.id)))
    if !s.coreOn || !s.cmdDue e || s.cp.exec.any sooner then .next s
    else
      let e := { e with phase := .running, mark := 1 }
      let (r, s) := runOpcode e.op e env (s.setCmd e)
      .next (finish e r s)

/-! ### Commands that the master forwards (R293) -/

/-- A refusal goes back to the master, under the order the command would have had. -/
def answerMaster (code : Nat) (payload : List Byte) (s : State) : State :=
  { s with cp := { s.cp with nextId := s.cp.nextId + 1, answers := s.cp.answers ++ [(s.cp.nextId, code, payload)] } }

/-- A reissue of a forwarded command meets its entry (R291, R293). -/
def answerAgain (ses : Nat) (d : DupEntry) (s : State) : State :=
  match d.status with
  | some st => answerMaster (stDuplicate + 65536 * st) d.payload s
  | none =>
    if d.job then answerMaster (stDuplicate + 65536 * stAccepted) [] s
    else { s with cp := { s.cp with fwdWindow := s.cp.fwdWindow.map fun (x : Nat × DupEntry) =>
      if x.1 = ses && x.2.token = d.token then (x.1, { x.2 with owed := x.2.owed ++ [(0, 0)] }) else x } }

/-- FORWARDED_COMMAND_RECEIVE (R293): checks 3, 7 and 8 of R282. -/
def execForwardedCommandReceive (dt : Nat) (opcode : BitVec 16) (c : Cmd) (rights : BitVec 4) (s : State) :
    Host.Outcome State Fault Refusal :=
  let s := s.advance dt
  if !s.coreOn then .next s
  else match opcOf opcode.toNat with
  | none => .next (answerMaster stBadOpcode [] s)
  | some op =>
    let digest := crc32c (packetBytes opcode.toNat c)
    match (if c.token = 0 then none else s.cp.fwdWindow.find? fun d => d.1 == c.session && d.2.token == c.token) with
    | some d => .next (if d.2.digest = digest then answerAgain c.session d.2 s else answerMaster stBadParam (le 2 0x61) s)
    | none =>
      if !lifeAllows op s then .next (answerMaster stLifecycle [] s)
      else
        let id := s.cp.nextId
        let e : CmdEntry :=
          { id := id, op := op, c := { c with target := 0 }, cls := if c.cls = 255 then (opRow op).cls else c.cls, fetched := s.now
            start := max s.now c.notBefore, mark := 0, phase := .waiting, jobEnd := 0, fromMaster := some rights.toNat, work := [] }
        let d : DupEntry :=
          { token := c.token, digest := digest, cmd := id, status := none, payload := [], job := false, keep := 0, owed := [], isReset := false }
        let w := if c.token = 0 then s.cp.fwdWindow else s.cp.fwdWindow ++ [(c.session, d)]
        let mine := (w.filter fun x => x.1 == c.session).length
        let w := if 1024 < mine then w.eraseP fun x => x.1 == c.session else w
        .next { s with cp := { s.cp with nextId := id + 1, exec := s.cp.exec ++ [e], fwdWindow := w } }

/-! ### Bounds -/

/-- A channel change that is abandoned leaves the previous configuration in force (R284). -/
def dropChange (id g : Nat) (s : State) : State :=
  let x := s.chan g
  let s := match x.change with
    | some c =>
      if c.cmd ≠ id then s
      else if x.cfg.usesSlice then
        s.setChan g { x with change := none, conn := x.cfg.joins (x.pslice.getD 60) (x.psource.getD 60), unsettled := x.cfg.settle, unsettledW := 40 }
      else s.setChan g { x with change := none }
    | none => s
  let x := s.chan g
  match x.retune with
  | some r => if r.cmd = id then s.setChan g { x with retune := none } else s
  | none => s

/-- What output `g` still has to do for a command is dropped; a second cell that still waits to be joined (R131) is given back. -/
def dropOutCmd (id g : Nat) (s : State) : State :=
  let o := s.out g
  let o := match o.staged with | some (_, _, some k, _) => if k = id then { o with staged := none } else o | _ => o
  if o.pairCmd = some id then
    let s := match o.cellB with
      | some k => if o.waiting then checkPool 1 (g / 8) (s.setPartRole 1 (g / 8) k 1) else s
      | none => s
    s.setOut g { o with
      target := none, removing := none, waiting := false, pairCmd := none, cellB := if o.waiting then none else o.cellB }
  else s.setOut g o

def dropPinCmd (id g : Nat) (s : State) : State :=
  let x := s.pin g
  let x := match x.modeNext with
    | some n => if n.cmd = id then { x with cfg := n.old, modeNext := none } else x
    | none => x
  let x := if x.moveCmd = some id then { x with moveCmd := none } else x
  let s := s.setPin g x
  match x.staged with
  | some (_, _, some k) => if k = id then s.setPin g { x with staged := none } else s
  | _ => s

/-- Everything that a command in execution has not done yet is dropped: it makes no further change (R284). -/
def dropWork (id : Nat) (s : State) : State :=
  let s := (List.range 64).foldl (fun s g => dropOutCmd id g (dropChange id g s)) s
  let s := (List.range 96).foldl (fun s p => dropPinCmd id (64 + p) s) s
  let p := s.prg
  { s with
    prg := { p with
      startReq := match p.startReq with | some (a, b, k) => if k = id then none else some (a, b, k) | none => none
      stopReq := if p.stopReq = some id then none else p.stopReq
      forceReq := p.forceReq.filter fun r => r.1 ≠ id }
    mod := { s.mod with
      pending := match s.mod.pending with | some x => if x.2.2.1 = id then none else some x | none => none
      cals := s.mod.cals.map fun (e : Nat × Cal) =>
        (e.1, match e.2.capture with | some x => if x.1 = id then { e.2 with capture := none } else e.2 | none => e.2) }
    pnl := { s.pnl with loading := match s.pnl.loading with | some x => if x.1 = id then none else some x | none => none }
    rtc := { s.rtc with shift := match s.rtc.shift with | some (n, b, some k) => if k = id then none else some (n, b, some k) | x => x }
    rng := { s.rng with handover := match s.rng.handover with | some x => if x.2.2 = id then none else some x | none => none }
    host := { s.host with answers := s.host.answers.filter fun a => a.cmd ≠ id }
    flows := s.flows.map fun (e : Nat × Flow) => (e.1, if e.2.closing = some id then { e.2 with closing := none } else e.2) }

/-- A command in execution that has made no change before it completes: what it asked for waits for its instant (R288, R295). -/
def changesAtEnd : Opc → Bool
  | .outputWrite | .digitalWrite | .programStart | .programStop | .variableForce | .modeSet | .channelCalibrate | .waveformLoad
  | .clockShift => true
  | _ => false

/-- FIFO_PARITY_ERROR (R23): crossings in the order of R21. The word is discarded and a record names the crossing; an island frame is
resent from the ride-through buffer; a frame received on port `isl` mod 2 fails as by its CRC, and one to be transmitted there is
sent again by link retry; any other owner ends with FAILED_HARDWARE, and what the word carried is not done. DESIGN CHOICE (log 90):
the record's SOURCE and PAYLOAD are the crossing and the island, the reply's detail is 0 and its EFFECT 2. -/
def execFifoParityError (dt : Nat) (crossing : Fin 11) (isl : Fin 14) (id : Nat) (s : State) :
    Host.Outcome State Fault Refusal :=
  let s := s.advance dt
  let k := isl.val % 2
  let s := note Config.parityRecord.toNat crossing.val (le 1 crossing.val ++ le 1 isl.val) s
  match crossing.val with
  | 0 => .next s
  | 4 | 6 => .next (if (s.port k).up then frameFailed k s else s)
  | 5 => .next (retryFrames k s)
  | _ => .next (completeCmd id stFailedHardware (le 2 0 ++ le 1 2) (dropWork id s))

/-- The instant from which the bound of a command in execution runs: S, or the application instant of a write that is staged (R136,
R163). -/
def State.boundFrom (s : State) (e : CmdEntry) : Nat :=
  if e.phase ≠ .running then e.start
  else match e.op with
  | .outputWrite => match (s.out (chanOf e.c)).staged with | some (_, t, _, _) => max e.start t | none => e.start
  | .digitalWrite => (List.range 16).foldl (fun m p =>
      match (s.pin (64 + e.c.u8 32 * 16 + p)).staged with
      | some (_, t, k) => if k = some e.id then max m t else m
      | none => m) e.start
  | _ => e.start

/-- A CONDITION_CONFIGURE whose first sample is late completes at its bound; the configuration applies from that sample (R109). -/
def condBound (id g : Nat) (s : State) : State :=
  let x := s.chan g
  completeCmd id stOk [] (match x.condNext with
    | some n => if n.cmd = some id then s.setChan g { x with condNext := some { n with cmd := none } } else s
    | none => s)

/-- COMMAND_BOUND_REACHED: work unfinished at S + B is abandoned (R284, R295); a CONDITION_CONFIGURE is complete (R109), and so is a
PIN_CONFIGURE, whose new mode has started by then (R143). -/
def execCommandBoundReached (dt : Nat) (id : Nat) (s : State) : Host.Outcome State Fault Refusal :=
  let s := s.advance dt
  match s.cmd id with
  | none => .next s
  | some e =>
    if (e.phase = .waiting || e.phase = .running) && decide (s.boundFrom e + cmdBound e.op e.c s ≤ s.now) then
      if e.op = .conditionConfigure && e.phase = .running then .next (condBound id (chanOf e.c) s)
      else if e.op = .pinConfigure && e.phase = .running then .next (startMode (64 + e.c.u8 32 * 16 + e.c.u8 33) s)
      else
      let effect := if e.phase = .waiting || changesAtEnd e.op then 0 else 2
      .next (completeCmd id stFailedHardware (le 2 0x6B ++ le 1 effect) (dropWork id s))
    else .next s

/-- A swap still waiting at its job bound (R428, R435): the spare is free again. -/
def swapExpires (w : Swap) (s : State) : State :=
  let s := if w.pool = 1 && w.method = 2 then
      let g := w.isl * 8 + w.idx
      s.setOut g { s.out g with cellB := none, shareA := 16, target := none, removing := none, waiting := false, devA := 0, devB := 0 }
    else s
  abortSwap w 0x00C4 1 s

/-- Any other job at its bound: FAILED_HARDWARE with BOUND_REACHED. -/
def jobFails (id effect : Nat) (s : State) : State := endJob id stFailedHardware (le 2 0x6B ++ le 1 effect) s

/-- JOB_BOUND_REACHED (R286). -/
def execJobBoundReached (dt : Nat) (id : Nat) (s : State) : Host.Outcome State Fault Refusal :=
  let s := s.advance dt
  match s.cmd id with
  | none => .next s
  | some e =>
    if e.phase ≠ .job || s.now < e.jobEnd then .next s
    else .next (match e.op with
      | .spareSwap =>
        match s.spr.swaps.find? fun w => w.cmd = some id with
        | some w => swapExpires w s
        | none => jobFails id 2 s
      | .panelUpdate =>
        let mine := fun (u : UpdSrc) => match u with | .host k _ => k == id | _ => false
        let drawn := s.pnl.regions.any fun r => mine r.2.src
        jobFails id (if drawn then 2 else 0) { s with pnl := { s.pnl with queue := s.pnl.queue.filter fun (u : Update) => !mine u.src } }
      | .packageStage =>
        jobFails id 2 { s with mss := { s.mss with stage := s.mss.stage.filter fun j => j.cmd ≠ id } }
      | .packageActivate =>
        match s.mss.acts.find? fun a => a.cmd = id with
        | some a => endActivation a stFailedHardware (le 2 0x6B ++ le 1 (if a.phase = 0 then 0 else 2)) s
        | none => jobFails id 2 s
      | _ => jobFails id 2 s)

end Sys2Proof.Machine
end

