-- ==== Sys2Proof/Machine/RegsA.lean ====
section
/-! DEFINITION. Reads of the registers of the analogue, digital and alarm blocks (R78, R111, R138, R165, R205). A register is given
at its base offset within its block as its value and whether it is 64 bits wide; no register gives none. -/

namespace Sys2Proof.Machine

/-- A register's value and width. -/
abbrev RegVal := Option (Nat × Bool)

def r32 (v : Nat) : RegVal := some (v % 2 ^ 32, false)
def r64 (v : Nat) : RegVal := some (v % 2 ^ 64, true)

/-- A pin, channel or part number, or the code of none. -/
def orNone (none : Nat) (x : Option Nat) : Nat := x.getD none

/-- Bits of a list of flags, the first at `lo`. -/
def bitsOf (l : List Bool) (lo : Nat) : Nat := (l.zipIdx.map fun e => bit e.1 (lo + e.2)).foldl (· + ·) 0

/-! ### Analogue islands -/

/-- ACH_ISL_STATUS (R78); the supply bits are known while the island's frames arrive. -/
def AIsland.status (x : AIsland) : Nat :=
  bit x.present 0 + bit x.linkUp 1 + bit x.lost 2 + (if x.linkUp then x.supply.toNat else 0) * 2 ^ 3 + x.refOk.toNat * 2 ^ 5 + bit x.refDegraded 8 +
  bit x.refFault 9 + x.cjOk.toNat * 2 ^ 10 + bit x.blank.isSome 12

/-- FILL_KIB: a buffered sample counts 8 bytes and a waveform word 4. -/
def AIsland.fillKib (x : AIsland) : Nat := min 1023 ((8 * x.rtb.length + 4 * x.waves.length + 1023) / 1024)

/-- ACH_ISL_RTB (R78). -/
def AIsland.rtbWord (x : AIsland) : Nat := x.fillKib + bit x.waveDropped 16 + bit x.precLost 17

/-- ACH_XPT_Tnn (R78): the joined nodes in the order in which they were joined, their path bits, owner and sharing. -/
def State.xptWord (s : State) (i t : Nat) : Nat :=
  let l := (s.closedSwitches i).filter fun e => e.1 = t
  let nodes := (l.map fun e => e.2.1).eraseDups
  let owners := (l.map fun e => e.2.2 % 8).eraseDups
  let half := fun (n : Option Nat) => match n with
    | some n =>
      let p := tget (false, false) (s.aisl i).paths (t * 32 + n)
      n + bit p.1 5 + bit p.2 6
    | none => 31
  half nodes[0]? + half nodes[1]? * 2 ^ 8 +
  (match owners.head? with | some c => c * 2 ^ 16 + 2 ^ 19 | none => 0) + bit (decide (1 < owners.length)) 20

/-- ACH_CH_CFG, ACH_CH_EXC and ACH_CH_TERM (R78); a resistance range fixes its level (R48, R101). -/
def ChanCfg.cfgWord (c : ChanCfg) : Nat :=
  c.kind % 16 + c.range % 16 * 2 ^ 4 + c.prec % 16 * 2 ^ 8 + c.wave % 16 * 2 ^ 12 + bit c.pulsed 16 + c.pwin % 4 * 2 ^ 17 +
  bit c.owTest 19 + c.prate % 16 * 2 ^ 20
def State.excWord (s : State) (g : Nat) : Nat :=
  let c := (s.chan g).cfg
  c.emode % 4 + (if decide (3 ≤ c.kind ∧ c.kind ≤ 5) then resLevel (s.chan g).rangeNow else c.level) % 4096 * 2 ^ 2 + c.lead % 256 * 2 ^ 14 + bit (s.chanHeavy g) 22 + c.ilim % 256 * 2 ^ 24
def ChanCfg.termWord (c : ChanCfg) : Nat := c.tp % 256 + c.tn % 256 * 2 ^ 8 + c.tx % 256 * 2 ^ 16 + c.tr % 256 * 2 ^ 24

/-- The sample that the sample registers show: the latched one, else the last (R79, R112). -/
def Chan.shown (x : Chan) : Option Sample := x.latch <|> x.last

/-- What a channel without a sample shows (R75, R111). -/
def noSample (g : Nat) : Sample := { src := g, value := 0x7FC00000, sqw := 0x8000, time := 0 }

/-- ACH_CH_STATUS (R78). -/
def State.chanStatus (s : State) (g : Nat) : Nat :=
  let x := s.chan g
  let m := x.last.getD (noSample g)
  bit (s.mode .acq && s.canSample g) 0 + bit (m.sqw.getLsbD 1) 1 + bit (m.sqw.getLsbD 2) 2 + bit (s.glideOk g) 3 +
  orNone 15 x.pslice % 16 * 2 ^ 4 + orNone 15 (x.psource.orElse fun _ => (s.out g).cellA) % 16 * 2 ^ 8 + x.seqLast % 65536 * 2 ^ 16

/-- ACH_CH_COND and ACH_CH_RSTAT (R111). -/
def CondCfg.word (c : CondCfg) : Nat :=
  c.curve % 256 + c.cjsrc % 8 * 2 ^ 8 + c.cjch % 8 * 2 ^ 11 + bit c.cjfb 14 + bit c.autorange 15 + c.rangeLo % 16 * 2 ^ 16 +
  c.rangeHi % 16 * 2 ^ 20 + c.cutoff % 16 * 2 ^ 28
def Chan.rangeWord (x : Chan) : Nat :=
  x.rangeNow % 16 + x.hstate % 4 * 2 ^ 4 + x.hdir % 2 * 2 ^ 6 + orNone 15 x.spare % 16 * 2 ^ 8 + x.glides % 256 * 2 ^ 16 +
  x.falls % 256 * 2 ^ 24

/-- A register of a channel's set (R78, R111). -/
def State.chanReg (s : State) (g off : Nat) : RegVal :=
  let x := s.chan g
  let m := x.shown.getD (noSample g)
  match off with
  | 0x00 => r32 x.cfg.cfgWord
  | 0x04 => r32 (s.excWord g)
  | 0x08 => r32 x.cfg.termWord
  | 0x0C => r32 (s.chanStatus g)
  | 0x10 => r32 (x.last.getD (noSample g)).raw.toNat
  | 0x14 => r32 m.sqw.toNat
  | 0x18 => r64 m.time
  | 0x20 => r32 x.cond.word
  | 0x24 => r32 x.cond.gain.toNat
  | 0x28 => r32 x.cond.offset.toNat
  | 0x2C => r32 x.cond.arg0.toNat
  | 0x30 => r32 x.cond.arg1.toNat
  | 0x34 => r32 m.value.toNat
  | 0x38 => r32 x.rangeWord
  | 0x3C => r32 m.cj.toNat
  | _ => none

/-- ACH_OUT_CFG and ACH_OUT_STATUS (R138). -/
def Output.cfgWord (o : Output) : Nat :=
  o.okind % 4 + bit o.failLow 2 + bit o.ne43 3 + o.safeMode % 8 * 2 ^ 4 + o.tp % 256 * 2 ^ 8 + o.tn % 256 * 2 ^ 16
def Output.status (o : Output) : Nat :=
  bit o.active 0 + bit o.compliance 1 + bit o.failLatch 2 + bit o.safeNow 3 + bit o.held 4 +
  bit (o.cellA.isSome && o.cellB.isSome && !o.waiting) 5 + bit (o.target.isSome || o.waiting) 6 + orNone 15 o.cellA % 16 * 2 ^ 8 +
  orNone 15 o.cellB % 16 * 2 ^ 12 + o.shareA % 32 * 2 ^ 16

/-- A register of an output's set (R138). -/
def State.outReg (s : State) (g off : Nat) : RegVal :=
  let o := s.out g
  match off with
  | 0x00 => r32 o.cfgWord
  | 0x04 => r32 o.safeValue.toNat
  | 0x08 => r32 o.set.toNat
  | 0x0C => r32 o.rbi.toNat
  | 0x10 => r32 (o.rbvLatch.getD o.rbv).toNat
  | 0x14 => r32 o.status
  | 0x18 => r32 o.rail.toNat
  | _ => none

/-- A register of the ACH block (R78, R138). -/
def State.achReg (s : State) (off : Nat) : RegVal :=
  let i := off / 0x1000
  let o := off % 0x1000
  let x := s.aisl i
  if 8 ≤ i then none
  else if o < 0x100 then
    match o with
    | 0x00 => r32 x.status
    | 0x04 => r32 x.clampLive.toNat
    | 0x08 => r32 x.clampFlag.toNat
    | 0x0C => r32 x.blankCfg.toNat
    | 0x10 => r32 x.blankCount
    | 0x14 => r32 x.rtbWord
    | _ => none
  else if o < 0x180 then (if o % 4 = 0 then r32 (s.xptWord i ((o - 0x100) / 4)) else none)
  else if 0x400 ≤ o ∧ o < 0x600 then s.chanReg (i * 8 + (o - 0x400) / 0x40) (o % 0x40)
  else if 0x800 ≤ o ∧ o < 0xA00 then s.outReg (i * 8 + (o - 0x800) / 0x40) (o % 0x40)
  else if o = 0xC00 then r32 (min 7 (s.heavyUsed i) + x.hold % 256 * 2 ^ 8)
  else none

/-! ### Digital islands -/

def DIsland.status (x : DIsland) : Nat :=
  bit x.present 0 + bit x.linkUp 1 + bit x.lost 2 + (if x.linkUp then x.supply.toNat else 0) * 2 ^ 3 + bit (x.lplus = some 0) 5 + bit (x.lplus = some 1) 6 +
  bit (x.lplus = some 2) 7

/-- DCH_ISL_CFG and DCH_ISL_SPARE (R165). -/
def DIsland.cfgWord (x : DIsland) : Nat :=
  x.hold % 256 + ((List.range 4).map fun q => x.gmode.getD q 0 % 4 * 2 ^ (2 * q + 8)).foldl (· + ·) 0
def DIsland.spareWord (x : DIsland) : Nat :=
  orNone 0 x.railPin % 16 + bit x.railPin.isSome 4 + bit x.railDrv 5 + bit x.sp0Ok 6 + bit x.sp1Ok 7

/-- The pins of a digital island. -/
def State.pinsOf (s : State) (d : Nat) : List Pin := (List.range 16).map fun p => s.pin (64 + d * 16 + p)

/-- Total driver current of a digital island in mA (R165). -/
def State.driverCurrent (s : State) (d : Nat) : Nat :=
  (((s.pinsOf d).filter fun p => p.cfg.mode = 5 && p.driven).map (·.curr)).foldl (· + ·) 0

/-- An input mode (R142). -/
def Pin.isInput (x : Pin) : Bool := decide (1 ≤ x.cfg.mode ∧ x.cfg.mode ≤ 4)

/-- DCH_PIN_CFG (R165). -/
def PinCfg.word (c : PinCfg) : Nat :=
  c.mode % 8 + bit c.wbEn 3 + bit c.olOff 4 + bit c.inv 5 + bit c.retry 6 + c.edge % 4 * 2 ^ 7 + c.gate % 4 * 2 ^ 9 +
  c.safeMode % 4 * 2 ^ 11 + c.filter % 512 * 2 ^ 16

/-- COUNT, FREQ, SQW and TIME of a pin as latched, else now (R165). -/
def Pin.shown (x : Pin) : Nat × Word × Nat × Nat := x.latch.getD (x.count, x.freq, x.sqwNow, x.timeNow)

/-- A register of a pin's set (R165). -/
def State.pinReg (s : State) (g off : Nat) : RegVal :=
  let x := s.pin g
  match off with
  | 0x00 => r32 x.cfg.word
  | 0x04 => r32 x.status
  | 0x08 => r32 x.shown.1
  | 0x0C => r32 x.shown.2.1.toNat
  | 0x10 => r32 x.diag
  | 0x14 => r32 x.shown.2.2.1
  | 0x18 => r64 x.shown.2.2.2
  | _ => none

/-- A register of the DCH block (R165). -/
def State.dchReg (s : State) (off : Nat) : RegVal :=
  let d := off / 0x1000
  let o := off % 0x1000
  let x := s.disl d
  if 6 ≤ d then none
  else if o < 0x100 then
    match o with
    | 0x00 => r32 x.status
    | 0x04 => r32 (min 65535 x.volt + min 65535 (s.driverCurrent d) * 2 ^ 16)
    | 0x08 => r32 x.cfgWord
    | 0x0C => r32 x.spareWord
    | 0x10 => r32 (bitsOf ((s.pinsOf d).map fun p => p.isInput && p.state) 0 + bitsOf ((s.pinsOf d).map (·.level)) 16)
    | 0x14 => r32 (bitsOf ((s.pinsOf d).map (·.cmd)) 0 + bitsOf ((s.pinsOf d).map (·.driven)) 16)
    | 0x18 => r32 x.fault.toNat
    | _ => none
  else if o < 0x300 then s.pinReg (64 + d * 16 + (o - 0x100) / 0x20) (o % 0x20)
  else none

/-! ### The Alarm Engine -/

/-- ALM_STATUS: UNACK, EVAL, ACTIVE (R205). -/
def State.alarmStatus (s : State) : Nat :=
  (s.pointsWhere Point.unack).length + bit (s.mode .alm) 13 +
  (s.pointsWhere fun x => x.state = 1 || x.state = 4 || x.state = 2).length * 2 ^ 16

/-- ALM_DUTY (R205). -/
def State.dutyWord (s : State) : Nat :=
  orNone 15 s.alm.cabin % 16 + s.alm.dsrc % 4 * 2 ^ 4 + bit s.dutyInvalid 6 + orNone 255 s.alm.firstPin % 256 * 2 ^ 8

/-- ALM_CHN_PINS and ALM_CHN_STATE (R205). -/
def Chain.pinsWord (c : Chain) : Nat :=
  orNone 255 c.horn % 256 + orNone 255 c.beacon % 256 * 2 ^ 8 + orNone 255 c.ack % 256 * 2 ^ 16 + orNone 255 c.silence % 256 * 2 ^ 24
def State.chainWord (s : State) (n : Nat) : Nat :=
  (s.chain n).callMin % 8 + bit (s.drives && s.hornOn n) 3 + (if s.drives then s.beaconOf n % 4 else 0) * 2 ^ 4 + bit (s.holdsStep n 2) 6 + bit (s.holdsStep n 3) 7 +
  (s.pointsWhere fun x => x.chain = n && x.unack).length * 2 ^ 8

/-- ALM_GRP_CFG and ALM_GRP_FO (R205). -/
def Group.cfgWord (g : Group) : Nat :=
  orNone 255 g.pin % 256 + bit g.mode 8 + bit g.reflash 9 + bit g.foEn 10 + bit g.on 11 + g.foWin % 256 * 2 ^ 16
def Group.foWord (g : Group) : Nat := g.foPoint % 4096 + bit g.foValid 12 + bit g.provisional 13 + bit g.armed 14

/-- A register of the ALM block (R205). -/
def State.almReg (s : State) (off : Nat) : RegVal :=
  if off % 4 ≠ 0 then none
  else if off < 0x10 then
    match off with
    | 0x00 => r32 (bit s.alm.simCalls 0)
    | 0x04 => r32 s.alarmStatus
    | 0x08 => r32 s.dutyWord
    | _ => r32 (if s.drives then bitsOf ((List.range 13).map s.callOn) 0 else 0)
  else if off < 0x30 then
    let k := (off - 0x10) / 4
    r32 (bitsOf ((List.range 32).map fun n => s.faultNow (32 * k + n)) 0)
  else if 0x40 ≤ off ∧ off < 0x74 then r32 (orNone 255 (tget none s.alm.calls ((off - 0x40) / 4)))
  else if 0x100 ≤ off ∧ off < 0x200 then
    let n := (off - 0x100) / 0x10
    match off % 0x10 with
    | 0x0 => r32 ((s.chain n).t1 % 65536 + (s.chain n).t2 % 65536 * 2 ^ 16)
    | 0x4 => r32 (s.chain n).pinsWord
    | 0x8 => r32 (s.chainWord n)
    | _ => none
  else if 0x1000 ≤ off ∧ off < 0x2000 then
    let g := s.group ((off - 0x1000) / 0x10)
    match off % 0x10 with
    | 0x0 => r32 g.cfgWord
    | 0x4 => r32 g.foWord
    | 0x8 => r64 g.key
    | _ => none
  else if 0x2000 ≤ off ∧ off < 0x2800 then
    let k := (off - 0x2000) / 4
    let b := tget (0, 0) s.alm.tiles k
    r32 (b.2 % 4096 + b.1 % 4 * 2 ^ 12 + tget 0 s.alm.tstate k % 4 * 2 ^ 14)
  else if 0x4000 ≤ off ∧ off < 0x8000 then r32 (s.pointStatus ((off - 0x4000) / 4))
  else none

end Sys2Proof.Machine
end

