-- ==== Sys2Proof/Machine/RegsB.lean ====
section
/-! DEFINITION. Reads of the registers of every other block (R271, R272, R351, R387, R388, R417, R442, R492, R510, R538, R573), of
the functions' BARs (R247, R248, R263, R545) and of one 32-bit word of them. -/

namespace Sys2Proof.Machine

/-- A signed number in `w` bits. -/
def twos (w : Nat) (i : Int) : Nat := (i % 2 ^ w).toNat

/-- A signed number held within 32 bits. -/
def sat32i (i : Int) : Int := max (-2147483648) (min 2147483647 i)

/-! ### GLB and FLW -/

/-- GLB_STATUS (R271). -/
def State.glbStatus (s : State) : Nat :=
  bit s.host.ready 0 + bit (s.eff = 0) 1 + bit (s.flows.any fun e => e.2.state = .stalled || e.2.state = .draining) 2 +
  (s.flows.filter fun e => e.2.state = .held).length * 2 ^ 8

/-- GLB_LINK (R271). -/
def State.glbLink (s : State) : Nat :=
  s.host.speed % 16 + s.host.width % 16 * 2 ^ 4 + s.eff % 8 * 2 ^ 8 + bit (decide (0 < s.host.speed) && s.l1Blocked) 11 +
  s.host.retrains % 65536 * 2 ^ 16

/-- A register of a session's ring set (R271). -/
def State.sesReg (s : State) (n off : Nat) : RegVal :=
  let r := s.ring n
  match off with
  | 0x00 => r64 r.base
  | 0x08 => r32 (bit r.en 0 + r.rlog2 % 16 * 2 ^ 4 + r.slotLog2 % 16 * 2 ^ 8)
  | 0x0C => r32 0
  | 0x10 => r32 (r.head % 65536 + bit r.dbErr 16 + bit r.stopped 17 + bit r.fetchErr 18 + min 15 (s.inExec n) * 2 ^ 24)
  | _ => none

/-- A register of the GLB block (R271). -/
def State.glbReg (s : State) (off : Nat) : RegVal :=
  if 0x1000 ≤ off ∧ off < 0x1800 then s.sesReg ((off - 0x1000) / 0x20) (off % 0x20)
  else match off with
  | 0x00 => r32 0x64960002
  | 0x04 => r32 s.glbStatus
  | 0x08 => r32 s.glbLink
  | 0x0C => r32 s.host.irq.toNat
  | 0x10 => r32 s.host.irqMask.toNat
  | 0x14 => r32 s.host.err.toNat
  | 0x18 => r32 (s.host.corr + s.host.flushRetry * 2 ^ 16)
  | _ => none

/-- FLW_STATE (R272). -/
def Flow.stateWord (x : Flow) : Nat :=
  x.state.num + x.cls % 4 * 2 ^ 3 + x.admitted % 4 * 2 ^ 5 + bit x.stream 7 + bit x.demoted 8 + bit x.suspended 9 + bit x.low 10 +
  bit x.lateReset 11

/-- A register of a flow's set (R272): a closed flow reads 0 in every field except FLW_ERR. -/
def Flow.reg (x : Flow) (off : Nat) : RegVal :=
  let c := fun (v : Nat) => if x.state = .closed then 0 else v
  match off with
  | 0x00 => r32 (c x.stateWord)
  | 0x04 => r32 (c (x.qlog2 % 32 + bit x.replies 8 + bit x.breakSafe 9 + x.burst % 8192 * 2 ^ 16))
  | 0x08 => r32 (c (x.rate % 2 ^ 20))
  | 0x0C => r32 (c (x.reserve % 65536 + (if x.stream then x.size else 64) % 65536 * 2 ^ 16))
  | 0x10 => r64 (c x.qbase)
  | 0x18 => r32 (c x.head)
  | 0x1C => r32 (c x.tail)
  | 0x20 => r32 (c x.seq)
  | 0x24 => r32 (c (bit x.irqEn 1))
  | 0x28 => r32 (c (x.irqCount % 4096 + x.irqTime % 4096 * 2 ^ 16))
  | 0x2C => r32 (c x.freeEntries)
  | 0x30 => r32 (c (x.window / 1000))
  | 0x34 => r32 (c x.origin)
  | 0x38 => r32 (c x.lost)
  | 0x3C => r32 (bit x.headErr 0 + bit x.layoutErr 1 + bit x.lowSeen 2 + bit x.stallSeen 3)
  | _ => none

def State.flwReg (s : State) (off : Nat) : RegVal := if off < 0x4000 then (s.flow (off / 0x40)).reg (off % 0x40) else none

/-! ### PRG -/

/-- PRG_STATUS (R351). -/
def State.prgStatus (s : State) : Nat :=
  let p := s.prg
  let ring := s.hasRingSet || (match s.image with | some i => i.usesRing | none => false)
  p.stateNum % 8 + p.slot % 2 * 2 ^ 3 + bit p.autostart 4 + bit (ring && !s.rng.isMaster && s.rng.cofs.isSome) 5 +
  bit (!p.forces.isEmpty) 6 + bit p.infeasible 7 + p.ovrLimit % 256 * 2 ^ 8

/-- A register of a set (R351). -/
def ConSet.reg (x : ConSet) (off : Nat) : RegVal :=
  match off with
  | 0x0 => r32 x.members.toNat
  | 0x4 => r32 (bit x.configured 0 + bit x.reduce 1 + bit x.broken 2 + bit x.reduced 3 + x.cause % 16 * 2 ^ 4 +
      min 65535 x.discarded * 2 ^ 16)
  | 0x8 => r32 x.missing.toNat
  | 0xC => r32 x.count
  | _ => none

/-- A register of the PRG block (R351). -/
def State.prgReg (s : State) (off : Nat) : RegVal :=
  if 0x100 ≤ off ∧ off < 0x200 then (s.set ((off - 0x100) / 0x10)).reg (off % 0x10)
  else if 0x40 ≤ off ∧ off < 0x60 then
    let i := s.slotImage ((off - 0x40) / 0x10)
    match off % 0x10 with
    | 0x0 => r64 (match i with | some i => i.progId | none => 0)
    | 0x8 => r32 (match i with | some i => i.crc | none => 0)
    | _ => none
  else match off with
  | 0x00 => r32 s.prgStatus
  | 0x04 => r32 (s.prg.period / 10000 % 2 ^ 20)
  | 0x08 => r32 s.cofsShown
  | 0x0C => r32 s.pminShown
  | 0x10 => r32 (match s.image with | some i => i.tSolve | none => 0)
  | 0x14 => r32 s.solveWord
  | 0x18 => r32 s.prg.cycleCount
  | 0x1C => r32 (s.prg.ovrCount % 65536 + s.prg.ovrConsec % 256 * 2 ^ 16)
  | _ => none

/-! ### TIM and RTC -/

/-- TIM_STATUS and TIM_CFG (R387). -/
def RingState.timeStatus (r : RingState) : Nat :=
  r.tState % 4 + r.tSource % 4 * 2 ^ 2 + r.gm % 64 * 2 ^ 4 + bit r.ppsOk 10 + r.tDir % 2 * 2 ^ 11 + r.tHops % 32 * 2 ^ 12
def RingState.timeCfg (r : RingState) : Nat := bit r.ppsInEn 0 + bit r.ppsPol 1 + bit r.ppsOutEn 2 + twos 24 r.ppsDelay * 2 ^ 8

/-- The calendar that a read shows: the staged fields while halted, else the snapshot (R495, R496). -/
def State.calRead (s : State) : Cal7 := if s.rtc.halted.isSome then s.rtc.staged else s.rtc.snap

/-- RTC_LEAP (R510). -/
def State.leapWord (s : State) : Nat :=
  match s.rtc.leap with | some (y, m, d) => y % 512 + m % 16 * 2 ^ 12 + d % 4 * 2 ^ 16 | none => 0

/-- A register of the TIM and RTC block (R387, R510). -/
def State.timReg (s : State) (off : Nat) : RegVal :=
  let r := s.rng
  if 0x180 ≤ off ∧ off < 0x1C0 then
    (if off % 4 = 0 then r32 (tget 0 s.rtc.scratch ((off - 0x180) / 4)).toNat else none)
  else match off with
  | 0x00 => r64 s.now
  | 0x08 => r32 r.timeStatus
  | 0x0C => r32 (twos 32 (sat32i r.offset))
  | 0x10 => r32 (twos 32 r.freq)
  | 0x14 => r32 (twos 16 r.leap)
  | 0x18 => r32 r.timeCfg
  | 0x20 => r64 r.ppsLast
  | 0x100 => r32 (bit s.rtc.halted.isSome 0 + bit s.rtc.discEn 1 + bit s.rtc.xtal2En 2)
  | 0x104 => r32 s.rtcStatus
  | 0x108 => r32 s.subsec
  | 0x10C => r32 0
  | 0x110 => r32 s.calRead.timeWord
  | 0x114 => r32 s.calRead.dateWord
  | 0x118 => r32 s.haltTicks
  | 0x120 => r64 s.rtc.snapNt
  | 0x128 => r32 0
  | 0x12C => r32 s.rtcTrim
  | 0x130 => r32 s.rtc.alm0.value.toNat
  | 0x134 => r32 s.rtc.alm0.mask.toNat
  | 0x138 => r32 s.rtc.alm1.value.toNat
  | 0x13C => r32 s.rtc.alm1.mask.toNat
  | 0x140 => r32 s.leapWord
  | _ => none

/-! ### RNG -/

/-- RNG_SHARE_d (R388). -/
def State.shareWord (s : State) (d : Nat) : Nat :=
  if s.onRing then
    min 65535 (shareUp (s.sShare s.testFlows d)) + min 65535 (shareUp (s.totalShare s.testFlows [] s.mirrorNow d)) * 2 ^ 16
  else 0

/-- RNG_PAIR (R388). -/
def State.pairWord (s : State) (n : Nat) : Nat :=
  match tget none s.rng.pairs n with
  | some p => p.localCh % 64 + bit true 7 + p.peer % 64 * 2 ^ 8 + p.peerCh % 64 * 2 ^ 16 + s.pairState p % 4 * 2 ^ 24
  | none => 0

/-- A register of the RNG block (R388). -/
def State.rngReg (s : State) (off : Nat) : RegVal :=
  let r := s.rng
  if off % 4 ≠ 0 then none
  else if 0x10 ≤ off ∧ off < 0x30 then r32 (leAt (s.portRegs ((off - 0x10) / 0x10)) (off % 0x10) 4)
  else if 0x100 ≤ off ∧ off < 0x200 then (if off % 8 = 0 then r64 (s.dirWord ((off - 0x100) / 8 + 1)) else none)
  else if 0x200 ≤ off ∧ off < 0x280 then r32 (s.pairWord ((off - 0x200) / 4))
  else match off with
  | 0x00 => r32 (r.node % 64 + r.priority % 256 * 2 ^ 8 + bit r.port0.en 16 + bit r.port1.en 17)
  | 0x04 => r32 s.ringStatus
  | 0x40 => r32 (nodeMask r.members).toNat
  | 0x44 => r32 s.ringLocked
  | 0x48 => r64 r.cycle
  | 0x50 => r32 (s.shareWord 0)
  | 0x54 => r32 (s.shareWord 1)
  | _ => none

/-! ### PNL -/

/-- A register of the PNL block (R538). -/
def State.pnlReg (s : State) (off : Nat) : RegVal :=
  let p := s.pnl
  if 0x100 ≤ off ∧ off < 0x300 then
    let r := tget none (s.liveRegions.map fun (e : Nat × Region) => (e.1, some e.2)) ((off - 0x100) / 0x10)
    match off % 0x10 with
    | 0x0 => r64 (match r with | some r => r.rect.x + r.rect.y * 2 ^ 16 + r.rect.w * 2 ^ 32 + r.rect.h * 2 ^ 48 | none => 0)
    | 0x8 => r32 (match r with | some r => r.status | none => 0)
    | _ => none
  else if 0x20 ≤ off ∧ off < 0x34 then
    (if off % 4 = 0 then r32 (twos 16 (p.railMv.getD ((off - 0x20) / 4) 0)) else none)
  else match off with
  | 0x00 => r32 (p.width % 4096 + p.height % 2048 * 2 ^ 16)
  | 0x04 => r32 (p.lineClk % 1024 + p.railHold % 1024 * 2 ^ 16)
  | 0x08 => r32 (p.order % 32768 + p.dly % 128 * 2 ^ 16 + p.vcom % 512 * 2 ^ 23)
  | 0x10 => r32 s.panelStatus
  | 0x14 => r32 s.panelTempReg
  | 0x18 => r64 (s.panelWfs.1 + s.panelWfs.2 * 2 ^ 32)
  | _ => none

/-! ### MOD -/

/-- MOD_CAUSE (R417). -/
def State.forceCauses (s : State) : Nat :=
  bit (s.mod.life = .retired) 0 + bit (s.mod.holdSafe ≠ 0) 1 + bit (s.mod.debug = .full && s.mod.life = .sealed) 2 +
  bit (s.mod.role = .standalone) 3 + bit (s.mode .lean) 4

/-- MOD_SIM (R417). -/
def State.simWord (s : State) : Nat :=
  let k := s.mod.sims.map Prod.fst
  (k.filter (· < 64)).length + (k.filter (64 ≤ ·)).length * 2 ^ 8 + s.prg.forces.length % 512 * 2 ^ 16

/-- A register of the MOD block (R417). -/
def State.modReg (s : State) (off : Nat) : RegVal :=
  let m := s.mod
  if 0x400 ≤ off ∧ off < 0x600 then
    let t := s.trim ((off - 0x400) / 8)
    match off % 8 with | 0 => r32 t.1.toNat | 4 => r32 t.2.toNat | _ => none
  else match off with
  | 0x00 => r32 s.modeWord.toNat
  | 0x04 => r32 (m.cmd.toNat + m.forced.toNat * 2 ^ 16)
  | 0x08 => r32 s.forceCauses
  | 0x0C => r32 m.start.toNat
  | 0x10 => r32 (match m.pending with | some (w, _) => w.toNat + 2 ^ 12 | none => 0)
  | 0x18 => r64 (match m.pending with | some (_, t, _) => t | none => 0)
  | 0x20 => r32 s.modState
  | 0x24 => r32 (bit m.forceField 0)
  | 0x28 => r32 (DebugLevel.num m.debug + bit m.dbgToken 2 + m.dbgSession % 128 * 2 ^ 3 + m.dbgCause % 8 * 2 ^ 16)
  | 0x30 => r64 (if m.debug = .closed then 0 else m.dbgExpiry)
  | 0x38 => r64 m.nonce
  | 0x40 => r32 s.simWord
  | 0x48 => r64 (bitsOf ((List.range 64).map fun g => (s.cal g).isSome) 0)
  | _ => none

/-! ### SPR and REC -/

/-- SPR_STATUS (R442). -/
def State.sprStatus (s : State) : Nat :=
  bitsOf ((List.range 7).map fun p => (List.range (poolInsts p)).any fun i => decide (2 ≤ s.poolNow p i)) 0 +
  min 255 s.spr.proposals.length * 2 ^ 8 + min 7 s.spr.swaps.length * 2 ^ 16

/-- SPR_LANE (R442). -/
def State.laneWord (s : State) : Nat :=
  let recent := fun (x : Lanes) => (x.transients.filter fun e => decide (s.now ≤ e.1 + 2592000000000000)).length
  s.spr.cp.word + s.spr.ae.word * 2 ^ 8 + s.spr.be.word * 2 ^ 16 +
  min 255 (recent s.spr.cp + recent s.spr.ae + recent s.spr.be) * 2 ^ 24

/-- Wear index of part `n` of an island as SPR_AWEAR numbers them (R442). -/
def State.aWear (s : State) (i n : Nat) : Nat :=
  if n < 10 then (s.slice i n).index else if n < 19 then (s.cell i (n - 10)).index else 0

/-- A register of the SPR block (R442). -/
def State.sprReg (s : State) (off : Nat) : RegVal :=
  let x := s.spr
  if off % 4 ≠ 0 then none
  else if 0x20 ≤ off ∧ off < 0x58 then
    let j := (off - 0x20) / 4
    r32 (tget 0 x.shareWear j % 256 + tget 50 x.shares j % 256 * 2 ^ 8)
  else if 0x100 ≤ off ∧ off < 0x180 then
    let i := (off - 0x100) / 0x10
    match off % 0x10 with
    | 0x0 => r32 (s.sliceRoleReg i)
    | 0x4 => r32 (s.sliceChReg i)
    | 0x8 => r32 (s.cellRoleReg i)
    | _ => r32 (s.cellChReg i)
  else if 0x200 ≤ off ∧ off < 0x300 then
    let k := off % 0x20 / 4
    if k < 5 then
      r32 (((List.range 4).map fun b => s.aWear ((off - 0x200) / 0x20) (4 * k + b) % 256 * 256 ^ b).foldl (· + ·) 0)
    else none
  else match off with
  | 0x00 => r32 (((List.range 4).map fun k => x.policies.getD k 1 % 4 * 4 ^ k).foldl (· + ·) 0)
  | 0x04 => r32 s.sprStatus
  | 0x08 => r32 s.laneWord
  | 0x0C => r32 (x.sparePages % 512 + min 65535 x.corrected * 2 ^ 16)
  | 0x10 => r32 s.boostReg
  | _ => none

/-- A register of the REC block (R492). -/
def State.recReg (s : State) (off : Nat) : RegVal :=
  let r := s.rcd
  if 0x100 ≤ off ∧ off < 0x150 then
    let t := (off - 0x100) / 0x10
    match off % 0x10 with
    | 0x0 => r32 (r.q t % 65536 + r.held t % 65536 * 2 ^ 16)
    | 0x4 => r32 (r.sevRefused.getD t 0)
    | 0x8 => r32 (r.sevOver.getD t 0)
    | _ => none
  else match off with
  | 0x00 => r32 (recStatus s)
  | 0x04 => r32 r.next
  | 0x08 => r32 (r.spares % 1024 + min 65535 ((r.erases.map Prod.snd).foldl max 0) * 2 ^ 16)
  | 0x10 => r32 (r.mirTo % 64 + r.mirFrom % 64 * 2 ^ 8 + r.mirSev % 8 * 2 ^ 16)
  | 0x14 => r32 (r.mirrorMax % 16384 + r.mirUsed % 16384 * 2 ^ 16)
  | 0x18 => r32 r.mirRate
  | 0x1C => r32 r.mirCursor
  | 0x20 => r32 r.mirSkipped
  | _ => none

/-! ### MSS and SEC -/

/-- MSS_STATUS (R573): a package job is a staging or an activation. -/
def State.mssStatus (s : State) : Nat :=
  let m := s.mss
  bit m.ok 0 + m.outcome % 8 * 2 + bit (s.mod.holdSafe ≠ 0) 4 + bit m.trial.isSome 5 + bit m.proposed 6 +
  bit (!m.stage.isEmpty || !m.acts.isEmpty) 7 + bit m.wrapped 8 + m.restarts % 256 * 2 ^ 16

/-- MSS_IMAGE_k (R573). -/
def State.imageWord (s : State) (k : Nat) : Nat :=
  let x := s.kindOf k
  x.run.version % 2 ^ 32 + x.run.svn % 64 * 2 ^ 32 + x.active % 2 * 2 ^ 38 + bit x.staged 39 +
  bit (s.usable k (x.bank (1 - x.active))) 40

/-- MSS_PROVEN_INFO (R573): the low 8 bits of the time are not held. -/
def Mss.provenInfo (m : Mss) : Nat :=
  match m.proven with
  | some (l, t) => bitsOf (l.map fun e => e.1 = 1) 0 % 32 + bit true 5 + 256 * (t / 256)
  | none => 0

/-- A register of the MSS block (R573). -/
def State.mssReg (s : State) (off : Nat) : RegVal :=
  let m := s.mss
  if off % 4 ≠ 0 then none
  else if 0x20 ≤ off ∧ off < 0x48 then (if off % 8 = 0 then r64 (s.imageWord ((off - 0x20) / 8)) else none)
  else if 0x60 ≤ off ∧ off < 0x74 then
    r32 (match m.proven with | some (l, _) => (l.getD ((off - 0x60) / 4) (0, 0)).2 | none => 0)
  else if 0x100 ≤ off ∧ off < 0x140 then
    let w := m.windows.getD ((off - 0x100) / 0x10) (0, 0)
    match off % 0x10 with | 0x0 => r64 w.1 | 0x8 => r64 w.2 | _ => none
  else if 0x200 ≤ off ∧ off < 0x2A0 then r32 (s.sensorWord ((off - 0x200) / 4))
  else if 0x300 ≤ off ∧ off < 0x3A0 then
    let x := s.sensor ((off - 0x300) / 4)
    r32 (twos 16 x.lo + twos 16 x.hi * 2 ^ 16)
  else match off with
  | 0x00 => r32 s.mssStatus
  | 0x04 => r32 (m.summary % 32 + m.scrub % 32 * 2 ^ 8)
  | 0x08 => r32 (min 32768 (m.log.length + m.batch.length) + bit m.half 16)
  | 0x0C => r32 m.hseq
  | 0x78 => r64 m.provenInfo
  | _ => none

/-- A register of the SEC block (R573). -/
def State.secReg (s : State) (off : Nat) : RegVal :=
  match off with
  | 0x00 => r32 s.secStatus
  | 0x04 => r32 (bit s.sec.ringErase 0 + bit s.sec.smbusWake 1)
  | 0x08 => r32 s.secTamper
  | 0x10 => r64 s.sec.time
  | 0x18 => r64 s.sec.nonce
  | 0x20 => r64 s.secSessions
  | _ => none

/-! ### The functions' BARs -/

/-- A register of PF0 BAR0 (R248). -/
def State.pf0Reg (s : State) (off : Nat) : RegVal :=
  let o := off % 0x10000
  match off / 0x10000 with
  | 0x0 => s.glbReg o
  | 0x1 => s.flwReg o
  | 0x2 => s.achReg o
  | 0x3 => s.dchReg o
  | 0x4 => s.almReg o
  | 0x5 => s.timReg o
  | 0x6 => s.rngReg o
  | 0x7 => s.pnlReg o
  | 0x8 => s.modReg o
  | 0x9 => s.sprReg o
  | 0xA => s.recReg o
  | 0xB => s.prgReg o
  | 0xC => s.mssReg o
  | 0xD => s.secReg o
  | _ => none

/-- PF1 BAR2 (R263): the sets of stream flows; a record or closed flow reads 0. -/
def State.pf1Reg (s : State) (off : Nat) : RegVal :=
  let x := s.flow (off / 0x40)
  if 0x4000 ≤ off then none
  else (x.reg (off % 0x40)).map fun r => if x.stream && x.state ≠ .closed then r else (0, r.2)

/-- A word of the log window (R545): the entry whose HSEQ has this place in the half named by MSS_LOG.HALF; 0 where none. -/
def State.logWord (s : State) (off : Nat) : Nat :=
  let n := (if s.mss.half then 16384 else 0) + off / 32
  match (s.mss.log ++ s.mss.batch).find? fun x => x.hseq % 32768 = n with
  | some x => leAt x.bytes (off % 32) 4
  | none => 0

/-- PF2 BAR0 (R545). -/
def State.pf2Reg (s : State) (off : Nat) : RegVal :=
  if off < 0x10000 then s.mssReg off
  else if off < 0x20000 then s.secReg (off - 0x10000)
  else if off < 0x20000 + 97 + 1024 then
    (if off % 4 = 0 then r32 (leAt (fitBytes 97 Config.identityKey ++ fitBytes 1024 Config.identityCert) (off - 0x20000) 4) else none)
  else if 0x80000 ≤ off ∧ off < 0x100000 then (if off % 4 = 0 then r32 (s.logWord (off - 0x80000)) else none)
  else none

/-- Offsets from here on name BAR4/5 of a function, its MSI-X table and PBA (R247). -/
def msixBase : Nat := 2 ^ 32

/-- A word of the MSI-X table or PBA of a function (R247, R256); the layout of an entry is PCI's. -/
def State.msixReg (s : State) (pf off : Nat) : RegVal :=
  let v := off / 16
  if off % 4 ≠ 0 then none
  else if off < vectorsOf pf * 16 then
    if off % 16 = 12 then r32 (bit (!tget false s.host.unmasked (1024 * pf + v)) 0)
    else r32 (tget 0 s.host.msixTable (4096 * pf + off / 4)).toNat
  else if 0x2000 ≤ off ∧ off < 0x2000 + (vectorsOf pf + 63) / 64 * 8 ∧ off % 8 = 0 then
    r64 (bitsOf ((List.range 64).map fun k => tget false s.host.pba (1024 * pf + (off - 0x2000) * 8 + k)) 0)
  else none

/-- The register at a base offset of a function (R247). -/
def State.regOf (s : State) (pf off : Nat) : RegVal :=
  if msixBase ≤ off then s.msixReg pf (off - msixBase)
  else match pf with
  | 0 => s.pf0Reg off
  | 1 => s.pf1Reg off
  | _ => s.pf2Reg off

/-- Offset is the high half of a 64-bit register. -/
def State.highHalf (s : State) (pf off : Nat) : Bool :=
  decide (4 ≤ off) && (s.regOf pf off).isNone && (match s.regOf pf (off - 4) with | some (_, true) => true | _ => false)

/-- An assigned 32-bit word (R249). -/
def State.assigned (s : State) (pf off : Nat) : Bool := (s.regOf pf off).isSome || s.highHalf pf off

end Sys2Proof.Machine
end

