-- ==== Sys2Proof/Machine/Regs.lean ====
section
/-! DEFINITION. Register accesses of the host (R8, R249): writes by access code, reads that latch. -/

namespace Sys2Proof.Machine

/-! ### Writes -/

/-- Bits of `old` that a write of 1 clears (R8). -/
def rw1c (b : Bool) (w : Word) (k : Nat) : Bool := b && !w.getLsbD k

/-- RWS fields are writable (R8). -/
def State.rwsOpen (s : State) : Bool := s.mod.life = .opened || s.mod.life = .commission

/-- An ignored write to an RWS field: record 0x0035 at most once per second per register (R8, R270). -/
def rwsIgnored (pf off : Nat) (w : Word) (s : State) : State :=
  let k := pf * 2 ^ 24 + off
  let prev := tget (0, 0) s.host.rws k
  if prev.1 = 0 ∨ prev.1 - 1 + 1000000000 ≤ s.now then
    note 0x0035 pf (le 4 off ++ le 4 w.toNat ++ le 1 s.mod.life.num ++ zeros 3 ++ le 4 prev.2)
      { s with host := { s.host with rws := tset (0, 0) s.host.rws k (s.now + 1, 0) } }
  else { s with host := { s.host with rws := tset (0, 0) s.host.rws k (prev.1, prev.2 + 1) } }

/-- GLB_IRQ_MASK is written: vector 256 is raised again when a mask bit becomes 1 over a set cause (R269). -/
def maskWrite (w : Word) (s : State) : State :=
  let m := w.extractLsb' 0 7
  let fresh := m &&& ~~~s.host.irqMask &&& s.host.irq
  let s := { s with host := { s.host with irqMask := m } }
  if fresh = 0 then s else raiseVector 0 256 s

/-- Half of a 4 KiB aligned 64-bit address is written; `hi` its high half. -/
def addrWrite (old : Nat) (hi : Bool) (w : Word) : Nat :=
  if hi then old % 2 ^ 32 + 2 ^ 32 * w.toNat else 2 ^ 32 * (old / 2 ^ 32) + 4096 * (w.toNat / 4096)

/-- A word of a session's ring set is written (R261, R271). -/
def sesWrite (n off : Nat) (w : Word) (s : State) : State :=
  let r := s.ring n
  match off with
  | 0x00 => if r.en then s else s.setRing n { r with base := addrWrite r.base false w }
  | 0x04 => if r.en then s else s.setRing n { r with base := addrWrite r.base true w }
  | 0x08 => sesCfgWrite n w s
  | 0x0C => doorbellWrite n (w.extractLsb' 0 16).toNat s
  | 0x10 => s.setRing n { r with dbErr := rw1c r.dbErr w 16, fetchErr := rw1c r.fetchErr w 18 }
  | _ => s

/-- A word of a flow's set is written (R253, R256 to R258, R272). -/
def flwWrite (f off : Nat) (w : Word) (s : State) : State :=
  let x := s.flow f
  let layout := f = 0 && x.state = .held
  match off with
  | 0x04 => if layout then s.setFlow f { x with qlog2 := (w.extractLsb' 0 5).toNat } else s
  | 0x0C => if layout then s.setFlow f { x with reserve := (w.extractLsb' 0 16).toNat } else s
  | 0x10 => if layout then s.setFlow f { x with qbase := addrWrite x.qbase false w } else s
  | 0x14 => if layout then s.setFlow f { x with qbase := addrWrite x.qbase true w } else s
  | 0x18 => headWrite f w.toNat s
  | 0x24 => armWrite f w s
  | 0x28 => if x.state = .closed then s
      else s.setFlow f { x with irqCount := (w.extractLsb' 0 12).toNat, irqTime := (w.extractLsb' 16 12).toNat }
  | 0x3C => s.setFlow f { x with
      headErr := rw1c x.headErr w 0, layoutErr := rw1c x.layoutErr w 1, lowSeen := rw1c x.lowSeen w 2, stallSeen := rw1c x.stallSeen w 3 }
  | _ => s

/-- A word of the GLB block is written (R271). -/
def glbWrite (off : Nat) (w : Word) (s : State) : State :=
  if 0x1000 ≤ off ∧ off < 0x1800 then sesWrite ((off - 0x1000) / 0x20) (off % 0x20) w s
  else match off with
  | 0x0C => { s with host := { s.host with irq := s.host.irq &&& ~~~w.extractLsb' 0 7 } }
  | 0x10 => maskWrite w s
  | 0x14 => { s with host := { s.host with err := s.host.err &&& ~~~w.extractLsb' 0 6 } }
  | _ => s

/-- A word of the ACH block is written: sticky flags (R64, R70, R78). -/
def achWrite (off : Nat) (w : Word) (s : State) : State :=
  let i := off / 0x1000
  let x := s.aisl i
  match off % 0x1000 with
  | 0x08 => s.setAisl i { x with clampFlag := x.clampFlag &&& ~~~w }
  | 0x14 => s.setAisl i { x with waveDropped := rw1c x.waveDropped w 16, precLost := rw1c x.precLost w 17 }
  | _ => s

/-- RTC_CTL is written: HALT acts on the discipline as it stood before the write (R496, R499, R504, R510). -/
def rtcCtlWrite (w : Word) (s : State) : State :=
  let s := if w.getLsbD 0 then haltSet s else haltRelease s
  let s := { s with rtc := { s.rtc with discEn := w.getLsbD 1 } }
  let s := if w.getLsbD 2 = s.rtc.xtal2En then s
    else if s.rwsOpen then { s with rtc := { s.rtc with xtal2En := w.getLsbD 2 } } else rwsIgnored 0 0x50100 w s
  if w.getLsbD 3 then srcRetry s else s

/-- RTC_STATUS is written (R510). -/
def rtcStatusWrite (w : Word) (s : State) : State :=
  let r := s.rtc
  { s with rtc := { r with
    osf := rw1c r.osf w 0, impDate := rw1c r.impDate w 1, hAbort := rw1c r.hAbort w 2, wErr := rw1c r.wErr w 3
    centuryWrap := rw1c r.centuryWrap w 4, alm0F := rw1c r.alm0F w 5, alm1F := rw1c r.alm1F w 6 } }

/-- A word of the TIM and RTC block is written (R495, R496, R500, R510). -/
def timWrite (off : Nat) (w : Word) (s : State) : State :=
  if 0x180 ≤ off ∧ off < 0x1C0 then { s with rtc := { s.rtc with scratch := tset 0 s.rtc.scratch ((off - 0x180) / 4) w } }
  else match off with
  | 0x100 => rtcCtlWrite w s
  | 0x104 => rtcStatusWrite w s
  | 0x10C => latchClock s
  | 0x110 => calendarWrite false w s
  | 0x114 => calendarWrite true w s
  | 0x128 => shiftWrite w s
  | _ => s

/-- A word of PF0 BAR0 is written (R8, R248). -/
def pf0Write (off : Nat) (w : Word) (s : State) : State :=
  let o := off % 0x10000
  match off / 0x10000 with
  | 0x0 => glbWrite o w s
  | 0x1 => flwWrite (o / 0x40) (o % 0x40) w s
  | 0x2 => achWrite o w s
  | 0x3 =>
    let x := s.disl (o / 0x1000)
    if o % 0x1000 = 0x18 then s.setDisl (o / 0x1000) { x with fault := x.fault &&& ~~~w.extractLsb' 0 16 } else s
  | 0x4 =>
    if o ≠ 0 then s
    else if s.rwsOpen then { s with alm := { s.alm with simCalls := w.getLsbD 0 } } else rwsIgnored 0 off w s
  | 0x5 => timWrite o w s
  | 0x7 =>
    let p := s.pnl
    if o ≠ 0x10 then s
    else { s with pnl := { p with bandForced := rw1c p.bandForced w 4, uncertain := rw1c p.uncertain w 5, crcErr := rw1c p.crcErr w 6 } }
  | 0x8 =>
    if o ≠ 0x24 then s
    else if s.rwsOpen then { s with mod := { s.mod with forceField := w.getLsbD 0 } } else rwsIgnored 0 off w s
  | 0xA => if o = 0 then { s with rcd := { s.rcd with refused := rw1c s.rcd.refused w 0 } } else s
  | 0xD =>
    if o ≠ 0x04 then s
    else if s.rwsOpen then { s with sec := { s.sec with ringErase := w.getLsbD 0, smbusWake := w.getLsbD 1 } }
    else rwsIgnored 0 off w s
  | _ => s

/-- A word of PF1 BAR2 is written: the set of a stream flow (R263). -/
def pf1Write (off : Nat) (w : Word) (s : State) : State :=
  let x := s.flow (off / 0x40)
  if x.stream && x.state ≠ .closed then flwWrite (off / 0x40) (off % 0x40) w s else s

/-- A period of 1 to 24 h; another value leaves the one in force (R545, R573). -/
def hoursOr (old new : Nat) : Nat := if 1 ≤ new ∧ new ≤ 24 then new else old

/-- A word of PF2 BAR0 is written: MSS_LOG.HALF, and in Delegated MSS_POLICY and the sensor limits (R545). -/
def pf2Write (off : Nat) (w : Word) (s : State) : State :=
  let m := s.mss
  if off = 0x08 then { s with mss := { m with half := w.getLsbD 16 } }
  else if s.mod.profile = 0 then s
  else if off = 0x04 then { s with mss := { m with
    summary := hoursOr m.summary (w.extractLsb' 0 5).toNat, scrub := hoursOr m.scrub (w.extractLsb' 8 5).toNat } }
  else if 0x300 ≤ off ∧ off < 0x3A0 then
    let k := (off - 0x300) / 4
    s.setSensor k { s.sensor k with lo := (w.extractLsb' 0 16).toInt, hi := (w.extractLsb' 16 16).toInt }
  else s

/-- A word of an MSI-X table is written: the mask bit, or the message address and data (R256). -/
def msixWrite (pf off : Nat) (w : Word) (s : State) : State :=
  let v := off / 16
  if vectorsOf pf * 16 ≤ off then s
  else if off % 16 = 12 then
    if w.getLsbD 0 then { s with host := { s.host with unmasked := tset false s.host.unmasked (1024 * pf + v) false } }
    else unmaskVector pf v s
  else { s with host := { s.host with msixTable := tset 0 s.host.msixTable (4096 * pf + off / 4) w } }

/-- A 32-bit word of a function is written. -/
def writeWord (pf off : Nat) (w : Word) (s : State) : State :=
  if msixBase ≤ off then msixWrite pf (off - msixBase) w s
  else match pf with
  | 0 => pf0Write off w s
  | 1 => pf1Write off w s
  | _ => pf2Write off w s

/-- REGISTER_WRITE (R8, R249): a naturally aligned 32-bit or 64-bit request to assigned words; any other sets BAD_ACCESS. -/
def execRegisterWrite (dt : Nat) (pf : Fin 3) (offset size : Nat) (value : DWord) (s : State) :
    Host.Outcome State Fault Refusal :=
  let s := s.advance dt
  if !s.reaches pf.val then .next s
  else if size = 4 ∧ offset % 4 = 0 ∧ s.assigned pf.val offset then .next (writeWord pf.val offset (value.extractLsb' 0 32) s)
  else if size = 8 ∧ offset % 8 = 0 ∧ s.assigned pf.val offset ∧ s.assigned pf.val (offset + 4) then
    .next (writeWord pf.val (offset + 4) (value.extractLsb' 32 32) (writeWord pf.val offset (value.extractLsb' 0 32) s))
  else .next (badAccess s)

/-! ### Reads -/

/-- ACH_CH_RAW is read: SQW, TIME, ENG and CJVAL show its sample from now on (R79, R112). -/
def rawRead (g : Nat) (s : State) : State :=
  let x := s.chan g
  let m := x.last.getD (noSample g)
  (s.setChan g { x with latch := some m }).reads m.raw.toNat

/-- ACH_CH_RAW_READ. -/
def execAchChRawRead (dt : Nat) (ch : Fin 64) (s : State) : Host.Outcome State Fault Refusal :=
  let s := s.advance dt
  .next (if s.reaches 0 then rawRead ch.val s else s)

/-- ACH_OUT_RBI is read: ACH_OUT_RBV shows the same readback sample from now on (R118). -/
def rbiRead (g : Nat) (s : State) : State :=
  let o := s.out g
  (s.setOut g { o with rbvLatch := some o.rbv }).reads o.rbi.toNat

/-- ACH_OUT_RBI_READ. -/
def execAchOutRbiRead (dt : Nat) (ch : Fin 64) (s : State) : Host.Outcome State Fault Refusal :=
  let s := s.advance dt
  .next (if s.reaches 0 then rbiRead ch.val s else s)

/-- DCH_PIN_STATUS is read: COUNT, FREQ, SQW and TIME keep their values from now on (R165). -/
def pinStatusRead (g : Nat) (s : State) : State :=
  let x := s.pin g
  (s.setPin g { x with latch := some (x.count, x.freq, x.sqwNow, x.timeNow) }).reads x.status

/-- DCH_PIN_STATUS_READ. -/
def execDchPinStatusRead (dt : Nat) (pin : Fin 96) (s : State) : Host.Outcome State Fault Refusal :=
  let s := s.advance dt
  .next (if s.reaches 0 then pinStatusRead (64 + pin.val) s else s)

/-- The 32-bit read of a word whose base register has this value. -/
def readValueOf (pf off : Nat) (r : Nat × Bool) (s : State) : State :=
  let ach := off - 0x20000
  let dch := off - 0x30000
  if pf = 0 ∧ 0x20000 ≤ off ∧ off < 0x28000 ∧ 0x400 ≤ ach % 0x1000 ∧ ach % 0x1000 < 0x600 ∧ ach % 0x40 = 0x10 then
    rawRead (ach / 0x1000 * 8 + (ach % 0x1000 - 0x400) / 0x40) s
  else if pf = 0 ∧ 0x20000 ≤ off ∧ off < 0x28000 ∧ 0x800 ≤ ach % 0x1000 ∧ ach % 0x1000 < 0xA00 ∧ ach % 0x40 = 0x0C then
    rbiRead (ach / 0x1000 * 8 + (ach % 0x1000 - 0x800) / 0x40) s
  else if pf = 0 ∧ 0x30000 ≤ off ∧ off < 0x36000 ∧ 0x100 ≤ dch % 0x1000 ∧ dch % 0x1000 < 0x300 ∧ dch % 0x20 = 0x04 then
    pinStatusRead (64 + dch / 0x1000 * 16 + (dch % 0x1000 - 0x100) / 0x20) s
  else if pf = 0 ∧ off = 0x50108 then (latchClock s).reads r.1
  else if r.2 then
    { s with host := { s.host with latch64 := (pf * 2 ^ 40 + off + 1, r.1 / 2 ^ 32), readValue := r.1 % 2 ^ 32 } }
  else s.reads r.1

/-- A 32-bit read (R249): that of a low half latches the high half, which a read of the high half returns. A high half that no low
read has latched is a free value; a read of no register returns 0 with BAD_ACCESS. -/
def readWord (pf offset : Nat) (s : State) : State :=
  match s.regOf pf offset with
  | some r => readValueOf pf offset r s
  | none =>
    if !s.highHalf pf offset then (badAccess s).reads 0
    else if s.host.latch64.1 = pf * 2 ^ 40 + (offset - 4) + 1 then s.reads s.host.latch64.2
    else
      let f := s.free
      f.2.reads (f.1 % 2 ^ 32)

/-- A 64-bit read in one request (R249): a 64-bit register, or two registers beside each other, the lower one first. -/
def readPair (pf offset : Nat) (s : State) : State :=
  match s.regOf pf offset with
  | some (v, true) => s.reads v
  | _ =>
    let a := readWord pf offset s
    let b := readWord pf (offset + 4) a
    b.reads (a.host.readValue + 2 ^ 32 * b.host.readValue)

/-- REGISTER_64_LOW_READ (R249): a register read of the host. A request of another size or alignment, or to an unassigned offset,
reads 0 and sets BAD_ACCESS. -/
def execRegister64LowRead (dt : Nat) (pf : Fin 3) (r : RegRead) (s : State) : Host.Outcome State Fault Refusal :=
  let s := s.advance dt
  if !s.reaches pf.val then .next s
  else if r.size = 4 ∧ r.offset % 4 = 0 then .next (readWord pf.val r.offset s)
  else if r.size = 8 ∧ r.offset % 8 = 0 ∧ s.assigned pf.val r.offset ∧ s.assigned pf.val (r.offset + 4) then .next (readPair pf.val r.offset s)
  else .next ((badAccess s).reads 0)

end Sys2Proof.Machine
end

