-- ==== Sys2Proof/Machine/Dispatch.lean ====
section
/-! DEFINITION. One arm for each command: a direct call of its meaning. -/

namespace Sys2Proof.Machine

/-- The effect of a command on everything but the queue. -/
def exec (i : Instr) (s : State) : Host.Outcome State Fault Refusal :=
  match i with
  | .glbSesDbWrite dt ses value => Sys2Proof.Machine.execGlbSesDbWrite dt ses value s
  | .sessionRingEnable dt ses value => Sys2Proof.Machine.execSessionRingEnable dt ses value s
  | .commandFetch dt ses opcode c err => Sys2Proof.Machine.execCommandFetch dt ses opcode c err s
  | .commandStart dt id env => Sys2Proof.Machine.execCommandStart dt id env s
  | .commandBoundReached dt id => Sys2Proof.Machine.execCommandBoundReached dt id s
  | .forwardedCommandReceive dt opcode c rights => Sys2Proof.Machine.execForwardedCommandReceive dt opcode c rights s
  | .forwardAnswerReceive dt id code payload => Sys2Proof.Machine.execForwardAnswerReceive dt id code payload s
  | .forwardNoAnswer dt id => Sys2Proof.Machine.execForwardNoAnswer dt id s
  | .dupWindowExpiry dt ses token => Sys2Proof.Machine.execDupWindowExpiry dt ses token s
  | .deviceResetAssert dt => Sys2Proof.Machine.execDeviceResetAssert dt s
  | .itemWriteDue dt => Sys2Proof.Machine.execItemWriteDue dt s
  | .flushingReadIssue dt pf => Sys2Proof.Machine.execFlushingReadIssue dt pf s
  | .flushingReadCompletion dt pf => Sys2Proof.Machine.execFlushingReadCompletion dt pf s
  | .flushReadTimeout dt pf => Sys2Proof.Machine.execFlushReadTimeout dt pf s
  | .flwHeadWrite dt flow value => Sys2Proof.Machine.execFlwHeadWrite dt flow value s
  | .flwCtlArm dt flow value => Sys2Proof.Machine.execFlwCtlArm dt flow value s
  | .msixMessageDue dt flow => Sys2Proof.Machine.execMsixMessageDue dt flow s
  | .msixVectorUnmask dt pf vector => Sys2Proof.Machine.execMsixVectorUnmask dt pf vector s
  | .streamBlockComplete dt flow => Sys2Proof.Machine.execStreamBlockComplete dt flow s
  | .linkWidthChange dt speed width => Sys2Proof.Machine.execLinkWidthChange dt speed width s
  | .linkDown dt => Sys2Proof.Machine.execLinkDown dt s
  | .perstAssert dt low => Sys2Proof.Machine.execPerstAssert dt low s
  | .hotResetReceive dt => Sys2Proof.Machine.execHotResetReceive dt s
  | .busMasterDisable dt pf cleared => Sys2Proof.Machine.execBusMasterDisable dt pf cleared s
  | .d3hotEntry dt pf entered => Sys2Proof.Machine.execD3hotEntry dt pf entered s
  | .memorySpaceDisable dt pf cleared => Sys2Proof.Machine.execMemorySpaceDisable dt pf cleared s
  | .l1Entry dt aspm => Sys2Proof.Machine.execL1Entry dt aspm s
  | .pcieCorrectableError dt => Sys2Proof.Machine.execPcieCorrectableError dt s
  | .pcieUncorrectableError dt pf kind status header => Sys2Proof.Machine.execPcieUncorrectableError dt pf kind status header s
  | .registerWrite dt pf offset size value => Sys2Proof.Machine.execRegisterWrite dt pf offset size value s
  | .register64LowRead dt pf r => Sys2Proof.Machine.execRegister64LowRead dt pf r s
  | .achChRawRead dt ch => Sys2Proof.Machine.execAchChRawRead dt ch s
  | .achOutRbiRead dt ch => Sys2Proof.Machine.execAchOutRbiRead dt ch s
  | .dchPinStatusRead dt pin => Sys2Proof.Machine.execDchPinStatusRead dt pin s
  | .rtcSubsecRead dt => Sys2Proof.Machine.execRtcSubsecRead dt s
  | .rtcSnapWrite dt value => Sys2Proof.Machine.execRtcSnapWrite dt value s
  | .rtcHaltSet dt => Sys2Proof.Machine.execRtcHaltSet dt s
  | .rtcHaltRelease dt => Sys2Proof.Machine.execRtcHaltRelease dt s
  | .rtcCalendarWrite dt date value => Sys2Proof.Machine.execRtcCalendarWrite dt date value s
  | .rtcShiftWrite dt value => Sys2Proof.Machine.execRtcShiftWrite dt value s
  | .rtcSrcRetry dt => Sys2Proof.Machine.execRtcSrcRetry dt s
  | .deviceReset dt c env => Sys2Proof.Machine.execDeviceReset dt c env s
  | .modeSet dt c env => Sys2Proof.Machine.execModeSet dt c env s
  | .modeRead dt c env => Sys2Proof.Machine.execModeRead dt c env s
  | .startWordSet dt c env => Sys2Proof.Machine.execStartWordSet dt c env s
  | .roleSet dt c env => Sys2Proof.Machine.execRoleSet dt c env s
  | .profileSet dt c env => Sys2Proof.Machine.execProfileSet dt c env s
  | .dormantEnter dt c env => Sys2Proof.Machine.execDormantEnter dt c env s
  | .channelConfigure dt c env => Sys2Proof.Machine.execChannelConfigure dt c env s
  | .channelRead dt c env => Sys2Proof.Machine.execChannelRead dt c env s
  | .blankConfigure dt c env => Sys2Proof.Machine.execBlankConfigure dt c env s
  | .crosspointTest dt c env => Sys2Proof.Machine.execCrosspointTest dt c env s
  | .conditionConfigure dt c env => Sys2Proof.Machine.execConditionConfigure dt c env s
  | .tableLoad dt c env => Sys2Proof.Machine.execTableLoad dt c env s
  | .tableRead dt c env => Sys2Proof.Machine.execTableRead dt c env s
  | .outputConfigure dt c env => Sys2Proof.Machine.execOutputConfigure dt c env s
  | .outputWrite dt c env => Sys2Proof.Machine.execOutputWrite dt c env s
  | .outputParallel dt c env => Sys2Proof.Machine.execOutputParallel dt c env s
  | .outputFaultClear dt c env => Sys2Proof.Machine.execOutputFaultClear dt c env s
  | .outputHoldSet dt c env => Sys2Proof.Machine.execOutputHoldSet dt c env s
  | .channelSimulate dt c env => Sys2Proof.Machine.execChannelSimulate dt c env s
  | .channelCalibrate dt c env => Sys2Proof.Machine.execChannelCalibrate dt c env s
  | .calCaptureEnd dt ch => Sys2Proof.Machine.execCalCaptureEnd dt ch s
  | .pinConfigure dt c env => Sys2Proof.Machine.execPinConfigure dt c env s
  | .pinRead dt c env => Sys2Proof.Machine.execPinRead dt c env s
  | .digitalWrite dt c env => Sys2Proof.Machine.execDigitalWrite dt c env s
  | .groupConfigure dt c env => Sys2Proof.Machine.execGroupConfigure dt c env s
  | .digitalFaultClear dt c env => Sys2Proof.Machine.execDigitalFaultClear dt c env s
  | .counterReset dt c env => Sys2Proof.Machine.execCounterReset dt c env s
  | .digitalHoldSet dt c env => Sys2Proof.Machine.execDigitalHoldSet dt c env s
  | .pinSimulate dt c env => Sys2Proof.Machine.execPinSimulate dt c env s
  | .pointConfigure dt c env => Sys2Proof.Machine.execPointConfigure dt c env s
  | .pointRead dt c env => Sys2Proof.Machine.execPointRead dt c env s
  | .alarmAck dt c env => Sys2Proof.Machine.execAlarmAck dt c env s
  | .alarmSilence dt c env => Sys2Proof.Machine.execAlarmSilence dt c env s
  | .alarmShelve dt c env => Sys2Proof.Machine.execAlarmShelve dt c env s
  | .pointService dt c env => Sys2Proof.Machine.execPointService dt c env s
  | .alarmGroupConfigure dt c env => Sys2Proof.Machine.execAlarmGroupConfigure dt c env s
  | .chainConfigure dt c env => Sys2Proof.Machine.execChainConfigure dt c env s
  | .callConfigure dt c env => Sys2Proof.Machine.execCallConfigure dt c env s
  | .dutySet dt c env => Sys2Proof.Machine.execDutySet dt c env s
  | .firstoutReset dt c env => Sys2Proof.Machine.execFirstoutReset dt c env s
  | .tileBind dt c env => Sys2Proof.Machine.execTileBind dt c env s
  | .derivedConfigure dt c env => Sys2Proof.Machine.execDerivedConfigure dt c env s
  | .programLoad dt c env => Sys2Proof.Machine.execProgramLoad dt c env s
  | .programStart dt c env => Sys2Proof.Machine.execProgramStart dt c env s
  | .programStop dt c env => Sys2Proof.Machine.execProgramStop dt c env s
  | .programStatus dt c env => Sys2Proof.Machine.execProgramStatus dt c env s
  | .variableRead dt c env => Sys2Proof.Machine.execVariableRead dt c env s
  | .variableForce dt c env => Sys2Proof.Machine.execVariableForce dt c env s
  | .cycleConfigure dt c env => Sys2Proof.Machine.execCycleConfigure dt c env s
  | .setConfigure dt c env => Sys2Proof.Machine.execSetConfigure dt c env s
  | .ringConfigure dt c env => Sys2Proof.Machine.execRingConfigure dt c env s
  | .ringStatus dt c env => Sys2Proof.Machine.execRingStatus dt c env s
  | .ringKeySet dt c env => Sys2Proof.Machine.execRingKeySet dt c env s
  | .timeConfigure dt c env => Sys2Proof.Machine.execTimeConfigure dt c env s
  | .pairConfigure dt c env => Sys2Proof.Machine.execPairConfigure dt c env s
  | .masterHandover dt c env => Sys2Proof.Machine.execMasterHandover dt c env s
  | .spareStatus dt c env => Sys2Proof.Machine.execSpareStatus dt c env s
  | .spareSwap dt c env => Sys2Proof.Machine.execSpareSwap dt c env s
  | .sparePolicy dt c env => Sys2Proof.Machine.execSparePolicy dt c env s
  | .spareApprove dt c env => Sys2Proof.Machine.execSpareApprove dt c env s
  | .wearRead dt c env => Sys2Proof.Machine.execWearRead dt c env s
  | .recordRead dt c env => Sys2Proof.Machine.execRecordRead dt c env s
  | .recorderStatus dt c env => Sys2Proof.Machine.execRecorderStatus dt c env s
  | .quotaSet dt c env => Sys2Proof.Machine.execQuotaSet dt c env s
  | .mirrorConfigure dt c env => Sys2Proof.Machine.execMirrorConfigure dt c env s
  | .recordMark dt c env => Sys2Proof.Machine.execRecordMark dt c env s
  | .journalRead dt c env => Sys2Proof.Machine.execJournalRead dt c env s
  | .panelConfigure dt c env => Sys2Proof.Machine.execPanelConfigure dt c env s
  | .waveformLoad dt c env => Sys2Proof.Machine.execWaveformLoad dt c env s
  | .panelWrite dt c env => Sys2Proof.Machine.execPanelWrite dt c env s
  | .panelUpdate dt c env => Sys2Proof.Machine.execPanelUpdate dt c env s
  | .tileImageLoad dt c env => Sys2Proof.Machine.execTileImageLoad dt c env s
  | .panelStatus dt c env => Sys2Proof.Machine.execPanelStatus dt c env s
  | .panelPower dt c env => Sys2Proof.Machine.execPanelPower dt c env s
  | .clockRead dt c env => Sys2Proof.Machine.execClockRead dt c env s
  | .clockShift dt c env => Sys2Proof.Machine.execClockShift dt c env s
  | .clockAlarmSet dt c env => Sys2Proof.Machine.execClockAlarmSet dt c env s
  | .leapSet dt c env => Sys2Proof.Machine.execLeapSet dt c env s
  | .trimCurveLoad dt c env => Sys2Proof.Machine.execTrimCurveLoad dt c env s
  | .packageStage dt c env => Sys2Proof.Machine.execPackageStage dt c env s
  | .packageActivate dt c env => Sys2Proof.Machine.execPackageActivate dt c env s
  | .updateWindowSet dt c env => Sys2Proof.Machine.execUpdateWindowSet dt c env s
  | .provenSetAccept dt c env => Sys2Proof.Machine.execProvenSetAccept dt c env s
  | .healthRead dt c env => Sys2Proof.Machine.execHealthRead dt c env s
  | .sensorRead dt c env => Sys2Proof.Machine.execSensorRead dt c env s
  | .ownerKeyInstall dt c env => Sys2Proof.Machine.execOwnerKeyInstall dt c env s
  | .seal dt c env => Sys2Proof.Machine.execSeal dt c env s
  | .retire dt c env => Sys2Proof.Machine.execRetire dt c env s
  | .debugOpen dt c env => Sys2Proof.Machine.execDebugOpen dt c env s
  | .debugClose dt c env => Sys2Proof.Machine.execDebugClose dt c env s
  | .securityStatus dt c env => Sys2Proof.Machine.execSecurityStatus dt c env s
  | .tamperClear dt c env => Sys2Proof.Machine.execTamperClear dt c env s
  | .ownerKeyRotate dt c env => Sys2Proof.Machine.execOwnerKeyRotate dt c env s
  | .sessionOpen dt c env => Sys2Proof.Machine.execSessionOpen dt c env s
  | .sessionClose dt c env => Sys2Proof.Machine.execSessionClose dt c env s
  | .sessionRead dt c env => Sys2Proof.Machine.execSessionRead dt c env s
  | .echo dt c env => Sys2Proof.Machine.execEcho dt c env s
  | .flowOpen dt c env => Sys2Proof.Machine.execFlowOpen dt c env s
  | .flowClose dt c env => Sys2Proof.Machine.execFlowClose dt c env s
  | .flowRead dt c env => Sys2Proof.Machine.execFlowRead dt c env s
  | .streamOpen dt c env => Sys2Proof.Machine.execStreamOpen dt c env s
  | .streamClose dt c env => Sys2Proof.Machine.execStreamClose dt c env s
  | .budgetRead dt c env => Sys2Proof.Machine.execBudgetRead dt c env s
  | .sessionGrantExpiry dt ses => Sys2Proof.Machine.execSessionGrantExpiry dt ses s
  | .sampleStrobe dt isl rate => Sys2Proof.Machine.execSampleStrobe dt isl rate s
  | .precisionSample dt ch r => Sys2Proof.Machine.execPrecisionSample dt ch r s
  | .waveformWord dt ch r => Sys2Proof.Machine.execWaveformWord dt ch r s
  | .sampleFrameReceive dt isl count acked => Sys2Proof.Machine.execSampleFrameReceive dt isl count acked s
  | .fifoParityError dt crossing isl id => Sys2Proof.Machine.execFifoParityError dt crossing isl id s
  | .referenceVote dt isl dev => Sys2Proof.Machine.execReferenceVote dt isl dev s
  | .clampOnset dt isl term => Sys2Proof.Machine.execClampOnset dt isl term s
  | .clampEnd dt isl term => Sys2Proof.Machine.execClampEnd dt isl term s
  | .clampReclose dt isl term => Sys2Proof.Machine.execClampReclose dt isl term s
  | .blankInputAssert dt isl => Sys2Proof.Machine.execBlankInputAssert dt isl s
  | .blankInputDeassert dt isl => Sys2Proof.Machine.execBlankInputDeassert dt isl s
  | .blankHoldExpiry dt isl => Sys2Proof.Machine.execBlankHoldExpiry dt isl s
  | .longBlanking dt isl => Sys2Proof.Machine.execLongBlanking dt isl s
  | .channelSwitchClose dt ch => Sys2Proof.Machine.execChannelSwitchClose dt ch s
  | .excitationChange dt c => Sys2Proof.Machine.execExcitationChange dt c s
  | .pulseSourceOn dt ch => Sys2Proof.Machine.execPulseSourceOn dt ch s
  | .pulseReadbackCheck dt ch ppm => Sys2Proof.Machine.execPulseReadbackCheck dt ch ppm s
  | .pulseWindowOpen dt ch => Sys2Proof.Machine.execPulseWindowOpen dt ch s
  | .islandLinkLost dt isl => Sys2Proof.Machine.execIslandLinkLost dt isl s
  | .islandLinkSilent dt isl => Sys2Proof.Machine.execIslandLinkSilent dt isl s
  | .islandLinkRestored dt isl => Sys2Proof.Machine.execIslandLinkRestored dt isl s
  | .outputHoldExpiry dt isl => Sys2Proof.Machine.execOutputHoldExpiry dt isl s
  | .outputReadbackSample dt ch r => Sys2Proof.Machine.execOutputReadbackSample dt ch r s
  | .setPointApply dt ch => Sys2Proof.Machine.execSetPointApply dt ch s
  | .inputTransitionAccepted dt pin level since => Sys2Proof.Machine.execInputTransitionAccepted dt pin level since s
  | .inputPeriodicSample dt pin => Sys2Proof.Machine.execInputPeriodicSample dt pin s
  | .countEdge dt pin rising => Sys2Proof.Machine.execCountEdge dt pin rising s
  | .countSample dt pin => Sys2Proof.Machine.execCountSample dt pin s
  | .freqGateEnd dt pin => Sys2Proof.Machine.execFreqGateEnd dt pin s
  | .doStateApply dt pin => Sys2Proof.Machine.execDoStateApply dt pin s
  | .driverCurrentLimit dt pin ma => Sys2Proof.Machine.execDriverCurrentLimit dt pin ma s
  | .shortLimitTimeout dt pin still ma => Sys2Proof.Machine.execShortLimitTimeout dt pin still ma s
  | .shortRetry dt pin => Sys2Proof.Machine.execShortRetry dt pin s
  | .thermalShutdown dt pin => Sys2Proof.Machine.execThermalShutdown dt pin s
  | .thermalReenable dt pin => Sys2Proof.Machine.execThermalReenable dt pin s
  | .openOnDetect dt pin ma => Sys2Proof.Machine.execOpenOnDetect dt pin ma s
  | .offStateTest dt pin mvOn off => Sys2Proof.Machine.execOffStateTest dt pin mvOn off s
  | .wireBreakDetect dt pin ua => Sys2Proof.Machine.execWireBreakDetect dt pin ua s
  | .ronMeasure dt pin mohm m => Sys2Proof.Machine.execRonMeasure dt pin mohm m s
  | .lplusStateChange dt isl mv => Sys2Proof.Machine.execLplusStateChange dt isl mv s
  | .groupMemberCheck dt isl quad cur => Sys2Proof.Machine.execGroupMemberCheck dt isl quad cur s
  | .railSwapStep dt r => Sys2Proof.Machine.execRailSwapStep dt r s
  | .digitalHoldExpiry dt isl => Sys2Proof.Machine.execDigitalHoldExpiry dt isl s
  | .alarmSample dt => Sys2Proof.Machine.execAlarmSample dt s
  | .delayExpiry dt point => Sys2Proof.Machine.execDelayExpiry dt point s
  | .staleTimeout dt point sup => Sys2Proof.Machine.execStaleTimeout dt point sup s
  | .votePartnerTimeout dt point => Sys2Proof.Machine.execVotePartnerTimeout dt point s
  | .faultSourceChange dt index => Sys2Proof.Machine.execFaultSourceChange dt index s
  | .suppressionRelease dt point => Sys2Proof.Machine.execSuppressionRelease dt point s
  | .silenceExpiry dt point => Sys2Proof.Machine.execSilenceExpiry dt point s
  | .shelveExpiry dt point => Sys2Proof.Machine.execShelveExpiry dt point s
  | .escalationStepDue dt point => Sys2Proof.Machine.execEscalationStepDue dt point s
  | .ackPinEdge dt chain => Sys2Proof.Machine.execAckPinEdge dt chain s
  | .silencePinEdge dt chain => Sys2Proof.Machine.execSilencePinEdge dt chain s
  | .dutySelectorStable dt => Sys2Proof.Machine.execDutySelectorStable dt s
  | .dutySelectorInvalid dt => Sys2Proof.Machine.execDutySelectorInvalid dt s
  | .firstOutDecide dt group => Sys2Proof.Machine.execFirstOutDecide dt group s
  | .reflashEnd dt group => Sys2Proof.Machine.execReflashEnd dt group s
  | .cycleSnap dt => Sys2Proof.Machine.execCycleSnap dt s
  | .importGather dt => Sys2Proof.Machine.execImportGather dt s
  | .solve dt => Sys2Proof.Machine.execSolve dt s
  | .setDecision dt => Sys2Proof.Machine.execSetDecision dt s
  | .cycleCommit dt => Sys2Proof.Machine.execCycleCommit dt s
  | .solveOverrun dt => Sys2Proof.Machine.execSolveOverrun dt s
  | .modeWordApply dt => Sys2Proof.Machine.execModeWordApply dt s
  | .modeForceRelease dt => Sys2Proof.Machine.execModeForceRelease dt s
  | .programAutostart dt => Sys2Proof.Machine.execProgramAutostart dt s
  | .ringFrameReceive dt port f => Sys2Proof.Machine.execRingFrameReceive dt port f s
  | .linkWordSend dt port => Sys2Proof.Machine.execLinkWordSend dt port s
  | .linkWordReceive dt port word => Sys2Proof.Machine.execLinkWordReceive dt port word s
  | .portDown dt port cause => Sys2Proof.Machine.execPortDown dt port cause s
  | .linkWordTimeout dt port => Sys2Proof.Machine.execLinkWordTimeout dt port s
  | .portLockStable dt port => Sys2Proof.Machine.execPortLockStable dt port s
  | .linkUpFrame dt port node kcv epoch dup => Sys2Proof.Machine.execLinkUpFrame dt port node kcv epoch dup s
  | .linkEpochRenew dt port => Sys2Proof.Machine.execLinkEpochRenew dt port s
  | .ringEventFrame dt src ev => Sys2Proof.Machine.execRingEventFrame dt src ev s
  | .cycleFrameReceive dt port f => Sys2Proof.Machine.execCycleFrameReceive dt port f s
  | .exportFrameReceive dt src cycle l => Sys2Proof.Machine.execExportFrameReceive dt src cycle l s
  | .outputFrameReceive dt src cycle l => Sys2Proof.Machine.execOutputFrameReceive dt src cycle l s
  | .readyFrameReceive dt src cycle set signature members reduce => Sys2Proof.Machine.execReadyFrameReceive dt src cycle set signature members reduce s
  | .decisionFrameReceive dt src cycle sets go mismatch missing => Sys2Proof.Machine.execDecisionFrameReceive dt src cycle sets go mismatch missing s
  | .memberDrop dt node => Sys2Proof.Machine.execMemberDrop dt node s
  | .masterLost dt => Sys2Proof.Machine.execMasterLost dt s
  | .standbyTakeover dt => Sys2Proof.Machine.execStandbyTakeover dt s
  | .announceSend dt => Sys2Proof.Machine.execAnnounceSend dt s
  | .nodeAdmit dt node => Sys2Proof.Machine.execNodeAdmit dt node s
  | .electionEnd dt => Sys2Proof.Machine.execElectionEnd dt s
  | .splitHeal dt => Sys2Proof.Machine.execSplitHeal dt s
  | .handoverSwitch dt => Sys2Proof.Machine.execHandoverSwitch dt s
  | .ringKeySwitch dt => Sys2Proof.Machine.execRingKeySwitch dt s
  | .ringKeyGraceEnd dt => Sys2Proof.Machine.execRingKeyGraceEnd dt s
  | .delayExchange dt port t1 t2 t3 t4 => Sys2Proof.Machine.execDelayExchange dt port t1 t2 t3 t4 s
  | .syncSend dt => Sys2Proof.Machine.execSyncSend dt s
  | .syncReceive dt dir src hops time => Sys2Proof.Machine.execSyncReceive dt dir src hops time s
  | .timeHoldoverTimeout dt => Sys2Proof.Machine.execTimeHoldoverTimeout dt s
  | .timeFreeTimeout dt => Sys2Proof.Machine.execTimeFreeTimeout dt s
  | .ppsInEdge dt falling => Sys2Proof.Machine.execPpsInEdge dt falling s
  | .ppsInLoss dt => Sys2Proof.Machine.execPpsInLoss dt s
  | .ppsOutPulse dt => Sys2Proof.Machine.execPpsOutPulse dt s
  | .subscribeFrame dt n add kind index => Sys2Proof.Machine.execSubscribeFrame dt n add kind index s
  | .samplesFrame dt src l => Sys2Proof.Machine.execSamplesFrame dt src l s
  | .recordFrame dt src flow sev r => Sys2Proof.Machine.execRecordFrame dt src flow sev r s
  | .mirrorFrame dt src recs => Sys2Proof.Machine.execMirrorFrame dt src recs s
  | .mirrorAckFrame dt src rseq => Sys2Proof.Machine.execMirrorAckFrame dt src rseq s
  | .mirrorResend dt => Sys2Proof.Machine.execMirrorResend dt s
  | .sfpDiagPoll dt port diag alarm => Sys2Proof.Machine.execSfpDiagPoll dt port diag alarm s
  | .sfpModuleEvent dt port absent los => Sys2Proof.Machine.execSfpModuleEvent dt port absent los s
  | .sliceAudit dt c excursion => Sys2Proof.Machine.execSliceAudit dt c excursion s
  | .spareReferenceCheck dt isl slice pct => Sys2Proof.Machine.execSpareReferenceCheck dt isl slice pct s
  | .proposalLapse dt => Sys2Proof.Machine.execProposalLapse dt s
  | .directSwap dt c => Sys2Proof.Machine.execDirectSwap dt c s
  | .forcedSliceSwap dt isl slice => Sys2Proof.Machine.execForcedSliceSwap dt isl slice s
  | .cellSwapVolt dt ch mv level env => Sys2Proof.Machine.execCellSwapVolt dt ch mv level env s
  | .laneDisagreement dt block lane => Sys2Proof.Machine.execLaneDisagreement dt block lane s
  | .laneSelfTestEnd dt block lane ok => Sys2Proof.Machine.execLaneSelfTestEnd dt block lane ok s
  | .pageCorrectedError dt page => Sys2Proof.Machine.execPageCorrectedError dt page s
  | .memoryUe dt page => Sys2Proof.Machine.execMemoryUe dt page s
  | .supplyPhaseCheck dt isl share ok => Sys2Proof.Machine.execSupplyPhaseCheck dt isl share ok s
  | .supplyInputChange dt input state mv => Sys2Proof.Machine.execSupplyInputChange dt input state mv s
  | .holdoverEnter dt ve => Sys2Proof.Machine.execHoldoverEnter dt ve s
  | .holdCapMeasure dt dv mv => Sys2Proof.Machine.execHoldCapMeasure dt dv mv s
  | .holdLowCheck dt mv => Sys2Proof.Machine.execHoldLowCheck dt mv s
  | .holdoverPanelPark dt => Sys2Proof.Machine.execHoldoverPanelPark dt s
  | .holdoverSeal dt mj => Sys2Proof.Machine.execHoldoverSeal dt mj s
  | .holdoverEnd dt mj => Sys2Proof.Machine.execHoldoverEnd dt mj s
  | .dormantShutdown dt => Sys2Proof.Machine.execDormantShutdown dt s
  | .dormantWake dt src => Sys2Proof.Machine.execDormantWake dt src s
  | .dormantHoldExhausted dt => Sys2Proof.Machine.execDormantHoldExhausted dt s
  | .vigilPowerOn dt => Sys2Proof.Machine.execVigilPowerOn dt s
  | .vbatLow dt mv => Sys2Proof.Machine.execVbatLow dt mv s
  | .resetNPin dt low => Sys2Proof.Machine.execResetNPin dt low s
  | .watchdogTimeout dt => Sys2Proof.Machine.execWatchdogTimeout dt s
  | .coreSupplyFault dt => Sys2Proof.Machine.execCoreSupplyFault dt s
  | .coreClockLoss dt mj => Sys2Proof.Machine.execCoreClockLoss dt mj s
  | .hostRefclkLoss dt => Sys2Proof.Machine.execHostRefclkLoss dt s
  | .ringTxClockLoss dt => Sys2Proof.Machine.execRingTxClockLoss dt s
  | .mssHeartbeatLoss dt => Sys2Proof.Machine.execMssHeartbeatLoss dt s
  | .fullResetAssert dt cause => Sys2Proof.Machine.execFullResetAssert dt cause s
  | .resetRelease dt lanes hashBad => Sys2Proof.Machine.execResetRelease dt lanes hashBad s
  | .restartLinksUp dt answer => Sys2Proof.Machine.execRestartLinksUp dt answer s
  | .restartJournalRestore dt header torn lost => Sys2Proof.Machine.execRestartJournalRestore dt header torn lost s
  | .acquisitionResume dt => Sys2Proof.Machine.execAcquisitionResume dt s
  | .alarmEvalResume dt => Sys2Proof.Machine.execAlarmEvalResume dt s
  | .catchupEnd dt => Sys2Proof.Machine.execCatchupEnd dt s
  | .hostReady dt => Sys2Proof.Machine.execHostReady dt s
  | .powerOnSequence dt lanes hashBad answer header torn cold => Sys2Proof.Machine.execPowerOnSequence dt lanes hashBad answer header torn cold s
  | .recordCopyNand dt count => Sys2Proof.Machine.execRecordCopyNand dt count s
  | .quotaReclaim dt => Sys2Proof.Machine.execQuotaReclaim dt s
  | .nandScrub dt seg bits => Sys2Proof.Machine.execNandScrub dt seg bits s
  | .nandBlockFail dt block cause => Sys2Proof.Machine.execNandBlockFail dt block cause s
  | .checkpointWrite dt => Sys2Proof.Machine.execCheckpointWrite dt s
  | .rtcSecond dt => Sys2Proof.Machine.execRtcSecond dt s
  | .rtcHaltTimeout dt => Sys2Proof.Machine.execRtcHaltTimeout dt s
  | .trimWindow dt temp => Sys2Proof.Machine.execTrimWindow dt temp s
  | .rtcOscFail dt xtal2 => Sys2Proof.Machine.execRtcOscFail dt xtal2 s
  | .rtcSrcRetryEnd dt ok => Sys2Proof.Machine.execRtcSrcRetryEnd dt ok s
  | .panelRailUp dt mv ripple => Sys2Proof.Machine.execPanelRailUp dt mv ripple s
  | .panelRailDown dt => Sys2Proof.Machine.execPanelRailDown dt s
  | .railFault dt rail mv => Sys2Proof.Machine.execRailFault dt rail mv s
  | .panelUpdateStart dt t => Sys2Proof.Machine.execPanelUpdateStart dt t s
  | .panelFrame dt => Sys2Proof.Machine.execPanelFrame dt s
  | .panelQueueTimeout dt => Sys2Proof.Machine.execPanelQueueTimeout dt s
  | .panelTempRead dt t => Sys2Proof.Machine.execPanelTempRead dt t s
  | .panelSensorTimeout dt => Sys2Proof.Machine.execPanelSensorTimeout dt s
  | .frameMemoryScrub dt band bad => Sys2Proof.Machine.execFrameMemoryScrub dt band bad s
  | .sensorSample dt index v => Sys2Proof.Machine.execSensorSample dt index v s
  | .logSummary dt => Sys2Proof.Machine.execLogSummary dt s
  | .logBatchWrite dt => Sys2Proof.Machine.execLogBatchWrite dt s
  | .smbusStatusRead dt => Sys2Proof.Machine.execSmbusStatusRead dt s
  | .smbusWake dt data => Sys2Proof.Machine.execSmbusWake dt data s
  | .tamperAssert dt => Sys2Proof.Machine.execTamperAssert dt s
  | .dbgEnFall dt => Sys2Proof.Machine.execDbgEnFall dt s
  | .debugExpiry dt => Sys2Proof.Machine.execDebugExpiry dt s
  | .trialProven dt => Sys2Proof.Machine.execTrialProven dt s
  | .updateWindowOpen dt env => Sys2Proof.Machine.execUpdateWindowOpen dt env s
  | .activationWindowExpiry dt => Sys2Proof.Machine.execActivationWindowExpiry dt s
  | .stageJobEnd dt => Sys2Proof.Machine.execStageJobEnd dt s
  | .islandImageRestart dt isl answered ms => Sys2Proof.Machine.execIslandImageRestart dt isl answered ms s
  | .holdCharged dt mv => Sys2Proof.Machine.execHoldCharged dt mv s
  | .tamperNRelease dt => Sys2Proof.Machine.execTamperNRelease dt s
  | .jobBoundReached dt id => Sys2Proof.Machine.execJobBoundReached dt id s

end Sys2Proof.Machine
end

