-- ==== Sys2Proof/Safety.lean ====
section
/-! DEFINITION. What claims are stated in: how a command answers, and the ranges that the Security Unit's counters keep. -/

namespace Sys2Proof.Machine

/-- Command `i` answers a next state of which `P` holds. -/
def Completes (i : Instr) (s : State) (P : State → Prop) : Prop := ∃ t, exec i s = .next t ∧ P t

/-- The entry under which a packet with opcode `op` that arrives `dt` ns from now is accepted and starts (R283, R285). -/
def State.entryOf (s : State) (op : Opc) (dt : Nat) (c : Cmd) : CmdEntry :=
  { id := s.cp.nextId, op := op, c := c, cls := if c.cls = 255 then (opRow op).cls else c.cls
    fetched := s.now + dt, start := max (s.now + dt) c.notBefore, mark := 1, phase := .running, jobEnd := 0
    fromMaster := none, work := [] }

/-- `s` after `dt` ns, with that command accepted and started. -/
def State.entered (s : State) (op : Opc) (dt : Nat) (c : Cmd) : State :=
  let u := s.advance dt
  { u with cp := { u.cp with nextId := u.cp.nextId + 1, exec := u.cp.exec ++ [s.entryOf op dt c] } }

/-- No earlier command on the same object is in execution when the packet arrives (R45, R283). -/
abbrev State.Ready (s : State) (op : Opc) (dt : Nat) (c : Cmd) : Prop := s.blocked (s.entryOf op dt c) = false

/-- `s` after `dt` ns, with that command accepted and waiting for the one before it (R45, R283). -/
def State.behind (s : State) (op : Opc) (dt : Nat) (c : Cmd) : State :=
  let u := s.advance dt
  { u with cp := { u.cp with nextId := u.cp.nextId + 1, exec := u.cp.exec ++ [{ s.entryOf op dt c with phase := .waiting, mark := 0 }] } }

/-- The command row `i` ends at once: its final status reply carries `st` and PAYLOAD `p`, and its other effects leave `u`
(R284, R285). -/
def Answers (s : State) (i : Instr) (st : Nat) (p : List Byte) (u : State) : Prop :=
  exec i s = .next (completeCmd s.cp.nextId st p u)

/-- The command row `i` is accepted as a job (R286) with progress data `w`; its other effects leave `u`. -/
def StartsJob (s : State) (i : Instr) (e : CmdEntry) (w : List Nat) (u : State) : Prop := exec i s = .next (acceptJob e w u)

/-- The command row `i` stays in execution with progress data `w` until another step ends it; its other effects leave `u`. -/
def StaysOpen (s : State) (i : Instr) (e : CmdEntry) (w : List Nat) (u : State) : Prop :=
  exec i s = .next (u.setCmd { e with phase := .running, work := w, mark := 1 })

/-- `s` after `dt` ns and the fetch read of the slot at HEAD of ring `n`, with HEAD advanced (R260, R262). -/
def State.slotRead (s : State) (dt n : Nat) : State :=
  let u := fetchSlot n (s.advance dt)
  u.setRing n { s.ring n with head := ((s.ring n).head + 1) % 65536 }

/-- Every inline byte outside the named fields is 0, and so is every extended byte from `n` on (step 1 of R599). -/
def Clean (c : Cmd) (named : List (Nat × Nat)) (n : Nat) : Prop := c.restZero named = true ∧ c.extZero n = true

/-- The Security Unit's counters lie within their register fields (R573): 8 owner fuse slots, 64 rollback fuses, an 8-bit count. -/
def Security.ok (x : Security) : Prop := x.ownerSlots ≤ 8 ∧ x.rollback ≤ 64 ∧ x.count ≤ 255

/-- What a closed flow's set keeps (R235): its sticky error flags. -/
def closedFlow (x : Flow) : Flow := { headErr := x.headErr, layoutErr := x.layoutErr, lowSeen := x.lowSeen, stallSeen := x.stallSeen }

end Sys2Proof.Machine

namespace Sys2Proof

/-- Opcode, time since the last event and packet of a command row. -/
def Instr.packet : Instr → Option (Opc × Nat × Cmd)
  | .deviceReset dt c _ => some (.deviceReset, dt, c)
  | .modeSet dt c _ => some (.modeSet, dt, c)
  | .modeRead dt c _ => some (.modeRead, dt, c)
  | .startWordSet dt c _ => some (.startWordSet, dt, c)
  | .roleSet dt c _ => some (.roleSet, dt, c)
  | .profileSet dt c _ => some (.profileSet, dt, c)
  | .dormantEnter dt c _ => some (.dormantEnter, dt, c)
  | .channelConfigure dt c _ => some (.channelConfigure, dt, c)
  | .channelRead dt c _ => some (.channelRead, dt, c)
  | .blankConfigure dt c _ => some (.blankConfigure, dt, c)
  | .crosspointTest dt c _ => some (.crosspointTest, dt, c)
  | .conditionConfigure dt c _ => some (.conditionConfigure, dt, c)
  | .tableLoad dt c _ => some (.tableLoad, dt, c)
  | .tableRead dt c _ => some (.tableRead, dt, c)
  | .outputConfigure dt c _ => some (.outputConfigure, dt, c)
  | .outputWrite dt c _ => some (.outputWrite, dt, c)
  | .outputParallel dt c _ => some (.outputParallel, dt, c)
  | .outputFaultClear dt c _ => some (.outputFaultClear, dt, c)
  | .outputHoldSet dt c _ => some (.outputHoldSet, dt, c)
  | .channelSimulate dt c _ => some (.channelSimulate, dt, c)
  | .channelCalibrate dt c _ => some (.channelCalibrate, dt, c)
  | .pinConfigure dt c _ => some (.pinConfigure, dt, c)
  | .pinRead dt c _ => some (.pinRead, dt, c)
  | .digitalWrite dt c _ => some (.digitalWrite, dt, c)
  | .groupConfigure dt c _ => some (.groupConfigure, dt, c)
  | .digitalFaultClear dt c _ => some (.digitalFaultClear, dt, c)
  | .counterReset dt c _ => some (.counterReset, dt, c)
  | .digitalHoldSet dt c _ => some (.digitalHoldSet, dt, c)
  | .pinSimulate dt c _ => some (.pinSimulate, dt, c)
  | .pointConfigure dt c _ => some (.pointConfigure, dt, c)
  | .pointRead dt c _ => some (.pointRead, dt, c)
  | .alarmAck dt c _ => some (.alarmAck, dt, c)
  | .alarmSilence dt c _ => some (.alarmSilence, dt, c)
  | .alarmShelve dt c _ => some (.alarmShelve, dt, c)
  | .pointService dt c _ => some (.pointService, dt, c)
  | .alarmGroupConfigure dt c _ => some (.alarmGroupConfigure, dt, c)
  | .chainConfigure dt c _ => some (.chainConfigure, dt, c)
  | .callConfigure dt c _ => some (.callConfigure, dt, c)
  | .dutySet dt c _ => some (.dutySet, dt, c)
  | .firstoutReset dt c _ => some (.firstoutReset, dt, c)
  | .tileBind dt c _ => some (.tileBind, dt, c)
  | .derivedConfigure dt c _ => some (.derivedConfigure, dt, c)
  | .programLoad dt c _ => some (.programLoad, dt, c)
  | .programStart dt c _ => some (.programStart, dt, c)
  | .programStop dt c _ => some (.programStop, dt, c)
  | .programStatus dt c _ => some (.programStatus, dt, c)
  | .variableRead dt c _ => some (.variableRead, dt, c)
  | .variableForce dt c _ => some (.variableForce, dt, c)
  | .cycleConfigure dt c _ => some (.cycleConfigure, dt, c)
  | .setConfigure dt c _ => some (.setConfigure, dt, c)
  | .ringConfigure dt c _ => some (.ringConfigure, dt, c)
  | .ringStatus dt c _ => some (.ringStatus, dt, c)
  | .ringKeySet dt c _ => some (.ringKeySet, dt, c)
  | .timeConfigure dt c _ => some (.timeConfigure, dt, c)
  | .pairConfigure dt c _ => some (.pairConfigure, dt, c)
  | .masterHandover dt c _ => some (.masterHandover, dt, c)
  | .spareStatus dt c _ => some (.spareStatus, dt, c)
  | .spareSwap dt c _ => some (.spareSwap, dt, c)
  | .sparePolicy dt c _ => some (.sparePolicy, dt, c)
  | .spareApprove dt c _ => some (.spareApprove, dt, c)
  | .wearRead dt c _ => some (.wearRead, dt, c)
  | .recordRead dt c _ => some (.recordRead, dt, c)
  | .recorderStatus dt c _ => some (.recorderStatus, dt, c)
  | .quotaSet dt c _ => some (.quotaSet, dt, c)
  | .mirrorConfigure dt c _ => some (.mirrorConfigure, dt, c)
  | .recordMark dt c _ => some (.recordMark, dt, c)
  | .journalRead dt c _ => some (.journalRead, dt, c)
  | .panelConfigure dt c _ => some (.panelConfigure, dt, c)
  | .waveformLoad dt c _ => some (.waveformLoad, dt, c)
  | .panelWrite dt c _ => some (.panelWrite, dt, c)
  | .panelUpdate dt c _ => some (.panelUpdate, dt, c)
  | .tileImageLoad dt c _ => some (.tileImageLoad, dt, c)
  | .panelStatus dt c _ => some (.panelStatus, dt, c)
  | .panelPower dt c _ => some (.panelPower, dt, c)
  | .clockRead dt c _ => some (.clockRead, dt, c)
  | .clockShift dt c _ => some (.clockShift, dt, c)
  | .clockAlarmSet dt c _ => some (.clockAlarmSet, dt, c)
  | .leapSet dt c _ => some (.leapSet, dt, c)
  | .trimCurveLoad dt c _ => some (.trimCurveLoad, dt, c)
  | .packageStage dt c _ => some (.packageStage, dt, c)
  | .packageActivate dt c _ => some (.packageActivate, dt, c)
  | .updateWindowSet dt c _ => some (.updateWindowSet, dt, c)
  | .provenSetAccept dt c _ => some (.provenSetAccept, dt, c)
  | .healthRead dt c _ => some (.healthRead, dt, c)
  | .sensorRead dt c _ => some (.sensorRead, dt, c)
  | .ownerKeyInstall dt c _ => some (.ownerKeyInstall, dt, c)
  | .seal dt c _ => some (.seal, dt, c)
  | .retire dt c _ => some (.retire, dt, c)
  | .debugOpen dt c _ => some (.debugOpen, dt, c)
  | .debugClose dt c _ => some (.debugClose, dt, c)
  | .securityStatus dt c _ => some (.securityStatus, dt, c)
  | .tamperClear dt c _ => some (.tamperClear, dt, c)
  | .ownerKeyRotate dt c _ => some (.ownerKeyRotate, dt, c)
  | .sessionOpen dt c _ => some (.sessionOpen, dt, c)
  | .sessionClose dt c _ => some (.sessionClose, dt, c)
  | .sessionRead dt c _ => some (.sessionRead, dt, c)
  | .echo dt c _ => some (.echo, dt, c)
  | .flowOpen dt c _ => some (.flowOpen, dt, c)
  | .flowClose dt c _ => some (.flowClose, dt, c)
  | .flowRead dt c _ => some (.flowRead, dt, c)
  | .streamOpen dt c _ => some (.streamOpen, dt, c)
  | .streamClose dt c _ => some (.streamClose, dt, c)
  | .budgetRead dt c _ => some (.budgetRead, dt, c)
  | _ => none

/-- A packet with every field of full length (R273, R274, R277): a trailer exactly when AUTH is set, and at most 4,096 bytes. -/
def Cmd.whole (c : Cmd) : Prop :=
  c.wf = true ∧ c.inl.length = 32 ∧ c.ext.length = c.paramLen ∧
  (if c.auth then c.tag.length = 24 else c.tag = [] ∧ c.counter = 0) ∧ Machine.packetLen c ≤ 4096

/-- The packet as bytes, padded to a multiple of 64 (R273, R558). -/
def Cmd.padded (opcode : Nat) (c : Cmd) : List Byte :=
  let l := Machine.packetBytes opcode c ++ (if c.auth then Machine.le 8 c.counter ++ c.tag else [])
  l ++ Machine.zeros ((64 - l.length % 64) % 64)

end Sys2Proof
end

