-- ==== Sys2Proof/Certificates/Slice0/Obligations.lean ====
section
/-! DEFINITION. The statements about the node: each clause names the commands, states and operands it is about. -/

open Sys2Proof Sys2Proof.Machine

/-- A step runs exec on the command at the front of the queue with the queue's rest; on an empty queue it idles, which is the model's choice (log
entry 2). No word spells a command (log entry 3). -/
def Obligations.StepRunsTheFrontCommand : Prop :=
  (∀ (c : Instr) (r : List Instr) (s : State), step { s with pending := c :: r } = exec c { s with pending := r }) ∧
  (∀ s : State, s.pending = [] → step s = .next s) ∧
  (∀ (s : State) (n w : Nat), decodeTableWord n w = none ∧ s.withFetchWord n w = s)

/-- Every command in every state answers a next state: an access or command that the spec refuses ends in BAD_ACCESS or in a failure status, and the
machine goes on. -/
def Obligations.EveryCommandAnswers : Prop :=
  ∀ (c : Instr) (s : State), ∃ t, exec c s = .next t

/-- No command touches the queue of the commands that wait. -/
def Obligations.CommandsLeaveTheQueueAlone : Prop :=
  ∀ (c : Instr) (s t : State), exec c s = .next t → t.pending = s.pending

/-- Every step keeps the Security Unit's counters within their fields: at most 8 owner fuse slots (R548), 64 rollback fuses (R562) and the 8-bit
tamper count (R554, R573). -/
def Obligations.SecurityCountersKeepTheirRanges : Prop :=
  ∀ s t : State, s.sec.ok → step s = .next t → t.sec.ok

/-- What reset leaves: the counters of the Security Unit in range, the phase before release with cause FIRST, role STANDALONE, lifecycle OPEN, and
the delivery values that R474, R516 and R538 give for quotas and rails. -/
def Obligations.ResetState : Prop :=
  State.reset.sec.ok ∧ State.reset.pending = [] ∧ State.reset.pwr.phase = .asserted ∧ State.reset.pwr.cause = 14 ∧
  State.reset.mod.role = .standalone ∧ State.reset.mod.life = .opened ∧ State.reset.modeWord = 0 ∧
  State.reset.rcd.quota = [256, 512, 1024, 1024, 512] ∧ State.reset.rcd.mirrorMax = 0 ∧ State.reset.rcd.spares = 512 ∧
  State.reset.railOrder = [3, 1, 2, 0, 4] ∧ State.reset.pnl.dly = 10 ∧ State.reset.pnl.railHold = 20 ∧ State.reset.host.ready = false

/-- A sequence of packets laid out as R273 and R274 say, each padded to 64 bytes, reads back as those packets with every field: the packets of a
configuration package (R558). -/
def Obligations.PacketsReadBack : Prop :=
  ∀ l : List (Nat × Cmd), (∀ e, e ∈ l → e.1 < 65536 ∧ e.2.whole) → packetsOf l.length (l.flatMap fun e => e.2.padded e.1) = some l

/-- GLB_ID reads 0x6496_0002: the device of every node and the revision B2 (R2). -/
def Obligations.DeviceIdentity : Prop :=
  ∀ (s : State) (dt : Nat), s.reaches 0 = true → exec (.register64LowRead dt 0 ⟨0, 4⟩) s = .next ((s.advance dt).reads 0x64960002)

/-- The sample instants of a rate of n / m S/s are k × 10⁹ × m / n ns rounded down, and gridFloor is the last of them not after a Node Time, on
every island (R53). -/
def Obligations.SampleInstants : Prop :=
  ∀ n m now : Nat, 0 < n → 0 < m → (∃ k, gridFloor (n, m) now = k * 1000000000 * m / n) ∧ gridFloor (n, m) now ≤ now ∧
    ∀ k, k * 1000000000 * m / n ≤ now → k * 1000000000 * m / n ≤ gridFloor (n, m) now

/-- A session doorbell (R260, R261): a value at most one ring size past both the last accepted value and HEAD is taken; another stops the ring, sets
DB_ERR and the DB_STOP cause and writes record 0x0030; a ring that is disabled or stopped ignores it. A write of GLB_SES_CFG that raises EN clears
HEAD and the doorbell count and restarts a stopped ring. BUS_MASTER_DISABLE and D3HOT_ENTRY (R244) write the function's bit of Bus Master Enable or
of D3hot and then stop the function or let it resume; MEMORY_SPACE_DISABLE (R244) writes its bit of Memory Space Enable and nothing else; L1_ENTRY
(R243) enters L1 when ASPM is on, nothing holds L1 off and the link is trained; PCIE_CORRECTABLE_ERROR (R268) counts, up to 65,535, and changes
nothing else. -/
def Obligations.RingsAndFunctionControls : Prop :=
  (∀ (s : State) (dt : Nat) (n : Fin 64) (v : BitVec 16), s.reaches 0 = true → (s.ring n).en = true → (s.ring n).stopped = false →
    exec (.glbSesDbWrite dt n v) s = .next (
      if (v.toNat + 65536 - (s.ring n).db) % 65536 ≤ 2 ^ (s.ring n).rlog2 ∧ (v.toNat + 65536 - (s.ring n).head) % 65536 ≤ 2 ^ (s.ring n).rlog2
      then (s.advance dt).setRing n { s.ring n with db := v.toNat }
      else note 0x0030 n (le 2 v.toNat ++ le 2 (s.ring n).db ++ le 2 (s.ring n).head)
        (setIrq 2 ((s.advance dt).setRing n { s.ring n with stopped := true, dbErr := true })))) ∧
  (∀ (s : State) (dt : Nat) (n : Fin 64) (v : BitVec 16), s.reaches 0 = false ∨ (s.ring n).en = false ∨ (s.ring n).stopped = true →
    exec (.glbSesDbWrite dt n v) s = .next (s.advance dt)) ∧
  (∀ (s : State) (dt : Nat) (n : Fin 64) (w : Word), s.reaches 0 = true → (s.ring n).en = false → w.getLsbD 0 = true →
    1 ≤ (w.extractLsb' 4 4).toNat → (w.extractLsb' 4 4).toNat ≤ 8 → 7 ≤ (w.extractLsb' 8 4).toNat → (w.extractLsb' 8 4).toNat ≤ 13 →
    exec (.sessionRingEnable dt n w) s = .next ((s.advance dt).setRing n { s.ring n with
      en := true, head := 0, db := 0, stopped := false, rlog2 := (w.extractLsb' 4 4).toNat, slotLog2 := (w.extractLsb' 8 4).toNat })) ∧
  (∀ (s : State) (dt : Nat) (pf : Fin 3), exec (.busMasterDisable dt pf true) s =
    .next (stopFunction pf { s.advance dt with host := { s.host with bme := s.host.bme &&& ~~~BitVec.ofNat 3 (2 ^ pf.val) } })) ∧
  (∀ (s : State) (dt : Nat) (pf : Fin 3), exec (.busMasterDisable dt pf false) s =
    .next (resumeFunction pf { s.advance dt with host := { s.host with bme := s.host.bme ||| BitVec.ofNat 3 (2 ^ pf.val) } })) ∧
  (∀ (s : State) (dt : Nat) (pf : Fin 3), exec (.d3hotEntry dt pf true) s =
    .next (stopFunction pf { s.advance dt with host := { s.host with d3hot := s.host.d3hot ||| BitVec.ofNat 3 (2 ^ pf.val) } })) ∧
  (∀ (s : State) (dt : Nat) (pf : Fin 3), exec (.d3hotEntry dt pf false) s =
    .next (resumeFunction pf { s.advance dt with host := { s.host with d3hot := s.host.d3hot &&& ~~~BitVec.ofNat 3 (2 ^ pf.val) } })) ∧
  (∀ (s : State) (dt : Nat) (pf : Fin 3) (cleared : Bool), exec (.memorySpaceDisable dt pf cleared) s =
    .next { s.advance dt with host := { s.host with
      mse := if cleared then s.host.mse &&& ~~~BitVec.ofNat 3 (2 ^ pf.val) else s.host.mse ||| BitVec.ofNat 3 (2 ^ pf.val) } }) ∧
  (∀ (s : State) (dt : Nat) (aspm : Bool), exec (.l1Entry dt aspm) s = .next { s.advance dt with host := { s.host with
      inL1 := s.host.inL1 || (aspm && !s.l1Blocked && s.host.speed ≠ 0) } }) ∧
  (∀ (s : State) (dt : Nat), exec (.pcieCorrectableError dt) s =
    .next { s.advance dt with host := { s.host with corr := min 65535 (s.host.corr + 1) } })

/-- LINK_WIDTH_CHANGE (R242): a training to a speed and width puts them in force, leaves L1, counts in RETRAINS and, when either differs from
before, sets the cause bit LINK. LINK_DOWN (R244): speed and width are 0, L1 is left, and RETRAINS, Memory Space Enable and Bus Master Enable are
kept. PCIE_UNCORRECTABLE_ERROR (R268): the bit of its kind is added to GLB_ERR, the cause bit UNCORR is set, a fatal link error takes the link down
and an internal error stops the function. FLW_HEAD_WRITE (R253): on an OPEN flow a head at most one queue size past the old one and not past
FLW_TAIL is taken; one further on sets HEAD_ERR and its cause bit and writes record 0x0032. FLW_CTL_ARM (R257): a HELD flow with nothing left opens
at its head count with the IRQ_EN written; on an OPEN flow only IRQ_EN is written. MSIX_MESSAGE_DUE (R256): with IRQ_EN set and a threshold reached
the vector is raised and the count starts again; otherwise nothing happens. MSIX_VECTOR_UNMASK (R256): the vector is unmasked and a pending one is
sent. STREAM_BLOCK_COMPLETE (R206, R226, R267): the oldest block of a stream that is full, or behind which another has begun, leaves the blocks
being filled; while WAVE is 1 and the flow has a token and takes the block, it is accepted with the next SEQ and the deadline of class D; while WAVE
is 0 its words count as a gap of the next block. -/
def Obligations.LinkErrorsAndMessages : Prop :=
  (∀ (s : State) (dt : Nat) (speed : Fin 4) (width : Fin 5), speed.val ≠ 0 → width.val ≠ 0 → width.val ≠ 3 →
    Completes (.linkWidthChange dt speed width) s fun t => t.now = s.now + dt ∧ t.host.speed = speed ∧ t.host.width = width ∧
      t.host.inL1 = false ∧ t.host.retrains = (s.host.retrains + 1) % 65536 ∧
      (s.host.speed ≠ speed.val ∨ s.host.width ≠ width.val → t.host.irq.getLsbD 1 = true)) ∧
  (∀ (s : State) (dt : Nat), s.host.speed ≠ 0 →
    Completes (.linkDown dt) s fun t => t.now = s.now + dt ∧ t.host.speed = 0 ∧ t.host.width = 0 ∧ t.host.inL1 = false ∧
      t.host.retrains = s.host.retrains ∧ t.host.mse = s.host.mse ∧ t.host.bme = s.host.bme) ∧
  (∀ (s : State) (dt : Nat) (pf : Fin 3) (kind : PcieError) (st : Word) (h : List Byte),
    Completes (.pcieUncorrectableError dt pf kind st h) s fun t => t.now = s.now + dt ∧ t.host.irq.getLsbD 5 = true ∧
      t.host.err = s.host.err ||| (match kind with
        | .poisonedWrite => 4#6 | .unexpectedCompletion => 8#6 | .fatalLink => 16#6 | .internal => 32#6) ∧
      (kind = .fatalLink → t.host.speed = 0) ∧ (kind = .internal → t.host.dead.getLsbD pf = true)) ∧
  (∀ (s : State) (dt : Nat) (f : Fin 256) (v : Word), s.reachesFlow f = true → (s.flow f).state = .opened →
    (v.toNat + 2 ^ 32 - (s.flow f).head) % 2 ^ 32 ≤ 2 ^ (s.flow f).qlog2 → ((s.flow f).tail + 2 ^ 32 - v.toNat) % 2 ^ 32 ≤ 2 ^ (s.flow f).qlog2 →
    exec (.flwHeadWrite dt f v) s = .next ((s.advance dt).setFlow f { s.flow f with head := v.toNat })) ∧
  (∀ (s : State) (dt : Nat) (f : Fin 256) (v : Word), s.reachesFlow f = true → (s.flow f).state = .opened →
    2 ^ (s.flow f).qlog2 < (v.toNat + 2 ^ 32 - (s.flow f).head) % 2 ^ 32 →
    exec (.flwHeadWrite dt f v) s = .next (note 0x0032 f (le 4 v.toNat ++ le 4 (s.flow f).head ++ le 4 (s.flow f).tail ++ zeros 8)
      (setIrq 4 ((s.advance dt).setFlow f { s.flow f with headErr := true })))) ∧
  (∀ (s : State) (dt : Nat) (f : Fin 256) (v : Word), s.reachesFlow f = true → (s.flow f).state = .held → f.val ≠ 0 →
    v.getLsbD 0 = true → (s.flow f).items = [] → (s.flow f).head = (s.flow f).dtail →
    Completes (.flwCtlArm dt f v) s fun t => t.now = s.now + dt ∧ (t.flow f).state = .opened ∧ (t.flow f).irqEn = v.getLsbD 1 ∧
      (t.flow f).tail = (s.flow f).head ∧ (t.flow f).dtail = (s.flow f).head ∧ (t.flow f).lateReset = false ∧ (t.flow f).items = []) ∧
  (∀ (s : State) (dt : Nat) (f : Fin 256) (v : Word), s.reachesFlow f = true → (s.flow f).state = .opened →
    exec (.flwCtlArm dt f v) s = .next ((s.advance dt).setFlow f { s.flow f with irqEn := v.getLsbD 1 })) ∧
  (∀ (s : State) (dt : Nat) (f : Fin 256), exec (.msixMessageDue dt f) s = .next (
    if (s.flow f).irqEn ∧ 0 < (s.flow f).unannounced ∧
      (max 1 (s.flow f).irqCount ≤ (s.flow f).unannounced ∨ (s.flow f).unannAt + 1000 * (s.flow f).irqTime ≤ s.now + dt)
    then raiseVector (s.flow f).pf f ((s.advance dt).setFlow f { s.flow f with unannounced := 0 }) else s.advance dt)) ∧
  (∀ (s : State) (dt : Nat) (pf : Fin 3) (v : Fin 264), s.reaches pf = true → v.val < vectorsOf pf → s.canIssue pf = true →
    Completes (.msixVectorUnmask dt pf v) s fun t => t.now = s.now + dt ∧ tget false t.host.unmasked (1024 * pf + v) = true ∧
      tget false t.host.pba (1024 * pf + v) = false ∧
      t.host.bus = if tget false s.host.pba (1024 * pf + v) then s.host.bus ++ [.msix pf v] else s.host.bus) ∧
  (∀ (s : State) (dt : Nat) (f : Fin 256) (b : Block) (r : List Block), (s.flow f).filling = b :: r → (s.flow f).stream = true →
    r ≠ [] ∨ ((s.flow f).size - 64) / 4 ≤ b.words.length → s.mode .wave = true → (s.flow f).hasToken (s.now + dt) = true →
    s.flowBars f (.block b) = false → (s.flow f).state = .opened → (s.flow f).cls = 3 → (s.flow f).lateReset = false →
    exec (.streamBlockComplete dt f) s = .next ((s.advance dt).setFlow f { s.flow f with
      filling := r, seq := ((s.flow f).seq + 1) % 2 ^ 32, tokens := (s.flow f).level (s.now + dt) - 1000000000, tokenAt := s.now + dt,
      items := (s.flow f).items ++ [⟨(s.flow f).seq, .block b, s.now + dt + classDeadline 3, false, false, false, .queued, none⟩] })) ∧
  (∀ (s : State) (dt : Nat) (f : Fin 256) (b : Block), (s.flow f).filling = [b] → (s.flow f).stream = true →
    ((s.flow f).size - 64) / 4 ≤ b.words.length → s.mode .wave = false →
    exec (.streamBlockComplete dt f) s = .next ((s.advance dt).setFlow f { s.flow f with
      filling := [], gapWords := (s.flow f).gapWords + b.gapWords + b.words.length }))

/-- ITEM_WRITE_DUE (R211, R228, R250): with no candidate nothing happens; when the candidate that goes first is a new item of an OPEN flow that can
issue and has at least RESERVE free entries, its bytes go out at FLW_TAIL, FLW_TAIL advances by one and the item counts as written, while every
other flow, the commands and the recorder stay; when that flow cannot issue or has no free entry, it stalls, its new items wait in the backlog and
record 0x0020 names the first. FLUSHING_READ_ISSUE (R210, R255): with a written item of the function and the function able to issue, a zero-length
read of the last written address goes out, and every item written so far is behind it. FLUSHING_READ_COMPLETION (R210): the oldest read returns and
the items it covers are delivered, flow by flow, and, through PF0, the answers it covers; delivered items leave their flow and count as unannounced;
with no read out nothing happens. FLUSH_READ_TIMEOUT (R268): a read that is out is issued again, counts in FLUSH_RETRY and sets the timeout bit of
GLB_ERR and the cause bit UNCORR. -/
def Obligations.WritesAndFlushingReads : Prop :=
  (∀ (s : State) (dt : Nat), bestCand (candidates s) = none → exec (.itemWriteDue dt) s = .next (s.advance dt)) ∧
  (∀ (s : State) (dt : Nat) (c : Cand), bestCand (candidates s) = some c → s.canIssue (s.flow c.flow).pf = true →
    (s.flow c.flow).state = .opened → c.item.entry = none → 0 < (s.flow c.flow).freeEntries →
    (s.flow c.flow).reserve ≤ (s.flow c.flow).freeEntries →
    Completes (.itemWriteDue dt) s fun t => t.now = s.now + dt ∧
      t.host.bus = s.host.bus ++ itemWrites (s.flow c.flow) c.flow (s.flow c.flow).tail c.item ∧
      t.flow c.flow = { s.flow c.flow with
        tail := ((s.flow c.flow).tail + 1) % 2 ^ 32
        items := (s.flow c.flow).items.map fun j => if j.seq = c.item.seq then
          { j with stage := .written, entry := some (s.flow c.flow).tail, backlog := false } else j } ∧
      (∀ g, g ≠ c.flow → t.flow g = s.flow g) ∧ t.cp = s.cp ∧ t.rcd = s.rcd) ∧
  (∀ (s : State) (dt : Nat) (c : Cand), bestCand (candidates s) = some c → c.item.entry = none → (s.flow c.flow).state = .opened →
    (s.flow c.flow).closing = none → s.canIssue (s.flow c.flow).pf = false ∨ (s.flow c.flow).freeEntries = 0 →
    exec (.itemWriteDue dt) s = .next (note 0x0020 c.flow
      (le 4 ((((s.flow c.flow).items.filter fun i => i.unwritten && i.entry.isNone).head?.map (·.seq)).getD (s.flow c.flow).seq))
      ((s.advance dt).setFlow c.flow { s.flow c.flow with
        state := .stalled, stallSeen := true, stallLost := 0
        waited := ((s.flow c.flow).items.filter fun i => i.unwritten && i.entry.isNone).length
        items := (s.flow c.flow).items.map fun i => if i.unwritten && i.entry.isNone then { i with backlog := true } else i }))) ∧
  (∀ (s : State) (dt : Nat), (s.flows.any fun e => e.2.pf == 0 && e.2.items.any (·.stage = .written)) = true → s.canIssue 0 = true →
    Completes (.flushingReadIssue dt 0) s fun t => t.now = s.now + dt ∧ t.host.flushNext = s.host.flushNext + 1 ∧
      t.host.flush0 = s.host.flush0 ++ [s.host.flushNext] ∧ t.host.flush1 = s.host.flush1 ∧
      t.host.bus = s.host.bus ++ [.flush 0 s.host.lastAddr.1] ∧
      ∀ e ∈ t.flows, e.2.pf = 0 → ∀ i ∈ e.2.items, i.stage ≠ .written) ∧
  (∀ (s : State) (dt : Nat), (s.flows.any fun e => e.2.pf == 1 && e.2.items.any (·.stage = .written)) = true → s.canIssue 1 = true →
    Completes (.flushingReadIssue dt 1) s fun t => t.now = s.now + dt ∧ t.host.flushNext = s.host.flushNext + 1 ∧
      t.host.flush1 = s.host.flush1 ++ [s.host.flushNext] ∧ t.host.flush0 = s.host.flush0 ∧
      t.host.bus = s.host.bus ++ [.flush 1 s.host.lastAddr.2] ∧
      ∀ e ∈ t.flows, e.2.pf = 1 → ∀ i ∈ e.2.items, i.stage ≠ .written) ∧
  (∀ (s : State) (dt n : Nat) (r : List Nat), s.host.flush0 = n :: r →
    exec (.flushingReadCompletion dt 0) s = .next (answersDelivered n (s.flowNumbers.foldl
      (fun t f => if (t.flow f).pf = 0 then deliver f (·.stage.flushedBy n) t else t) { s.advance dt with host := { s.host with flush0 := r } }))) ∧
  (∀ (s : State) (dt n : Nat) (r : List Nat), s.host.flush1 = n :: r →
    exec (.flushingReadCompletion dt 1) s = .next (s.flowNumbers.foldl
      (fun t f => if (t.flow f).pf = 1 then deliver f (·.stage.flushedBy n) t else t) { s.advance dt with host := { s.host with flush1 := r } })) ∧
  (∀ (s : State) (dt : Nat), s.host.flush1 = [] → exec (.flushingReadCompletion dt 1) s = .next (s.advance dt)) ∧
  (∀ (s : State) (f : Nat) (p : Item → Bool), (s.flow f).closing = none →
    ((deliver f p s).flow f).items = (s.flow f).items.filter (fun i => !p i) ∧
    ((deliver f p s).flow f).unannounced = (s.flow f).unannounced + ((s.flow f).items.filter p).length) ∧
  (∀ (s : State) (dt : Nat), s.host.flush0 ≠ [] → Completes (.flushReadTimeout dt 0) s fun t => t.now = s.now + dt ∧
      t.host.flushRetry = min 65535 (s.host.flushRetry + 1) ∧ t.host.err.getLsbD 1 = true ∧ t.host.irq.getLsbD 5 = true ∧
      t.host.flush0 = s.host.flush0 ∧ t.host.bus.getLast? = some (.flush 0 s.host.lastAddr.1)) ∧
  (∀ (s : State) (dt : Nat), s.host.flush1 ≠ [] → Completes (.flushReadTimeout dt 1) s fun t => t.now = s.now + dt ∧
      t.host.flushRetry = min 65535 (s.host.flushRetry + 1) ∧ t.host.err.getLsbD 1 = true ∧ t.host.irq.getLsbD 5 = true ∧
      t.host.flush1 = s.host.flush1 ∧ t.host.bus.getLast? = some (.flush 1 s.host.lastAddr.2))

/-- The write order of R211: the candidate picked is one of the candidates, and none of them goes before it. -/
def Obligations.WriteOrderIsByDeadline : Prop :=
  (∀ (l : List Cand) (c : Cand), bestCand l = some c → c ∈ l ∧ ∀ d ∈ l, d.before c = false) ∧
  (∀ (l : List Cand), bestCand l = none → l = []) ∧
  (∀ a b : Cand, a.before b = true ↔ (a.drain = false ∧ b.drain = true) ∨ (a.drain = b.drain ∧
    (a.deadline < b.deadline ∨ (a.deadline = b.deadline ∧ (a.cls < b.cls ∨ (a.cls = b.cls ∧ a.flow < b.flow))))))

/-- FLOW_OPEN and STREAM_OPEN (R212, R215, R216, R218, R222): with parameters in range, a closed flow and a window of at least 8 µs left, the flow
opens with those parameters, a full token bucket and the window that the ring path leaves, exactly when no admission test of R215 and R217 fails;
when one fails, the reply is ADMISSION with that test and nothing opens. A stream may be of a channel here or at a peer. -/
def Obligations.OpeningFlows : Prop :=
  (∀ (s : State) (dt : Nat) (c : Cmd) (env : Env) (p : Nat) (x : Flow), s.Ready .flowOpen dt c →
    Clean c [(32, 2), (35, 1), (36, 4), (40, 2), (44, 3), (48, 8), (56, 4)] 0 → c.u8 35 ≤ 3 → c.u8 32 ≠ 0 → c.u8 33 ≤ 2 →
    0 < c.u32 36 → c.u32 36 ≤ 1000000 → 0 < c.u16 40 → c.u16 40 ≤ 4096 → 0 < c.u16 44 → c.u16 44 ≤ 32768 → 6 ≤ c.u8 46 → c.u8 46 ≤ 16 →
    (s.flow (c.u8 32)).state = .closed → c.u16 40 ≤ c.u16 44 → c.u16 44 + c.u16 40 ≤ 2 ^ c.u8 46 → c.u64 48 % 4096 = 0 →
    p = (if c.u32 56 = 0 then 0 else (s.entered .flowOpen dt c).originDelay (c.u32 56) (decide (2 ≤ c.u8 35))) →
    p + 8000 ≤ classWindow (c.u8 33) →
    x = { closedFlow (s.flow (c.u8 32)) with
      state := .opened, cls := c.u8 33, admitted := c.u8 33, replies := c.u8 35 % 2 = 1, breakSafe := decide (2 ≤ c.u8 35)
      burst := c.u16 40, rate := c.u32 36, reserve := c.u16 44, size := 64, qlog2 := c.u8 46, qbase := c.u64 48
      window := 1000 * (classWindow (c.u8 33) - p), origin := c.u32 56 } →
    (admissionFailure (s.entered .flowOpen dt c) x = none →
      Answers s (.flowOpen dt c env) stOk [] ((s.entered .flowOpen dt c).setFlow (c.u8 32) (x.opened (s.now + dt)))) ∧
    (∀ r, admissionFailure (s.entered .flowOpen dt c) x = some r →
      Answers s (.flowOpen dt c env) stAdmission r.payload (s.entered .flowOpen dt c))) ∧
  (∀ (s : State) (dt : Nat) (c : Cmd) (env : Env) (p : Nat) (x : Flow), s.Ready .streamOpen dt c →
    Clean c [(32, 3), (36, 3), (40, 8), (48, 2)] 0 → c.u8 32 ≠ 0 → c.u8 33 ≤ 32 → c.u8 34 ≤ 63 → 256 ≤ c.u16 36 → c.u16 36 ≤ 4096 →
    c.u16 36 % 64 = 0 → 4 ≤ c.u8 38 → c.u8 38 ≤ 12 → (s.flow (c.u8 32)).state = .closed → 2 ≤ c.u16 48 → c.u16 48 + 2 ≤ 2 ^ c.u8 38 →
    c.u64 40 % 4096 = 0 → 0 < waveRate (s.waveOf (c.u8 33) (c.u8 34)) →
    p = (if c.u8 33 = 0 ∨ c.u8 33 = s.nodeNo then 0 else (s.entered .streamOpen dt c).originPath (c.u8 33) false +
      sumNat ((s.hopsFrom (c.u8 33) (s.dirFrom (c.u8 33))).map fun l => 10000 + 5 * l)) → p + 8000 ≤ classWindow 3 →
    x = { closedFlow (s.flow (c.u8 32)) with
      state := .opened, cls := 3, admitted := 3, stream := true, burst := 2
      rate := (waveRate (s.waveOf (c.u8 33) (c.u8 34)) * 4 + (c.u16 36 - 64) - 1) / (c.u16 36 - 64), reserve := c.u16 48, size := c.u16 36
      qlog2 := c.u8 38, qbase := c.u64 40, window := 1000 * (classWindow 3 - p), node := c.u8 33, chan := c.u8 34 } →
    (admissionFailure (s.entered .streamOpen dt c) x = none →
      Answers s (.streamOpen dt c env) stOk [] ((s.entered .streamOpen dt c).setFlow (c.u8 32) (x.opened (s.now + dt)))) ∧
    (∀ r, admissionFailure (s.entered .streamOpen dt c) x = some r →
      Answers s (.streamOpen dt c env) stAdmission r.payload (s.entered .streamOpen dt c)))

/-- FLOW_CLOSE (R235, R236): a record flow with nothing to deliver closes at once; an OPEN one with items goes on until they are delivered; a
stalled, draining or held one discards its items, closes, and answers their number and first and last SEQ, which record 0x0029 repeats.
STREAM_CLOSE: a stream with no block in core and nothing to deliver closes at once. FLOW_READ (R235) answers the flow's state, counters and window,
and BUDGET_READ (R237) the demand and capacity of the tests of R215 at the window of a class, the ring shares, the width and the journal slots in
use. -/
def Obligations.ClosingAndReadingFlows : Prop :=
  (∀ (s : State) (dt : Nat) (c : Cmd) (env : Env), s.Ready .flowClose dt c → Clean c [(32, 1)] 0 → c.u8 32 ≠ 0 → (s.flow (c.u8 32)).state ≠ .closed →
    (s.flow (c.u8 32)).stream = false → (s.flow (c.u8 32)).closing = none →
    (s.alm.points.any fun p => p.2.flow == c.u8 32) = false →
    ((s.flow (c.u8 32)).items = [] → Answers s (.flowClose dt c env) stOk (zeros 12)
      ((s.entered .flowClose dt c).setFlow (c.u8 32) (closedFlow (s.flow (c.u8 32))))) ∧
    ((s.flow (c.u8 32)).items ≠ [] → (s.flow (c.u8 32)).state = .opened →
      StaysOpen s (.flowClose dt c env) (s.entryOf .flowClose dt c) [c.u8 32]
        ((s.entered .flowClose dt c).setFlow (c.u8 32) { s.flow (c.u8 32) with closing := some s.cp.nextId }))) ∧
  (∀ (s : State) (dt : Nat) (c : Cmd) (env : Env) (i j : Item) (r : List Item), s.Ready .flowClose dt c → Clean c [(32, 1)] 0 → c.u8 32 ≠ 0 →
    (s.flow (c.u8 32)).state = .stalled ∨ (s.flow (c.u8 32)).state = .draining ∨ (s.flow (c.u8 32)).state = .held →
    (s.flow (c.u8 32)).stream = false → (s.flow (c.u8 32)).closing = none → (s.flow (c.u8 32)).items = i :: r → (i :: r).getLast? = some j →
    (s.alm.points.any fun p => p.2.flow == c.u8 32) = false →
    Answers s (.flowClose dt c env) stOk (le 4 (r.length + 1) ++ le 4 i.seq ++ le 4 j.seq)
      (note 0x0029 (c.u8 32) (le 4 (r.length + 1) ++ le 4 i.seq ++ le 4 j.seq)
        ((s.entered .flowClose dt c).setFlow (c.u8 32) (closedFlow (s.flow (c.u8 32)))))) ∧
  (∀ (s : State) (dt : Nat) (c : Cmd) (env : Env), s.Ready .streamClose dt c → Clean c [(32, 1)] 0 → c.u8 32 ≠ 0 → (s.flow (c.u8 32)).state ≠ .closed →
    (s.flow (c.u8 32)).stream = true → (s.flow (c.u8 32)).closing = none → (s.flow (c.u8 32)).filling = [] → (s.flow (c.u8 32)).items = [] →
    Answers s (.streamClose dt c env) stOk (zeros 12) ((s.entered .streamClose dt c).setFlow (c.u8 32) (closedFlow (s.flow (c.u8 32))))) ∧
  (∀ (s : State) (dt : Nat) (c : Cmd) (env : Env), s.Ready .flowRead dt c → Clean c [(32, 1)] 0 →
    Answers s (.flowRead dt c env) stOk
      (le 1 (s.flow (c.u8 32)).state.num ++ le 1 (s.flow (c.u8 32)).cls ++ le 1 (s.flow (c.u8 32)).admitted ++
        le 1 (bit (s.flow (c.u8 32)).demoted 0 + bit (s.flow (c.u8 32)).suspended 1 + bit (s.flow (c.u8 32)).low 2 +
          bit (s.flow (c.u8 32)).lateReset 3) ++ le 4 (s.flow (c.u8 32)).seq ++ le 4 (s.flow (c.u8 32)).backlog.length ++
        le 4 (s.flow (c.u8 32)).lost ++ le 4 (s.flow (c.u8 32)).refTotal ++ le 4 ((s.flow (c.u8 32)).window / 1000))
      (s.entered .flowRead dt c)) ∧
  (∀ (s : State) (dt : Nat) (c : Cmd) (env : Env) (sh : (Nat → Rat) → List Byte), s.Ready .budgetRead dt c → Clean c [(32, 1)] 0 → c.u8 32 ≤ 3 →
    (sh = fun f => if s.onRing then le 2 (shareUp (f 0)) ++ le 2 (shareUp (f 1)) else zeros 4) →
    Answers s (.budgetRead dt c env) stOk
      (le 4 (sat32 ((demandOf (costMax s.openFlows) (classWindow (c.u8 32)) (s.testFlows.filter (!·.stream)) + 999999999) / 1000000000)) ++
        le 4 (500000000 * classWindow (c.u8 32) / 1000000000) ++
        le 4 (sat32 ((demandOf (costMax s.openFlows) (classWindow (c.u8 32)) s.testFlows + 999999999) / 1000000000)) ++
        le 4 (capacityOf s.eff * classWindow (c.u8 32) / 1000000000) ++
        le 4 (sat32 ((slotsOf (s.testFlows.filter (!·.stream)) + 999999999) / 1000000000)) ++
        sh (s.sShare s.testFlows) ++ sh (s.totalShare s.testFlows [] s.mirrorNow) ++ le 1 s.eff ++ zeros 3 ++
        le 4 s.journalSlots) (s.entered .budgetRead dt c))

/-- COMMAND_FETCH (R259, R260, R262, R282, R288, R290 to R293): a ring whose turn it is not is left alone; else the slot at HEAD is read, HEAD
advances by one modulo 65,536 and the turn passes on. A packet accepted becomes a command in execution with the next fetch order: one for this node
waits for its start, with a window entry when TOKEN is not 0, and an authenticated one under a session key advances the session’s counter; one for a
member of the ring is handed to it. A reissue whose original is final is answered DUPLICATE with its status and PAYLOAD. A refused packet is
answered on its reply flow, or on F0 where that flow takes no replies or the check says so. A failed read sets FETCH_ERR and its cause bit and
enters nothing. The order of the fetch checks (R282, R280, R291): the format first; then another session’s packet (0x67); then an opcode none of
R299's (BAD_OPCODE); then one for more than 10 s ahead (0x69); in SEALED one whose session lacks the right its opcode needs (NOT_AUTHORISED 0x66);
then one its lifecycle state does not allow. A packet for this node is accepted when it passes all: format, session and opcode right, due within 10
s, let through by rights, duplicate window and lifecycle, with a token on its reply flow, and session, node and jobs within their limits.
FORWARD_ANSWER_RECEIVE (R293, R294): the answer of the target to a forwarded command is its final reply, code and PAYLOAD; ACCEPTED is passed on and
the final answer is awaited within the job's limit; an answer to a command no longer forwarded is discarded. FORWARD_NO_ANSWER (R294): 4 ms after
the bound, or after the limit of an accepted job, the command ends FAILED_REMOTE NO_ANSWER; before that, or with no such command forwarded, nothing
happens. DUP_WINDOW_EXPIRY (R290): the entries of that TOKEN that are final and past their keep time leave the window, and nothing else of commands,
flows and host port changes. -/
def Obligations.FetchAndForwarding : Prop :=
  (∀ (s : State) (dt : Nat) (n : Fin 64) (op : BitVec 16) (c : Cmd) (err : Option (Fin 3)), s.nextRing ≠ some n.val →
    exec (.commandFetch dt n op c err) s = .next (s.advance dt)) ∧
  (∀ (s : State) (dt : Nat) (n : Fin 64), ((s.slotRead dt n).ring n).head = ((s.ring n).head + 1) % 65536 ∧ (s.slotRead dt n).cp.turn = n ∧
    (s.slotRead dt n).host.bus = s.host.bus ++
      [.fetch ((s.ring n).base + (s.ring n).head % 2 ^ (s.ring n).rlog2 * 2 ^ (s.ring n).slotLog2) (2 ^ (s.ring n).slotLog2)]) ∧
  (∀ (s : State) (dt : Nat) (n : Fin 64) (opcode : BitVec 16) (c d : Cmd) (op : Opc), s.nextRing = some n.val →
    fetchChecks n opcode.toNat c (s.slotRead dt n) = .accept op d → d.target = 0 →
    Completes (.commandFetch dt n opcode c none) s fun t => t.now = s.now + dt ∧ (t.ring n).head = ((s.ring n).head + 1) % 65536 ∧
      t.cp.turn = n ∧ t.cp.nextId = s.cp.nextId + 1 ∧ t.flows = s.flows ∧ t.rcd = s.rcd ∧ t.mod = s.mod ∧
      t.cp.exec = s.cp.exec ++ [
        { id := s.cp.nextId, op := op, c := d, cls := if d.cls = 255 then (opRow op).cls else d.cls, fetched := s.now + dt
          start := max (s.now + dt) d.notBefore, mark := 0, phase := .waiting, jobEnd := 0, fromMaster := none, work := [] }] ∧
      (t.session d.session).window = (if d.token = 0 then (s.session d.session).window
        else (if 1024 ≤ (s.session d.session).window.length then (s.session d.session).window.drop 1 else (s.session d.session).window) ++
          [{ token := d.token, digest := crc32c (packetBytes opcode.toNat d), cmd := s.cp.nextId, status := none, payload := []
             job := false, keep := 0, owed := [], isReset := op = .deviceReset }]) ∧
      (t.session d.session).lastCounter =
        if d.auth && (s.session d.session).key.isSome then d.counter else (s.session d.session).lastCounter) ∧
  (∀ (s : State) (dt : Nat) (n : Fin 64) (opcode : BitVec 16) (c d : Cmd) (op : Opc), s.nextRing = some n.val →
    fetchChecks n opcode.toNat c (s.slotRead dt n) = .accept op d → d.target ≠ 0 → s.rng.members.contains d.target = true →
    Completes (.commandFetch dt n opcode c none) s fun t => t.now = s.now + dt ∧ t.cp.nextId = s.cp.nextId + 1 ∧
      t.cp.fwdOut = s.cp.fwdOut ++ [(d.target, s.cp.nextId, opcode.toNat)] ∧ t.cp.exec = s.cp.exec ++ [
        { id := s.cp.nextId, op := op, c := d, cls := if d.cls = 255 then (opRow op).cls else d.cls, fetched := s.now + dt
          start := max (s.now + dt) d.notBefore, mark := 0, phase := .forwarded, jobEnd := 0, fromMaster := none, work := [] }]) ∧
  (∀ (s : State) (dt : Nat) (n : Fin 64) (opcode : BitVec 16) (c : Cmd) (d : DupEntry) (st : Nat), s.nextRing = some n.val →
    fetchChecks n opcode.toNat c (s.slotRead dt n) = .duplicate d → d.status = some st →
    exec (.commandFetch dt n opcode c none) s =
      .next (sendReply c (opcode.toNat / 256) (stDuplicate + 65536 * st) d.payload (s.slotRead dt n))) ∧
  (∀ (s : State) (dt : Nat) (n : Fin 64) (opcode : BitVec 16) (c : Cmd) (st : Nat) (p : List Byte), s.nextRing = some n.val →
    fetchChecks n opcode.toNat c (s.slotRead dt n) = .refuse st p false → (s.flow c.replyFlow).state ≠ .closed →
    (s.flow c.replyFlow).replies = true → exec (.commandFetch dt n opcode c none) s =
      .next (sendRefusal c.replyFlow c (opcode.toNat / 256) st p (s.slotRead dt n))) ∧
  (∀ (s : State) (dt : Nat) (n : Fin 64) (opcode : BitVec 16) (c : Cmd) (st : Nat) (p : List Byte) (onF0 : Bool), s.nextRing = some n.val →
    fetchChecks n opcode.toNat c (s.slotRead dt n) = .refuse st p onF0 →
    onF0 = true ∨ (s.flow c.replyFlow).state = .closed ∨ (s.flow c.replyFlow).replies = false →
    exec (.commandFetch dt n opcode c none) s = .next (sendRefusal 0 c (opcode.toNat / 256) st p (s.slotRead dt n))) ∧
  (∀ (s : State) (dt : Nat) (n : Fin 64) (opcode : BitVec 16) (c : Cmd) (cause : Fin 3), s.nextRing = some n.val →
    Completes (.commandFetch dt n opcode c (some cause)) s fun t => t.now = s.now + dt ∧ (t.ring n).fetchErr = true ∧
      (t.ring n).head = ((s.ring n).head + 1) % 65536 ∧ t.host.irq.getLsbD 3 = true ∧ t.cp.exec = s.cp.exec) ∧
  (∀ (s : State) (n op : Nat) (c : Cmd) (v : Verdict), checkFormat (s.ring n).slotLog2 op c = some v → fetchChecks n op c s = v) ∧
  (∀ (s : State) (n op : Nat) (c : Cmd), checkFormat (s.ring n).slotLog2 op c = none → c.session ≠ n →
    fetchChecks n op c s = .refuse stBadParam (le 2 0x67) false) ∧
  (∀ (s : State) (op : Nat) (c : Cmd), checkFormat (s.ring c.session).slotLog2 op c = none → opcOf op = none →
    fetchChecks c.session op c s = .refuse stBadOpcode [] false) ∧
  (∀ (s : State) (op : Nat) (o : Opc) (c : Cmd), checkFormat (s.ring c.session).slotLog2 op c = none → opcOf op = some o → c.target = 0 →
    s.now + 10000000000 < c.notBefore → fetchChecks c.session op c s = .refuse stBadParam (le 2 0x69) false) ∧
  (∀ (s : State) (op : Nat) (o : Opc) (c : Cmd), checkFormat (s.ring c.session).slotLog2 op c = none → opcOf op = some o → c.target = 0 →
    c.notBefore = 0 → s.mod.life = .sealed → s.sessionOpen c.session = true → (opRow o).right ≠ 0 →
    (s.sessionRights c.session).getLsbD ((opRow o).right - 1) = false → fetchChecks c.session op c s = .refuse stNotAuthorised (le 2 0x66) false) ∧
  (∀ (s : State) (op : Nat) (o : Opc) (c : Cmd), checkFormat (s.ring c.session).slotLog2 op c = none → opcOf op = some o → c.target = 0 →
    c.notBefore = 0 → checkRights o op c s = none → c.token = 0 → lifeAllows o s = false → fetchChecks c.session op c s = .refuse stLifecycle [] false) ∧
  (∀ (s : State) (op : Nat) (o : Opc) (c : Cmd), checkFormat (s.ring c.session).slotLog2 op c = none → opcOf op = some o → c.target = 0 →
    c.notBefore ≤ s.now + 10000000000 → checkRights o op c s = none → checkDuplicate op c s = none → lifeAllows o s = true →
    (s.flow c.replyFlow).state ≠ .closed → (s.flow c.replyFlow).replies = true → (s.flow c.replyFlow).hasToken s.now = true →
    s.inExec c.session < 15 → (s.cp.exec.filter (·.counts)).length < 255 → (opRow o).job = 0 ∨ s.jobs.length < 4 →
    fetchChecks c.session op c s = .accept o c) ∧
  (∀ (s : State) (dt id : Nat) (code : Word) (p : List Byte) (e : CmdEntry), s.cmd id = some e → e.phase = .forwarded → code.toNat ≠ stAccepted →
    exec (.forwardAnswerReceive dt id code p) s = .next (completeCmd id code.toNat (fitBytes 40 p) (s.advance dt))) ∧
  (∀ (s : State) (dt id : Nat) (p : List Byte) (e : CmdEntry), s.cmd id = some e → e.phase = .forwarded →
    exec (.forwardAnswerReceive dt id 1 p) s = .next (sendReply e.c ((opRow e.op).num / 256) stAccepted []
      ((s.advance dt).setCmd { e with work := [1], jobEnd := e.start + (opRow e.op).job }))) ∧
  (∀ (s : State) (dt id : Nat) (code : Word) (p : List Byte), (∀ e, s.cmd id = some e → e.phase ≠ .forwarded) →
    exec (.forwardAnswerReceive dt id code p) s = .next (s.advance dt)) ∧
  (∀ (s : State) (dt id : Nat) (e : CmdEntry), s.cmd id = some e → e.phase = .forwarded → e.work ≠ [1] →
    e.start + cmdBound e.op e.c s + 4000000 ≤ s.now + dt →
    exec (.forwardNoAnswer dt id) s = .next (completeCmd id stFailedRemote (le 2 0x6C ++ le 1 2) (s.advance dt))) ∧
  (∀ (s : State) (dt id : Nat) (e : CmdEntry), s.cmd id = some e → e.phase = .forwarded → e.work = [1] → e.jobEnd + 4000000 ≤ s.now + dt →
    exec (.forwardNoAnswer dt id) s = .next (completeCmd id stFailedRemote (le 2 0x6C ++ le 1 2) (s.advance dt))) ∧
  (∀ (s : State) (dt id : Nat), (∀ e, s.cmd id = some e → e.phase ≠ .forwarded ∨
      s.now + dt < (if e.work = [1] then e.jobEnd else e.start + cmdBound e.op e.c s) + 4000000) →
    exec (.forwardNoAnswer dt id) s = .next (s.advance dt)) ∧
  (∀ (s : State) (dt : Nat) (n : Fin 64) (token : Word), Completes (.dupWindowExpiry dt n token) s fun t => t.now = s.now + dt ∧
    (t.session n).window = (s.session n).window.filter (fun d => !(d.token == token.toNat && d.status.isSome && decide (d.keep ≤ s.now + dt))) ∧
    t.cp.exec = s.cp.exec ∧ t.flows = s.flows ∧ t.host = s.host)

/-- REGISTER_WRITE (R8, R244, R249): with Memory Space Enable clear no access reaches the node; a naturally aligned 32-bit request to an assigned
word writes that word; an aligned 64-bit request to two assigned words writes the low one and then the high one; a request of another size or
alignment, or to an unassigned word, sets BAD_ACCESS and writes nothing. Among the words: the cause register is write-1-to-clear (R269), the mask
register takes the mask when that raises nothing, a scratch word of the clock stores (R494), and the word of class RWS is taken while the registers
of that class are open and ignored after. REGISTER_64_LOW_READ (R249): with Memory Space Enable clear nothing is read; a 32-bit read of a 64-bit
register’s low half returns it and keeps the high half for the read that follows, which returns what was kept; a 64-bit read of an aligned 64-bit
register returns all of it; a misaligned read, one of another size and one of no register returns 0 with BAD_ACCESS. ACH_CH_RAW_READ (R79, R112),
ACH_OUT_RBI_READ (R118) and DCH_PIN_STATUS_READ (R165) return the channel’s code, the output’s current and the pin’s status and keep the words of
the same sample for the reads that follow; before the first sample the channel reads as no sample. -/
def Obligations.RegisterAccesses : Prop :=
  (∀ (s : State) (dt : Nat) (pf : Fin 3) (off size : Nat) (v : DWord), s.reaches pf = false →
    exec (.registerWrite dt pf off size v) s = .next (s.advance dt)) ∧
  (∀ (s : State) (dt : Nat) (pf : Fin 3) (off : Nat) (v : DWord), s.reaches pf = true → off % 4 = 0 → (s.advance dt).assigned pf off = true →
    exec (.registerWrite dt pf off 4 v) s = .next (writeWord pf off (v.extractLsb' 0 32) (s.advance dt))) ∧
  (∀ (s : State) (dt : Nat) (pf : Fin 3) (off : Nat) (v : DWord), s.reaches pf = true → off % 8 = 0 → (s.advance dt).assigned pf off = true →
    (s.advance dt).assigned pf (off + 4) = true → exec (.registerWrite dt pf off 8 v) s =
      .next (writeWord pf (off + 4) (v.extractLsb' 32 32) (writeWord pf off (v.extractLsb' 0 32) (s.advance dt)))) ∧
  (∀ (s : State) (dt : Nat) (pf : Fin 3) (off size : Nat) (v : DWord), s.reaches pf = true →
    (size ≠ 4 ∧ size ≠ 8) ∨ (s.advance dt).assigned pf off = false ∨ off % 4 ≠ 0 →
    exec (.registerWrite dt pf off size v) s = .next (badAccess (s.advance dt))) ∧
  (∀ (s : State) (w : Word), writeWord 0 0x0C w s = { s with host := { s.host with irq := s.host.irq &&& ~~~w.extractLsb' 0 7 } }) ∧
  (∀ (s : State) (w : Word), w.extractLsb' 0 7 &&& ~~~s.host.irqMask &&& s.host.irq = 0 →
    writeWord 0 0x10 w s = { s with host := { s.host with irqMask := w.extractLsb' 0 7 } }) ∧
  (∀ (s : State) (w : Word), writeWord 0 (0x50180) w s = { s with rtc := { s.rtc with scratch := tset 0 s.rtc.scratch 0 w } }) ∧
  (∀ (s : State) (w : Word), s.rwsOpen = true →
    writeWord 0 0xD0004 w s = { s with sec := { s.sec with ringErase := w.getLsbD 0, smbusWake := w.getLsbD 1 } }) ∧
  (∀ (s : State) (w : Word), s.rwsOpen = false → Completes (.registerWrite 0 0 0xD0004 4 (w.setWidth 64)) s fun t =>
    t.sec = s.sec ∧ t.mod = s.mod ∧ t.now = s.now) ∧
  (∀ (s : State) (dt : Nat) (pf : Fin 3) (off size : Nat), s.reaches pf = false → exec (.register64LowRead dt pf ⟨off, size⟩) s = .next (s.advance dt)) ∧
  (∀ (s : State) (dt : Nat) (pf : Fin 3) (off size : Nat), s.reaches pf = true → ¬ (size = 4 ∧ off % 4 = 0) → ¬ (size = 8 ∧ off % 8 = 0) →
    exec (.register64LowRead dt pf ⟨off, size⟩) s = .next ((badAccess (s.advance dt)).reads 0)) ∧
  (∀ (s : State) (dt : Nat) (pf : Fin 3) (off : Nat), s.reaches pf = true → off % 4 = 0 → (s.advance dt).regOf pf off = none →
    (s.advance dt).highHalf pf off = false → exec (.register64LowRead dt pf ⟨off, 4⟩) s = .next ((badAccess (s.advance dt)).reads 0)) ∧
  (∀ (s : State) (dt v : Nat) (pf : Fin 3) (off : Nat), s.reaches pf = true → off % 4 = 0 → pf.val ≠ 0 →
    (s.advance dt).regOf pf off = some (v, true) →
    exec (.register64LowRead dt pf ⟨off, 4⟩) s = .next { s.advance dt with host := { s.host with
      latch64 := (pf.val * 2 ^ 40 + off + 1, v / 2 ^ 32), readValue := v % 2 ^ 32 } }) ∧
  (∀ (s : State) (dt v : Nat) (pf : Fin 3) (off : Nat), s.reaches pf = true → off % 8 = 0 → (s.advance dt).assigned pf off = true →
    (s.advance dt).assigned pf (off + 4) = true → (s.advance dt).regOf pf off = some (v, true) →
    exec (.register64LowRead dt pf ⟨off, 8⟩) s = .next ((s.advance dt).reads v)) ∧
  (∀ (s : State) (dt h : Nat) (pf : Fin 3) (off : Nat), s.reaches pf = true → off % 4 = 0 → (s.advance dt).regOf pf off = none →
    (s.advance dt).highHalf pf off = true → s.host.latch64 = (pf.val * 2 ^ 40 + (off - 4) + 1, h) →
    exec (.register64LowRead dt pf ⟨off, 4⟩) s = .next ((s.advance dt).reads h)) ∧
  (∀ (s : State) (dt : Nat) (g : Fin 64) (m : Sample), s.reaches 0 = true → (s.chan g).last = some m → exec (.achChRawRead dt g) s =
    .next (((s.advance dt).setChan g { s.chan g with latch := some m }).reads m.raw.toNat)) ∧
  (∀ (s : State) (dt : Nat) (g : Fin 64), s.reaches 0 = true → (s.chan g).last = none → exec (.achChRawRead dt g) s =
    .next (((s.advance dt).setChan g { s.chan g with latch := some (noSample g) }).reads (noSample g).raw.toNat)) ∧
  (∀ (s : State) (dt : Nat) (g : Fin 64), s.reaches 0 = true → exec (.achOutRbiRead dt g) s =
    .next (((s.advance dt).setOut g { s.out g with rbvLatch := some (s.out g).rbv }).reads (s.out g).rbi.toNat)) ∧
  (∀ (s : State) (dt : Nat) (k : Fin 96), s.reaches 0 = true → exec (.dchPinStatusRead dt k) s =
    .next (((s.advance dt).setPin (64 + k.val) { s.pin (64 + k.val) with
      latch := some ((s.pin (64 + k.val)).count, (s.pin (64 + k.val)).freq, (s.pin (64 + k.val)).sqwNow, (s.pin (64 + k.val)).timeNow) }).reads
        (s.pin (64 + k.val)).status))

/-- The clock's registers. RTC_SUBSEC_READ and RTC_SNAP_WRITE latch the fields shown, SUBSEC and Node Time (R495). RTC_HALT_SET freezes the clock,
or is ignored with cause 2 while discipline is active (R496, R499). RTC_HALT_RELEASE loads a possible date with record 0x0903, and with an
impossible one sets IMP_DATE and resumes from the frozen time and the ticks of the halt (R496, R497). RTC_CALENDAR_WRITE writes the staged fields of
its word, or is ignored with cause 1 while the clock runs. RTC_SHIFT_WRITE stages a shift, or is ignored with causes 3 to 6 in that order (R499,
R500). RTC_SRC_RETRY begins the check of the primary crystal (R504). -/
def Obligations.ClockRegisters : Prop :=
  (∀ (s : State) (dt : Nat), s.reaches 0 = true → exec (.rtcSubsecRead dt) s = .next { s.advance dt with
    rtc := { s.rtc with snap := s.calShown, snapSub := (s.advance dt).subsec, snapNt := s.now + dt }
    host := { s.host with readValue := (s.advance dt).subsec } }) ∧
  (∀ (s : State) (dt : Nat) (w : Word), s.reaches 0 = true → exec (.rtcSnapWrite dt w) s = .next { s.advance dt with
    rtc := { s.rtc with snap := s.calShown, snapSub := (s.advance dt).subsec, snapNt := s.now + dt } }) ∧
  (∀ (s : State) (dt : Nat), s.reaches 0 = true → s.rtc.halted = none → exec (.rtcHaltSet dt) s = .next { s.advance dt with rtc :=
    if s.discActive then { s.rtc with wErr := true, wErrCause := 2 }
    else { s.rtc with halted := some (s.now + dt, (s.advance dt).subsec), staged := s.rtc.cal, haltElapsed := 0 } }) ∧
  (∀ (s : State) (dt t sub : Nat), s.reaches 0 = true → s.rtc.halted = some (t, sub) → s.rtc.staged.impossible = false →
    exec (.rtcHaltRelease dt) s = .next (timeRecord 0 (ticksOf (s.now + dt - t)) { s.advance dt with rtc := { s.rtc with
      cal := s.rtc.staged, sub0 := 0, subAt := s.now + dt, secAt := s.now + dt, halted := none, haltElapsed := ticksOf (s.now + dt - t)
      windowSecs := s.rtc.windowSecs + ticksOf (s.now + dt - t) / 32768 } })) ∧
  (∀ (s : State) (dt t sub : Nat), s.reaches 0 = true → s.rtc.halted = some (t, sub) → s.rtc.staged.impossible = true →
    Completes (.rtcHaltRelease dt) s fun u => u.now = s.now + dt ∧ u.rtc.impDate = true ∧ u.rtc.halted = none ∧
      u.rtc.haltElapsed = ticksOf (s.now + dt - t) ∧ u.rtc.sub0 = (sub + ticksOf (s.now + dt - t)) % 32768 ∧
      (sub + ticksOf (s.now + dt - t) < 32768 → u.rtc.cal = s.rtc.cal) ∧
      (32768 ≤ sub + ticksOf (s.now + dt - t) → sub + ticksOf (s.now + dt - t) < 65536 → s.rtc.leap = none → s.rtc.cal.sec ≠ 60 →
        u.rtc.cal = calOf (s.rtc.cal.secs + 1))) ∧
  (∀ (s : State) (dt : Nat) (date : Bool) (w : Word), s.reaches 0 = true → exec (.rtcCalendarWrite dt date w) s = .next { s.advance dt with rtc :=
    if s.rtc.halted = none then { s.rtc with wErr := true, wErrCause := 1 }
    else { s.rtc with staged := if date then { s.rtc.staged with
        day := (w.extractLsb' 0 5).toNat, month := (w.extractLsb' 8 4).toNat, year := (w.extractLsb' 16 9).toNat }
      else { s.rtc.staged with
        sec := (w.extractLsb' 0 6).toNat, min := (w.extractLsb' 8 6).toNat, hour := (w.extractLsb' 16 5).toNat } } }) ∧
  (∀ (s : State) (dt : Nat) (w : Word), s.reaches 0 = true → exec (.rtcShiftWrite dt w) s = .next { s.advance dt with rtc :=
    if s.rtc.halted ≠ none then { s.rtc with wErr := true, wErrCause := 3 }
    else if s.rtc.shift ≠ none then { s.rtc with wErr := true, wErrCause := 4 }
    else if s.discActive then { s.rtc with wErr := true, wErrCause := 5 }
    else if (w.extractLsb' 0 15).toNat = 0 ∨ 32735 < (w.extractLsb' 0 15).toNat then { s.rtc with wErr := true, wErrCause := 6 }
    else { s.rtc with shift := some ((w.extractLsb' 0 15).toNat, w.getLsbD 15, none) } }) ∧
  (∀ (s : State) (dt : Nat), s.reaches 0 = true →
    exec (.rtcSrcRetry dt) s = .next { s.advance dt with rtc := { s.rtc with retryAt := some (s.now + dt) } })

/-- The clock by itself. RTC_SECOND (R493, R494, R500, R507): the calendar moves on by one second and SUBSEC begins at the phase left over; a staged
shift takes effect with record 0x0903; at 23:59:59 of the month a positive leap is announced for, the label is second 60; while halted nothing
happens. RTC_HALT_TIMEOUT (R498): after 1 h the halt ends with HALT_ABORT, before that nothing happens. TRIM_WINDOW (R501, R506): after 64 seconds a
window ends and TRIM is what the curve and DISC give at the measured temperature, in VIGIL at every eighth window only; with discipline active and
the error within 61 µs, DISC first moves one step against the sum of the errors; before 64 seconds nothing happens. RTC_OSC_FAIL (R504): OSF is set
and the clock goes to the second crystal when that is enabled and runs, else to the internal oscillator, with record 0x0902. RTC_SRC_RETRY_END:
after 1 s the check ends with its result. The clock's commands (R508). CLOCK_READ latches the clock and answers it. CLOCK_SHIFT stages a shift and
stays open until the next second boundary, or answers CLOCK_HALTED (R500). CLOCK_ALARM_SET sets the value and mask of the alarm it names (R505).
LEAP_SET announces a leap second of the end of a month at least 2 s ahead, withdraws it, or sets the leap count (R507). TRIM_CURVE_LOAD goes back to
the delivered curve or takes 32 points in range with rising temperatures, and answers the curve's CRC (R503). The calendar is the Gregorian one of
R494: every date of 2000 to 2399 is the date of its own number of seconds, the calendar repeats after 400 years, and 1 January 2000 is a Saturday. -/
def Obligations.ClockTicksAndCommands : Prop :=
  (∀ (s : State) (dt : Nat), s.rtc.halted = none → s.rtc.step = false → s.rtc.leap = none → s.rtc.shift = none → s.rtc.retryOk = false →
    s.rtc.alm0.mask = 0 → s.rtc.alm1.mask = 0 → s.rtc.cal.sec ≠ 60 →
    exec (.rtcSecond dt) s = .next { s.advance dt with rtc := { s.rtc with
      cal := calOf (s.rtc.cal.secs + 1), sub0 := s.rtc.phase.toNat, subAt := s.now + dt, secAt := s.now + dt, phase := 0
      centuryWrap := s.rtc.centuryWrap || decide ((calOf (s.rtc.cal.secs + 1)).year < s.rtc.cal.year)
      windowSecs := s.rtc.windowSecs + 1, eSum := s.rtc.eSum + secondError (s.now + dt), eCount := s.rtc.eCount + 1 } }) ∧
  (∀ (s : State) (dt n : Nat) (sub : Bool), s.rtc.halted = none → s.rtc.step = false → s.rtc.leap = none → s.rtc.shift = some (n, sub, none) →
    s.rtc.retryOk = false → s.rtc.alm0.mask = 0 → s.rtc.alm1.mask = 0 → s.rtc.cal.sec ≠ 60 →
    exec (.rtcSecond dt) s = .next (timeRecord 4 (if sub then -(n : Int) else n) { s.advance dt with rtc := { s.rtc with
      cal := calOf (s.rtc.cal.secs + 1), sub0 := if sub then 0 else n, subAt := s.now + dt, secAt := s.now + dt, phase := 0, shift := none
      centuryWrap := s.rtc.centuryWrap || decide ((calOf (s.rtc.cal.secs + 1)).year < s.rtc.cal.year)
      windowSecs := s.rtc.windowSecs + 1, eSum := s.rtc.eSum + secondError (s.now + dt), eCount := s.rtc.eCount + 1 } })) ∧
  (∀ (s : State) (dt : Nat), s.rtc.halted = none → s.rtc.step = false → s.rtc.leap = some (s.rtc.cal.year, s.rtc.cal.month, 1) →
    s.rtc.shift = none → s.rtc.retryOk = false → s.rtc.alm0.mask = 0 → s.rtc.alm1.mask = 0 → s.rtc.cal.hour = 23 → s.rtc.cal.min = 59 →
    s.rtc.cal.sec = 59 → s.rtc.cal.day = monthDays s.rtc.cal.year s.rtc.cal.month →
    Completes (.rtcSecond dt) s fun t => t.now = s.now + dt ∧ t.rtc.cal = { s.rtc.cal with sec := 60 } ∧ t.rtc.leapSeen = true ∧
      t.rtc.leap = s.rtc.leap ∧ t.rng = s.rng) ∧
  (∀ (s : State) (dt : Nat), s.rtc.halted ≠ none → exec (.rtcSecond dt) s = .next (s.advance dt)) ∧
  (∀ (s : State) (dt t sub : Nat), s.rtc.halted = some (t, sub) → t + 3600000000000 ≤ s.now + dt →
    Completes (.rtcHaltTimeout dt) s fun u => u.now = s.now + dt ∧ u.rtc.hAbort = true ∧ u.rtc.halted = none ∧
      u.rtc.haltElapsed = ticksOf (s.now + dt - t)) ∧
  (∀ (s : State) (dt t sub : Nat), s.rtc.halted = some (t, sub) → s.now + dt < t + 3600000000000 →
    exec (.rtcHaltTimeout dt) s = .next (s.advance dt)) ∧
  (∀ (s : State) (dt : Nat) (temp : Int), 64 ≤ s.rtc.windowSecs → s.pwr.state ≠ .vigil → s.discActive = false →
    exec (.trimWindow dt temp) s = .next { s.advance dt with rtc := { s.rtc with
      temp := temp, windows := s.rtc.windows + 1, windowSecs := 0, eSum := 0, eCount := 0, leapSeen := false
      trim := trimOf (curveAt temp s.curve) s.rtc.disc } }) ∧
  (∀ (s : State) (dt : Nat) (temp : Int), 64 ≤ s.rtc.windowSecs → s.pwr.state = .vigil → s.discActive = false → (s.rtc.windows + 1) % 8 ≠ 0 →
    exec (.trimWindow dt temp) s = .next { s.advance dt with rtc := { s.rtc with
      windows := s.rtc.windows + 1, windowSecs := 0, eSum := 0, eCount := 0, leapSeen := false } }) ∧
  (∀ (s : State) (dt : Nat) (temp : Int), 64 ≤ s.rtc.windowSecs → s.pwr.state ≠ .vigil → s.discActive = true → s.rtc.leapSeen = false →
    s.rtc.eCount ≠ 0 → s.rtc.cal = calOf (s.utcOf (nearestSecond s.rtc.secAt)) → (secondError s.rtc.secAt).natAbs ≤ 61000 →
    exec (.trimWindow dt temp) s = .next { s.advance dt with rtc := { s.rtc with
      temp := temp, windows := s.rtc.windows + 1, windowSecs := 0, eSum := 0, eCount := 0
      disc := clampInt (-41) 41 (s.rtc.disc - s.rtc.eSum.sign)
      trim := trimOf (curveAt temp s.curve) (clampInt (-41) 41 (s.rtc.disc - s.rtc.eSum.sign)) } }) ∧
  (∀ (s : State) (dt : Nat) (temp : Int), s.rtc.windowSecs < 64 → exec (.trimWindow dt temp) s = .next (s.advance dt)) ∧
  (∀ (s : State) (dt : Nat) (xtal2 : Bool), s.rtc.src < 2 → s.coreOn = true → exec (.rtcOscFail dt xtal2) s = .next (
    note 0x0902 0 (le 1 (if s.rtc.xtal2En && xtal2 && s.rtc.src == 0 then 1 else 2) ++ le 1 s.rtc.src ++ le 1 1)
      { s.advance dt with rtc := { s.rtc with osf := true, src := if s.rtc.xtal2En && xtal2 && s.rtc.src == 0 then 1 else 2 } })) ∧
  (∀ (s : State) (dt t : Nat) (ok : Bool), s.rtc.retryAt = some t → exec (.rtcSrcRetryEnd dt ok) s = .next (
    if s.now + dt < t + 1000000000 then s.advance dt
    else { s.advance dt with rtc := { s.rtc with retryAt := none, retryOk := ok && s.rtc.src ≠ 0 } })) ∧
  (∀ (s : State) (dt : Nat) (c : Cmd) (env : Env) (u : State), s.Ready .clockRead dt c → Clean c [] 0 → u = latchClock (s.entered .clockRead dt c) →
    Answers s (.clockRead dt c env) stOk (le 4 s.calShown.timeWord ++ le 4 s.calShown.dateWord ++ le 2 (s.advance dt).subsec ++ zeros 2 ++
      le 4 u.rtcStatus ++ le 8 (s.now + dt) ++ le 4 u.rtcTrim) u) ∧
  (∀ (s : State) (dt : Nat) (c : Cmd) (env : Env), s.Ready .clockShift dt c → Clean c [(32, 2)] 0 → c.u16 32 % 32768 ≠ 0 → c.u16 32 % 32768 ≤ 32735 → s.rtc.halted = none →
    s.rtc.shift = none → s.discActive = false →
    StaysOpen s (.clockShift dt c env) (s.entryOf .clockShift dt c) [] { s.entered .clockShift dt c with
      rtc := { s.rtc with shift := some (c.u16 32 % 32768, decide (32768 ≤ c.u16 32), some s.cp.nextId) } }) ∧
  (∀ (s : State) (dt : Nat) (c : Cmd) (env : Env), s.Ready .clockShift dt c → Clean c [(32, 2)] 0 → c.u16 32 % 32768 ≠ 0 → c.u16 32 % 32768 ≤ 32735 → s.rtc.halted ≠ none →
    Answers s (.clockShift dt c env) stClockHalted [] (s.entered .clockShift dt c)) ∧
  (∀ (s : State) (dt : Nat) (c : Cmd) (env : Env), s.Ready .clockAlarmSet dt c → Clean c [(32, 1), (36, 8)] 0 → c.u32 36 < 2 ^ 29 → c.u32 40 < 128 → c.u8 32 ≤ 1 →
    Answers s (.clockAlarmSet dt c env) stOk [] { s.entered .clockAlarmSet dt c with
      rtc := if c.u8 32 = 0 then { s.rtc with alm0 := ⟨BitVec.ofNat 32 (c.u32 36), BitVec.ofNat 32 (c.u32 40)⟩ }
        else { s.rtc with alm1 := ⟨BitVec.ofNat 32 (c.u32 36), BitVec.ofNat 32 (c.u32 40)⟩ } }) ∧
  (∀ (s : State) (dt : Nat) (c : Cmd) (env : Env), s.Ready .leapSet dt c → Clean c [(32, 5), (40, 2)] 0 → s.rtc.halted = none →
    (c.u8 32 = 1 → Answers s (.leapSet dt c env) stOk [] { s.entered .leapSet dt c with rtc := { s.rtc with leap := none } }) ∧
    (c.u8 32 = 2 → s.rtc.leap = none → Answers s (.leapSet dt c env) stOk [] { s.entered .leapSet dt c with
      rng := { s.rng with leap := leInt c.inl 8 2 } }) ∧
    (c.u8 32 = 0 → c.u8 33 = 1 ∨ c.u8 33 = 255 → 2000 ≤ c.u16 34 → c.u16 34 ≤ 2399 → 1 ≤ c.u8 36 → c.u8 36 ≤ 12 → s.rtc.leap = none →
      (max (s.now + dt) c.notBefore : Int) + 2000000000 ≤ (((monthEnd (c.u16 34 - 2000) (c.u8 36) : Nat) : Int) + s.rng.leap) * 1000000000 →
      Answers s (.leapSet dt c env) stOk [] { s.entered .leapSet dt c with rtc := { s.rtc with leap := some (c.u16 34 - 2000, c.u8 36, if c.u8 33 = 1 then 1 else 2) } })) ∧
  (∀ (s : State) (dt : Nat) (c : Cmd) (env : Env), s.Ready .trimCurveLoad dt c → c.restZero [] = true →
    (c.paramLen = 0 → Answers s (.trimCurveLoad dt c env) stOk (le 4 (crc32c (curveBytes Config.factoryCurve)))
      { s.entered .trimCurveLoad dt c with rtc := { s.rtc with curve := none } }) ∧
    (c.paramLen = 128 → (∀ p ∈ curvePoints c.ext, -550 ≤ p.1 ∧ p.1 ≤ 1250 ∧ -6000 ≤ p.2 ∧ p.2 ≤ 6000) →
      rising ((curvePoints c.ext).map Prod.fst) = true → Answers s (.trimCurveLoad dt c env) stOk (le 4 (crc32c (fitBytes 128 c.ext)))
        { s.entered .trimCurveLoad dt c with rtc := { s.rtc with curve := some (curvePoints c.ext) } })) ∧
  (∀ c : Cal7, c.impossible = false → calOf c.secs = c) ∧
  (∀ n : Nat, (calOf n).impossible = false ∧ (calOf n).secs = n % (86400 * 146097)) ∧
  (∀ n : Nat, calOf (n + 86400 * 146097) = calOf n) ∧
  (∀ n : Nat, (calOf n).wday = (n / 86400 + 5) % 7 + 1) ∧
  (∀ y : Nat, isLeap y = true ↔ (4 ∣ y ∧ (¬ 100 ∣ y ∨ 400 ∣ y)))

/-- SESSION_OPEN (R300, R551, R552): an attempt whose grant does not hold is refused and draws a new SEC_SES_NONCE; under a grant that holds the
session opens with its rights, expiry and a counter of 0, a nonce is drawn, and the command stays open until the answer written to host memory is
delivered. SESSION_CLOSE (R281, R301) closes the session with record 0x0A21; SESSION_READ (R302) and ECHO (R303) answer what they name;
SESSION_GRANT_EXPIRY (R301) closes an open session at its NOT_AFTER and does nothing before. -/
def Obligations.Sessions : Prop :=
  (∀ (s : State) (dt : Nat) (c : Cmd) (env : Env) (x : List Byte) (n : Nat), s.Ready .sessionOpen dt c → x = fitBytes 480 c.ext → n = c.u8 32 →
    Clean c [(32, 1), (40, 8)] 480 → c.paramLen = 480 → zeroAt x [(97, 31), (131, 1), (156, 4), (257, 31)] = true → c.u64 40 % 64 = 0 →
    leAt x 128 2 = 1 → byteAt x 130 ≤ 15 → n ≤ 63 → s.sessionOpen n = false →
    (grantOk (s.entered .sessionOpen dt c) n x = false →
      Answers s (.sessionOpen dt c env) stNotAuthorised (le 2 0x6F) (drawNonce (s.entered .sessionOpen dt c))) ∧
    (grantOk (s.entered .sessionOpen dt c) n x = true → Completes (.sessionOpen dt c env) s fun t =>
      (t.session n).opened = true ∧ (t.session n).rights = BitVec.ofNat 4 (byteAt x 130) ∧ (t.session n).notAfter = leAt x 140 8 ∧
      (t.session n).lastCounter = 0 ∧ t.sec.nonce = Config.freeNat s.fresh % 2 ^ 64 ∧ t.mod = s.mod ∧
      t.host.answers.length = s.host.answers.length + 1 ∧ (t.host.answers.getLast?.map fun a => (a.cmd, a.addr)) = some (s.cp.nextId, c.u64 40))) ∧
  (∀ (s : State) (dt : Nat) (c : Cmd) (env : Env), s.Ready .sessionClose dt c → Clean c [(32, 1)] 0 → c.u8 32 ≤ 63 → c.u8 32 ≠ 0 → s.sessionOpen (c.u8 32) = true →
    c.u8 32 = c.session ∨ (s.sessionRights c.session).getLsbD 3 = true →
    Answers s (.sessionClose dt c env) stOk [] (note 0x0A21 (c.u8 32) (le 1 0) ((s.entered .sessionClose dt c).setSession (c.u8 32) {}))) ∧
  (∀ (s : State) (dt : Nat) (c : Cmd) (env : Env) (u : State), s.Ready .sessionRead dt c → Clean c [(32, 1)] 0 → c.u8 32 ≤ 63 → u = s.entered .sessionRead dt c →
    Answers s (.sessionRead dt c env) stOk (le 1 (bit (s.sessionOpen (c.u8 32)) 0) ++ le 1 (s.sessionRights (c.u8 32)).toNat ++
      le 1 (min 255 (u.inExec (c.u8 32))) ++ le 1 (u.jobs.filter fun j => j.c.session == c.u8 32).length ++
      le 8 (s.session (c.u8 32)).notAfter ++ le 8 (s.session (c.u8 32)).lastCounter ++ le 4 (s.session (c.u8 32)).window.length) u) ∧
  (∀ (s : State) (dt : Nat) (n : Fin 64), n.val ≠ 0 → (s.session n).opened = true → (s.session n).notAfter ≤ s.now + dt →
    exec (.sessionGrantExpiry dt n) s = .next (note 0x0A21 n (le 1 1) ((s.advance dt).setSession n {}))) ∧
  (∀ (s : State) (dt : Nat) (n : Fin 64), n.val = 0 ∨ (s.session n).opened = false ∨ s.now + dt < (s.session n).notAfter →
    exec (.sessionGrantExpiry dt n) s = .next (s.advance dt)) ∧
  (∀ (s : State) (dt : Nat) (c : Cmd) (env : Env), s.Ready .echo dt c →
    Answers s (.echo dt c env) stOk (fitBytes 32 c.inl ++ le 8 (s.now + dt)) (s.entered .echo dt c))

/-- MODE_SET (R391, R393) stages the word for the first cycle boundary not yet used and stays open until it applies. MODE_WORD_APPLY (R391, R392):
at the boundary the word is the commanded one, under the forced mask; in HOLDOVER the command ends MODE_CONFLICT; before the boundary nothing
happens. MODE_FORCE_RELEASE (R390): at the boundary the forces no cause asks for go, and the commanded word stays. MODE_READ (R415) answers the
words and what is pending. START_WORD_SET (R394, R406), ROLE_SET (R403, R404) and PROFILE_SET (R404) store what they name with their records;
ROLE_SET is refused while RING is 1, applies the forces of the new role, and the role STANDALONE takes both ports down. The effective word never has
a forced bit (R389), and what forces bits off (R390): RETIRED all of them, HOLD_SAFE the two that act, STANDALONE RING, and an open full debug port
DRV and SIM in SEALED. -/
def Obligations.ModeWordAndForces : Prop :=
  (∀ (s : State) (dt : Nat) (c : Cmd) (env : Env) (t : Nat) (new : BitVec 12), s.Ready .modeSet dt c → Clean c [(32, 4)] 0 → c.u16 32 < 4096 → c.u16 34 < 4096 →
    new = (s.mod.cmd &&& ~~~BitVec.ofNat 12 (c.u16 34)) ||| (BitVec.ofNat 12 (c.u16 32) &&& BitVec.ofNat 12 (c.u16 34)) →
    s.rng.isMaster = false ∨ new.getLsbD ModeBit.ring.idx = true → s.pwr.state ≠ .holdover →
    t = (if s.mod.applied = some (s.boundaryFrom (max (s.now + dt) c.notBefore))
      then s.boundaryFrom (s.boundaryFrom (max (s.now + dt) c.notBefore) + 1) else s.boundaryFrom (max (s.now + dt) c.notBefore)) →
    StaysOpen s (.modeSet dt c env) (s.entryOf .modeSet dt c) []
      { s.entered .modeSet dt c with mod := { s.mod with pending := some (new, t, s.cp.nextId, c.session) } }) ∧
  (∀ (s : State) (dt : Nat) (c : Cmd) (env : Env) (p : Nat × Nat × Nat), s.Ready .modeRead dt c → Clean c [] 0 →
    p = (match s.mod.pending with | some (w, t, _) => (w.toNat, 1, t) | none => (0, 0, 0)) →
    Answers s (.modeRead dt c env) stOk (le 2 s.mod.cmd.toNat ++ le 2 s.modeWord.toNat ++ le 2 s.mod.forced.toNat ++ le 2 s.mod.start.toNat ++
      le 2 p.1 ++ le 1 p.2.1 ++ zeros 1 ++ le 8 p.2.2 ++ le 4 (s.entered .modeRead dt c).modState) (s.entered .modeRead dt c)) ∧
  (∀ (s : State) (dt : Nat) (new : BitVec 12) (t id ses : Nat), s.mod.pending = some (new, t, id, ses) → t ≤ s.now + dt → s.pwr.state ≠ .holdover →
    Completes (.modeWordApply dt) s fun u => u.mod.cmd = new ∧ u.mod.forced = s.mod.forced ||| s.forceWant new) ∧
  (∀ (s : State) (dt : Nat) (new : BitVec 12) (t id ses : Nat), s.mod.pending = some (new, t, id, ses) → t ≤ s.now + dt → s.pwr.state = .holdover →
    exec (.modeWordApply dt) s =
      .next (completeCmd id stModeConflict (le 2 0xA2) { s.advance dt with mod := { s.mod with pending := none } })) ∧
  (∀ (s : State) (dt : Nat) (new : BitVec 12) (t id ses : Nat), s.mod.pending = none ∨ (s.mod.pending = some (new, t, id, ses) ∧ s.now + dt < t) →
    exec (.modeWordApply dt) s = .next (s.advance dt)) ∧
  (∀ (s : State) (dt t : Nat), s.mod.releaseAt = some t → t ≤ s.now + dt → s.mod.forced &&& ~~~(s.forceWant s.mod.cmd) ≠ 0 →
    Completes (.modeForceRelease dt) s fun u => u.mod.cmd = s.mod.cmd ∧ u.mod.forced = s.forceWant s.mod.cmd) ∧
  (∀ (s : State) (dt t : Nat), s.mod.releaseAt = some t → t ≤ s.now + dt → s.mod.forced &&& ~~~(s.forceWant s.mod.cmd) = 0 →
    exec (.modeForceRelease dt) s = .next { s.advance dt with mod := { s.mod with releaseAt := none } }) ∧
  (∀ (s : State) (dt : Nat) (c : Cmd) (env : Env), s.Ready .startWordSet dt c → Clean c [(32, 2)] 0 → c.u16 32 < 4096 → s.mod.life ≠ .sealed ∨ acqAlm (c.u16 32) = true →
    Answers s (.startWordSet dt c env) stOk [] (note 0x0011 c.session (le 2 (c.u16 32) ++ le 2 s.mod.start.toNat)
      { s.entered .startWordSet dt c with mod := { s.mod with start := BitVec.ofNat 12 (c.u16 32) } })) ∧
  (∀ (s : State) (dt : Nat) (c : Cmd) (env : Env), s.Ready .roleSet dt c → Clean c [(32, 1)] 0 → c.u8 32 ≤ 3 → c.u8 32 ≠ 0 → s.mode .ring = false →
    Answers s (.roleSet dt c env) stOk [] (applyForces 6 (note 0x0012 c.session (le 1 0 ++ le 1 (c.u8 32) ++ le 1 s.mod.role.num)
      { s.entered .roleSet dt c with mod := { s.mod with role := roleOfNum (c.u8 32) } }))) ∧
  (∀ (s : State) (dt : Nat) (c : Cmd) (env : Env), s.Ready .roleSet dt c → Clean c [(32, 1)] 0 → c.u8 32 = 0 → s.mode .ring = false →
    Answers s (.roleSet dt c env) stOk [] (applyForces 6 (portDown 1 8 (portDown 0 8 (note 0x0012 c.session (le 1 0 ++ le 1 0 ++ le 1 s.mod.role.num)
      { s.entered .roleSet dt c with mod := { s.mod with role := .standalone } }))))) ∧
  (∀ (s : State) (dt : Nat) (c : Cmd) (env : Env), s.Ready .roleSet dt c → Clean c [(32, 1)] 0 → c.u8 32 ≤ 3 → s.mode .ring = true →
    Answers s (.roleSet dt c env) stModeConflict (le 2 0xA7) (s.entered .roleSet dt c)) ∧
  (∀ (s : State) (dt : Nat) (c : Cmd) (env : Env), s.Ready .profileSet dt c → Clean c [(32, 1)] 0 → c.u8 32 ≤ 1 →
    Answers s (.profileSet dt c env) stOk [] (note 0x0012 c.session (le 1 1 ++ le 1 (c.u8 32) ++ le 1 s.mod.profileNext)
      { s.entered .profileSet dt c with mod := { s.mod with profileNext := c.u8 32 } })) ∧
  (∀ (s : State) (m : ModeBit), s.mod.forced.getLsbD m.idx = true → s.mode m = false) ∧
  (∀ (s : State) (cmd : BitVec 12), s.mod.life = .retired → s.forceWant cmd = 0xFFF) ∧
  (∀ (s : State) (cmd : BitVec 12), s.mod.holdSafe ≠ 0 →
    (s.forceWant cmd).getLsbD ModeBit.ctl.idx = true ∧ (s.forceWant cmd).getLsbD ModeBit.drv.idx = true) ∧
  (∀ (s : State) (cmd : BitVec 12), s.mod.role = .standalone → (s.forceWant cmd).getLsbD ModeBit.ring.idx = true) ∧
  (∀ (s : State) (cmd : BitVec 12), s.mod.debug = .full → s.mod.life = .sealed →
    (s.forceWant cmd).getLsbD ModeBit.drv.idx = true ∧ (s.forceWant cmd).getLsbD ModeBit.sim.idx = true)

/-- DEBUG_OPEN (R410, R411, R413) opens the level for 8 h with a new nonce and record 0x0A11 while DBG_EN is 1, in SEALED for no longer than its
token and only under one that holds and an alarm on fault source 176; with DBG_EN at 0 it opens nothing. DEBUG_CLOSE, DBG_EN_FALL and, at its time,
DEBUG_EXPIRY close debug with causes 0, 1 and 2 (R412). OWNER_KEY_INSTALL takes the key and moves OPEN to COMMISSION, OWNER_KEY_ROTATE takes the
next slot under the old key’s signature and closes sessions and debug (R550); SEAL moves to SEALED under its preconditions (R406), and RETIRE
destroys the keys the node holds and closes debug (R407). -/
def Obligations.DebugAndLifecycle : Prop :=
  (∀ (s : State) (dt : Nat) (c : Cmd) (env : Env), s.Ready .debugOpen dt c → Clean c [(32, 1)] 0 → s.mod.life ≠ .sealed → 1 ≤ c.u8 32 → c.u8 32 ≤ 2 →
    env.sense = [1] → s.pwr.state ≠ .holdover → Answers s (.debugOpen dt c env) stOk [] (note 0x0A11 c.session
      (le 1 (c.u8 32) ++ le 1 0 ++ zeros 2 ++ le 8 (s.now + dt + 28800000000000))
      (applyForces 2 { s.entered .debugOpen dt c with fresh := s.fresh + 1, mod := { s.mod with
        dbgEn := true, debug := if c.u8 32 = 1 then .observe else .full, dbgToken := false, dbgSession := c.session
        dbgExpiry := s.now + dt + 28800000000000, nonce := Config.freeNat s.fresh % 2 ^ 64 } }))) ∧
  (∀ (s : State) (dt : Nat) (c : Cmd) (env : Env) (x : List Byte), s.Ready .debugOpen dt c → x = fitBytes 128 c.ext → Clean c [(32, 1)] 128 → c.paramLen = 128 →
    zeroAt x [(3, 1), (28, 4)] = true → leAt x 0 2 = 1 → 1 ≤ byteAt x 2 → byteAt x 2 ≤ 2 → s.mod.life = .sealed → 1 ≤ c.u8 32 → c.u8 32 ≤ 2 →
    env.sense = [1] → tokenOk (s.entered .debugOpen dt c) (c.u8 32) x = true → s.debugAlarm = true → s.pwr.state ≠ .holdover →
    Answers s (.debugOpen dt c env) stOk [] (note 0x0A11 c.session
      (le 1 (c.u8 32) ++ le 1 1 ++ zeros 2 ++ le 8 (min (s.now + dt + 28800000000000) (leAt x 20 8)))
      (applyForces 2 { s.entered .debugOpen dt c with fresh := s.fresh + 1, mod := { s.mod with
        dbgEn := true, debug := if c.u8 32 = 1 then .observe else .full, dbgToken := true, dbgSession := c.session
        dbgExpiry := min (s.now + dt + 28800000000000) (leAt x 20 8), nonce := Config.freeNat s.fresh % 2 ^ 64 } }))) ∧
  (∀ (s : State) (dt : Nat) (c : Cmd) (env : Env), s.Ready .debugOpen dt c → Clean c [(32, 1)] 0 → s.mod.life ≠ .sealed → 1 ≤ c.u8 32 → c.u8 32 ≤ 2 →
    env.sense = [0] → Completes (.debugOpen dt c env) s fun t => t.mod.debug = s.mod.debug) ∧
  (∀ (s : State) (dt : Nat) (c : Cmd) (env : Env), s.Ready .debugClose dt c → Clean c [] 0 →
    Answers s (.debugClose dt c env) stOk [] (closeDebug 0 (s.entered .debugClose dt c))) ∧
  (∀ (s : State) (cause : Nat), (closeDebug cause s).mod.debug = .closed ∧ (closeDebug cause s).mod.life = s.mod.life ∧
    (s.mod.debug ≠ .closed → (closeDebug cause s).mod.dbgCause = cause ∧ (closeDebug cause s).mod.dbgExpiry = 0)) ∧
  (∀ (s : State) (dt : Nat), exec (.dbgEnFall dt) s = .next (closeDebug 1 { s.advance dt with mod := { s.mod with dbgEn := false } })) ∧
  (∀ (s : State) (dt : Nat), s.mod.debug ≠ .closed → s.mod.life ≠ .retired → s.mod.dbgExpiry ≤ s.now + dt →
    exec (.debugExpiry dt) s = .next (closeDebug 2 (s.advance dt))) ∧
  (∀ (s : State) (dt : Nat), s.mod.debug = .closed ∨ s.now + dt < s.mod.dbgExpiry → exec (.debugExpiry dt) s = .next (s.advance dt)) ∧
  (∀ (s : State) (dt : Nat) (c : Cmd) (env : Env) (key : List Byte), s.Ready .ownerKeyInstall dt c → key = fitBytes 97 c.ext → Clean c [] 97 → c.paramLen = 97 →
    byteAt key 0 = 4 → s.mod.life = .opened → Answers s (.ownerKeyInstall dt c env) stOk (keyPrefix key)
      (setLife .commission c.session (note 0x0A14 0 (keyPrefix key)
        { s.entered .ownerKeyInstall dt c with sec := { s.sec with ownerSlots := 1, ownerKey := some key } }))) ∧
  (∀ (s : State) (dt : Nat) (c : Cmd) (env : Env) (x k : List Byte), s.Ready .ownerKeyRotate dt c → x = fitBytes 224 c.ext → Clean c [] 224 → c.paramLen = 224 →
    zeroAt x [(97, 31)] = true → byteAt (x.take 97) 0 = 4 → s.sec.ownerSlots < 8 → s.sec.ownerKey = some k →
    Config.ecdsaOk k (Config.sha384 (x.take 97 ++ le 8 serialNo)) ((x.drop 128).take 96) = true →
    Answers s (.ownerKeyRotate dt c env) stOk (keyPrefix (x.take 97)) (closeDebug 5 (closeSessions 0 (note 0x0A14 s.sec.ownerSlots
      (keyPrefix (x.take 97)) { s.entered .ownerKeyRotate dt c with
        sec := { s.sec with ownerSlots := s.sec.ownerSlots + 1, ownerKey := some (x.take 97) } })))) ∧
  (∀ (s : State) (dt : Nat) (c : Cmd) (env : Env), s.Ready .seal dt c → Clean c [(36, 4)] 0 → confirmed c = true → acqAlm s.mod.start.toNat = true →
    s.debugAlarm = true → s.mod.debug = .closed → env.sense = [0] → Answers s (.seal dt c env) stOk []
      (setLife .sealed c.session (closeSessions 0 { s.entered .seal dt c with mod := { s.mod with dbgEn := false } }))) ∧
  (∀ (s : State) (new : Lifecycle) (ses : Nat), (setLife new ses s).mod.life = new ∧ (setLife new ses s).mod.debug = .closed) ∧
  (∀ (s : State) (dt : Nat) (c : Cmd) (env : Env), s.Ready .retire dt c → Clean c [(36, 4)] 0 → confirmed c = true → Completes (.retire dt c env) s fun t =>
    t.mod.life = .retired ∧ t.sec.ownerKey = none ∧ t.sec.ownerSlots = 8 ∧ t.sec.storageOk = false ∧ t.rng.key0 = none ∧ t.rng.key1 = none ∧
    t.mod.releaseAt = none ∧ t.mod.debug = .closed)

/-- CHANNEL_SIMULATE and PIN_SIMULATE (R396): with SIM at 1 a simulation starts or is replaced, and one that runs ends, each with record 0x0316;
without SIM they are refused. CHANNEL_CALIBRATE (R398, R399): with CAL and ACQ at 1 a calibration begins; an input’s CAPTURE stays open until
CAL_CAPTURE_END, an output’s takes the point last SET, which the output drives; COMMIT puts the trim of the points in force; ABORT ends without one;
CLEAR resets the trim; without CAL they are refused. CAL_CAPTURE_END: 400 ms after the start the mean of the usable samples becomes a point, and
with none by 480 ms the command ends BAD_PARAM 0x00AE. -/
def Obligations.SimulationAndCalibration : Prop :=
  (∀ (s : State) (dt : Nat) (c : Cmd) (env : Env), s.Ready .channelSimulate dt c → Clean c [(32, 3), (36, 4), (40, 3), (44, 2)] 0 → c.u8 32 ≤ 7 → c.u8 33 ≤ 7 → c.u8 34 = 0 →
    (s.chan (chanOf c)).cfg.kind ≠ 8 → qbitsBad (BitVec.ofNat 16 (c.u16 44)) = false → s.mode .sim = true →
    (s.mod.cals.any fun e => e.1 == chanOf c) = false → Answers s (.channelSimulate dt c env) stOk []
      (note 0x0316 (chanOf c) (le 1 0 ++ zeros 3 ++ le 4 (c.w32 36).toNat ++ le 2 (BitVec.ofNat 16 (c.u16 44)).toNat)
        { s.entered .channelSimulate dt c with mod := { s.mod with sims := tput s.mod.sims (chanOf c) { value := c.w32 36, raw := leInt c.inl 8 3, qbits := BitVec.ofNat 16 (c.u16 44) } } })) ∧
  (∀ (s : State) (dt : Nat) (c : Cmd) (env : Env), s.Ready .pinSimulate dt c → Clean c [(32, 3), (36, 4), (44, 2)] 0 → c.u8 32 ≤ 5 → c.u8 33 ≤ 15 → c.u8 34 ≤ 1 →
    qbitsBad (BitVec.ofNat 16 (c.u16 44)) = false → s.mode .sim = false →
    Answers s (.pinSimulate dt c env) stModeConflict (le 2 0xA3) (s.entered .pinSimulate dt c)) ∧
  (∀ (s : State) (dt : Nat) (c : Cmd) (env : Env) (g : Nat), s.Ready .pinSimulate dt c → g = 64 + c.u8 32 * 16 + c.u8 33 → Clean c [(32, 3), (36, 4), (44, 2)] 0 →
    c.u8 32 ≤ 5 → c.u8 33 ≤ 15 → c.u8 34 = 0 → qbitsBad (BitVec.ofNat 16 (c.u16 44)) = false → s.mode .sim = true →
    (s.mod.cals.any fun e => e.1 == g) = false → Answers s (.pinSimulate dt c env) stOk []
      (note 0x0316 g (le 1 0 ++ zeros 3 ++ le 4 (c.w32 36).toNat ++ le 2 (BitVec.ofNat 16 (c.u16 44)).toNat)
        { s.entered .pinSimulate dt c with mod := { s.mod with sims := tput s.mod.sims g { value := c.w32 36, raw := 0, qbits := BitVec.ofNat 16 (c.u16 44) } } })) ∧
  (∀ (s : State) (dt : Nat) (c : Cmd) (env : Env), s.Ready .channelCalibrate dt c → Clean c [(32, 3), (36, 8)] 0 → c.u8 32 ≤ 7 → c.u8 33 ≤ 7 → c.u8 34 = 0 →
    s.mode .cal = true → s.mode .acq = true → s.cal (chanOf c) = none → (s.chan (chanOf c)).cfg.kind ≠ 0 → (s.simOf (chanOf c)).isSome = false →
    s.swapHolds 0 (chanOf c / 8) (chanOf c % 8) = false → s.swapHolds 1 (chanOf c / 8) (chanOf c % 8) = false →
    Answers s (.channelCalibrate dt c env) stOk [] (calRecord (chanOf c) 0 {} (s.trim (chanOf c)).1 (s.trim (chanOf c)).2
      ((s.entered .channelCalibrate dt c).setCal (chanOf c) {}))) ∧
  (∀ (s : State) (dt : Nat) (c : Cmd) (env : Env) (y : Sim), s.Ready .channelSimulate dt c → Clean c [(32, 3), (36, 4), (40, 3), (44, 2)] 0 →
    c.u8 32 ≤ 7 → c.u8 33 ≤ 7 → c.u8 34 = 1 → (s.chan (chanOf c)).cfg.kind ≠ 8 → qbitsBad (BitVec.ofNat 16 (c.u16 44)) = false → s.mode .sim = true →
    (s.mod.cals.any fun e => e.1 == chanOf c) = false → s.simOf (chanOf c) = some y → Answers s (.channelSimulate dt c env) stOk []
      (note 0x0316 (chanOf c) (le 1 1 ++ zeros 3 ++ le 4 y.value.toNat ++ le 2 y.qbits.toNat) (endSim (chanOf c) (s.entered .channelSimulate dt c)))) ∧
  (∀ (s : State) (dt : Nat) (c : Cmd) (env : Env), s.Ready .channelSimulate dt c → Clean c [(32, 3), (36, 4), (40, 3), (44, 2)] 0 →
    c.u8 32 ≤ 7 → c.u8 33 ≤ 7 → c.u8 34 ≤ 1 → qbitsBad (BitVec.ofNat 16 (c.u16 44)) = false → s.mode .sim = false →
    Answers s (.channelSimulate dt c env) stModeConflict (le 2 0xA3) (s.entered .channelSimulate dt c)) ∧
  (∀ (s : State) (dt : Nat) (c : Cmd) (env : Env) (k : Cal), s.Ready .channelCalibrate dt c → Clean c [(32, 3), (36, 8)] 0 → c.u8 32 ≤ 7 → c.u8 33 ≤ 7 →
    c.u8 34 = 1 → f32Finite (c.w32 36) = true → s.mode .cal = true → s.mode .acq = true → s.cal (chanOf c) = some k → k.points.length < 2 →
    k.capture = none → (s.chan (chanOf c)).cfg.kind ≠ 8 → StaysOpen s (.channelCalibrate dt c env) (s.entryOf .channelCalibrate dt c) [chanOf c]
      ((s.entered .channelCalibrate dt c).setCal (chanOf c)
        { k with capture := some (s.cp.nextId, c.w32 36, max (max (s.now + dt) c.notBefore) (s.now + dt), []) })) ∧
  (∀ (s : State) (dt : Nat) (c : Cmd) (env : Env) (k : Cal) (g o : Word), s.Ready .channelCalibrate dt c → Clean c [(32, 3), (36, 8)] 0 → c.u8 32 ≤ 7 →
    c.u8 33 ≤ 7 → c.u8 34 = 2 → s.mode .cal = true → s.mode .acq = true → s.cal (chanOf c) = some k → k.points ≠ [] →
    calTrim (s.fullScale (chanOf c)) k.points = some (g, o) →
    Completes (.channelCalibrate dt c env) s fun t => t.now = s.now + dt ∧ t.trim (chanOf c) = (g, o) ∧ t.cal (chanOf c) = none ∧
      ((s.chan (chanOf c)).cfg.kind ≠ 8 → t.ana = s.ana)) ∧
  (∀ (s : State) (dt : Nat) (c : Cmd) (env : Env) (k : Cal), s.Ready .channelCalibrate dt c → Clean c [(32, 3), (36, 8)] 0 → c.u8 32 ≤ 7 → c.u8 33 ≤ 7 →
    c.u8 34 = 3 → s.mode .cal = true → s.mode .acq = true → s.cal (chanOf c) = some k →
    Completes (.channelCalibrate dt c env) s fun t => t.now = s.now + dt ∧ t.cal (chanOf c) = none ∧ t.mod.trims = s.mod.trims ∧
      ((s.chan (chanOf c)).cfg.kind ≠ 8 → t.ana = s.ana)) ∧
  (∀ (s : State) (dt : Nat) (c : Cmd) (env : Env) (k : Cal) (v : Word), s.Ready .channelCalibrate dt c → Clean c [(32, 3), (36, 8)] 0 → c.u8 32 ≤ 7 →
    c.u8 33 ≤ 7 → c.u8 34 = 1 → f32Finite (c.w32 36) = true → s.mode .cal = true → s.mode .acq = true → s.cal (chanOf c) = some k →
    k.points.length < 2 → k.capture = none → (s.chan (chanOf c)).cfg.kind = 8 → k.set = some v →
    Answers s (.channelCalibrate dt c env) stOk (le 4 0)
      ((s.entered .channelCalibrate dt c).setCal (chanOf c) { k with points := k.points ++ [(v, c.w32 36)] })) ∧
  (∀ (s : State) (dt : Nat) (c : Cmd) (env : Env) (k : Cal), s.Ready .channelCalibrate dt c → Clean c [(32, 3), (36, 8)] 0 → c.u8 32 ≤ 7 →
    c.u8 33 ≤ 7 → c.u8 34 = 5 → f32Finite (c.w32 40) = true → s.mode .cal = true → s.mode .acq = true → s.cal (chanOf c) = some k →
    (s.chan (chanOf c)).cfg.kind = 8 → outInRange (s.out (chanOf c)).okind (c.w32 40) = true → s.mode .drv = true → s.outOwned (chanOf c) = false →
    Answers s (.channelCalibrate dt c env) stOk []
      (applyPoint (chanOf c) (c.w32 40) true ((s.entered .channelCalibrate dt c).setCal (chanOf c) { k with set := some (c.w32 40) }))) ∧
  (∀ (s : State) (dt : Nat) (c : Cmd) (env : Env) (k : Cal), s.Ready .channelCalibrate dt c → Clean c [(32, 3), (36, 8)] 0 → c.u8 32 ≤ 7 → c.u8 33 ≤ 7 →
    c.u8 34 = 4 → s.mode .cal = true → s.mode .acq = true → s.cal (chanOf c) = some k →
    Completes (.channelCalibrate dt c env) s fun t => t.now = s.now + dt ∧ t.trim (chanOf c) = (0x3F800000, 0) ∧ t.mod.cals = s.mod.cals ∧ t.ana = s.ana) ∧
  (∀ (s : State) (dt : Nat) (c : Cmd) (env : Env), s.Ready .channelCalibrate dt c → Clean c [(32, 3), (36, 8)] 0 → c.u8 32 ≤ 7 → c.u8 33 ≤ 7 → c.u8 34 = 2 ∨ c.u8 34 = 3 →
    s.mode .cal = false → Answers s (.channelCalibrate dt c env) stModeConflict (le 2 0xA3) (s.entered .channelCalibrate dt c)) ∧
  (∀ (s : State) (dt id : Nat) (ref : Word) (s0 : Nat) (v : Word) (vs : List Word) (g : Fin 64) (k : Cal), s.cal g = some k →
    k.capture = some (id, ref, s0, v :: vs) → s0 + 400000000 ≤ s.now + dt →
    exec (.calCaptureEnd dt g) s = .next (completeCmd id stOk (le 4 (vs.length + 1)) ((s.advance dt).setCal g { k with
      capture := none
      points := k.points ++ [(f32OfRat (((v :: vs).map f32Rat).foldl (· + ·) 0 / ((v :: vs).length : Rat)), ref)] }))) ∧
  (∀ (s : State) (dt id : Nat) (ref : Word) (s0 : Nat) (g : Fin 64) (k : Cal), s.cal g = some k → k.capture = some (id, ref, s0, []) →
    s0 + 480000000 ≤ s.now + dt →
    exec (.calCaptureEnd dt g) s = .next (completeCmd id stBadParam (le 2 0xAE) ((s.advance dt).setCal g { k with capture := none }))) ∧
  (∀ (s : State) (dt id : Nat) (ref : Word) (s0 : Nat) (vs : List Word) (g : Fin 64) (k : Cal), s.cal g = some k → k.capture = some (id, ref, s0, vs) →
    s.now + dt < s0 + 400000000 → exec (.calCaptureEnd dt g) s = .next (s.advance dt))

/-- CHANNEL_CONFIGURE (R41, R42, R74, R102): a packet out of range is BAD_PARAM 8, the first refusal of R42 that holds is the answer, an unchanged
configuration is OK at once, a change of KIND whose switches test good opens the switches it no longer needs and stays open with the change waiting,
and a change of excitation, WAVE or OW_TEST alone waits for its boundary. CHANNEL_SWITCH_CLOSE (R41): 20 µs after the opening and at a sample
boundary the change takes effect, with the configuration, parts and switches it names and the settling marks, and the command ends OK; before that
nothing happens. EXCITATION_CHANGE (R102): at the frame boundary the deferred settings take effect and the command ends OK; before that nothing
happens. CHANNEL_READ (R75) answers the last sample, or INVALID with zeros before the first, and the slice and cell in use. -/
def Obligations.ChannelConfiguration : Prop :=
  (∀ (s : State) (dt : Nat) (c : Cmd) (env : Env), s.Ready .channelConfigure dt c → chanRangesOk c (chanCfgOf c) = false →
    Answers s (.channelConfigure dt c env) stBadParam (le 2 8) (s.entered .channelConfigure dt c)) ∧
  (∀ (s : State) (dt : Nat) (c : Cmd) (env : Env) (u w : State) (k o : ChanCfg) (sl ce : Option Nat) (old new gone : List (Nat × Nat)),
    s.Ready .channelConfigure dt c → u = s.entered .channelConfigure dt c → k = chanCfgOf c → o = (s.chan (chanOf c)).cfg → chanRangesOk c k = true →
    sl = (if k.usesSlice then u.pickSlice (c.u8 32) (chanOf c) else none) → ce = (if k.usesCell then u.pickCell (c.u8 32) (chanOf c) else none) →
    old = u.heldSwitches (chanOf c) → new = (k.switches (sl.getD 60) (ce.getD 60)).filter (fun j => !old.contains j) →
    gone = old.filter (fun j => !(k.switches (sl.getD 60) (ce.getD 60)).contains j) →
    w = clearWay (c.u8 32) (chanOf c) (k.places (sl.getD 60) (ce.getD 60)) (testNew (c.u8 32) [] new u).2 →
    (∀ (st : Nat) (p : List Byte), chanRefusal (c.u8 32) (chanOf c) k sl ce u = some (.final st p) → Answers s (.channelConfigure dt c env) st p u) ∧
    (chanRefusal (c.u8 32) (chanOf c) k sl ce u = none → k = o → Answers s (.channelConfigure dt c env) stOk [] u) ∧
    (chanRefusal (c.u8 32) (chanOf c) k sl ce u = none → k.kind ≠ o.kind → u.anyShorted (c.u8 32) gone = true →
      Answers s (.channelConfigure dt c env) stFailedHardware (le 2 0x0A ++ le 1 0) u) ∧
    (chanRefusal (c.u8 32) (chanOf c) k sl ce u = none → k.kind ≠ o.kind → u.anyShorted (c.u8 32) gone = false → env.fails = [] →
      StaysOpen s (.channelConfigure dt c env) (s.entryOf .channelConfigure dt c) [chanOf c]
        ((if o.kind = 8 then dropOutput (chanOf c) w else w).setChan (chanOf c) { s.chan (chanOf c) with
          change := some { cfg := k, opened := s.now + dt, cmd := s.cp.nextId, conn := k.joins (sl.getD 60) (ce.getD 60), slice := sl, cell := ce, force := false },
          conn := if o.kind = 8 then []
            else (s.chan (chanOf c)).conn.filter (fun j => (k.joins (sl.getD 60) (ce.getD 60)).contains j),
          srcOn := none, window := none })) ∧
    (chanRefusal (c.u8 32) (chanOf c) k sl ce u = none → k ≠ o → new = [] → gone = [] → (c.u8 38).testBit 1 = false →
      { k with emode := o.emode, level := o.level, ilim := o.ilim, lead := o.lead, wave := o.wave, owTest := o.owTest } = o →
      StaysOpen s (.channelConfigure dt c env) (s.entryOf .channelConfigure dt c) [chanOf c] (w.setChan (chanOf c) { s.chan (chanOf c) with
        retune := some { cfg := k, cmd := s.cp.nextId, asked := s.now + dt } }))) ∧
  (∀ (s : State) (dt : Nat) (g : Fin 64) (c : Change), (s.chan g).change = some c → c.opened + 20000 ≤ s.now + dt →
    c.force = true ∨ (s.advance dt).boundarySince g (c.opened + 20000) = true →
    exec (.channelSwitchClose dt g) s = .next (completeCmd c.cmd stOk [] (putConfig g c (s.advance dt)))) ∧
  (∀ (s : State) (g : Nat) (c : Change), ((putConfig g c s).chan g).cfg = c.cfg ∧ ((putConfig g c s).chan g).change = none ∧
    ((putConfig g c s).chan g).pslice = c.slice ∧ ((putConfig g c s).chan g).psource = c.cell ∧ ((putConfig g c s).chan g).conn = c.conn ∧
    ((putConfig g c s).chan g).unsettled = c.cfg.settle ∧ ((putConfig g c s).chan g).unsettledW = 40) ∧
  (∀ (s : State) (dt : Nat) (g : Fin 64), (∀ c, (s.chan g).change = some c → s.now + dt < c.opened + 20000 ∨
      (c.force = false ∧ (s.advance dt).boundarySince g (c.opened + 20000) = false)) →
    exec (.channelSwitchClose dt g) s = .next (s.advance dt)) ∧
  (∀ (s : State) (dt : Nat) (g : Fin 64) (fails : List Nat) (r : Retune), (s.chan g).retune = some r →
    (if (s.chan g).cfg.pulsed then (s.chan g).srcOn.isNone else (s.advance dt).boundarySince g r.asked) = true → s.cellSwap g = none →
    exec (.excitationChange dt ⟨g, fails⟩) s = .next (completeCmd r.cmd stOk [] (applyTune g r.cfg (s.advance dt)))) ∧
  (∀ (s : State) (g : Nat) (k : ChanCfg), ((applyTune g k s).chan g).cfg = k ∧ ((applyTune g k s).chan g).retune = none) ∧
  (∀ (s : State) (dt : Nat) (g : Fin 64) (fails : List Nat) (r : Retune), (s.chan g).retune = some r →
    (if (s.chan g).cfg.pulsed then (s.chan g).srcOn.isNone else (s.advance dt).boundarySince g r.asked) = false →
    exec (.excitationChange dt ⟨g, fails⟩) s = .next (s.advance dt)) ∧
  (∀ (s : State) (dt : Nat) (c : Cmd) (env : Env) (b : List Byte), s.Ready .channelRead dt c → Clean c [(32, 2)] 0 → c.u8 32 ≤ 7 → c.u8 33 ≤ 7 →
    b = (match (s.chan (chanOf c)).last with
      | some m => le 4 m.raw.toNat ++ le 2 m.sqw.toNat ++ le 2 m.seq ++ le 8 m.time
      | none => le 4 0 ++ le 2 0x8000 ++ le 2 0 ++ le 8 0) →
    Answers s (.channelRead dt c env) stOk (b ++ le 1 ((s.chan (chanOf c)).pslice.getD 255) ++
        le 1 ((match (s.chan (chanOf c)).psource with | some k => some k | none => (s.out (chanOf c)).cellA).getD 255))
      (s.entered .channelRead dt c))

/-- CROSSPOINT_TEST (R77) tests every switch in service at the masked terminals, marks the channels it touches and answers the terminals with a bad
path. SAMPLE_STROBE (R54) anchors the grid of its rate at the next instant. PULSE_SOURCE_ON (R57) turns the source of a pulsed channel on, and
PULSE_WINDOW_OPEN opens its window LEAD later, not before. REFERENCE_VOTE (R50, R600): with all three references in agreement none is excluded; one
apart from two that agree is excluded with record 0x0311; with no two in agreement the references fail with that record. FIFO_PARITY_ERROR (R23):
the crossing is recorded under the type the spec leaves open; an island’s frame needs no more, a received ring frame fails as by its CRC, one to be
sent is sent again, and the command a word belongs to ends FAILED_HARDWARE with its work dropped (detail and effect code are the model’s, log entry
90). BLANK_CONFIGURE (R76) stores the settings; a running interval keeps its own, and with none running an enabled BLANK input that is active begins
one. BLANK_INPUT_ASSERT (R65): while enabled it begins an interval, which is counted, or joins the one that runs; while not enabled only its level
changes. BLANK_INPUT_DEASSERT: as the last source of an interval it ends the source and HOLD begins. BLANK_HOLD_EXPIRY (R67): when HOLD is over and
no source is active, the interval ends and is remembered; before that nothing happens. LONG_BLANKING (R69): at 1 s the interval is reported once,
with its sources; before that, or again, nothing happens. -/
def Obligations.SamplingAndBlanking : Prop :=
  (∀ (s : State) (dt : Nat) (c : Cmd) (env : Env) (u : State) (sw : List (Nat × Nat × Nat)) (pairs bad : List (Nat × Nat)), s.Ready .crosspointTest dt c →
    Clean c [(32, 1), (36, 4)] 0 → c.u8 32 ≤ 7 → u = s.entered .crosspointTest dt c →
    sw = (u.serviceSwitches (c.u8 32) ++ (List.range 8).flatMap fun n => if (s.chan (c.u8 32 * 8 + n)).cfg.kind = 4 then
      (u.heldSwitches (c.u8 32 * 8 + n)).map fun j => (j.1, j.2, c.u8 32 * 8 + n) else []).filter (fun j => (c.w32 36).getLsbD j.1) →
    pairs = (sw.map fun j => (j.1, j.2.1)).eraseDups →
    bad = pairs.filter (fun j => [0, 1].any fun p => env.fails.contains (pathNo j.1 j.2 p false) || env.fails.contains (pathNo j.1 j.2 p true)) →
    Answers s (.crosspointTest dt c env) stOk (le 4 (((bad.map (·.1)).eraseDups).foldl (fun a t => a ||| 2 ^ t) 0))
      (((sw.map (·.2.2)).eraseDups).foldl (fun v g => v.setChan g { v.chan g with
        testAt := v.now :: (v.chan g).testAt.filter fun a => decide (v.now < a + spanKept) }) (pairs.foldl (testSwitch (c.u8 32) 1 1 env.fails) u))) ∧
  (∀ (s : State) (dt : Nat) (i : Fin 8) (r : Fin 17), (s.aisl i).linkUp = true → exec (.sampleStrobe dt i r) s =
    .next ((s.advance dt).setAisl i { s.aisl i with strobes := tput (s.aisl i).strobes r (
      1000000000 * ((s.now + dt) * (strobeRate r).1 / (1000000000 * (strobeRate r).2) + 1) * (strobeRate r).2 / (strobeRate r).1) })) ∧
  (∀ (s : State) (dt : Nat) (g : Fin 64), (s.chan g).cfg.pulsed = true → (s.chan g).srcOn = none → (s.chan g).change = none →
    s.mode .acq = true → (s.aisl (g.val / 8)).powered = true →
    exec (.pulseSourceOn dt g) s = .next ((s.advance dt).setChan g { s.chan g with srcOn := some (s.now + dt), rbFail := false })) ∧
  (∀ (s : State) (dt t : Nat) (g : Fin 64), (s.chan g).srcOn = some t → t + 20000 * (s.chan g).cfg.lead ≤ s.now + dt →
    exec (.pulseWindowOpen dt g) s = .next ((s.advance dt).setChan g { s.chan g with window := some (s.now + dt) })) ∧
  (∀ (s : State) (dt : Nat) (g : Fin 64), (∀ t, (s.chan g).srcOn = some t → s.now + dt < t + 20000 * (s.chan g).cfg.lead) →
    exec (.pulseWindowOpen dt g) s = .next (s.advance dt)) ∧
  (∀ (s : State) (dt : Nat) (i : Fin 8) (d : Vector Int 3), refAgree d[0] d[1] = true → refAgree d[0] d[2] = true → refAgree d[1] d[2] = true →
    (s.aisl i).refFault = false → (s.aisl i).refDegraded = false → exec (.referenceVote dt i d) s =
      .next ((s.advance dt).setAisl i { s.aisl i with refOk := 7, refDegraded := false, refFault := false })) ∧
  (∀ (s : State) (dt : Nat) (i : Fin 8) (d : Vector Int 3), refAgree d[0] d[1] = true → refAgree d[0] d[2] = false → refAgree d[1] d[2] = false →
    (s.aisl i).refFault = false → (s.aisl i).refDegraded = false → exec (.referenceVote dt i d) s =
      .next (note 0x0311 (160 + i) (le 1 1 ++ le 1 0 ++ le 1 3 ++ le 1 2)
        ((s.advance dt).setAisl i { s.aisl i with refOk := 3, refDegraded := true, refFault := false }))) ∧
  (∀ (s : State) (dt : Nat) (i : Fin 8) (d : Vector Int 3), refAgree d[0] d[1] = false → refAgree d[0] d[2] = false → refAgree d[1] d[2] = false →
    (s.aisl i).refFault = false → exec (.referenceVote dt i d) s =
      .next (note 0x0311 (160 + i) (le 1 2 ++ le 1 (if (s.aisl i).refDegraded then 1 else 0) ++ le 1 0 ++ le 1 255)
        ((s.advance dt).setAisl i { s.aisl i with refOk := 0, refDegraded := false, refFault := true }))) ∧
  (∀ (s : State) (dt id : Nat) (i : Fin 14), exec (.fifoParityError dt 0 i id) s =
    .next (note Config.parityRecord.toNat 0 (le 1 0 ++ le 1 i) (s.advance dt))) ∧
  (∀ (s : State) (dt id : Nat) (x : Fin 11) (i : Fin 14), x.val ∉ [0, 4, 5, 6] → exec (.fifoParityError dt x i id) s =
    .next (completeCmd id stFailedHardware (le 2 0 ++ le 1 2) (dropWork id (note Config.parityRecord.toNat x (le 1 x ++ le 1 i) (s.advance dt))))) ∧
  (∀ (s : State) (dt id : Nat) (x : Fin 11) (i : Fin 14), x.val = 4 ∨ x.val = 6 → (s.port (i.val % 2)).up = true → exec (.fifoParityError dt x i id) s =
    .next (frameFailed (i.val % 2) (note Config.parityRecord.toNat x (le 1 x ++ le 1 i) (s.advance dt)))) ∧
  (∀ (s : State) (dt id : Nat) (i : Fin 14), exec (.fifoParityError dt 5 i id) s =
    .next (retryFrames (i.val % 2) (note Config.parityRecord.toNat 5 (le 1 5 ++ le 1 i) (s.advance dt)))) ∧
  (∀ (s : State) (dt : Nat) (c : Cmd) (env : Env), s.Ready .blankConfigure dt c → Clean c [(32, 1), (36, 4)] 0 → c.u8 32 ≤ 7 → (c.w32 36).extractLsb' 9 7 = 0 →
    2 ≤ ((c.w32 36).extractLsb' 24 8).toNat → (s.aisl (c.u8 32)).blank ≠ none → Answers s (.blankConfigure dt c env) stOk []
      ((s.entered .blankConfigure dt c).setAisl (c.u8 32) { s.aisl (c.u8 32) with blankCfg := c.w32 36 })) ∧
  (∀ (s : State) (dt : Nat) (c : Cmd) (env : Env), s.Ready .blankConfigure dt c → Clean c [(32, 1), (36, 4)] 0 → c.u8 32 ≤ 7 → (c.w32 36).extractLsb' 9 7 = 0 →
    2 ≤ ((c.w32 36).extractLsb' 24 8).toNat → (s.aisl (c.u8 32)).blank = none → (s.aisl (c.u8 32)).clampLive = 0 → (s.aisl (c.u8 32)).doUntil ≤ s.now + dt →
    ((s.aisl (c.u8 32)).extActive (c.w32 36) = false → Answers s (.blankConfigure dt c env) stOk []
      ((s.entered .blankConfigure dt c).setAisl (c.u8 32) { s.aisl (c.u8 32) with blankCfg := c.w32 36 })) ∧
    ((s.aisl (c.u8 32)).extActive (c.w32 36) = true → Completes (.blankConfigure dt c env) s fun t => (t.aisl (c.u8 32)).blankCfg = c.w32 36 ∧
      (t.aisl (c.u8 32)).blank = some { start := s.now + dt, src := 1, ended := none, cfg := c.w32 36, long := false, doEnd := 0 } ∧
      (t.aisl (c.u8 32)).blankCount = ((s.aisl (c.u8 32)).blankCount + 1) % 2 ^ 32)) ∧
  (∀ (s : State) (dt : Nat) (i : Fin 8), blankExtEn (s.aisl i).blankCfg = true → (s.aisl i).blank = none →
    Completes (.blankInputAssert dt i) s fun t => t.now = s.now + dt ∧ (t.aisl i).blankHigh = blankExtPol (s.aisl i).blankCfg ∧
      (t.aisl i).blank = some { start := s.now + dt, src := 1, ended := none, cfg := (s.aisl i).blankCfg, long := false, doEnd := 0 } ∧
      (t.aisl i).blankCount = ((s.aisl i).blankCount + 1) % 2 ^ 32 ∧ t.cp = s.cp ∧ t.flows = s.flows) ∧
  (∀ (s : State) (dt : Nat) (i : Fin 8) (b : Blank), blankExtEn (s.aisl i).blankCfg = true → (s.aisl i).blank = some b → b.cfg = (s.aisl i).blankCfg →
    Completes (.blankInputAssert dt i) s fun t => t.now = s.now + dt ∧ (t.aisl i).blankHigh = blankExtPol (s.aisl i).blankCfg ∧
      (t.aisl i).blank = some { b with src := b.src ||| 1, ended := none } ∧ (t.aisl i).blankCount = (s.aisl i).blankCount) ∧
  (∀ (s : State) (dt : Nat) (i : Fin 8), blankExtEn (s.aisl i).blankCfg = false → (s.aisl i).blank = none →
    exec (.blankInputAssert dt i) s = .next ((s.advance dt).setAisl i { s.aisl i with blankHigh := blankExtPol (s.aisl i).blankCfg })) ∧
  (∀ (s : State) (dt : Nat) (i : Fin 8) (b : Blank), (s.aisl i).blank = some b → b.cfg = (s.aisl i).blankCfg → b.src = 1 → b.ended = none →
    Completes (.blankInputDeassert dt i) s fun t => t.now = s.now + dt ∧ (t.aisl i).blankHigh = !blankExtPol (s.aisl i).blankCfg ∧
      (t.aisl i).blank = some { b with src := 0, ended := some (s.now + dt) }) ∧
  (∀ (s : State) (dt t : Nat) (i : Fin 8) (b : Blank), (s.aisl i).blank = some b → b.src = 0 → b.long = false → b.ended = some t → b.doEnd ≤ t →
    t + 40000 * blankHold b.cfg ≤ s.now + dt → (s.aisl i).extActive (s.aisl i).blankCfg = false → (s.aisl i).clampLive = 0 →
    (s.aisl i).doUntil ≤ s.now + dt → exec (.blankHoldExpiry dt i) s = .next ((s.advance dt).setAisl i { s.aisl i with
      blank := none, blankSpans := keepSpan (s.now + dt) b.start (t + 40000 * blankHold b.cfg) (s.aisl i).blankSpans })) ∧
  (∀ (s : State) (dt : Nat) (i : Fin 8) (b : Blank), (s.aisl i).blank = some b → b.src.getLsbD 1 = false →
    (∀ e, b.over = some e → s.now + dt < e) → exec (.blankHoldExpiry dt i) s = .next (s.advance dt)) ∧
  (∀ (s : State) (dt : Nat) (i : Fin 8) (b : Blank), (s.aisl i).blank = some b → b.src.getLsbD 1 = false → b.long = false →
    b.start + 1000000000 ≤ s.now + dt → exec (.longBlanking dt i) s =
      .next (note 0x0313 (160 + i) (le 1 1 ++ le 1 b.src.toNat ++ zeros 2 ++ le 4 0)
        ((s.advance dt).setAisl i { s.aisl i with blank := some { b with long := true } }))) ∧
  (∀ (s : State) (dt : Nat) (i : Fin 8) (b : Blank), (s.aisl i).blank = some b → b.src.getLsbD 1 = false →
    b.long = true ∨ s.now + dt < b.start + 1000000000 → exec (.longBlanking dt i) s = .next (s.advance dt))

/-- CLAMP_ONSET (R63 to R65): a clamp that begins to conduct sets its LIVE and FLAG bits and opens the slice switches of its terminal, and with
clamp blanking on it begins an interval; one that conducts already changes nothing. CLAMP_END (R64) clears LIVE and begins the quiet time;
CLAMP_RECLOSE (R63) closes the switches after 1 ms of it. SAMPLE_FRAME_RECEIVE (R70, R71): the waveform words go to their streams, the oldest
samples to the core, which accepts each sequence number once, and acknowledged samples leave the buffer; with the link down nothing happens. -/
def Obligations.ClampsAndTheRideThroughBuffer : Prop :=
  (∀ (s : State) (dt : Nat) (i : Fin 8) (t : Fin 32), (s.aisl i).clampLive.getLsbD t = true →
    exec (.clampOnset dt i t) s = .next (s.advance dt)) ∧
  (∀ (s : State) (dt : Nat) (i : Fin 8) (t : Fin 32), (s.aisl i).clampLive.getLsbD t = false →
    Completes (.clampOnset dt i t) s fun u => u.now = s.now + dt ∧
      (u.aisl i).clampLive = (s.aisl i).clampLive ||| BitVec.ofNat 32 (2 ^ t.val) ∧
      (u.aisl i).clampFlag = (s.aisl i).clampFlag ||| BitVec.ofNat 32 (2 ^ t.val) ∧
      (tget {} (u.aisl i).clamps t).opened = true ∧ (tget {} (u.aisl i).clamps t).since = some (s.now + dt) ∧
      (tget {} (u.aisl i).clamps t).quiet = none ∧
      (blankClampEn (s.aisl i).blankCfg = false → (u.aisl i).blank = (s.aisl i).blank) ∧
      (blankClampEn (s.aisl i).blankCfg = true → (s.aisl i).blank = none → (u.aisl i).blank =
        some { start := s.now + dt, src := 4, ended := none, cfg := (s.aisl i).blankCfg, long := false, doEnd := 0 })) ∧
  (∀ (s : State) (dt : Nat) (i : Fin 8) (t : Fin 32), (s.aisl i).clampLive.getLsbD t = true →
    Completes (.clampEnd dt i t) s fun u => u.now = s.now + dt ∧
      (u.aisl i).clampLive = (s.aisl i).clampLive &&& ~~~BitVec.ofNat 32 (2 ^ t.val) ∧
      tget {} (u.aisl i).clamps t = { tget {} (s.aisl i).clamps t with since := none, quiet := some (s.now + dt) }) ∧
  (∀ (s : State) (dt q : Nat) (i : Fin 8) (t : Fin 32), (tget {} (s.aisl i).clamps t).quiet = some q → q + 1000000 ≤ s.now + dt →
    (s.aisl i).clampLive.getLsbD t = false → exec (.clampReclose dt i t) s = .next ((s.advance dt).setAisl i { s.aisl i with
      clamps := tset {} (s.aisl i).clamps t { tget {} (s.aisl i).clamps t with quiet := none, opened := false } })) ∧
  (∀ (s : State) (dt n : Nat) (i : Fin 8) (a : Bool), (s.aisl i).linkUp = true → s.pwr.phase ≠ .asserted →
    exec (.sampleFrameReceive dt i n a) s = .next (((s.aisl i).rtb.take n).foldl (fun t m => coreAccept m t)
      ((s.aisl i).waves.foldl (fun t w => streamWord w t) ((s.advance dt).setAisl i (AIsland.trimOld { s.aisl i with
        rtb := if a then (s.aisl i).rtb.drop n else (s.aisl i).rtb, waves := [], waveOld := (s.aisl i).waveOld ++ (s.aisl i).waves }))))) ∧
  (∀ (s : State) (dt n : Nat) (i : Fin 8) (a : Bool), (s.aisl i).linkUp = false → exec (.sampleFrameReceive dt i n a) s = .next (s.advance dt)) ∧
  (∀ (s : State) (m : Sample), (s.chan m.src).seen = none → coreAccept m s = takeSample m (s.setChan m.src { s.chan m.src with
    seen := some ((m.seq + 1) % 65536) })) ∧
  (∀ (s : State) (m : Sample) (n : Nat), (s.chan m.src).seen = some n → (m.seq + 65536 - n) % 65536 < 32768 →
    coreAccept m s = takeSample m (s.setChan m.src { s.chan m.src with seen := some ((m.seq + 1) % 65536) })) ∧
  (∀ (s : State) (m : Sample) (n : Nat), (s.chan m.src).seen = some n → 32768 ≤ (m.seq + 65536 - n) % 65536 → coreAccept m s = s)

/-- CONDITION_CONFIGURE (R82, R83, R96, R109) with every field in range: on a channel that does not sample the new conditioning is in force with the
start and the command ends OK; on one that samples it waits with its command, and the first sample of an instant after the start puts it in force
and ends the command OK; a curve the channel's KIND does not allow is BAD_PARAM 0x10. TABLE_LOAD (R87): a good load of either format becomes the
slot's content and no other slot changes; a table that does not rise or has a bad number of points is BAD_PARAM 0x14 and changes nothing. TABLE_READ
(R110) answers the slot: format 255 when empty, the points asked for of a table, the five values of format 1. PRECISION_SAMPLE (R57, R67, R80, R97):
on a channel that can sample, at a new instant of a begun grid with ACQ at 1 and its window over, the sample is conditioned and delivered, by the
active slice, or by the armed spare when its handover is due; at a blanked instant only the window ends; without a slice, or at an instant already
taken, nothing but time moves. A delivered sample advances SEQ by one. WAVEFORM_WORD (R81, R266): at a new instant of its grid, not blanked, with no
slice being swapped, the word of that instant is formed and the settling count goes down by one; with no waveform rate nothing but time moves. -/
def Obligations.ConditioningAndSamples : Prop :=
  (∀ (s : State) (dt : Nat) (c : Cmd) (env : Env) (d : CondCfg), s.Ready .conditionConfigure dt c → d = condOf c → Clean c [(32, 9), (44, 16)] 0 →
    c.u8 32 ≤ 7 → c.u8 33 ≤ 7 → d.cjsrc ≤ 5 → d.cjch ≤ 7 → c.u8 37 ≤ 3 → d.cutoff ≤ 15 → d.rangeLo ≤ 11 → d.rangeHi ≤ 11 → curveExists d.curve = true →
    (d.curve ≠ 0x20 → c.u32 56 = 0 ∧ (d.cjsrc ≠ 5 → c.u32 52 = 0)) → curveKindOk d.curve (s.chan (chanOf c)).cfg.kind = true →
    (d.curve = 0x20 → f32Eq d.arg0 d.arg1 = false) → autorangeOk (s.chan (chanOf c)).cfg.kind d = true →
    (∀ n f, curveSlot d.curve = some (n, f) → ∃ t, s.slot n = some t ∧ t.format = f) →
    (d.cjsrc = 4 → d.cjch ≠ chanOf c % 8 ∧ cjCurve (s.chan (chanOf c / 8 * 8 + d.cjch)).condSet.curve = true) →
    (s.cjServes (chanOf c) = true → cjCurve d.curve = true) →
    ((s.chan (chanOf c)).cfg.usesSlice = false ∨ s.mode .acq = false → Answers s (.conditionConfigure dt c env) stOk []
      (putCond (chanOf c) (s.now + dt) d (s.entered .conditionConfigure dt c))) ∧
    ((s.chan (chanOf c)).cfg.usesSlice = true → s.mode .acq = true →
      StaysOpen s (.conditionConfigure dt c env) (s.entryOf .conditionConfigure dt c) [chanOf c]
        ((releaseSpare (chanOf c) (s.entered .conditionConfigure dt c)).setChan (chanOf c)
          { (releaseSpare (chanOf c) (s.entered .conditionConfigure dt c)).chan (chanOf c) with
            condNext := some { cond := d, since := s.now + dt, cmd := some s.cp.nextId } }))) ∧
  (∀ (s : State) (g t : Nat) (d : CondCfg), ((putCond g t d s).chan g).cond = d ∧ ((putCond g t d s).chan g).condNext = none ∧
    (d.autorange = false → ((putCond g t d s).chan g).rangeNow = (s.chan g).cfg.range) ∧
    (d.autorange = true → ((putCond g t d s).chan g).rangeNow = max d.rangeLo (min d.rangeHi (s.chan g).rangeNow))) ∧
  (∀ (s : State) (g t id : Nat) (n : CondNext), (s.chan g).condNext = some n → n.cmd = some id →
    (n.since < t → condDue g t s = completeCmd id stOk [] (putCond g t n.cond s)) ∧ (t ≤ n.since → condDue g t s = s)) ∧
  (∀ (s : State) (dt : Nat) (c : Cmd) (env : Env), s.Ready .conditionConfigure dt c → Clean c [(32, 9), (44, 16)] 0 → c.u8 32 ≤ 7 → c.u8 33 ≤ 7 → c.u8 35 ≤ 5 →
    c.u8 36 ≤ 7 → c.u8 37 ≤ 3 → c.u8 40 ≤ 15 → c.u8 38 ≤ 11 → c.u8 39 ≤ 11 → curveExists (c.u8 34) = true → c.u32 52 = 0 → c.u32 56 = 0 →
    curveKindOk (c.u8 34) (s.chan (chanOf c)).cfg.kind = false →
    Answers s (.conditionConfigure dt c env) stBadParam (le 2 0x10) (s.entered .conditionConfigure dt c)) ∧
  (∀ (s : State) (dt : Nat) (c : Cmd) (env : Env) (v : List Word), s.Ready .tableLoad dt c → Clean c [(32, 4)] c.paramLen → c.u8 32 ≤ 15 →
    v = wordsOf (c.paramLen / 4) c.ext →
    (c.u8 33 = 0 ∧ c.paramLen = c.u16 34 * 8 ∧ 2 ≤ c.u16 34 ∧ c.u16 34 ≤ 64 ∧ v.all f32Finite = true ∧ risingX v = true) ∨
      (c.u8 33 = 1 ∧ c.paramLen = 20 ∧ c.u16 34 = 0 ∧ f32Lt (v.getD 3 0) (v.getD 4 0) = true ∧ f32Le 0xC25C0000 (v.getD 3 0) = true ∧
        f32Le (v.getD 4 0) 0x43480000 = true) →
    Completes (.tableLoad dt c env) s fun t => t.slot (c.u8 32) = some { format := c.u8 33, vals := v, crc := crc32c (fitBytes c.paramLen c.ext) } ∧
      (∀ n, n ≠ c.u8 32 → t.slot n = s.slot n)) ∧
  (∀ (s : State) (dt : Nat) (c : Cmd) (env : Env), s.Ready .tableLoad dt c → Clean c [(32, 4)] c.paramLen → c.u8 32 ≤ 15 → c.u8 33 = 0 →
    (risingX (wordsOf (c.paramLen / 4) c.ext) = false ∨ c.u16 34 < 2 ∨ 64 < c.u16 34) →
    Answers s (.tableLoad dt c env) stBadParam (le 2 0x14) (s.entered .tableLoad dt c)) ∧
  (∀ (s : State) (dt : Nat) (c : Cmd) (env : Env), s.Ready .tableRead dt c → Clean c [(32, 2)] 0 → c.u8 32 ≤ 15 → s.slot (c.u8 32) = none →
    Answers s (.tableRead dt c env) stOk (le 1 0 ++ le 1 255) (s.entered .tableRead dt c)) ∧
  (∀ (s : State) (dt : Nat) (c : Cmd) (env : Env) (t : Slot), s.Ready .tableRead dt c → Clean c [(32, 2)] 0 → c.u8 32 ≤ 15 → s.slot (c.u8 32) = some t →
    (t.format = 0 → Answers s (.tableRead dt c env) stOk (le 1 0 ++ le 1 (t.vals.length / 2) ++ zeros 2 ++ le 4 t.crc ++
      ((t.vals.drop (2 * c.u8 33)).take 8).flatMap fun w => le 4 w.toNat) (s.entered .tableRead dt c)) ∧
    (t.format = 1 → Answers s (.tableRead dt c env) stOk (le 1 1 ++ le 1 0 ++ zeros 2 ++ le 4 t.crc ++ t.vals.flatMap fun w => le 4 w.toNat)
      (s.entered .tableRead dt c))) ∧
  (∀ (s : State) (dt : Nat) (ch : Fin 64) (r : Reading), (s.chan ch).cfg.usesSlice = false →
    exec (.precisionSample dt ch r) s = .next (s.advance dt)) ∧
  (∀ (s : State) (dt u : Nat) (ch : Fin 64) (r : Reading), (s.chan ch).lastAt = some u → gridFloor (s.chan ch).rate (s.now + dt) ≤ u →
    exec (.precisionSample dt ch r) s = .next (s.advance dt)) ∧
  (∀ (s : State) (dt t : Nat) (ch : Fin 64) (r : Reading), t = gridFloor (s.chan ch).rate (s.now + dt) → s.canSample ch = true →
    (∀ u, (s.chan ch).lastAt = some u → u < t) → s.mode .acq = true → (s.aisl (ch.val / 8)).onGrid (s.chan ch).rateCode t = true →
    (s.chan ch).windowDone t = true →
    ((s.aisl (ch.val / 8)).blanked t = true → exec (.precisionSample dt ch r) s = .next ((s.advance dt).setChan ch
      { (s.chan ch).endWindow with lastAt := some t })) ∧
    (∀ (v : State) (w : Conv) (code : BitVec 24), (s.aisl (ch.val / 8)).blanked t = false → v = condDue ch t (cjRead (ch / 8) t r.cj (s.advance dt)) →
      code = readingCode r (v.chan ch).cfg.kind → w = condition v ch ((v.chan ch).pslice.getD 0) (v.chan ch).rangeNow t code r.readback
        (bit (decide (0 < (v.chan ch).changeLeft)) 3 + bit (v.chan ch).glideNext 4) → v.sliceSwap ch = none →
      (handover ch w.p (codeSat code) r v = none → exec (.precisionSample dt ch r) s = .next (rangeStep ch t w.p (codeSat code) r.fails
        (deliverSample ch t code w (captureSample ch w t (auditSample ch t w r v))))) ∧
      (∀ (sp range : Nat) (k : BitVec 24) (x : Conv), handover ch w.p (codeSat code) r v = some (sp, range, k) →
        x = condition v ch sp range t k r.readback 24 →
        exec (.precisionSample dt ch r) s = .next (deliverSample ch t k x (takeHandover ch sp range (captureSample ch x t v)))))) ∧
  (∀ (s : State) (g t : Nat) (code : BitVec 24) (w : Conv), ((deliverSample g t code w s).chan g).lastAt = some t ∧
    ((deliverSample g t code w s).chan g).nextSeq = ((s.chan g).nextSeq + 1) % 65536 ∧
    ((deliverSample g t code w s).chan g).unsettled = (s.chan g).unsettled - 1) ∧
  (∀ (s : State) (dt ppm : Nat) (ch : Fin 64) (code : BitVec 24), waveRate (s.chan ch).cfg.wave = 0 →
    exec (.waveformWord dt ch ⟨code, ppm⟩) s = .next (s.advance dt)) ∧
  (∀ (s : State) (dt t ppm : Nat) (ch : Fin 64) (code : BitVec 24), t = gridFloor (waveRate (s.chan ch).cfg.wave, 1) (s.now + dt) →
    waveRate (s.chan ch).cfg.wave ≠ 0 → s.canSample ch = true → s.mode .acq = true → s.sliceSwap ch = none → (s.chan ch).waveFrom ≤ t →
    (∀ u, (s.chan ch).lastWave = some u → u < t) → (s.aisl (ch.val / 8)).blanked t = false →
    (s.aisl (ch.val / 8)).onGrid (10 + (s.chan ch).cfg.wave) t = true →
    Completes (.waveformWord dt ch ⟨code, ppm⟩) s fun x => x.now = s.now + dt ∧ (x.chan ch).lastWave = some t ∧
      (x.chan ch).unsettledW = (s.chan ch).unsettledW - 1 ∧ (x.chan ch).waveMark = 0 ∧ (x.chan ch).nextSeq = (s.chan ch).nextSeq)

/-- OUTPUT_CONFIGURE (R113, R114, R127, R135, R137) with fields in range: OKIND 255 takes the output out and leaves KIND OFF; a SAFE_VALUE outside
R113 is BAD_PARAM 0x21; an unchanged placing keeps the cell and drives again what the output's highest source asks, the new safe value while that
drives; a new placing with a free cell and good switches starts on its safe value. OUTPUT_FAULT_CLEAR (R122) clears the latch unless COMPLIANCE
stands, and the output is driven again. OUTPUT_HOLD_SET (R133) stores the island's hold time. -/
def Obligations.OutputConfiguration : Prop :=
  (∀ (s : State) (dt : Nat) (c : Cmd) (env : Env), s.Ready .outputConfigure dt c → Clean c [(32, 7), (40, 4)] 0 → c.u8 32 ≤ 7 → c.u8 33 ≤ 7 → c.u8 34 = 255 →
    c.u8 35 ≤ 3 → c.u8 36 ≤ 4 → c.u8 37 ≤ 31 → c.u8 38 ≤ 31 →
    s.anyShorted (c.u8 32) (s.heldSwitches (chanOf c)) = false → Answers s (.outputConfigure dt c env) stOk []
      (leaveKind (chanOf c) 0 (dropOutput (chanOf c) (s.entered .outputConfigure dt c)))) ∧
  (∀ (s : State) (g k : Nat), ((leaveKind g k s).chan g).cfg = { kind := k } ∧ ((leaveKind g k s).chan g).conn = [] ∧
    ((leaveKind g k s).chan g).pslice = none ∧ ((leaveKind g k s).chan g).psource = none) ∧
  (∀ (s : State) (dt : Nat) (c : Cmd) (env : Env), s.Ready .outputConfigure dt c → Clean c [(32, 7), (40, 4)] 0 → c.u8 32 ≤ 7 → c.u8 33 ≤ 7 → c.u8 34 ≤ 2 →
    c.u8 35 ≤ 3 → c.u8 36 = 1 → c.u8 37 ≤ 31 → c.u8 38 ≤ 31 → (c.u8 34 = 0 → (c.u8 35).testBit 0 = false) → outInRange (c.u8 34) (c.w32 40) = false →
    Answers s (.outputConfigure dt c env) stBadParam (le 2 0x21) (s.entered .outputConfigure dt c)) ∧
  (∀ (s : State) (dt : Nat) (c : Cmd) (env : Env) (o n : Output), s.Ready .outputConfigure dt c → Clean c [(32, 7), (40, 4)] 0 → c.u8 32 ≤ 7 → c.u8 33 ≤ 7 →
    c.u8 34 ≤ 2 → c.u8 35 ≤ 3 → c.u8 36 ≤ 4 → c.u8 37 ≤ 31 → c.u8 38 ≤ 31 →
    (c.u8 34 = 0 → (c.u8 35).testBit 0 = false ∧ c.u8 36 ≠ 2 ∧ c.u8 36 ≠ 3) → (c.u8 36 = 1 → outInRange (c.u8 34) (c.w32 40) = true) →
    o = s.out (chanOf c) → (s.chan (chanOf c)).cfg.kind = 8 → o.okind = c.u8 34 → o.tp = c.u8 37 → o.tn = c.u8 38 →
    n = { o with failLow := (c.u8 35).testBit 0, ne43 := (c.u8 35).testBit 1, safeMode := c.u8 36, safeValue := c.w32 40,
                 failLatch := o.failLatch || ((c.u8 35).testBit 0 && o.compliance) } →
    (o.safeNow = false → Answers s (.outputConfigure dt c env) stOk []
      (redrive (chanOf c) ((s.entered .outputConfigure dt c).setOut (chanOf c) n))) ∧
    (o.safeNow = true → Answers s (.outputConfigure dt c env) stOk []
      (takeSafe (chanOf c) ((s.entered .outputConfigure dt c).setOut (chanOf c) n)))) ∧
  (∀ (s : State) (g : Nat), ((takeSafe g s).out g).safeNow = true ∧ ((takeSafe g s).out g).held = false ∧
    ((takeSafe g s).out g).driven = (s.out g).safe ∧ ((redrive g s).out g).driven = (s.out g).source) ∧
  (∀ (s : State) (dt n : Nat) (c : Cmd) (env : Env) (u : State), s.Ready .outputConfigure dt c → Clean c [(32, 7), (40, 4)] 0 → c.u8 32 ≤ 7 → c.u8 33 ≤ 7 →
    c.u8 34 ≤ 2 → c.u8 35 ≤ 3 → c.u8 36 ≤ 3 → c.u8 37 ≤ 31 → c.u8 38 ≤ 31 →
    (c.u8 34 = 0 → (c.u8 35).testBit 0 = false ∧ c.u8 36 ≠ 2 ∧ c.u8 36 ≠ 3) → (c.u8 36 = 1 → outInRange (c.u8 34) (c.w32 40) = true) →
    (s.chan (chanOf c)).cfg.kind ≠ 8 → u = s.entered .outputConfigure dt c → u.pickCell (c.u8 32) (chanOf c) = some n →
    outConflict (c.u8 32) (chanOf c) (c.u8 37) (c.u8 38) (c.u8 34 = 1) false u = none → u.anyShorted (c.u8 32) (u.heldSwitches (chanOf c)) = false →
    env.fails = [] →
    Completes (.outputConfigure dt c env) s fun t => (t.chan (chanOf c)).cfg.kind = 8 ∧ (t.out (chanOf c)).cellA = some n ∧
      (t.out (chanOf c)).okind = c.u8 34 ∧ (t.out (chanOf c)).tp = c.u8 37 ∧ (t.out (chanOf c)).tn = c.u8 38 ∧ (t.out (chanOf c)).safeNow = true ∧
      (c.u8 36 = 0 → (t.out (chanOf c)).driven = if c.u8 34 = 2 then f32_3p5 else 0) ∧ (c.u8 36 = 1 → (t.out (chanOf c)).driven = c.w32 40) ∧
      (c.u8 36 = 2 → (t.out (chanOf c)).driven = f32_3p5) ∧ (c.u8 36 = 3 → (t.out (chanOf c)).driven = f32_21p5)) ∧
  (∀ (s : State) (dt : Nat) (c : Cmd) (env : Env), s.Ready .outputFaultClear dt c → Clean c [(32, 2)] 0 → c.u8 32 ≤ 7 → c.u8 33 ≤ 7 →
    (s.chan (chanOf c)).cfg.kind = 8 →
    Answers s (.outputFaultClear dt c env) stOk [] (redrive (chanOf c) ((s.entered .outputFaultClear dt c).setOut (chanOf c)
      { s.out (chanOf c) with failLatch := (s.out (chanOf c)).compliance && (s.out (chanOf c)).failLow &&
          (s.out (chanOf c)).okind ≠ 0 && (s.out (chanOf c)).failLatch }))) ∧
  (∀ (s : State) (dt : Nat) (c : Cmd) (env : Env), s.Ready .outputHoldSet dt c → Clean c [(32, 2)] 0 → c.u8 32 ≤ 7 → c.u8 33 ≤ 250 →
    Answers s (.outputHoldSet dt c env) stOk [] ((s.entered .outputHoldSet dt c).setAisl (c.u8 32)
      { s.aisl (c.u8 32) with hold := c.u8 33 }))

/-- OUTPUT_WRITE (R124 to R126, R137): a set point outside the range is BAD_PARAM 0x21, with DRV at 0 it is MODE_CONFLICT 0x00A3, and an accepted
one is staged with its NE43 limit for its instant while the command stays open. SET_POINT_APPLY (R126): when that instant has come and the link
reaches the island, the value is applied and the command ends OK, with detail 0x0022 when limited; before it, or over a lost link, nothing happens.
OUTPUT_PARALLEL (R128 to R131): ADD joins a free good cell at share 16 with the target asked for, SHARE and the removals of A and B set their
target, each staying open while the transfer runs; a VOLT output is BAD_PARAM 0x20. -/
def Obligations.SetPoints : Prop :=
  (∀ (s : State) (dt : Nat) (c : Cmd) (env : Env), s.Ready .outputWrite dt c → Clean c [(32, 2), (36, 4)] 0 → c.u8 32 ≤ 7 → c.u8 33 ≤ 7 →
    (s.chan (chanOf c)).cfg.kind = 8 → outInRange (s.out (chanOf c)).okind (c.w32 36) = true → s.mode .drv = false →
    Answers s (.outputWrite dt c env) stModeConflict (le 2 0x00A3) (s.entered .outputWrite dt c)) ∧
  (∀ (s : State) (dt : Nat) (c : Cmd) (env : Env), s.Ready .outputWrite dt c → Clean c [(32, 2), (36, 4)] 0 → c.u8 32 ≤ 7 → c.u8 33 ≤ 7 →
    (s.chan (chanOf c)).cfg.kind = 8 → outInRange (s.out (chanOf c)).okind (c.w32 36) = false →
    Answers s (.outputWrite dt c env) stBadParam (le 2 0x21) (s.entered .outputWrite dt c)) ∧
  (∀ (s : State) (dt : Nat) (c : Cmd) (env : Env) (o : Output), s.Ready .outputWrite dt c → o = s.out (chanOf c) → Clean c [(32, 2), (36, 4)] 0 → c.u8 32 ≤ 7 →
    c.u8 33 ≤ 7 → (s.chan (chanOf c)).cfg.kind = 8 → outInRange o.okind (c.w32 36) = true → s.mode .drv = true →
    s.outOwned (chanOf c) = false → StaysOpen s (.outputWrite dt c env) (s.entryOf .outputWrite dt c) [chanOf c]
      ((s.entered .outputWrite dt c).setOut (chanOf c) { o with set := c.w32 36, staged := some ((o.limited (c.w32 36)).1,
        (if c.notBefore = 0 then s.now + dt else max c.notBefore (s.now + dt)), some s.cp.nextId, (o.limited (c.w32 36)).2) })) ∧
  (∀ (s : State) (dt t id : Nat) (ch : Fin 64) (v : Word) (lim : Bool) (u : State), (s.out ch).staged = some (v, t, some id, lim) →
    t ≤ s.now + dt → s.linkReaches ch = true →
    u = applyPoint ch v (s.mod.cals.any fun e => e.1 == ch.val && e.2.set == some v) ((s.advance dt).setOut ch { s.out ch with staged := none }) →
    (lim = false → exec (.setPointApply dt ch) s = .next (completeCmd id stOk [] u)) ∧
    (lim = true → exec (.setPointApply dt ch) s = .next (completeCmd id stOk (le 2 0x0022) u))) ∧
  (∀ (s : State) (g : Nat) (v : Word) (plain : Bool), s.mode .drv = true → s.islandDead (g / 8) = false →
    ((applyPoint g v plain s).out g).point = v ∧ ((applyPoint g v plain s).out g).held = false ∧ ((applyPoint g v plain s).out g).safeNow = false ∧
    ((s.out g).failLatch = false → ((applyPoint g v plain s).out g).driven = v)) ∧
  (∀ (s : State) (dt t : Nat) (ch : Fin 64) (v : Word) (id : Option Nat) (lim : Bool), (s.out ch).staged = some (v, t, id, lim) →
    (s.now + dt < t ∨ s.linkReaches ch = false) → exec (.setPointApply dt ch) s = .next (s.advance dt)) ∧
  (∀ (s : State) (dt n : Nat) (c : Cmd) (env : Env) (o : Output) (u : State), s.Ready .outputParallel dt c → o = s.out (chanOf c) → Clean c [(32, 4)] 0 →
    c.u8 32 ≤ 7 → c.u8 33 ≤ 7 → c.u8 34 = 0 → c.u8 35 ≤ 16 → (s.chan (chanOf c)).cfg.kind = 8 → o.okind ≠ 0 → u = s.entered .outputParallel dt c →
    u.outPlaceFree (chanOf c) = true → u.pickPart 1 (c.u8 32) 8 = some n → o.cellB = none → o.target = none → env.fails = [] →
    StaysOpen s (.outputParallel dt c env) (s.entryOf .outputParallel dt c) [chanOf c]
      ((claimPart 1 (chanOf c) n (clearWay (c.u8 32) (chanOf c) [(o.tp, 20 + n)] (testNew (c.u8 32) [] [(o.tp, 20 + n)] u).2)).setOut (chanOf c) { o with
        cellB := some n, shareA := 16, target := some (c.u8 35), waiting := o.okind = 2 && f32Lt o.driven f32_6p5,
        removing := none, pairCmd := some s.cp.nextId, degraded := false })) ∧
  (∀ (s : State) (dt : Nat) (c : Cmd) (env : Env) (o : Output), s.Ready .outputParallel dt c → o = s.out (chanOf c) → Clean c [(32, 4)] 0 → c.u8 32 ≤ 7 →
    c.u8 33 ≤ 7 → c.u8 35 ≤ 16 → (s.chan (chanOf c)).cfg.kind = 8 → o.okind ≠ 0 → o.cellB ≠ none → o.target = none →
    (c.u8 34 = 1 → StaysOpen s (.outputParallel dt c env) (s.entryOf .outputParallel dt c) [chanOf c]
      ((s.entered .outputParallel dt c).setOut (chanOf c) { o with target := some (c.u8 35), removing := none, pairCmd := some s.cp.nextId })) ∧
    (c.u8 34 = 2 → s.anyShorted (c.u8 32) [(o.tp, 20 + o.cellA.getD 0)] = false →
      StaysOpen s (.outputParallel dt c env) (s.entryOf .outputParallel dt c) [chanOf c]
        ((s.entered .outputParallel dt c).setOut (chanOf c) { o with target := some 0, removing := some 0, pairCmd := some s.cp.nextId })) ∧
    (c.u8 34 = 3 → s.anyShorted (c.u8 32) [(o.tp, 20 + o.cellB.getD 0)] = false →
      StaysOpen s (.outputParallel dt c env) (s.entryOf .outputParallel dt c) [chanOf c]
        ((s.entered .outputParallel dt c).setOut (chanOf c) { o with target := some 16, removing := some 1, pairCmd := some s.cp.nextId }))) ∧
  (∀ (s : State) (dt : Nat) (c : Cmd) (env : Env), s.Ready .outputParallel dt c → Clean c [(32, 4)] 0 → c.u8 32 ≤ 7 → c.u8 33 ≤ 7 → c.u8 34 ≤ 3 → c.u8 35 ≤ 16 →
    (s.chan (chanOf c)).cfg.kind = 8 → (s.out (chanOf c)).okind = 0 →
    Answers s (.outputParallel dt c env) stBadParam (le 2 0x20) (s.entered .outputParallel dt c))

/-- OUTPUT_READBACK_SAMPLE (R118, R120, R121) on a powered output with one cell, inside the guard after a change: its readback registers take the
readings and a sample leaves with ACQ at 1, only its instant is noted with ACQ at 0; a fourth failing judged sample sets COMPLIANCE.
ISLAND_LINK_LOST and ISLAND_LINK_RESTORED (R27, R133) change the link of the island named. ISLAND_LINK_SILENT (R133, R161): every output or DO pin
of the island not on its safe value is held. OUTPUT_HOLD_EXPIRY (R133): when the hold is over every held output takes its safe value, before it
nothing happens. CELL_SWAP_VOLT (R429): within the limit the spare replaces the worn cell of a VOLT output or a loop supply, outside it the spare is
refused. -/
def Obligations.OutputEvents : Prop :=
  (∀ (s : State) (dt : Nat) (ch : Fin 64) (r : Readback), (s.chan ch).cfg.kind ≠ 8 →
    exec (.outputReadbackSample dt ch r) s = .next (s.advance dt)) ∧
  (∀ (s : State) (dt t : Nat) (ch : Fin 64) (r : Readback), t = gridFloor (1200, 1) (s.now + dt) → (s.chan ch).cfg.kind = 8 →
    (s.out ch).cellA ≠ none → (s.out ch).cellB = none → (s.out ch).target = none → (s.out ch).giveBack = false → (s.out ch).pairBad = none →
    (s.out ch).changed ≠ 0 → t < (s.out ch).changed + 1000000 → senseFails (s.out ch) r = false → (s.out ch).failLow = false →
    (s.aisl (ch.val / 8)).powered = true → (s.aisl (ch.val / 8)).onGrid 7 t = true → (∀ u, (s.chan ch).lastAt = some u → u < t) →
    (s.mode .acq = true → Completes (.outputReadbackSample dt ch r) s fun u => (u.chan ch).lastAt = some t ∧ (u.out ch).rbi = r.rbi ∧
      (u.out ch).rbv = r.rbv ∧ (u.chan ch).nextSeq = ((s.chan ch).nextSeq + 1) % 65536) ∧
    (s.mode .acq = false → Completes (.outputReadbackSample dt ch r) s fun u => (u.chan ch).lastAt = some t ∧ (u.out ch).rbi = (s.out ch).rbi ∧
      (u.out ch).rbv = (s.out ch).rbv ∧ (u.chan ch).nextSeq = (s.chan ch).nextSeq)) ∧
  (∀ (s : State) (g t : Nat) (r : Readback), outFails (s.out g) r = true → (s.out g).compliance = false →
    ((s.out g).fails = 3 → ((judgeCompliance g t r s).out g).compliance = true) ∧
    ((s.out g).fails < 3 → ((judgeCompliance g t r s).out g).compliance = false)) ∧
  (∀ (s : State) (dt : Nat) (i : Fin 14), i.val < 8 → exec (.islandLinkLost dt i) s =
    .next ((s.advance dt).setAisl i { s.aisl i with linkUp := false, lost := true })) ∧
  (∀ (s : State) (dt : Nat) (i : Fin 14), 8 ≤ i.val → exec (.islandLinkLost dt i) s =
    .next ((s.advance dt).setDisl (i - 8) { s.disl (i - 8) with linkUp := false, lost := true })) ∧
  (∀ (s : State) (dt : Nat) (i : Fin 14), i.val < 8 → (s.aisl i).quiet = false → Completes (.islandLinkSilent dt i) s fun t =>
    (t.aisl i).silent = some (s.now + dt) ∧ ∀ c, c < 8 → (s.chan (i * 8 + c)).cfg.kind = 8 →
      (t.out (i * 8 + c)).held = !(s.out (i * 8 + c)).safeNow ∧ (t.out (i * 8 + c)).driven = (s.out (i * 8 + c)).driven ∧
        (t.out (i * 8 + c)).target = none) ∧
  (∀ (s : State) (dt : Nat) (i : Fin 14), 8 ≤ i.val → (s.disl (i.val - 8)).quiet = false → Completes (.islandLinkSilent dt i) s fun t =>
    (t.disl (i.val - 8)).silent = some (s.now + dt) ∧ ∀ p, p < 16 → (s.pin (64 + (i.val - 8) * 16 + p)).cfg.mode = 5 →
      (s.pin (64 + (i.val - 8) * 16 + p)).safeNow = false → (t.pin (64 + (i.val - 8) * 16 + p)).held = true ∧
        (t.pin (64 + (i.val - 8) * 16 + p)).driven = (s.pin (64 + (i.val - 8) * 16 + p)).driven) ∧
  (∀ (s : State) (dt : Nat) (i : Fin 14), i.val < 8 → (s.aisl i).powered = true → exec (.islandLinkRestored dt i) s =
    .next ((s.advance dt).setAisl i { s.aisl i with linkUp := true, lost := false, present := true, quiet := false })) ∧
  (∀ (s : State) (dt : Nat) (i : Fin 14), 8 ≤ i.val → (s.disl (i - 8)).powered = true → exec (.islandLinkRestored dt i) s =
    .next ((s.advance dt).setDisl (i - 8) { s.disl (i - 8) with linkUp := true, lost := false, present := true, quiet := false })) ∧
  (∀ (s : State) (dt t : Nat) (i : Fin 8), (s.aisl i).silent = some t → t + 20000000 * (s.aisl i).hold ≤ s.now + dt →
    Completes (.outputHoldExpiry dt i) s fun u => (u.aisl i).silent = none ∧
      ∀ c, c < 8 → (s.chan (i * 8 + c)).cfg.kind = 8 → (u.out (i * 8 + c)).held = false ∧
        ((s.out (i * 8 + c)).held = true → (u.out (i * 8 + c)).safeNow = true ∧ (u.out (i * 8 + c)).driven = (s.out (i * 8 + c)).safe)) ∧
  (∀ (s : State) (dt t : Nat) (i : Fin 8), (s.aisl i).silent = some t → s.now + dt < t + 20000000 * (s.aisl i).hold →
    exec (.outputHoldExpiry dt i) s = .next (s.advance dt)) ∧
  (∀ (s : State) (dt mv level : Nat) (ch : Fin 64) (env : Env) (w : Swap), s.cellSwap ch = some w → w.method = 1 →
    ((s.chan ch).cfg.kind = 8 ∨ (s.chan ch).cfg.emode = 3) →
    (10000 + level < 1000 * mv → exec (.cellSwapVolt dt ch mv level env) s = .next (refuseSpare w 6 (s.advance dt))) ∧
    (env.fails = [] → 1000 * mv ≤ 10000 + level → (s.chan ch).cfg.kind = 8 →
      Completes (.cellSwapVolt dt ch mv level env) s fun t => (t.out ch).cellA = some w.spare ∧ (t.out ch).driven = (s.out ch).driven) ∧
    (env.fails = [] → 1000 * mv ≤ 10000 + level → (s.chan ch).cfg.kind ≠ 8 →
      Completes (.cellSwapVolt dt ch mv level env) s fun t => (t.chan ch).psource = some w.spare))

/-- PIN_CONFIGURE (R142, R143, R153, R160, R164) with every field in range: FILTER outside 1 to 400 is 0x0031, a mode change inside a group 0x0032,
a field of another mode 0x0030; with an unchanged mode the settings are in force at once and the pin follows its source; a mode change leaves the
old mode at once, driver off, and the command waits until the new one starts, at least 1 ms later. PIN_READ answers the registers of the pin.
COUNTER_RESET (R148) clears the counters of the masked pins alone. GROUP_CONFIGURE (R153): a member that is no DO pin is 0x0032, a member that is on
0x0033, the mode in force OK at once, else the quad takes the mode and no other quad changes. DIGITAL_FAULT_CLEAR (R151) clears SHORT, LATCHED and
the retries of the masked pins. DIGITAL_HOLD_SET (R161) stores the hold time. -/
def Obligations.DigitalPinCommands : Prop :=
  (∀ (s : State) (dt g : Nat) (c : Cmd) (env : Env) (k : PinCfg) (u : State), s.Ready .pinConfigure dt c → k = pinCfgOf c → g = 64 + c.u8 32 * 16 + c.u8 33 →
    u = startMode g (s.entered .pinConfigure dt c) → Clean c [(32, 8)] 0 →
    c.u8 32 ≤ 5 → c.u8 33 ≤ 15 → k.mode ≤ 5 → c.u8 35 ≤ 63 → k.edge ≤ 2 → k.gate ≤ 3 → k.safeMode ≤ 2 →
    ((k.filter < 1 ∨ 400 < k.filter) → Answers s (.pinConfigure dt c env) stBadParam (le 2 0x31) u) ∧
    (1 ≤ k.filter → k.filter ≤ 400 → k.mode ≠ (u.pin g).cfg.mode → u.gmode g ≠ 0 → Answers s (.pinConfigure dt c env) stBadParam (le 2 0x32) u) ∧
    (1 ≤ k.filter → k.filter ≤ 400 → (k.mode = (u.pin g).cfg.mode ∨ u.gmode g = 0) → k.fieldsOk = false →
      Answers s (.pinConfigure dt c env) stBadParam (le 2 0x30) u) ∧
    (1 ≤ k.filter → k.filter ≤ 400 → k.fieldsOk = true → k.mode = (u.pin g).cfg.mode → (u.pin g).safeNow = false →
      Answers s (.pinConfigure dt c env) stOk [] (repin g (u.setPin g { u.pin g with cfg := k }))) ∧
    (1 ≤ k.filter → k.filter ≤ 400 → k.fieldsOk = true → k.mode = (u.pin g).cfg.mode → (u.pin g).safeNow = true →
      Answers s (.pinConfigure dt c env) stOk [] (pinSafe g (u.setPin g { u.pin g with cfg := k }))) ∧
    (1 ≤ k.filter → k.filter ≤ 400 → k.fieldsOk = true → k.mode ≠ (u.pin g).cfg.mode → u.gmode g = 0 →
      StaysOpen s (.pinConfigure dt c env) (s.entryOf .pinConfigure dt c) [g] (leaveMode g k s.cp.nextId u))) ∧
  (∀ (s : State) (g id : Nat) (k : PinCfg), ((leaveMode g k id s).pin g).driven = false ∧ ((leaveMode g k id s).pin g).cfg.mode = 0 ∧
    ((leaveMode g k id s).pin g).modeNext = some { cfg := k, old := (s.pin g).cfg, due := s.now + 1000000, cmd := id }) ∧
  (∀ (s : State) (g : Nat) (n : ModeNext), (s.pin g).modeNext = some n →
    (s.now < n.due → startMode g s = s) ∧
    (n.due ≤ s.now → n.cfg.mode ≠ 5 → startMode g s = completeCmd n.cmd stOk [] (s.setPin g { s.pin g with
      cfg := n.cfg, modeNext := none, gateStart := s.now, lastAt := none, cmd := false, usableAt := s.now })) ∧
    (n.due ≤ s.now → n.cfg.mode = 5 → s.gmode g = 0 → s.mode .drv = true → ((startMode g s).pin g).cfg = n.cfg ∧ ((startMode g s).pin g).owner = 1 ∧
      ((startMode g s).pin g).cmd = false)) ∧
  (∀ (s : State) (dt : Nat) (c : Cmd) (env : Env) (x : Pin), s.Ready .pinRead dt c → Clean c [(32, 2)] 0 → c.u8 32 ≤ 5 → c.u8 33 ≤ 15 →
    x = s.pin (64 + c.u8 32 * 16 + c.u8 33) → Answers s (.pinRead dt c env) stOk
      (le 1 (x.status % 2) ++ le 1 (bit x.level 0) ++ le 2 x.sqwNow ++ le 4 x.count ++ le 4 x.freq.toNat ++ le 8 x.transAt ++
        le 4 x.diag ++ le 4 x.status) (s.entered .pinRead dt c)) ∧
  (∀ (s : State) (dt : Nat) (c : Cmd) (env : Env), s.Ready .counterReset dt c → Clean c [(32, 1), (34, 2)] 0 → c.u8 32 ≤ 5 →
    Completes (.counterReset dt c env) s fun t => ∀ g, (g ∈ maskPins (c.u8 32) (c.u16 34) → (t.pin g).count = 0) ∧
      (g ∉ maskPins (c.u8 32) (c.u16 34) → (t.pin g).count = (s.pin g).count)) ∧
  (∀ (s : State) (dt : Nat) (c : Cmd) (env : Env), s.Ready .groupConfigure dt c → Clean c [(32, 3)] 0 → c.u8 32 ≤ 5 → c.u8 33 ≤ 3 → c.u8 34 ≤ 2 →
    (c.u8 34 ≠ 0 ∧ ∃ k, k < 4 ∧ (s.pin (64 + c.u8 32 * 16 + c.u8 33 * 4 + k)).cfg.mode ≠ 5) →
    Answers s (.groupConfigure dt c env) stBadParam (le 2 0x32) (s.entered .groupConfigure dt c)) ∧
  (∀ (s : State) (dt o : Nat) (c : Cmd) (env : Env), s.Ready .groupConfigure dt c → Clean c [(32, 3)] 0 → c.u8 32 ≤ 5 → c.u8 33 ≤ 3 → c.u8 34 ≤ 2 →
    (c.u8 34 ≠ 0 → ∀ k, k < 4 → (s.pin (64 + c.u8 32 * 16 + c.u8 33 * 4 + k)).cfg.mode = 5 ∧
      (s.pin (64 + c.u8 32 * 16 + c.u8 33 * 4 + k)).owner = o) →
    ((s.disl (c.u8 32)).gmode.getD (c.u8 33) 0 = c.u8 34 → Answers s (.groupConfigure dt c env) stOk [] (s.entered .groupConfigure dt c)) ∧
    ((s.disl (c.u8 32)).gmode.getD (c.u8 33) 0 ≠ c.u8 34 → (∃ k, k < 4 ∧ (s.pin (64 + c.u8 32 * 16 + c.u8 33 * 4 + k)).driven = true) →
      Answers s (.groupConfigure dt c env) stBadParam (le 2 0x33) (s.entered .groupConfigure dt c)) ∧
    ((s.disl (c.u8 32)).gmode.getD (c.u8 33) 0 ≠ c.u8 34 → (∀ k, k < 4 → (s.pin (64 + c.u8 32 * 16 + c.u8 33 * 4 + k)).driven = false) →
      c.u8 33 < (s.disl (c.u8 32)).gmode.length →
      Completes (.groupConfigure dt c env) s fun t => (t.disl (c.u8 32)).gmode.getD (c.u8 33) 0 = c.u8 34 ∧
        ∀ q, q ≠ c.u8 33 → (t.disl (c.u8 32)).gmode.getD q 0 = (s.disl (c.u8 32)).gmode.getD q 0)) ∧
  (∀ (s : State) (dt : Nat) (c : Cmd) (env : Env), s.Ready .digitalFaultClear dt c → Clean c [(32, 1), (34, 2)] 0 → c.u8 32 ≤ 5 →
    Completes (.digitalFaultClear dt c env) s fun t => ∀ g, g ∈ maskPins (c.u8 32) (c.u16 34) → (t.pin g).latched = false ∧
      (t.pin g).short = false ∧ (t.pin g).retries = 0 ∧ (t.pin g).retryAt = none) ∧
  (∀ (s : State) (dt : Nat) (c : Cmd) (env : Env), s.Ready .digitalHoldSet dt c → Clean c [(32, 2)] 0 → c.u8 32 ≤ 5 → c.u8 33 ≤ 250 →
    Answers s (.digitalHoldSet dt c env) stOk []
      ((s.entered .digitalHoldSet dt c).setDisl (c.u8 32) { s.disl (c.u8 32) with hold := c.u8 33 }))

/-- DIGITAL_WRITE (R158, R163, R164): with DRV at 0 it is MODE_CONFLICT 0x00A3, with CTL at 1 or a pin of another owner MODE_CONFLICT, a pin that is
not its group's lowest 0x0032, an empty mask OK at once; else the state of each masked pin is staged for the command's instant and the command stays
open. DO_STATE_APPLY (R65, R66, R150): a staged state whose instant has come is applied to an island that it reaches; with no blanking the pin takes
it at once and the command settles, with blanking the transition follows PRE later and the command waits for it; before the instant nothing happens;
a transition whose PRE is over takes place and settles its command. INPUT_TRANSITION_ACCEPTED (R145, R146): in modes DI1, DI3 and DO a new level
that has stood for FILTER is accepted and sampled at the instant it was first seen; one that has not only changes the level. INPUT_PERIODIC_SAMPLE
(R146) samples those modes 100 ms after the last sample and not before. COUNT_EDGE (R148) counts the edges that EDGE names and no other, and stamps
rising edges for FREQ. COUNT_SAMPLE samples the counter 10 ms after the last sample and not before. FREQ_GATE_END (R148) at the end of a gate gives
(n − 1) / (t_last − t_first), or 0 for fewer than two edges; before it nothing happens. -/
def Obligations.DigitalWritesAndSamples : Prop :=
  (∀ (s : State) (dt : Nat) (c : Cmd) (env : Env) (l : List Nat), s.Ready .digitalWrite dt c → l = maskPins (c.u8 32) (c.u16 34) →
    Clean c [(32, 1), (34, 4)] 0 → c.u8 32 ≤ 5 →
    (s.mode .drv = false → Answers s (.digitalWrite dt c env) stModeConflict (le 2 0x00A3) (s.entered .digitalWrite dt c)) ∧
    (s.mode .drv = true → (s.mode .ctl = true ∨ ∃ g, g ∈ l ∧ (s.pin (s.groupBase g)).owner ≠ 1) →
      Answers s (.digitalWrite dt c env) stModeConflict (le 2 0) (s.entered .digitalWrite dt c)) ∧
    (s.mode .drv = true → s.mode .ctl = false → (∀ g, g ∈ l → (s.pin (s.groupBase g)).owner = 1) → (∃ g, g ∈ l ∧ s.groupBase g ≠ g) →
      Answers s (.digitalWrite dt c env) stBadParam (le 2 0x32) (s.entered .digitalWrite dt c)) ∧
    (s.mode .drv = true → s.mode .ctl = false → l = [] → Answers s (.digitalWrite dt c env) stOk [] (s.entered .digitalWrite dt c)) ∧
    (s.mode .drv = true → s.mode .ctl = false → (∀ g, g ∈ l → (s.pin g).owner = 1 ∧ s.groupBase g = g) → l ≠ [] →
      StaysOpen s (.digitalWrite dt c env) (s.entryOf .digitalWrite dt c) [c.u8 32] (l.foldl (fun s' g =>
        stagePin g ((c.u16 36).testBit (pinNo g)) (if c.notBefore = 0 then s.now + dt else max c.notBefore (s.now + dt))
          (some s.cp.nextId) s') (s.entered .digitalWrite dt c)))) ∧
  (∀ (s : State) (dt t g : Nat) (p : Fin 96) (v : Bool) (id : Option Nat), g = 64 + p.val → (s.pin g).staged = some (v, t, id) → (s.pin g).modeNext = none →
    (s.pin g).moveAt = none → (s.pin (s.groupBase g)).moveAt = none →
    ((s.now + dt < t ∨ s.dislReached (pinIsl g) = false) → exec (.doStateApply dt p) s = .next (s.advance dt)) ∧
    (t ≤ s.now + dt → s.dislReached (pinIsl g) = true → s.preOf (pinIsl g) = 0 →
      (id = none → exec (.doStateApply dt p) s = .next (applyState g v (s.advance dt))) ∧
      (∀ k, id = some k → exec (.doStateApply dt p) s = .next (settleWrite k (applyState g v (s.advance dt))))) ∧
    (∀ k, id = some k → t ≤ s.now + dt → s.dislReached (pinIsl g) = true → s.preOf (pinIsl g) ≠ 0 → s.gmode g = 0 → s.mode .drv = true →
      s.islandDead (8 + pinIsl g) = false → (s.pin g).cfg.mode = 5 → (s.pin g).protectedOff = false → (s.pin g).latched = false → (s.pin g).driven ≠ v →
      Completes (.doStateApply dt p) s fun u => (u.pin g).cmd = v ∧ (u.pin g).driven = (s.pin g).driven ∧ (u.pin g).moveCmd = some k ∧
        (u.pin g).moveAt = some (s.now + dt + s.preOf (pinIsl g)) ∧ (u.pin g).staged = none)) ∧
  (∀ (s : State) (g : Nat) (v : Bool), s.dislReached (pinIsl g) = true → s.preOf (pinIsl g) = 0 → s.gmode g = 0 → s.mode .drv = true →
    s.islandDead (8 + pinIsl g) = false → (s.pin g).cfg.mode = 5 → (s.pin g).protectedOff = false → (s.pin g).latched = false →
    ((applyState g v s).pin g).cmd = v ∧ ((applyState g v s).pin g).driven = v ∧ ((applyState g v s).pin g).held = false ∧
      ((applyState g v s).pin g).safeNow = false) ∧
  (∀ (s : State) (g t id : Nat), (s.pin (s.groupBase g)).moveAt = some t → (s.pin (s.groupBase g)).moveCmd = some id →
    (t ≤ s.now → movePins g s = settleWrite id (followPins g (s.setPin (s.groupBase g) { s.pin (s.groupBase g) with moveAt := none, moveCmd := none }))) ∧
    (s.now < t → movePins g s = s)) ∧
  (∀ (s : State) (dt since g : Nat) (p : Fin 96) (v : Bool) (u : State) (x : Pin), g = 64 + p.val → u = startMode g (s.advance dt) → x = u.pin g →
    (since < 50000 * x.cfg.filter → exec (.inputTransitionAccepted dt p v since) s = .next (u.setPin g { x with level := v })) ∧
    ((x.cfg.mode = 1 ∨ x.cfg.mode = 2 ∨ x.cfg.mode = 5) → x.accepted ≠ v → 50000 * x.cfg.filter ≤ since → (u.disl (pinIsl g)).powered = true →
      Completes (.inputTransitionAccepted dt p v since) s fun t => ∃ w, w = u.setPin g { x with level := v, accepted := v, transAt := u.now - since } ∧
        t = samplePin g (u.now - since) (boolWord (w.pin g).state) 0 false w)) ∧
  (∀ (s : State) (dt g : Nat) (p : Fin 96) (u : State) (x : Pin), g = 64 + p.val → u = startMode g (s.advance dt) → x = u.pin g →
    (x.cfg.mode = 1 ∨ x.cfg.mode = 2 ∨ x.cfg.mode = 5) → (u.disl (pinIsl g)).powered = true →
    ((∀ t, x.lastAt = some t → t + 100000000 ≤ u.now) →
      exec (.inputPeriodicSample dt p) s = .next (samplePin g u.now (boolWord x.state) 0 false u)) ∧
    (∀ t, x.lastAt = some t → u.now < t + 100000000 → exec (.inputPeriodicSample dt p) s = .next u)) ∧
  (∀ (s : State) (dt g : Nat) (p : Fin 96) (r : Bool) (u : State) (x : Pin), g = 64 + p.val → u = startMode g (s.advance dt) → x = u.pin g →
    (u.disl (pinIsl g)).powered = true →
    (x.cfg.mode = 3 → ((x.cfg.edge = 0 ∧ r = true) ∨ (x.cfg.edge = 1 ∧ r = false) ∨ 2 ≤ x.cfg.edge) → exec (.countEdge dt p r) s =
      .next (u.setPin g { x with level := r, accepted := r, transAt := u.now, count := (x.count + 1) % 4294967296 })) ∧
    (x.cfg.mode = 3 → ((x.cfg.edge = 0 ∧ r = false) ∨ (x.cfg.edge = 1 ∧ r = true)) → exec (.countEdge dt p r) s =
      .next (u.setPin g { x with level := r, accepted := r, transAt := u.now })) ∧
    (∀ a b, x.cfg.mode = 4 → r = true → x.gateEdges = (0, a, b) → exec (.countEdge dt p r) s =
      .next (u.setPin g { x with level := true, accepted := true, transAt := u.now, gateEdges := (1, u.now, u.now) })) ∧
    (∀ n a b, x.cfg.mode = 4 → r = true → x.gateEdges = (n + 1, a, b) → exec (.countEdge dt p r) s =
      .next (u.setPin g { x with level := true, accepted := true, transAt := u.now, gateEdges := (n + 2, a, u.now) }))) ∧
  (∀ (s : State) (dt g : Nat) (p : Fin 96) (u : State) (x : Pin), g = 64 + p.val → u = startMode g (s.advance dt) → x = u.pin g → x.cfg.mode = 3 →
    (u.disl (pinIsl g)).powered = true →
    ((∀ t, x.lastAt = some t → t + 10000000 ≤ u.now) →
      exec (.countSample dt p) s = .next (samplePin g u.now (f32OfRat (x.count : Rat)) x.count false u)) ∧
    (∀ t, x.lastAt = some t → u.now < t + 10000000 → exec (.countSample dt p) s = .next u)) ∧
  (∀ (s : State) (dt g n a b : Nat) (p : Fin 96) (u : State) (x : Pin), g = 64 + p.val → u = startMode g (s.advance dt) → x = u.pin g → x.cfg.mode = 4 →
    x.gateEdges = (n, a, b) → (u.disl (pinIsl g)).powered = true →
    (u.now < x.gateStart + gateTime x.cfg.gate → exec (.freqGateEnd dt p) s = .next u) ∧
    (x.gateStart + gateTime x.cfg.gate ≤ u.now → n < 2 → exec (.freqGateEnd dt p) s = .next (samplePin g u.now (f32OfRat 0) 0 false
      (u.setPin g { x with freq := f32OfRat 0, gateEdges := (0, 0, 0), gateStart := u.now }))) ∧
    (∀ q, x.gateStart + gateTime x.cfg.gate ≤ u.now → 2 ≤ n → a < b → q = mkRat ((n - 1 : Nat) * 1000000000) (b - a) →
      exec (.freqGateEnd dt p) s = .next (samplePin g u.now (f32OfRat q) 0 (decide (10500 < q))
        (u.setPin g { x with freq := f32OfRat q, gateEdges := (0, 0, 0), gateStart := u.now }))))

/-- On a powered island with L+: DRIVER_CURRENT_LIMIT notes when the limit began (R151); SHORT_LIMIT_TIMEOUT after 2 ms in limit turns the driver
off, sets SHORT and, with RETRY and fewer than three retries, plans the next, else latches the pin, while a pin out of limit has SHORT cleared;
SHORT_RETRY turns it on again. THERMAL_SHUTDOWN and THERMAL_REENABLE, OPEN_ON_DETECT, OFF_STATE_TEST and WIRE_BREAK_DETECT set and clear their flags
with their records (R147, R152); RON_MEASURE (R420) at 100 mA and more stores the resistance and judges its wear. LPLUS_STATE_CHANGE (R141) stores
the voltage and records a change of class. GROUP_MEMBER_CHECK (R155) stores the currents; a member that deviates a second time is off.
RAIL_SWAP_STEP (R157, R432) takes each step of a swap onto the spare rail. DIGITAL_HOLD_EXPIRY (R161): when the hold is over held pins take their
safe value. -/
def Obligations.DigitalDiagnostics : Prop :=
  (∀ (s : State) (dt ma g : Nat) (p : Fin 96) (x : Pin), g = 64 + p.val → x = s.pin g → x.cfg.mode = 5 → x.driven = true → s.diagnoses g = true →
    (x.short = false → exec (.driverCurrentLimit dt p ma) s = .next ((s.advance dt).setPin g { x with
      curr := ma, limitSince := some (x.limitSince.getD (s.now + dt)), shortAt := s.now + dt })) ∧
    (x.short = true → exec (.driverCurrentLimit dt p ma) s = .next ((s.advance dt).setPin g { x with
      curr := ma, limitSince := some (x.limitSince.getD (s.now + dt)) }))) ∧
  (∀ (s : State) (dt ma t g : Nat) (p : Fin 96) (x : Pin), g = 64 + p.val → x = s.pin g → x.limitSince = some t → x.cfg.mode = 5 → s.diagnoses g = true →
    (s.now + dt < t + 2000000 → exec (.shortLimitTimeout dt p true ma) s = .next (s.advance dt)) ∧
    (t + 2000000 ≤ s.now + dt → s.retries g = true → x.retries < 3 → exec (.shortLimitTimeout dt p true ma) s =
      .next (shortRecord g 1 x.retries ma (setFault g (guardOff g ((s.advance dt).setPin g { x with
        short := true, limitSince := none, curr := ma, retryAt := some (x.shortAt + 1000000000 * (x.retries + 1)) }))))) ∧
    (t + 2000000 ≤ s.now + dt → (s.retries g = false ∨ 3 ≤ x.retries) → Completes (.shortLimitTimeout dt p true ma) s fun u =>
      (u.pin g).latched = true ∧ (u.pin g).short = true ∧ (u.pin g).retryAt = none ∧ (u.pin g).driven = false) ∧
    (t + 2000000 ≤ s.now + dt → x.short = true → exec (.shortLimitTimeout dt p false ma) s = .next (shortRecord g 0 x.retries ma
      ((s.advance dt).setPin g { x with limitSince := none, short := false, retries := 0, curr := ma }))) ∧
    (t + 2000000 ≤ s.now + dt → x.short = false → exec (.shortLimitTimeout dt p false ma) s =
      .next ((s.advance dt).setPin g { x with limitSince := none, curr := ma }))) ∧
  (∀ (s : State) (dt t g : Nat) (p : Fin 96) (x : Pin), g = 64 + p.val → x = s.pin g → x.retryAt = some t → x.latched = false → x.cfg.mode = 5 →
    s.diagnoses g = true → t ≤ s.now + dt →
    exec (.shortRetry dt p) s = .next (repin g (shortRecord g 2 (x.retries + 1) x.curr ((s.advance dt).setPin g { x with
      retries := x.retries + 1, retryAt := none, limitSince := some (s.now + dt + s.preOf (pinIsl g)) })))) ∧
  (∀ (s : State) (dt g : Nat) (p : Fin 96) (x : Pin), g = 64 + p.val → x = s.pin g → x.cfg.mode = 5 → x.thermal = false → s.diagnoses g = true →
    exec (.thermalShutdown dt p) s = .next (note 0x0323 g (le 1 1) (setFault g (guardOff g
      ((s.advance dt).setPin g { x with thermal := true, hot := true }))))) ∧
  (∀ (s : State) (dt g : Nat) (p : Fin 96) (x : Pin), g = 64 + p.val → x = s.pin g → x.thermal = true → x.hot = true → x.latched = false →
    s.diagnoses g = true →
    (x.retries ≤ 1 → s.retries g = true → exec (.thermalReenable dt p) s = .next (repin g (note 0x0323 g (le 1 0) ((s.advance dt).setPin g { x with
      thermal := false, hot := false, retries := x.retries + 1 })))) ∧
    ((2 ≤ x.retries ∨ s.retries g = false) → Completes (.thermalReenable dt p) s fun u => (u.pin g).latched = true ∧ (u.pin g).thermal = false ∧
      (u.pin g).driven = false)) ∧
  (∀ (s : State) (dt ma g : Nat) (p : Fin 96) (x : Pin), g = 64 + p.val → x = s.pin g → x.cfg.mode = 5 → s.diagnoses g = true →
    (x.openOn = false → x.driven = true → ma < 5 * (s.groupOf g).length → exec (.openOnDetect dt p ma) s =
      .next (openRecord g 0 1 ma (setFault g (((s.advance dt).setPin g { x with curr := ma }).setPin g { x with curr := ma, openOn := true })))) ∧
    (x.openOn = true → 10 * (s.groupOf g).length ≤ ma → exec (.openOnDetect dt p ma) s =
      .next (openRecord g 0 0 ma (((s.advance dt).setPin g { x with curr := ma }).setPin g { x with curr := ma, openOn := false })))) ∧
  (∀ (s : State) (dt on off ua g : Nat) (p : Fin 96) (x : Pin), g = 64 + p.val → x = s.pin g → x.cfg.mode = 5 → x.driven = false → s.diagnoses g = true →
    ua < 5000 →
    ((s.pin (s.groupBase g)).cfg.olOff = true → x.openOff = false → x.extSupply = false → 8000 < on → off < 2000 →
      exec (.offStateTest dt p on ⟨off, ua⟩) s = .next (openRecord g 1 1 on (setFault g
        (((s.advance dt).setPin g { x with offClear := 0, extClear := x.extClear + 1 }).setPin g
          { x with offClear := 0, extClear := x.extClear + 1, openOff := true })))) ∧
    (on ≤ 8000 → off ≤ 8000 → x.openOff = false → x.extSupply = false → exec (.offStateTest dt p on ⟨off, ua⟩) s =
      .next ((s.advance dt).setPin g { x with offClear := x.offClear + 1, extClear := x.extClear + 1 }))) ∧
  (∀ (s : State) (dt ua g : Nat) (p : Fin 96) (x : Pin), g = 64 + p.val → x = s.pin g → x.cfg.wbEn = true → (x.cfg.mode = 1 ∨ x.cfg.mode = 2) →
    (s.disl (pinIsl g)).powered = true →
    (x.wireBreak = false → ua < 150 → exec (.wireBreakDetect dt p ua) s = .next (note 0x0320 g (le 1 1 ++ zeros 1 ++ le 2 ua)
      (setFault g ((s.advance dt).setPin g { x with wireBreak := true })))) ∧
    (x.wireBreak = true → 250 ≤ ua → exec (.wireBreakDetect dt p ua) s = .next (note 0x0320 g (le 1 0 ++ zeros 1 ++ le 2 (min ua 65535))
      ((s.advance dt).setPin g { x with wireBreak := false }))) ∧
    (150 ≤ ua → ua < 250 → exec (.wireBreakDetect dt p ua) s = .next (s.advance dt))) ∧
  (∀ (s : State) (dt mohm ma g : Nat) (p : Fin 96) (x : Pin) (v : State), g = 64 + p.val → x = s.pin g → x.cfg.mode = 5 → x.driven = true →
    s.diagnoses g = true →
    (100 ≤ ma → v = (s.advance dt).setPin g { x with missed := 0 } → exec (.ronMeasure dt p mohm ⟨ma, (some true)⟩) s =
      .next (driverWear g mohm false (v.setPin g { v.pin g with ron := min mohm 65534, curr := ma, ronAt := s.now + dt }))) ∧
    (100 ≤ ma → v = (s.advance dt).setPin g x → exec (.ronMeasure dt p mohm ⟨ma, none⟩) s =
      .next (driverWear g mohm false (v.setPin g { v.pin g with ron := min mohm 65534, curr := ma, ronAt := s.now + dt }))) ∧
    (ma < 100 → x.missed ≤ 1 → exec (.ronMeasure dt p mohm ⟨ma, (some false)⟩) s = .next ((s.advance dt).setPin g { x with missed := x.missed + 1 }))) ∧
  (∀ (s : State) (dt mv old new : Nat) (d : Fin 6), (s.disl d).lplus = some old →
    (18000 ≤ mv ∧ new = 0) ∨ (15000 ≤ mv ∧ mv < 18000 ∧ new = 1) ∨ (mv < 15000 ∧ new = 2) →
    (old = new → exec (.lplusStateChange dt d mv) s = .next ((s.advance dt).setDisl d { s.disl d with volt := min mv 65535, lplus := some new })) ∧
    (old ≠ new → exec (.lplusStateChange dt d mv) s = .next (note 0x0324 (168 + d) (le 1 new ++ le 1 old ++ le 2 (min mv 65535))
      ((s.advance dt).setDisl d { s.disl d with volt := min mv 65535, lplus := some new })))) ∧
  (∀ (s : State) (dt b : Nat) (d : Fin 6) (q : Fin 4) (cur : Vector Nat 4), b = 64 + d.val * 16 + q.val * 4 → s.diagnoses b = true →
    (s.gmode b = 0 ∨ ∀ j k, j < 4 → k < 4 → cur.toList.getD j 0 = cur.toList.getD k 0) → Completes (.groupMemberCheck dt d q cur) s fun u =>
      (∀ k, k < 4 → (u.pin (b + k)).curr = cur.toList.getD k 0) ∧
      ∀ g, (u.pin g).memberOff = (s.pin g).memberOff ∧ (u.pin g).latched = (s.pin g).latched) ∧
  (∀ (s : State) (l on : List Nat) (cur : Nat → Nat) (mean g : Nat), mean < (if cur g < mean then mean - cur g else cur g - mean) * 4 → 1 ≤ (s.pin g).deviates →
    ((checkMember l on cur mean s g).pin g).memberOff = true) ∧
  (∀ (s : State) (dt mv : Nat) (d : Fin 6), (∀ w, w ∈ s.spr.swaps → w.pool = 2 → w.isl ≠ d) → exec (.railSwapStep dt ⟨d, mv⟩) s = .next (s.advance dt)) ∧
  (∀ (s : State) (dt mv g : Nat) (d : Fin 6) (w : Swap), (s.spr.swaps.find? fun w => w.pool == 2 && w.isl == d.val) = some w → g = 64 + d.val * 16 + w.idx →
    (((s.pin g).driven = false ∨ 3 ≤ w.phase) → exec (.railSwapStep dt ⟨d, mv⟩) s = .next (railDone w (s.advance dt))) ∧
    ((s.pin g).driven = true → w.phase = 0 →
      exec (.railSwapStep dt ⟨d, mv⟩) s = .next ((s.advance dt).setSwap { w with phase := 1, joinAt := s.now + dt })) ∧
    ((s.pin g).driven = true → w.phase = 1 → railReads (s.disl d).volt mv = true → Completes (.railSwapStep dt ⟨d, mv⟩) s fun t =>
      (t.disl d).railPin = some w.idx ∧ (t.pin g).onSpare = true ∧ t.spr.swaps = ((s.advance dt).setSwap { w with phase := 2 }).spr.swaps) ∧
    ((s.pin g).driven = true → w.phase = 2 → exec (.railSwapStep dt ⟨d, mv⟩) s = .next ((s.advance dt).setSwap { w with phase := 3 }))) ∧
  (∀ (s : State) (w : Swap), w.idx < 16 → ((railDone w s).disl w.isl).railPin = some w.idx ∧ ((railDone w s).pin (64 + w.isl * 16 + w.idx)).onSpare = true ∧
    ((railDone w s).pin (64 + w.isl * 16 + w.idx)).wear = 0) ∧
  (∀ (s : State) (dt t : Nat) (d : Fin 6), (s.disl d).silent = some t →
    (s.now + dt < t + 20000000 * (s.disl d).hold → exec (.digitalHoldExpiry dt d) s = .next (s.advance dt)) ∧
    (t + 20000000 * (s.disl d).hold ≤ s.now + dt → Completes (.digitalHoldExpiry dt d) s fun u => (u.disl d).silent = none ∧
      ∀ p, p < 16 → (u.pin (64 + d * 16 + p)).held = false ∧
        ((s.pin (64 + d * 16 + p)).held = true → (u.pin (64 + d * 16 + p)).safeNow = true)))

/-- ALARM_ACK, ALARM_SILENCE (R183, R184, R195, R204): while ALM is 0 they are MODE_CONFLICT 0x00A3; of one point ACK takes AU and AS to AA and RU
to N, SIL takes AU to AS for 30 s, with 1 point counted and no other point changed; ACK of a point not unacknowledged changes none and says 0x41;
over a group, a chain or all, the points changed are counted. ALARM_SHELVE (R189): 0x44 beyond SHELVE_MAX or out of service, else the point shows SH
or SU and its expiry is set. POINT_SERVICE (R190): 0 takes a point out of service, 1 brings it back in its derived state, and a point without a
source is left. SILENCE_EXPIRY and SHELVE_EXPIRY (R183, R189) act at their instant and not before. -/
def Obligations.AlarmSequenceCommands : Prop :=
  (∀ (s : State) (dt p : Nat) (c : Cmd) (env : Env), s.Ready .alarmAck dt c → Clean c [(32, 1), (34, 2)] 0 → c.u8 32 = 0 → p = c.u16 34 → p < 4096 →
    s.mode .alm = true →
    (((s.point p).state = 1 ∨ (s.point p).state = 4) → ∃ u, Answers s (.alarmAck dt c env) stOk (le 2 0 ++ zeros 2 ++ le 4 1) u ∧
      (u.point p).state = 2 ∧ ∀ q, q ≠ p → u.point q = s.point q) ∧
    ((s.point p).state = 3 → ∃ u, Answers s (.alarmAck dt c env) stOk (le 2 0 ++ zeros 2 ++ le 4 1) u ∧
      (u.point p).state = 0 ∧ ∀ q, q ≠ p → u.point q = s.point q) ∧
    ((s.point p).unack = false →
      Answers s (.alarmAck dt c env) stOk (le 2 0x41 ++ zeros 2 ++ le 4 0) (settleAlarm (s.entered .alarmAck dt c)))) ∧
  (∀ (s : State) (dt n : Nat) (c : Cmd) (env : Env) (u : State), s.Ready .alarmAck dt c → Clean c [(32, 1), (34, 2)] 0 → 1 ≤ c.u8 32 →
    scopeOk (c.u8 32) (c.u16 34) = true → s.mode .alm = true →
    overPoints (fun p v => ackPoint p c.session v) (s.scope (c.u8 32) (c.u16 34)) (s.entered .alarmAck dt c) = (n, u) →
    Answers s (.alarmAck dt c env) stOk (zeros 4 ++ le 4 n) (settleAlarm u)) ∧
  (∀ (s : State) (dt n : Nat) (c : Cmd) (env : Env) (u : State), s.Ready .alarmSilence dt c → Clean c [(32, 1), (34, 2)] 0 →
    scopeOk (c.u8 32) (c.u16 34) = true → s.mode .alm = true →
    overPoints silencePoint (s.scope (c.u8 32) (c.u16 34)) (s.entered .alarmSilence dt c) = (n, u) →
    Answers s (.alarmSilence dt c env) stOk (zeros 4 ++ le 4 n) (settleAlarm u)) ∧
  (∀ (s : State) (dt : Nat) (c : Cmd) (env : Env), Clean c [(32, 1), (34, 2)] 0 → scopeOk (c.u8 32) (c.u16 34) = true → s.mode .alm = false →
    (s.Ready .alarmAck dt c → Answers s (.alarmAck dt c env) stModeConflict (le 2 0x00A3) (s.entered .alarmAck dt c)) ∧
    (s.Ready .alarmSilence dt c → Answers s (.alarmSilence dt c env) stModeConflict (le 2 0x00A3) (s.entered .alarmSilence dt c))) ∧
  (∀ (s : State) (dt p : Nat) (c : Cmd) (env : Env), s.Ready .alarmSilence dt c → Clean c [(32, 1), (34, 2)] 0 → c.u8 32 = 0 → p = c.u16 34 → p < 4096 →
    s.mode .alm = true → ((s.point p).state = 1 ∨ (s.point p).state = 4) → ∃ u, Answers s (.alarmSilence dt c env) stOk (zeros 4 ++ le 4 1) u ∧
      (u.point p).state = 4 ∧ (u.point p).silUntil = some (s.now + dt + 30000000000) ∧ ∀ q, q ≠ p → u.point q = s.point q) ∧
  (∀ (s : State) (dt t : Nat) (p : Fin 4096), s.evalOn = true → (s.point p).state = 4 → (s.point p).silUntil = some t →
    (t ≤ s.now + dt → Completes (.silenceExpiry dt p) s fun u => (u.point p).state = 1 ∧ (u.point p).silUntil = none) ∧
    (s.now + dt < t → exec (.silenceExpiry dt p) s = .next (s.advance dt))) ∧
  (∀ (s : State) (dt p : Nat) (c : Cmd) (env : Env), s.Ready .alarmShelve dt c → Clean c [(34, 6)] 0 → p = c.u16 34 → p < 4096 →
    (c.u32 36 ≠ 0 → ((s.point p).state = 7 ∨ (s.point p).shelveMax < c.u32 36) →
      Answers s (.alarmShelve dt c env) stBadParam (le 2 0x44) (s.entered .alarmShelve dt c)) ∧
    (c.u32 36 ≠ 0 → (s.point p).state ≠ 7 → c.u32 36 ≤ (s.point p).shelveMax → (s.point p).suppressed = false → ∃ u, Answers s (.alarmShelve dt c env) stOk [] u ∧
      (u.point p).shelf = some (s.now + dt + 1000000000 * c.u32 36) ∧ (u.point p).state = 5 ∧ ∀ q, q ≠ p → u.point q = s.point q) ∧
    (c.u32 36 ≠ 0 → (s.point p).state ≠ 7 → c.u32 36 ≤ (s.point p).shelveMax → (s.point p).suppressed = true → ∃ u, Answers s (.alarmShelve dt c env) stOk [] u ∧
      (u.point p).shelf = some (s.now + dt + 1000000000 * c.u32 36) ∧ (u.point p).state = 6 ∧ ∀ q, q ≠ p → u.point q = s.point q) ∧
    (c.u32 36 = 0 → (s.point p).shelf = none → Answers s (.alarmShelve dt c env) stOk [] (s.entered .alarmShelve dt c)) ∧
    (c.u32 36 = 0 → (s.point p).state = 5 → (s.point p).suppressed = false → ∃ u, Answers s (.alarmShelve dt c env) stOk [] u ∧
      (u.point p).shelf = none ∧ (u.point p).state = (s.point p).derived ∧ ∀ q, q ≠ p → u.point q = s.point q)) ∧
  (∀ (s : State) (dt t : Nat) (p : Fin 4096), s.evalOn = true → (s.point p).shelf = some t →
    (t ≤ s.now + dt → Completes (.shelveExpiry dt p) s fun u => (u.point p).shelf = none ∧
      ((s.point p).state = 5 → (u.point p).state = (s.point p).derived)) ∧
    (s.now + dt < t → exec (.shelveExpiry dt p) s = .next (s.advance dt))) ∧
  (∀ (s : State) (dt p : Nat) (c : Cmd) (env : Env), s.Ready .pointService dt c → Clean c [(34, 3)] 0 → p = c.u16 34 → p < 4096 → c.u8 36 ≤ 1 →
    ((s.point p).srcKind = 0 → Answers s (.pointService dt c env) stOk [] (s.entered .pointService dt c)) ∧
    ((s.point p).srcKind ≠ 0 → c.u8 36 = 0 → ∃ u, Answers s (.pointService dt c env) stOk [] u ∧ (u.point p).state = 7 ∧ (u.point p).shelf = none) ∧
    ((s.point p).srcKind ≠ 0 → c.u8 36 = 1 → (s.point p).oosCmd = true → (s.point p).suppressed = false → (s.point p).shelf = none →
      ∃ u, Answers s (.pointService dt c env) stOk [] u ∧ (u.point p).state = (s.point p).derived))

/-- POINT_CONFIGURE (R166, R167, R169, R178, R204) of a whole 64-byte descriptor: its refusals in their order, 0x0008, 0x0045, 0x0049, 0x0043 where
a point in service would get another source, condition or vote, 0x004A beyond 64 points on a source, 0x0056 for a flow that is closed or a stream;
else the descriptor is the point's and no other point changes. POINT_READ (R204) answers status and values, or either part of the descriptor.
DERIVED_CONFIGURE (R168, R170): an operand that cannot be one is 0x0045, else the slot holds operator and operands and no other slot changes. -/
def Obligations.PointConfiguration : Prop :=
  (∀ (s : State) (dt p : Nat) (c : Cmd) (env : Env) (x y : Point), s.Ready .pointConfigure dt c → p = c.u16 34 → p ≤ 4095 → c.restZero [(34, 2)] = true →
    c.paramLen = 64 → c.ext.length = 64 → x = s.point p → y = { x with desc := fitBytes 64 c.ext } →
    (descIndexBad y = true → Answers s (.pointConfigure dt c env) stBadParam (le 2 8) (s.entered .pointConfigure dt c)) ∧
    (descIndexBad y = false → descKindBad y s = true →
      Answers s (.pointConfigure dt c env) stBadParam (le 2 0x45) (s.entered .pointConfigure dt c)) ∧
    (descIndexBad y = false → descKindBad y s = false → descValueBad y = true →
      Answers s (.pointConfigure dt c env) stBadParam (le 2 0x49) (s.entered .pointConfigure dt c)) ∧
    (descIndexBad y = false → descKindBad y s = false → descValueBad y = false →
      (y.srcA ≠ x.srcA ∨ y.srcB ≠ x.srcB ∨ y.b 5 ≠ x.b 5 ∨ y.ctype ≠ x.ctype ∨ y.vote ≠ x.vote) → x.state ≠ 7 →
      Answers s (.pointConfigure dt c env) stBadParam (le 2 0x43) (s.entered .pointConfigure dt c)) ∧
    (descIndexBad y = false → descKindBad y s = false → descValueBad y = false →
      ((y.srcA = x.srcA ∧ y.srcB = x.srcB ∧ y.b 5 = x.b 5 ∧ y.ctype = x.ctype ∧ y.vote = x.vote) ∨ x.state = 7) →
      ((∃ k, k ∈ y.sources ∧ 64 ≤ s.fanout p k) → Answers s (.pointConfigure dt c env) stBadParam (le 2 0x4A) (s.entered .pointConfigure dt c)) ∧
      ((∀ k, k ∈ y.sources → s.fanout p k < 64) →
        (y.srcKind ≠ 0 → s.rng.roleNow < 2 → ((s.flow y.flow).state = .closed ∨ (s.flow y.flow).stream = true) →
          Answers s (.pointConfigure dt c env) stAdmission (le 2 0x56) (s.entered .pointConfigure dt c)) ∧
        ((y.srcKind = 0 ∨ 2 ≤ s.rng.roleNow ∨ ((s.flow y.flow).state ≠ .closed ∧ (s.flow y.flow).stream = false)) →
          subscriptionsFail (s.entered .pointConfigure dt c) (s.newSubs y.sources) = none →
          ∃ u, Answers s (.pointConfigure dt c env) stOk [] u ∧ (u.point p).desc = fitBytes 64 c.ext ∧ ∀ q, q ≠ p → u.point q = s.point q)))) ∧
  (∀ (s : State) (dt p : Nat) (c : Cmd) (env : Env), s.Ready .pointRead dt c → Clean c [(34, 3)] 0 → p = c.u16 34 → p < 4096 →
    (c.u8 36 = 0 → Answers s (.pointRead dt c env) stOk (le 4 (s.pointStatus p) ++ le 4 (s.point p).value.toNat ++
      le 2 (s.point p).sqwNow.toNat ++ zeros 6 ++ le 8 ((s.point p).tU.getD 0) ++ le 8 ((s.point p).shelf.getD 0)) (s.entered .pointRead dt c)) ∧
    (c.u8 36 = 1 → Answers s (.pointRead dt c env) stOk ((fitBytes 64 (s.point p).desc).take 40) (s.entered .pointRead dt c)) ∧
    (c.u8 36 = 2 → Answers s (.pointRead dt c env) stOk ((fitBytes 64 (s.point p).desc).drop 40) (s.entered .pointRead dt c))) ∧
  (∀ (s : State) (dt : Nat) (c : Cmd) (env : Env), s.Ready .derivedConfigure dt c → Clean c [(33, 3 + 4 * min (c.u8 35) 4)] 0 → c.u8 34 ≤ 6 →
    2 ≤ c.u8 35 → c.u8 35 ≤ 4 → ((operandsOf c).all fun o => sourceOk o.1 o.2.1 o.2.2) = true → ((c.u8 34 = 4 ∨ c.u8 34 = 6) → c.u8 35 = 2) →
    ((∃ o, o ∈ operandsOf c ∧ (3 < o.1 ∨ (o.1 = 3 ∧ s.varType o.2.2 = some 3))) →
      Answers s (.derivedConfigure dt c env) stBadParam (le 2 0x45) (s.entered .derivedConfigure dt c)) ∧
    ((∀ o, o ∈ operandsOf c → o.1 ≤ 3 ∧ (o.1 = 3 → s.varType o.2.2 ≠ some 3)) →
      subscriptionsFail (s.entered .derivedConfigure dt c) (s.newSubs (operandsOf c)) = none →
      ∃ u, Answers s (.derivedConfigure dt c env) stOk [] u ∧
        tget none u.alm.derived (c.u8 33) = some { op := c.u8 34, operands := operandsOf c } ∧
        ∀ n, n ≠ c.u8 33 → tget none u.alm.derived n = tget none s.alm.derived n))

/-- With fields in range: ALARM_GROUP_CONFIGURE, CHAIN_CONFIGURE and CALL_CONFIGURE (R192 to R196, R204) refuse a pin the Alarm Engine cannot take
with 0x0042, T2 less than 10 s after T1 with 0x0046, and else store what the packet names, a selector's CALL_CONFIGURE its source and first pin.
DUTY_SET (R196) is 0x0047 under a selector, else sets the cabin. FIRSTOUT_RESET (R193) arms the group or all. TILE_BIND (R198) binds the slot and
shows its state. DUTY_SELECTOR_STABLE and DUTY_SELECTOR_INVALID (R196) act once a reading, or none, has stood for 1 s. FIRST_OUT_DECIDE (R193) after
FO_WIN makes the candidate the first-out, and a quiet group arms again. REFLASH_END (R192) ends the reflash at its instant and not before. -/
def Obligations.AlarmGroupsAndCalls : Prop :=
  (∀ (s : State) (dt : Nat) (c : Cmd) (env : Env), s.Ready .alarmGroupConfigure dt c → Clean c [(33, 5)] 0 → pinFieldOk (c.u16 34) = true → c.u8 36 < 8 →
    1 ≤ c.u8 37 → c.u8 37 ≤ 100 →
    (s.canTake (c.u16 34) = false → Answers s (.alarmGroupConfigure dt c env) stBadParam (le 2 0x42) (s.entered .alarmGroupConfigure dt c)) ∧
    (s.canTake (c.u16 34) = true → ∃ t, Answers s (.alarmGroupConfigure dt c env) stOk [] t ∧
      (t.group (c.u8 33)).pin = pinField (c.u16 34) ∧ (t.group (c.u8 33)).mode = (c.u8 36).testBit 0 ∧
      (t.group (c.u8 33)).reflash = (c.u8 36).testBit 1 ∧ (t.group (c.u8 33)).foEn = (c.u8 36).testBit 2 ∧
      (t.group (c.u8 33)).foWin = c.u8 37)) ∧
  (∀ (s : State) (dt : Nat) (c : Cmd) (env : Env), s.Ready .chainConfigure dt c → Clean c [(33, 2), (36, 12)] 0 → c.u8 33 ≤ 15 → 1 ≤ c.u8 34 → c.u8 34 ≤ 4 →
    pinFieldOk (c.u16 40) = true → pinFieldOk (c.u16 42) = true → pinFieldOk (c.u16 44) = true → pinFieldOk (c.u16 46) = true →
    (c.u16 36 = 0 ∨ (10 ≤ c.u16 36 ∧ c.u16 36 ≤ 3600)) → c.u16 38 ≤ 7200 →
    (c.u16 36 ≠ 0 → c.u16 38 < c.u16 36 + 10 →
      Answers s (.chainConfigure dt c env) stBadParam (le 2 0x46) (s.entered .chainConfigure dt c)) ∧
    ((c.u16 36 = 0 ∨ c.u16 36 + 10 ≤ c.u16 38) → (s.canTake (c.u16 40) = false ∨ s.canTake (c.u16 42) = false ∨ s.isInput (c.u16 44) = false ∨
      s.isInput (c.u16 46) = false) → Answers s (.chainConfigure dt c env) stBadParam (le 2 0x42) (s.entered .chainConfigure dt c)) ∧
    ((c.u16 36 = 0 ∨ c.u16 36 + 10 ≤ c.u16 38) → s.canTake (c.u16 40) = true → s.canTake (c.u16 42) = true → s.isInput (c.u16 44) = true →
      s.isInput (c.u16 46) = true → ∃ t, Answers s (.chainConfigure dt c env) stOk [] t ∧
        t.chain (c.u8 33) = { callMin := c.u8 34, t1 := c.u16 36, t2 := c.u16 38, horn := pinField (c.u16 40), beacon := pinField (c.u16 42)
                              ack := pinField (c.u16 44), silence := pinField (c.u16 46) } ∧
        ∀ n, n ≠ c.u8 33 → t.chain n = s.chain n)) ∧
  (∀ (s : State) (dt : Nat) (c : Cmd) (env : Env), s.Ready .callConfigure dt c → Clean c [(33, 2), (36, 2)] 0 → c.u8 33 ≤ 12 → pinFieldOk (c.u16 36) = true →
    c.u8 34 = 0 →
    (s.canTake (c.u16 36) = false → Answers s (.callConfigure dt c env) stBadParam (le 2 0x42) (s.entered .callConfigure dt c)) ∧
    (s.canTake (c.u16 36) = true → ∃ t, Answers s (.callConfigure dt c env) stOk [] t ∧ tget none t.alm.calls (c.u8 33) = pinField (c.u16 36))) ∧
  (∀ (s : State) (dt k : Nat) (c : Cmd) (env : Env), s.Ready .callConfigure dt c → Clean c [(33, 2), (36, 2)] 0 → c.u8 33 = 0x80 → pinFieldOk (c.u16 36) = true →
    (c.u8 34 = 0 → ∃ t, Answers s (.callConfigure dt c env) stOk [] t ∧ t.alm.dsrc = 0 ∧ t.alm.firstPin = none ∧ t.alm.selInvalid = false ∧
      (s.alm.dsrc = 0 → t.alm.cabin = s.alm.cabin) ∧ (s.alm.dsrc ≠ 0 → t.alm.cabin = none)) ∧
    ((c.u8 34 = 1 ∧ k = 4) ∨ (c.u8 34 = 2 ∧ k = 12) → c.u16 36 + k ≤ 160 → pinIsl (c.u16 36) = pinIsl (c.u16 36 + k - 1) →
      (∀ j, j < k → s.isInput (c.u16 36 + j) = true) → ∃ t, Answers s (.callConfigure dt c env) stOk [] t ∧ t.alm.dsrc = c.u8 34 ∧
        t.alm.firstPin = some (c.u16 36) ∧ t.alm.selInvalid = false ∧ t.alm.selAt = s.now + dt)) ∧
  (∀ (s : State) (dt : Nat) (c : Cmd) (env : Env), s.Ready .dutySet dt c → Clean c [(33, 1)] 0 → c.u8 33 ≤ 11 →
    (s.alm.dsrc ≠ 0 → Answers s (.dutySet dt c env) stBadParam (le 2 0x47) (s.entered .dutySet dt c)) ∧
    (s.alm.dsrc = 0 → ∃ t, Answers s (.dutySet dt c env) stOk [] t ∧ t.alm.cabin = some (c.u8 33) ∧ t.dutyInvalid = false)) ∧
  (∀ (s : State) (dt : Nat) (c : Cmd) (env : Env) (arm : State → Nat → State), s.Ready .firstoutReset dt c → Clean c [(33, 1)] 0 →
    arm = (fun s g => s.setGroup g { s.group g with armed := true, foValid := false, provisional := false }) →
    (c.u8 33 ≠ 255 → Answers s (.firstoutReset dt c env) stOk [] (arm (s.entered .firstoutReset dt c) (c.u8 33))) ∧
    (c.u8 33 = 255 → Answers s (.firstoutReset dt c env) stOk [] ((s.alm.groups.map Prod.fst).foldl arm (s.entered .firstoutReset dt c)))) ∧
  (∀ (s : State) (dt : Nat) (c : Cmd) (env : Env), s.Ready .tileBind dt c → Clean c [(34, 3), (38, 2)] 0 → c.u16 34 ≤ 511 → c.u8 36 ≤ 2 →
    (c.u8 36 = 1 → c.u16 38 ≤ 4095) → (c.u8 36 = 2 → c.u16 38 ≤ 255) → ∃ t, Answers s (.tileBind dt c env) stOk [] t ∧
      (c.u8 36 = 0 → tget (0, 0) t.alm.tiles (c.u16 34) = (0, 0)) ∧ (c.u8 36 ≠ 0 → tget (0, 0) t.alm.tiles (c.u16 34) = (c.u8 36, c.u16 38)) ∧
      tget 0 t.alm.tstate (c.u16 34) = t.tileState (c.u16 34)) ∧
  (∀ (s : State) (dt d : Nat), s.evalOn = true → s.selReading = some d →
    (s.selMoved + 1000000000 ≤ s.now + dt → (s.alm.cabin ≠ some d ∨ s.alm.selInvalid = true) →
      exec (.dutySelectorStable dt) s = .next (settleAlarm (dutyRecord s.alm.cabin
        { s.advance dt with alm := { s.alm with cabin := some d, selInvalid := false } }))) ∧
    (s.now + dt < s.selMoved + 1000000000 → exec (.dutySelectorStable dt) s = .next (s.advance dt))) ∧
  (∀ (s : State) (dt : Nat), s.evalOn = true → s.alm.dsrc ≠ 0 → s.selReading = none → s.alm.selInvalid = false →
    (s.selMoved + 1000000000 ≤ s.now + dt → exec (.dutySelectorInvalid dt) s = .next (settleAlarm (dutyRecord s.alm.cabin
      { s.advance dt with alm := { s.alm with selInvalid := true } }))) ∧
    (s.now + dt < s.selMoved + 1000000000 → exec (.dutySelectorInvalid dt) s = .next (s.advance dt))) ∧
  (∀ (s : State) (dt : Nat) (g : Fin 256) (x : Group) (v : State), x = s.group g → s.evalOn = true → x.provisional = true →
    v = note 0x0202 x.foPoint (le 1 g ++ zeros 1 ++ le 2 x.foPoint ++ le 8 x.key)
      ((s.advance dt).setGroup g { x with provisional := false, foValid := true, armed := false }) →
    (x.key + 1000000 * x.foWin < s.now + dt → s.quiet g = false → exec (.firstOutDecide dt g) s = .next v) ∧
    (x.key + 1000000 * x.foWin < s.now + dt → s.quiet g = true →
      exec (.firstOutDecide dt g) s = .next (v.setGroup g { v.group g with armed := true, foValid := false })) ∧
    (s.now + dt ≤ x.key + 1000000 * x.foWin → exec (.firstOutDecide dt g) s = .next (s.advance dt))) ∧
  (∀ (s : State) (dt t : Nat) (g : Fin 256), (s.group g).flashEnd = some t →
    (t ≤ s.now + dt → exec (.reflashEnd dt g) s = .next (settleAlarm ((s.advance dt).setGroup g { s.group g with flashEnd := none }))) ∧
    (s.now + dt < t → exec (.reflashEnd dt g) s = .next (s.advance dt)))

/-- ALARM_SAMPLE (R172, R175, R199): while evaluation is on, the repeated samples that are due and then the oldest waiting sample act on the points
it feeds; with ALM at 0 that sample is dropped, and before evaluation resumes it waits. DELAY_EXPIRY (R176) checks the run of a point that is not
stale. STALE_TIMEOUT (R175, R187): past the timeout the point is stale with its value and state held, or its suppression ends; before it nothing
happens. VOTE_PARTNER_TIMEOUT (R179): a sample that has waited 2 ms counts alone. FAULT_SOURCE_CHANGE (R181) takes the source's new state.
SUPPRESSION_RELEASE (R187) ends the suppression. ESCALATION_STEP_DUE (R194): the next step T1, then T2, after t_u. ACK_PIN_EDGE and SILENCE_PIN_EDGE
(R195) act on the points of the chain while its pin is high. None of them acts before evaluation is on. -/
def Obligations.AlarmEvents : Prop :=
  (∀ (s : State) (dt : Nat) (u : State), s.evalOn = true → u = repeatPoints (s.advance dt) →
    (u.alm.inbox = [] → exec (.alarmSample dt) s = .next u) ∧
    (∀ k n m r, u.alm.inbox = (k, n, m) :: r →
      exec (.alarmSample dt) s = .next (settleAlarm (engineSample (k, n, m.src) m { u with alm := { u.alm with inbox := r } })))) ∧
  (∀ (s : State) (dt : Nat), s.evalOn = false →
    (s.alm.inbox = [] → exec (.alarmSample dt) s = .next (s.advance dt)) ∧
    (s.mode .alm = true → exec (.alarmSample dt) s = .next (s.advance dt)) ∧
    (∀ h r, s.mode .alm = false → s.alm.inbox = h :: r → exec (.alarmSample dt) s = .next { s.advance dt with alm := { s.alm with inbox := r } })) ∧
  (∀ (s : State) (dt : Nat) (p : Fin 4096), s.evalOn = true → ((s.point p).stale = false ∨ (s.point p).ctype = 4) →
    exec (.delayExpiry dt p) s = .next (settleAlarm (checkRun p (s.now + dt) (s.advance dt)))) ∧
  (∀ (s : State) (g now t : Nat), (s.point g).run = some t →
    (now < t + (s.point g).runOff + (s.point g).delay → checkRun g now s = s) ∧
    (t + (s.point g).runOff + (s.point g).delay ≤ now → ((checkRun g now s).point g).cond = !(s.point g).cond ∧ ((checkRun g now s).point g).run = none)) ∧
  (∀ (s : State) (dt : Nat) (p : Fin 4096) (q : Bool), s.evalOn = false → exec (.delayExpiry dt p) s = .next (s.advance dt) ∧
    exec (.staleTimeout dt p q) s = .next (s.advance dt) ∧ exec (.votePartnerTimeout dt p) s = .next (s.advance dt) ∧
    exec (.shelveExpiry dt p) s = .next (s.advance dt) ∧ exec (.silenceExpiry dt p) s = .next (s.advance dt)) ∧
  (∀ (s : State) (dt : Nat) (p : Fin 4096), s.evalOn = true → (s.point p).stale = false →
    ((s.advance dt).canStale (s.point p) = true → (s.point p).seen + s.staleAfter (s.point p) ≤ s.now + dt → (s.point p).ctype ≠ 4 →
      Completes (.staleTimeout dt p false) s fun t => (t.point p).stale = true ∧ (t.point p).run = none ∧
        (t.point p).value = (s.point p).value ∧ (t.point p).state = (s.point p).state) ∧
    (s.now + dt < (s.point p).seen + s.staleAfter (s.point p) → exec (.staleTimeout dt p false) s = .next (s.advance dt))) ∧
  (∀ (s : State) (dt t : Nat) (p : Fin 4096), s.evalOn = true → (s.point p).supSeen = some t → (s.point p).supCond = true →
    t + autoTimeout (s.period (s.point p).srcS) ≤ s.now + dt → (s.point p).b 40 ≠ 5 → Completes (.staleTimeout dt p true) s fun u =>
      (u.point p).supCond = false ∧ (u.point p).supLeft = none ∧ ∀ q, q ≠ p.val → u.point q = s.point q) ∧
  (∀ (s : State) (dt : Nat) (p : Fin 4096) (h : Nat × Nat × Sample), s.evalOn = true → (s.point p).halves = [h] →
    (h.2.1 + 2000000 ≤ s.now + dt →
      exec (.votePartnerTimeout dt p) s = .next (settleAlarm (evalLone p h ((s.advance dt).setPoint p { s.point p with halves := [] })))) ∧
    (s.now + dt < h.2.1 + 2000000 → exec (.votePartnerTimeout dt p) s = .next (s.advance dt))) ∧
  (∀ (s : State) (dt : Nat) (i : Fin 256), exec (.faultSourceChange dt i) s = .next (settleAlarm (faultChanged i (s.advance dt)))) ∧
  (∀ (s : State) (dt t : Nat) (p : Fin 4096), s.evalOn = true → (s.point p).supLeft = some t →
    (t + (s.point p).supRelease ≤ s.now + dt → Completes (.suppressionRelease dt p) s fun u => (u.point p).supCond = false ∧
      (u.point p).supLeft = none ∧ ∀ q, q ≠ p.val → u.point q = s.point q) ∧
    (s.now + dt < t + (s.point p).supRelease → exec (.suppressionRelease dt p) s = .next (s.advance dt))) ∧
  (∀ (s : State) (dt t : Nat) (p : Fin 4096) (x : Point) (h : Chain), x = s.point p → h = s.chain x.chain → s.evalOn = true → x.unack = true →
    x.tU = some t → x.chain ≤ 15 → h.t1 ≠ 0 → h.callMin ≤ x.category → x.caution = false → (x.sim = false ∨ s.alm.simCalls = true) →
    (x.step = 1 → t + x.escOff + 1000000000 * h.t1 ≤ s.now + dt → exec (.escalationStepDue dt p) s =
      .next (settleAlarm (stepRecord p 2 ((s.advance dt).setPoint p { x with step := 2 })))) ∧
    (x.step = 2 → t + x.escOff + 1000000000 * h.t2 ≤ s.now + dt → exec (.escalationStepDue dt p) s =
      .next (settleAlarm (stepRecord p 3 ((s.advance dt).setPoint p { x with step := 3 })))) ∧
    (x.step = 1 → s.now + dt < t + x.escOff + 1000000000 * h.t1 → exec (.escalationStepDue dt p) s = .next (s.advance dt))) ∧
  (∀ (s : State) (dt : Nat) (n : Fin 16), s.evalOn = true → s.pinHigh (s.chain n).ack = true →
    exec (.ackPinEdge dt n) s = .next (settleAlarm (overPoints (fun p u => ackPoint p 0xFF u) (s.scope 2 n) (s.advance dt)).2)) ∧
  (∀ (s : State) (dt : Nat) (n : Fin 16), s.evalOn = true → s.pinHigh (s.chain n).silence = true →
    exec (.silencePinEdge dt n) s = .next (settleAlarm (overPoints silencePoint (s.scope 2 n) (s.advance dt)).2)) ∧
  (∀ (s : State) (dt : Nat) (n : Fin 16), s.pinHigh (s.chain n).ack = false → exec (.ackPinEdge dt n) s = .next (s.advance dt)) ∧
  (∀ (s : State) (dt : Nat) (n : Fin 16), s.pinHigh (s.chain n).silence = false → exec (.silencePinEdge dt n) s = .next (s.advance dt))

/-- PROGRAM_LOAD (R304, R349, R350): a bad place or length is 0x0080, the slot in use 0x0081, and a package whose image passes every check becomes
the slot's image with the other slot as it was. PROGRAM_START (R338, R342): an empty slot is 0x0082, a period too short CYCLE_INFEASIBLE, CTL at 0
MODE_CONFLICT 0x00A3, bindings that do not match PROGRAM_INVALID; else the start waits for the boundary. PROGRAM_STOP waits for the boundary.
PROGRAM_STATUS and VARIABLE_READ (R348) answer the state and up to three variables. VARIABLE_FORCE (R345): SIM at 0 is MODE_CONFLICT, a variable not
forceable 0x0084, 256 forces 0x0085, a value that does not fit 0x0086; else it waits for the boundary, where it applies. CYCLE_CONFIGURE (R338,
R365) with a run-over limit of at least 1: a period outside 250 µs to 10 s is 0x0083, on a member of a ring NOT_MASTER, below the least period
CYCLE_INFEASIBLE; else OK with the first instant of the new grid one old period ahead, from which the period applies, the master naming it to its
ring. SET_CONFIGURE (R324, R329): a ring set that leaves this node out is 0x0087, else the set applies from the next boundary. -/
def Obligations.ProgramAndCycleCommands : Prop :=
  (∀ (s : State) (dt : Nat) (c : Cmd) (env : Env), s.Ready .programLoad dt c → Clean c [(32, 1), (40, 12)] 0 → c.u8 32 ≤ 1 →
    (c.u64 40 % 4096 ≠ 0 ∨ c.u32 48 = 0 ∨ 2097152 < c.u32 48) →
    Answers s (.programLoad dt c env) stBadParam (le 2 0x80) (s.entered .programLoad dt c)) ∧
  (∀ (s : State) (dt : Nat) (c : Cmd) (env : Env), s.Ready .programLoad dt c → Clean c [(32, 1), (40, 12)] 0 → c.u8 32 ≤ 1 → c.u64 40 % 4096 = 0 →
    c.u32 48 ≠ 0 → c.u32 48 ≤ 2097152 → (s.prg.stateNum = 2 ∨ s.prg.stateNum = 3) → s.prg.slot = c.u8 32 →
    Answers s (.programLoad dt c env) stBadParam (le 2 0x81) (s.entered .programLoad dt c)) ∧
  (∀ (s : State) (dt : Nat) (c : Cmd) (env : Env) (l : List Byte) (i : Image), s.Ready .programLoad dt c → Clean c [(32, 1), (40, 12)] 0 → c.u8 32 ≤ 1 →
    c.u64 40 % 4096 = 0 → c.u32 48 ≠ 0 → c.u32 48 ≤ 2097152 → (s.prg.slot ≠ c.u8 32 ∨ (s.prg.stateNum ≠ 2 ∧ s.prg.stateNum ≠ 3)) → env.dma = some l →
    packageBad (l.take (c.u32 48)) (s.entered .programLoad dt c) = none → pkgKind l = 5 →
    (∀ b, imageBad (pkgPayload l) (s.entered .programLoad dt c) = some b → Answers s (.programLoad dt c env) stProgramInvalid
      (le 2 b.1 ++ zeros 2 ++ le 4 b.2.1 ++ le 1 b.2.2) (s.entered .programLoad dt c)) ∧
    (imageBad (pkgPayload l) (s.entered .programLoad dt c) = none → i = imageOf (pkgPayload l) →
      ∃ u, Answers s (.programLoad dt c env) stOk (le 8 i.progId ++ le 4 i.crc ++ le 4 i.tSolve ++ le 4 (((timingOf (some i) u).pmin + 999) / 1000)) u ∧
        u.slotImage (c.u8 32) = some i ∧ u.slotImage (1 - c.u8 32) = s.slotImage (1 - c.u8 32) ∧
        (s.prg.stateNum ≠ 0 → u.prg.stateNum = s.prg.stateNum) ∧ (s.prg.stateNum = 0 → u.prg.stateNum = 1))) ∧
  (∀ (s : State) (dt : Nat) (c : Cmd) (env : Env) (u : State), s.Ready .programStart dt c → Clean c [(32, 2)] 0 → c.u8 32 ≤ 1 → c.u8 33 ≤ 1 →
    u = s.entered .programStart dt c →
    (s.slotImage (c.u8 32) = none → Answers s (.programStart dt c env) stBadParam (le 2 0x82) u) ∧
    (∀ i t, s.slotImage (c.u8 32) = some i → t = timingOf (some i) u →
      (s.prg.period < t.pmin → Answers s (.programStart dt c env) stCycleInfeasible (le 4 ((t.pmin + 999) / 1000) ++ le 4 t.tSolve ++ le 4 u.ringH) u) ∧
      (t.pmin ≤ s.prg.period → s.mode .ctl = false → Answers s (.programStart dt c env) stModeConflict (le 2 0xA3) u) ∧
      (∀ b, t.pmin ≤ s.prg.period → s.mode .ctl = true → bindsBad i u = some b →
        Answers s (.programStart dt c env) stProgramInvalid (le 2 b.1 ++ zeros 2 ++ le 4 b.2.1 ++ le 1 b.2.2) u) ∧
      (t.pmin ≤ s.prg.period → s.mode .ctl = true → bindsBad i u = none →
        StaysOpen s (.programStart dt c env) (s.entryOf .programStart dt c) [c.u8 32]
          { u with prg := { s.prg with startReq := some (c.u8 32, c.u8 33 = 1, s.cp.nextId) } }))) ∧
  (∀ (s : State) (dt : Nat) (c : Cmd) (env : Env), s.Ready .programStop dt c → Clean c [] 0 →
    StaysOpen s (.programStop dt c env) (s.entryOf .programStop dt c) []
      { s.entered .programStop dt c with prg := { s.prg with stopReq := some s.cp.nextId } }) ∧
  (∀ (s : State) (dt : Nat) (c : Cmd) (env : Env), s.Ready .programStatus dt c → Clean c [] 0 → Answers s (.programStatus dt c env) stOk
    (le 1 s.prg.stateNum ++ le 1 s.prg.slot ++ le 1 (bit s.prg.autostart 0 + bit (!s.prg.forces.isEmpty) 1) ++ zeros 1 ++
      le 4 s.prg.cycleCount ++ le 4 s.cofsShown ++ le 4 (match s.image with | some i => i.tSolve | none => 0) ++ le 4 s.solveWord ++
      le 4 s.prg.ovrCount ++ le 4 s.brokenMask) (s.entered .programStatus dt c)) ∧
  (∀ (s : State) (dt v n : Nat) (c : Cmd) (env : Env), s.Ready .variableRead dt c → Clean c [(34, 3)] 0 → v = c.u16 34 → n = c.u8 36 →
    ((n = 0 ∨ 3 < n ∨ s.image = none) → Answers s (.variableRead dt c env) stBadParam (le 2 8) (s.entered .variableRead dt c)) ∧
    (∀ i, 1 ≤ n → n ≤ 3 → s.image = some i → i.vars.length < v + n →
      Answers s (.variableRead dt c env) stBadParam (le 2 8) (s.entered .variableRead dt c)) ∧
    (∀ i, 1 ≤ n → n ≤ 3 → s.image = some i → v + n ≤ i.vars.length → Answers s (.variableRead dt c env) stOk
      (fitBytes 36 ((List.range n).flatMap fun k => le 8 (s.prg.cur.vars.getD (v + k) {}).val.toNat ++
        le 2 (s.prg.cur.vars.getD (v + k) {}).sqw.toNat ++ le 1 (i.typ (v + k)) ++ le 1 (bit (s.prg.forces.any (·.1 == v + k)) 0)) ++
        le 4 s.prg.pubCount) (s.entered .variableRead dt c))) ∧
  (∀ (s : State) (dt v : Nat) (c : Cmd) (env : Env) (i : Image), s.Ready .variableForce dt c → Clean c [(34, 3), (40, 10)] 0 → c.u8 36 ≤ 2 → s.image = some i →
    v = c.u16 34 → (c.u8 36 = 2 ∨ v < i.vars.length) →
    (s.mode .sim = false → Answers s (.variableForce dt c env) stModeConflict (le 2 0xA3) (s.entered .variableForce dt c)) ∧
    (s.mode .sim = true → c.u8 36 = 0 → (i.vars.getD v {}).forceable = false →
      Answers s (.variableForce dt c env) stBadParam (le 2 0x84) (s.entered .variableForce dt c)) ∧
    (s.mode .sim = true → c.u8 36 = 0 → (i.vars.getD v {}).forceable = true → s.prg.forces.any (·.1 == v) = false →
      256 ≤ s.prg.forces.length + (s.prg.forceReq.filter (·.2.2.1 == 0)).length →
      Answers s (.variableForce dt c env) stBadParam (le 2 0x85) (s.entered .variableForce dt c)) ∧
    (s.mode .sim = true → (c.u8 36 = 0 → (i.vars.getD v {}).forceable = true ∧ valueFits (i.typ v) (c.u64 40) = true ∧
        (s.prg.forces.any (·.1 == v) = true ∨ s.prg.forces.length + (s.prg.forceReq.filter (·.2.2.1 == 0)).length < 256)) →
      StaysOpen s (.variableForce dt c env) (s.entryOf .variableForce dt c) []
        { s.entered .variableForce dt c with prg := { s.prg with forceReq := s.prg.forceReq ++
          [(s.cp.nextId, v, c.u8 36, BitVec.ofNat 64 (c.u64 40), BitVec.ofNat 16 (c.u16 48))] } })) ∧
  (∀ (s : State) (id v : Nat) (val : BitVec 64) (q : BitVec 16),
    applyForce s (id, v, 0, val, q) = completeCmd id stOk [] { s with prg := { s.prg with forces := tput s.prg.forces v (val, q) } } ∧
    applyForce s (id, v, 1, val, q) = completeCmd id stOk [] { s with prg := { s.prg with forces := tdel s.prg.forces v } } ∧
    applyForce s (id, v, 2, val, q) = completeCmd id stOk [] { s with prg := { s.prg with forces := [] } }) ∧
  (∀ (s : State) (dt : Nat) (c : Cmd) (env : Env), s.Ready .cycleConfigure dt c → Clean c [(33, 1), (36, 4)] 0 → c.u8 33 ≠ 0 →
    (c.u32 36 < 25 ∨ 1000000 < c.u32 36) →
    Answers s (.cycleConfigure dt c env) stBadParam (le 2 0x83) (s.entered .cycleConfigure dt c)) ∧
  (∀ (s : State) (dt p at' : Nat) (c : Cmd) (env : Env) (u : State), s.Ready .cycleConfigure dt c → Clean c [(33, 1), (36, 4)] 0 → c.u8 33 ≠ 0 →
    25 ≤ c.u32 36 → c.u32 36 ≤ 1000000 → p = 10000 * c.u32 36 → u = s.entered .cycleConfigure dt c → at' = upTo p (s.now + dt + s.prg.period) →
    (s.mode .ring = true → s.rng.roleNow ≠ 0 → s.rng.isMaster = false → Answers s (.cycleConfigure dt c env) stNotMaster [] u) ∧
    ((s.mode .ring = false ∨ s.rng.roleNow = 0 ∨ s.rng.isMaster = true) →
      (p < u.cycleTiming.pmin → Answers s (.cycleConfigure dt c env) stCycleInfeasible
        (le 4 ((u.cycleTiming.pmin + 999) / 1000) ++ le 4 u.cycleTiming.tSolve ++ le 4 u.ringH) u) ∧
      (u.cycleTiming.pmin ≤ p → s.leadsRing = false → Answers s (.cycleConfigure dt c env) stOk (le 8 at')
        { u with prg := { s.prg with ovrLimit := c.u8 33, newPeriod := some (p, at') } }) ∧
      (u.cycleTiming.pmin ≤ p → s.leadsRing = true → Answers s (.cycleConfigure dt c env) stOk (le 8 at')
        { u with prg := { s.prg with ovrLimit := c.u8 33 }, rng := { s.rng with change := some (at', p, u.ringCofs) } }))) ∧
  (∀ (s : State) (dt : Nat) (c : Cmd) (env : Env), s.Ready .setConfigure dt c → Clean c [(33, 2), (36, 4)] 0 → c.u8 33 ≤ 15 → c.u8 34 ≤ 1 →
    (c.w32 36 ≠ 0 → (s.nodeNo = 0 ∨ (c.w32 36).getLsbD (s.nodeNo - 1) = false) →
      Answers s (.setConfigure dt c env) stBadParam (le 2 0x87) (s.entered .setConfigure dt c)) ∧
    ((c.w32 36 = 0 ∨ (s.nodeNo ≠ 0 ∧ (c.w32 36).getLsbD (s.nodeNo - 1) = true)) → Answers s (.setConfigure dt c env) stOk
      (le 8 (((s.now + dt) / s.prg.period + 1) * s.prg.period)) ((s.entered .setConfigure dt c).putSet (c.u8 33)
        { s.set (c.u8 33) with next := some (c.w32 36, c.u8 34 = 1, ((s.now + dt) / s.prg.period + 1) * s.prg.period) })))

/-- CYCLE_SNAP (R324, R325): at a new instant of the grid the requests apply, the master sends its frame, and a running image takes its inputs;
between instants nothing happens. IMPORT_GATHER (R325) at the gather instant takes the imports. SOLVE (R326, R340) within its deadline solves every
block and keeps the duration; SOLVE_OVERRUN after it counts the overrun with record 0x0402. SET_DECISION (R329 to R331): READYs, local decisions and
the master's ring decisions each at its time. CYCLE_COMMIT (R326, R340, R341) publishes a solved cycle, keeps the values of an overrun one, and
faults the program at the limit. PROGRAM_AUTOSTART (R344) starts the slot that ran before the reset. -/
def Obligations.CyclePhases : Prop :=
  (∀ (s : State) (dt u : Nat), s.prg.lastSnap = some u → s.prg.period ≠ 0 → (s.now + dt) / s.prg.period * s.prg.period ≤ u →
    exec (.cycleSnap dt) s = .next (s.advance dt)) ∧
  (∀ (s : State) (dt k t : Nat) (u : State), k = (s.now + dt) / s.prg.period → t = k * s.prg.period → s.prg.period ≠ 0 →
    (∀ v, s.prg.lastSnap = some v → v < t) → s.prg.phase = .idle → s.pwr.state = .run → s.pwr.phase ≠ .asserted →
    u = judgeFeasible (masterSnap (t / s.prg.period) t (boundaryRequests t { s.advance dt with prg := { s.prg with lastSnap := some t } })) →
    ((u.image = none ∨ u.prg.stateNum ≠ 2 ∨ t < u.prg.notBefore) → exec (.cycleSnap dt) s = .next u) ∧
    (∀ i, u.image = some i → u.prg.stateNum = 2 → u.prg.notBefore ≤ t → exec (.cycleSnap dt) s = .next (exportFrame (t / s.prg.period) t
      { u with prg := { u.prg with phase := .snapped, skipped := false,
                                   work := { u.prg.cur with vars := writeSys u (i.binds.foldl (snapInput u i t) u.prg.cur.vars) } } }))) ∧
  (∀ (s : State) (dt : Nat) (i : Image), s.image = some i → s.prg.phase = .snapped →
    ((timingOf s.image s).gather ≤ fifths (s.now + dt - s.prg.lastSnap.getD 0) → exec (.importGather dt) s =
      .next { s.advance dt with prg := { s.prg with
        phase := .gathered, work := { s.prg.work with vars := i.binds.foldl (gatherImport (s.advance dt) s.cycleNo) s.prg.work.vars } } }) ∧
    (fifths (s.now + dt - s.prg.lastSnap.getD 0) < (timingOf s.image s).gather → exec (.importGather dt) s = .next (s.advance dt))) ∧
  (∀ (s : State) (dt : Nat), s.prg.phase ≠ .snapped → exec (.importGather dt) s = .next (s.advance dt)) ∧
  (∀ (s : State) (dt d : Nat) (i : Image) (m : Timing), s.image = some i → m = timingOf s.image s →
    (s.prg.phase = .gathered ∨ (s.prg.phase = .snapped ∧ ∀ b, b ∈ i.binds → b.kind ≠ 3)) →
    m.gather ≤ fifths (s.now + dt - s.prg.lastSnap.getD 0) → fifths (s.now + dt - s.prg.lastSnap.getD 0) ≤ m.deadline →
    d = (fifths (s.now + dt - s.prg.lastSnap.getD 0) - m.gather) / 5 → exec (.solve dt) s =
      .next (outputFrame s.cycleNo { s.advance dt with prg := { s.prg with
        work := solveBlocks i s.prg.forces s.prg.period (s.prg.lastSnap.getD 0) s.prg.work
        phase := .solved, lastSolve := d, maxSolve := max s.prg.maxSolve d } })) ∧
  (∀ (s : State) (dt : Nat) (i : Image), s.image = some i →
    (timingOf s.image s).deadline < fifths (s.now + dt - s.prg.lastSnap.getD 0) → exec (.solve dt) s = .next (s.advance dt)) ∧
  (∀ (s : State) (dt n : Nat), (s.prg.phase = .snapped ∨ s.prg.phase = .gathered) →
    (timingOf s.image s).deadline < fifths (s.now + dt - s.prg.lastSnap.getD 0) → n = min 255 (s.prg.ovrConsec + 1) →
    exec (.solveOverrun dt) s = .next (note 0x0402 s.prg.slot (le 4 s.prg.cycleCount ++ le 4 n) { s.advance dt with prg := { s.prg with
      work := {}, phase := .overrun, ovrCount := min 65535 (s.prg.ovrCount + 1), ovrConsec := n } })) ∧
  (∀ (s : State) (dt u : Nat), u = s.now + dt - s.prg.lastSnap.getD 0 → s.leadsRing = false →
    ((s.prg.phase = .idle ∨ s.prg.phase = .snapped ∨ s.prg.phase = .gathered) → exec (.setDecision dt) s = .next (s.advance dt)) ∧
    (s.prg.phase = .solved → u < readyAfter s → u < s.cofs - 5000 → exec (.setDecision dt) s = .next (s.advance dt)) ∧
    (s.prg.phase = .solved → readyAfter s ≤ u → u < s.cofs - 5000 →
      exec (.setDecision dt) s = .next (s.usedSets.foldl reportReady (s.advance dt))) ∧
    (s.prg.phase = .overrun → s.cofs - 5000 ≤ u → exec (.setDecision dt) s = .next (s.usedSets.foldl decideLocal (s.advance dt)))) ∧
  (∀ (s : State) (dt : Nat), s.leadsRing = true → s.prg.phase = .idle → s.prg.lastSnap.isSome = true →
    decideAfter s ≤ s.now + dt - s.prg.lastSnap.getD 0 → (∀ n, n < 16 → (s.set n).go = none ∨ (s.set n).members = 0) →
    exec (.setDecision dt) s = .next (decisionFrame ((List.range 16).foldl decideRing (s.advance dt)))) ∧
  (∀ (s : State) (dt : Nat) (i : Image), s.image = some i → s.cofs ≤ s.now + dt - s.prg.lastSnap.getD 0 →
    (s.prg.phase = .solved → Completes (.cycleCommit dt) s fun t => t.prg.phase = .idle ∧ t.prg.cur = s.prg.work ∧ t.prg.ovrConsec = 0 ∧
      t.prg.overrun = false ∧ t.prg.pubAt = some (s.prg.lastSnap.getD 0) ∧ t.prg.cycleCount = (s.prg.cycleCount + 1) % 2 ^ 32) ∧
    (s.prg.phase = .overrun → s.prg.ovrConsec < s.prg.ovrLimit → Completes (.cycleCommit dt) s fun t => t.prg.phase = .idle ∧
      t.prg.cur = s.prg.cur ∧ t.prg.overrun = true ∧ t.prg.stateNum = s.prg.stateNum ∧ t.prg.cycleCount = (s.prg.cycleCount + 1) % 2 ^ 32) ∧
    (s.prg.phase = .overrun → s.prg.ovrLimit ≤ s.prg.ovrConsec → Completes (.cycleCommit dt) s fun t => t.prg.phase = .idle ∧
      t.prg.cur = s.prg.cur ∧ t.prg.overrun = true ∧ t.prg.stateNum = 4)) ∧
  (∀ (s : State) (dt : Nat), (s.prg.phase = .snapped ∨ s.now + dt - s.prg.lastSnap.getD 0 < s.cofs) →
    exec (.cycleCommit dt) s = .next (s.advance dt)) ∧
  (∀ (s : State) (dt : Nat), s.prg.wasRunning = true → s.prg.autostart = true → s.mode .ctl = true →
    (s.pwr.phase = .acquiring ∨ s.pwr.phase = .evaluating) → s.prg.notBefore ≤ s.now + dt → exec (.programAutostart dt) s =
      .next (startProgram s.prg.slot true 3 { s.advance dt with prg := { s.prg with wasRunning := false } })) ∧
  (∀ (s : State) (slot cause : Nat) (auto : Bool) (i : Image), s.slotImage slot = some i → (startProgram slot auto cause s).prg.stateNum = 2 ∧
    (startProgram slot auto cause s).prg.slot = slot ∧ (startProgram slot auto cause s).prg.firstCycle = true ∧
    (startProgram slot auto cause s).prg.cycleCount = 0) ∧
  (∀ (s : State) (dt : Nat), s.prg.wasRunning = false → exec (.programAutostart dt) s = .next (s.advance dt))

/-- RING_CONFIGURE (R385): a node above 32 is 0x0090, with RING at 1 MODE_CONFLICT, else node, priority and port enables are stored and a disabled
port is down. RING_STATUS (R388) answers the ring, a port or a directory entry. RING_KEY_SET (R384): switching is the master's, to the inactive slot
on which all present nodes agree, else NOT_MASTER or 0x0093; loading and erasing spare the active slot (0x0095), and a key that does not unwrap is
0x0108. TIME_CONFIGURE (R376, R377) stores the PPS settings, or steps Node Time where no member and ACQ at 0. PAIR_CONFIGURE (R381) stores or erases
the pair and its subscription. MASTER_HANDOVER (R372): NOT_MASTER, 0x0092 for a node that cannot, else t_j is announced and the command waits. -/
def Obligations.RingCommands : Prop :=
  (∀ (s : State) (dt : Nat) (c : Cmd) (env : Env), s.Ready .ringConfigure dt c → Clean c [(32, 3)] 0 → c.u8 34 ≤ 3 →
    (32 < c.u8 32 → Answers s (.ringConfigure dt c env) stBadParam (le 2 0x90) (s.entered .ringConfigure dt c)) ∧
    (c.u8 32 ≤ 32 → s.mode .ring = true → Answers s (.ringConfigure dt c env) stModeConflict (le 2 0) (s.entered .ringConfigure dt c)) ∧
    (c.u8 32 ≤ 32 → s.mode .ring = false → c.u8 34 = 3 → Answers s (.ringConfigure dt c env) stOk []
      { s.entered .ringConfigure dt c with rng := { s.rng with
        node := c.u8 32, priority := c.u8 33, port0 := { s.rng.port0 with en := true }, port1 := { s.rng.port1 with en := true } } }) ∧
    (c.u8 32 ≤ 32 → s.mode .ring = false → ∃ t, Answers s (.ringConfigure dt c env) stOk [] t ∧ t.rng.node = c.u8 32 ∧ t.rng.priority = c.u8 33 ∧
      t.rng.port0.en = (c.u8 34).testBit 0 ∧ t.rng.port1.en = (c.u8 34).testBit 1 ∧
      ((c.u8 34).testBit 0 = false → t.rng.port0.up = false) ∧ ((c.u8 34).testBit 1 = false → t.rng.port1.up = false))) ∧
  (∀ (s : State) (dt : Nat) (c : Cmd) (env : Env), s.Ready .ringStatus dt c →
    (c.u8 32 = 0 → Clean c [(32, 1)] 0 → Answers s (.ringStatus dt c env) stOk
      (le 4 s.ringStatus ++ le 4 (nodeMask s.rng.members).toNat ++ le 4 s.ringLocked ++ zeros 4 ++ le 8 s.rng.cycle) (s.entered .ringStatus dt c)) ∧
    ((c.u8 32 = 1 ∨ c.u8 32 = 2) → Clean c [(32, 1)] 0 → Answers s (.ringStatus dt c env) stOk
      (s.portRegs (c.u8 32 - 1) ++ fitBytes 12 (s.port (c.u8 32 - 1)).sfp) (s.entered .ringStatus dt c)) ∧
    (c.u8 32 = 3 → Clean c [(32, 2)] 0 → 1 ≤ c.u8 33 → c.u8 33 ≤ 32 →
      Answers s (.ringStatus dt c env) stOk (le 8 (s.dirWord (c.u8 33))) (s.entered .ringStatus dt c)) ∧
    (c.u8 32 = 3 → Clean c [(32, 2)] 0 → (c.u8 33 = 0 ∨ 32 < c.u8 33) →
      Answers s (.ringStatus dt c env) stBadParam (le 2 0x90) (s.entered .ringStatus dt c))) ∧
  (∀ (s : State) (dt : Nat) (c : Cmd) (env : Env) (u : State), s.Ready .ringKeySet dt c → c.u8 32 ≤ 1 → u = s.entered .ringKeySet dt c →
    (c.u8 33 = 1 → Clean c [(32, 2)] 0 → c.paramLen = 0 → s.rng.isMaster = false → Answers s (.ringKeySet dt c env) stNotMaster [] u) ∧
    (c.u8 33 = 1 → Clean c [(32, 2)] 0 → c.paramLen = 0 → s.rng.isMaster = true → (c.u8 32 = s.rng.keySlot ∨ u.keysAgree (c.u8 32) = false) →
      Answers s (.ringKeySet dt c env) stBadParam (le 2 0x93) u) ∧
    (c.u8 33 = 1 → Clean c [(32, 2)] 0 → c.paramLen = 0 → s.rng.isMaster = true → c.u8 32 ≠ s.rng.keySlot → u.keysAgree (c.u8 32) = true →
      Answers s (.ringKeySet dt c env) stOk (le 4 (keyCheck (s.rng.key (c.u8 32)))) (originate 2 2 0 none
        (le 1 2 ++ le 1 (c.u8 32) ++ zeros 6 ++ le 8 (s.cycleNo + 11)) { u with rng := { s.rng with keySwitch := some (c.u8 32, s.cycleNo + 11) } })) ∧
    (c.u8 33 = 2 → Clean c [(32, 2)] 0 → c.paramLen = 0 → c.u8 32 = s.rng.keySlot → Answers s (.ringKeySet dt c env) stBadParam (le 2 0x95) u) ∧
    (c.u8 33 = 2 → Clean c [(32, 2)] 0 → c.paramLen = 0 → c.u8 32 ≠ s.rng.keySlot → ∃ t, Answers s (.ringKeySet dt c env) stOk (le 4 (keyCheck none)) t ∧
      t.rng.key (c.u8 32) = none ∧ t.rng.key (1 - c.u8 32) = s.rng.key (1 - c.u8 32) ∧ t.rng.keySlot = s.rng.keySlot) ∧
    (∀ kek, c.u8 33 = 0 → Clean c [(32, 2)] 40 → c.paramLen = 40 → c.u8 32 ≠ s.rng.keySlot → kek = (s.session c.session).key →
      ((kek = none ∧ s.nullKeyOk = false) ∨ Config.unwrapKey kek (fitBytes 40 c.ext) = none → Answers s (.ringKeySet dt c env) stBadParam (le 2 0x108) u) ∧
      (∀ k, (kek ≠ none ∨ s.nullKeyOk = true) → Config.unwrapKey kek (fitBytes 40 c.ext) = some k →
        ∃ t, Answers s (.ringKeySet dt c env) stOk (le 4 (keyCheck (some k))) t ∧ t.rng.key (c.u8 32) = some k ∧
          t.rng.key (1 - c.u8 32) = s.rng.key (1 - c.u8 32) ∧ t.rng.keySlot = s.rng.keySlot))) ∧
  (∀ (s : State) (dt : Nat) (c : Cmd) (env : Env), s.Ready .timeConfigure dt c → Clean c [(32, 2), (36, 12)] 0 →
    (c.u8 32 = 0 → c.u8 33 ≤ 7 → -8388608 ≤ leInt c.inl 4 4 → leInt c.inl 4 4 ≤ 8388607 → Answers s (.timeConfigure dt c env) stOk []
      { s.entered .timeConfigure dt c with rng := { s.rng with
        ppsInEn := c.u8 33 % 2 = 1, ppsPol := c.u8 33 / 2 % 2 = 1, ppsOutEn := decide (4 ≤ c.u8 33), ppsDelay := leInt c.inl 4 4,
        ppsSecond := if c.u64 40 = 0 then none else some (c.u64 40), ppsOk := s.rng.ppsOk && c.u8 33 % 2 = 1 } }) ∧
    (c.u8 32 = 1 → 2 ≤ s.rng.roleNow → Answers s (.timeConfigure dt c env) stNotMaster [] (s.entered .timeConfigure dt c)) ∧
    (c.u8 32 = 1 → s.rng.roleNow < 2 → s.mode .acq = true →
      Answers s (.timeConfigure dt c env) stModeConflict (le 2 0) (s.entered .timeConfigure dt c)) ∧
    (c.u8 32 = 1 → s.rng.roleNow < 2 → s.mode .acq = false →
      Answers s (.timeConfigure dt c env) stOk [] (stepTime (c.u64 40) (s.entered .timeConfigure dt c)))) ∧
  (∀ (s : State) (dt : Nat) (c : Cmd) (env : Env), s.Ready .pairConfigure dt c → Clean c [(32, 5)] 0 → c.u8 32 ≤ 31 →
    (c.u8 33 = 1 → ∃ t, Answers s (.pairConfigure dt c env) stOk [] t ∧ tget none t.rng.pairs (c.u8 32) = none ∧
      ∀ n, n ≠ c.u8 32 → tget none t.rng.pairs n = tget none s.rng.pairs n) ∧
    (c.u8 33 = 0 → c.u8 34 ≤ 63 → c.u8 36 ≤ 63 → (c.u8 35 = 0 ∨ 32 < c.u8 35 ∨ c.u8 35 = s.rng.node) →
      Answers s (.pairConfigure dt c env) stBadParam (le 2 0x90) (s.entered .pairConfigure dt c)) ∧
    (c.u8 33 = 0 → c.u8 34 ≤ 63 → c.u8 36 ≤ 63 → 1 ≤ c.u8 35 → c.u8 35 ≤ 32 → c.u8 35 ≠ s.rng.node →
      (mkRat (s.chan (c.u8 34)).rate.1 (s.chan (c.u8 34)).rate.2 ≠ Config.peerRate (c.u8 35) 1 (c.u8 36) →
        Answers s (.pairConfigure dt c env) stBadParam (le 2 0x94) (s.entered .pairConfigure dt c)) ∧
      (mkRat (s.chan (c.u8 34)).rate.1 (s.chan (c.u8 34)).rate.2 = Config.peerRate (c.u8 35) 1 (c.u8 36) →
        subscriptionsFail (s.entered .pairConfigure dt c) (s.newSubs [(1, c.u8 35, c.u8 36)]) = none →
        ∃ t, Answers s (.pairConfigure dt c env) stOk [] t ∧
          tget none t.rng.pairs (c.u8 32) = some { localCh := c.u8 34, peer := c.u8 35, peerCh := c.u8 36 } ∧
          t.rng.subs.contains (1, c.u8 35, c.u8 36) = true))) ∧
  (∀ (s : State) (dt n tj : Nat) (c : Cmd) (env : Env), s.Ready .masterHandover dt c → Clean c [(32, 1)] 0 → n = c.u8 32 →
    (s.prg.period = 0 → tj = s.now + dt + 1000000) → (s.prg.period ≠ 0 → tj = upTo s.prg.period (s.now + dt + 1000000)) →
    (n = 0 ∨ 32 < n → Answers s (.masterHandover dt c env) stBadParam (le 2 0x90) (s.entered .masterHandover dt c)) ∧
    (1 ≤ n → n ≤ 32 → s.rng.isMaster = false → Answers s (.masterHandover dt c env) stNotMaster [] (s.entered .masterHandover dt c)) ∧
    (1 ≤ n → n ≤ 32 → s.rng.isMaster = true → (n = s.nodeNo ∨ s.rng.members.contains n = false ∨ (s.dirEntry n).eligible = false ∨
      (s.dirEntry n).locked = false) → Answers s (.masterHandover dt c env) stBadParam (le 2 0x92) (s.entered .masterHandover dt c)) ∧
    (1 ≤ n → n ≤ 32 → s.rng.isMaster = true → n ≠ s.nodeNo → (s.dirEntry n).eligible = true → (s.dirEntry n).locked = true →
      s.rng.members.contains n = true → StaysOpen s (.masterHandover dt c env) (s.entryOf .masterHandover dt c) [] (originate 2 2 0 none
        (le 1 1 ++ le 1 n ++ zeros 6 ++ le 8 tj) { s.entered .masterHandover dt c with rng := { s.rng with handover := some (n, tj, s.cp.nextId) } })))

/-- ANNOUNCE_SEND (R367, R369) each ms opens the election window where there is no master. ELECTION_END after 10 ms: a master that announces itself
is followed, else the first in order among the eligible becomes master. MASTER_LOST (R366): a silent master leaves the member cut off.
STANDBY_TAKEOVER (R370) starts with frame k + 3. SPLIT_HEAL (R371): the later in order gives up. HANDOVER_SWITCH (R372) at t_j, not before.
NODE_ADMIT (R367) admits a node that is present and locked, in order of number. MEMBER_DROP (R366) drops a member missing from two cycles. -/
def Obligations.RingMembership : Prop :=
  (∀ (s : State) (dt : Nat), (s.mod.role = .standalone ∨ s.nodeNo = 0 ∨ s.pwr.state ≠ .run) →
    exec (.announceSend dt) s = .next (s.advance dt)) ∧
  (∀ (s : State) (dt : Nat), s.mod.role ≠ .standalone → s.nodeNo ≠ 0 → s.pwr.state = .run → s.pwr.phase ≠ .asserted →
    (∀ t, s.rng.announceAt = some t → t + 1000000 ≤ s.now + dt) →
    (s.rng.master = 0 → s.rng.election = none → Completes (.announceSend dt) s fun t => t.rng.announceAt = some (s.now + dt) ∧
      t.rng.election = some (s.now + dt)) ∧
    ((s.rng.master ≠ 0 ∨ s.rng.election ≠ none) → Completes (.announceSend dt) s fun t => t.rng.announceAt = some (s.now + dt) ∧
      t.rng.election = s.rng.election)) ∧
  (∀ (s : State) (dt t : Nat), s.rng.election = some t → s.now + dt < t + 10000000 → exec (.electionEnd dt) s = .next (s.advance dt)) ∧
  (∀ (s : State) (dt t : Nat) (u : State) (l : List Nat), s.rng.election = some t → t + 10000000 ≤ s.now + dt →
    u = { s.advance dt with rng := { s.rng with election := none } } → l = (s.advance dt).present.filter (· ≠ s.nodeNo) →
    (s.rng.master ≠ 0 → exec (.electionEnd dt) s = .next u) ∧
    (∀ n, s.rng.master = 0 → (l.find? fun n => (s.dirEntry n).role = 1) = some n →
      exec (.electionEnd dt) s = .next { u with rng := { u.rng with master := n } }) ∧
    (∀ p, s.rng.master = 0 → (l.find? fun n => (s.dirEntry n).role = 1) = none → (l ≠ [] ∨ s.mod.role = .master) →
      best ((if u.eligible then [(s.rng.priority, s.nodeNo)] else []) ++ u.candidates l) = some (p, s.nodeNo) →
      exec (.electionEnd dt) s = .next (becomeMaster 0 (s.cycleNo + 1) [s.nodeNo] u))) ∧
  (∀ (s : State) (c m : Nat) (l : List Nat), (becomeMaster c m l s).rng.roleNow = 1 ∧ (becomeMaster c m l s).rng.master = s.nodeNo ∧
    (becomeMaster c m l s).rng.members = l ∧ (becomeMaster c m l s).rng.cut = false ∧ (becomeMaster c m l s).rng.firstCycle = some m) ∧
  (∀ (s : State) (dt t : Nat), s.rng.cycleAt = some t →
    (s.rng.roleNow = 3 → s.rng.cut = false → t + 2 * s.prg.period + s.ringH + 6000 ≤ s.now + dt → exec (.masterLost dt) s =
      .next { s.advance dt with rng := { s.rng with
        cut := true, missedCycles := 2, master := 0, standby := 0, roleNow := 0, state := 0, cycleAt := none } }) ∧
    (s.now + dt < t + 2 * s.prg.period + s.ringH + 6000 →
      exec (.masterLost dt) s = .next (s.advance dt) ∧ exec (.standbyTakeover dt) s = .next (s.advance dt)) ∧
    (s.rng.roleNow = 2 → s.mode .ring = true → t + 2 * s.prg.period + s.ringH + 6000 ≤ s.now + dt → exec (.standbyTakeover dt) s =
      .next (becomeMaster 1 (s.rng.cycle + 3) (s.rng.members.filter (· ≠ s.rng.master)) (s.advance dt)))) ∧
  (∀ (s : State) (dt n p : Nat), s.rng.rival = some (n, p) → s.rng.isMaster = true →
    (before (s.rng.priority, s.nodeNo) (p, n) = true →
      exec (.splitHeal dt) s = .next { s.advance dt with rng := { s.rng with rival := none } }) ∧
    (before (s.rng.priority, s.nodeNo) (p, n) = false → Completes (.splitHeal dt) s fun t => t.rng.isMaster = false ∧ t.rng.master = n ∧
      t.rng.members = [] ∧ t.rng.cut = true ∧ t.rng.rival = none)) ∧
  (∀ (s : State) (dt n tj id : Nat) (u : State), s.rng.handover = some (n, tj, id) →
    u = becomeMaster 2 (tj / s.prg.period) s.rng.members { s.advance dt with rng := { s.rng with handover := none } } →
    (s.now + dt < tj → exec (.handoverSwitch dt) s = .next (s.advance dt)) ∧
    (tj ≤ s.now + dt → n = s.nodeNo → s.prg.period ≠ 0 → s.prg.lastSnap ≠ some tj → exec (.handoverSwitch dt) s = .next u) ∧
    (tj ≤ s.now + dt → n = s.nodeNo → s.prg.period ≠ 0 → s.prg.lastSnap = some tj →
      exec (.handoverSwitch dt) s = .next (masterSnap (tj / s.prg.period) tj u)) ∧
    (tj ≤ s.now + dt → n ≠ s.nodeNo → s.rng.isMaster = true → Completes (.handoverSwitch dt) s fun t => t.rng.roleNow = 3 ∧ t.rng.master = n ∧
      t.rng.cycleAt = some tj)) ∧
  (∀ (s : State) (dt : Nat) (n : Fin 33), s.rng.isMaster = true → s.mode .ring = true → n.val ≠ 0 → n.val ≠ s.nodeNo →
    s.rng.members.contains n.val = false → (s.dirEntry n).locked = true → (s.advance dt).present.contains n.val = true →
    (s.rng.standby = 0 → (s.dirEntry n).eligible = true → Completes (.nodeAdmit dt n) s fun t =>
      t.rng.members = sortBy id (s.rng.members ++ [n.val]) ∧ t.rng.standby = n.val) ∧
    ((s.rng.standby ≠ 0 ∨ (s.dirEntry n).eligible = false) → Completes (.nodeAdmit dt n) s fun t =>
      t.rng.members = sortBy id (s.rng.members ++ [n.val]) ∧ t.rng.standby = s.rng.standby)) ∧
  (∀ (s : State) (dt : Nat) (n : Fin 33), (s.rng.isMaster = false ∨ (s.dirEntry n).locked = false) →
    exec (.nodeAdmit dt n) s = .next (s.advance dt)) ∧
  (∀ (s : State) (dt : Nat) (n : Fin 33), s.rng.isMaster = true → n.val ≠ 0 → n.val ≠ s.nodeNo → s.rng.members.contains n.val = true →
    (2 ≤ (s.dirEntry n).missed → exec (.memberDrop dt n) s = .next (dropMember n (s.advance dt))) ∧
    ((s.dirEntry n).missed = 1 → s.rng.present.getLsbD (n.val - 1) = false → s.ringH + 6000 ≤ s.now + dt - s.prg.lastSnap.getD 0 →
      exec (.memberDrop dt n) s = .next (dropMember n (s.advance dt)))) ∧
  (∀ (s : State) (n : Nat), (dropMember n s).rng.members = s.rng.members.filter (· ≠ n) ∧ ((dropMember n s).dirEntry n).missed = 0) ∧
  (∀ (s : State) (dt : Nat) (n : Fin 33), (s.dirEntry n).missed = 0 → exec (.memberDrop dt n) s = .next (s.advance dt))

/-- Frames (R308, R330, R331, R355 to R363, R378, R379). RING_FRAME_RECEIVE: nothing on a port that is down or out of sequence, a failed CRC or tag
forwards the frame broken and asks for a retry, a good one advances the sequence. CYCLE_FRAME_RECEIVE: the master counts its own frame's laps and
notes a rival, a node follows a new frame and counts the second lap. EXPORT_, OUTPUT_, READY_ and DECISION_FRAME_RECEIVE keep what concerns this
node, value by value. RING_EVENT_FRAME acts on its event. SUBSCRIBE_FRAME adds or removes a subscriber; between two peers the master notes it.
SAMPLES_FRAME hands subscribed samples to the engine. RECORD_FRAME: the master offers the record to its open flow with the origin, else counts it
lost. -/
def Obligations.RingFrames : Prop :=
  (∀ (s : State) (dt : Nat) (p : Fin 2) (f : RingFrame), (s.port p).up = false → exec (.ringFrameReceive dt p f) s = .next (s.advance dt)) ∧
  (∀ (s : State) (dt : Nat) (p : Fin 2) (f : RingFrame), (s.port p).up = true →
    ((f.crcOk && tagOk p f s) = false →
      exec (.ringFrameReceive dt p f) s = .next (frameFailed p (forwardFrame p f f.payload true (s.advance dt)))) ∧
    (f.crcOk = true → tagOk p f s = true → (f.hopSeq ≠ (s.port p).rxSeq ∨ 4 < f.cls) → exec (.ringFrameReceive dt p f) s = .next (s.advance dt)) ∧
    (f.crcOk = true → tagOk p f s = true → f.cls ≤ 4 → f.hopSeq = (s.port p).rxSeq → Completes (.ringFrameReceive dt p f) s fun t =>
      (t.port p).rxSeq = ((s.port p).rxSeq + 1) % 2 ^ 32 ∧ (t.port p).failed = 0) ∧
    (f.crcOk = true → tagOk p f s = true → f.cls = 0 → f.typ = 3 → f.hopSeq = (s.port p).rxSeq → f.src ≠ 0 → f.src ≠ s.nodeNo → f.dst = 0 →
      (f.src, f.cls, f.originSeq) ∉ s.rng.heard → Completes (.ringFrameReceive dt p f) s fun t =>
        (t.dirEntry f.src).heard = s.now + dt ∧ (t.dirEntry f.src).priority = leAt f.payload 5 1)) ∧
  (∀ (s : State) (dt : Nat) (p : Fin 2) (f : CycleFrame), (s.port p).up = false → exec (.cycleFrameReceive dt p f) s = .next (s.advance dt)) ∧
  (∀ (s : State) (dt : Nat) (p : Fin 2) (f : CycleFrame), (s.port p).up = true → f.src ≠ 0 →
    (f.src = s.nodeNo → s.rng.isMaster = true → f.cycle = s.rng.cycle → exec (.cycleFrameReceive dt p f) s = .next { s.advance dt with rng := { s.rng with
      lapsBack := s.rng.lapsBack + 1, present := s.rng.present ||| f.present } }) ∧
    (f.src ≠ s.nodeNo → s.rng.isMaster = true → Completes (.cycleFrameReceive dt p f) s fun t =>
      t.rng.rival = some (f.src, (s.dirEntry f.src).priority) ∧ t.rng.isMaster = true) ∧
    (f.src ≠ s.nodeNo → s.rng.isMaster = false → (s.rng.master ≠ f.src ∨ s.rng.cycle ≠ f.cycle ∨ s.rng.cycleAt ≠ some f.time) →
      Completes (.cycleFrameReceive dt p f) s fun t => t.rng.master = f.src ∧ t.rng.cycle = f.cycle ∧ t.rng.cycleAt = some f.time ∧
        t.rng.standby = f.standby ∧ t.prg.period = f.period ∧ t.rng.cofs = some f.cofs ∧ t.rng.lapsBack = 1 ∧
        t.rng.members = ((List.range 32).map (· + 1)).filter fun n => f.members.getLsbD (n - 1)) ∧
    (f.src ≠ s.nodeNo → s.rng.isMaster = false → s.rng.master = f.src → s.rng.cycle = f.cycle → s.rng.cycleAt = some f.time → s.rng.lapsBack = 1 →
      Completes (.cycleFrameReceive dt p f) s fun t => t.rng.laps = s.rng.laps + 1 ∧ t.rng.lapsBack = 2 ∧ (1 ≤ s.rng.laps → t.rng.state = 1))) ∧
  (∀ (s : State) (dt cyc : Nat) (n : Fin 33) (v : ExportValue) (i : Image), n.val ≠ 0 → n.val ≠ s.nodeNo → s.image = some i →
    ((i.binds.any fun b => b.kind = 3 && b.node = n.val && b.index = v.slot) = true → exec (.exportFrameReceive dt n cyc [v]) s =
      .next { s.advance dt with prg := { s.prg with imports := tput s.prg.imports (256 * n + v.slot) (cyc, v.value.setWidth 64, v.sqw) } }) ∧
    ((i.binds.any fun b => b.kind = 3 && b.node = n.val && b.index = v.slot) = false →
      exec (.exportFrameReceive dt n cyc [v]) s = .next (s.advance dt))) ∧
  (∀ (s : State) (dt cyc : Nat) (n : Fin 33) (v : ExportValue) (l : List ExportValue) (t : State), n.val ≠ 0 → n.val ≠ s.nodeNo →
    exec (.exportFrameReceive dt n cyc [v]) s = .next t →
    exec (.exportFrameReceive dt n cyc (v :: l)) s = exec (.exportFrameReceive 0 n cyc l) t) ∧
  (∀ (s : State) (dt cyc : Nat) (n : Fin 33) (v : RemoteValue) (i : Image) (b : Bind), n.val ≠ 0 → n.val ≠ s.nodeNo → s.image = some i →
    v.node = s.nodeNo → (i.binds.find? fun b => b.kind = 7 && b.node = n.val && b.index = v.index) = some b →
    (b.set = v.set → exec (.outputFrameReceive dt n cyc [v]) s = .next { s.advance dt with prg := { s.prg with
      remote := tput s.prg.remote v.index (n.val, cyc, v.value.setWidth 64, v.sqw) } }) ∧
    (b.set ≠ v.set → exec (.outputFrameReceive dt n cyc [v]) s = .next ((s.advance dt).putSet b.set
      { s.set b.set with discarded := min 65535 ((s.set b.set).discarded + 1) }))) ∧
  (∀ (s : State) (dt cyc : Nat) (n : Fin 33) (v : RemoteValue) (l : List RemoteValue) (t : State), n.val ≠ 0 → n.val ≠ s.nodeNo →
    exec (.outputFrameReceive dt n cyc [v]) s = .next t →
    exec (.outputFrameReceive dt n cyc (v :: l)) s = exec (.outputFrameReceive 0 n cyc l) t) ∧
  (∀ (s : State) (dt cyc : Nat) (n : Fin 33) (k : Fin 16) (sg : Word) (m : BitVec 32) (r : Bool),
    (s.rng.isMaster = true → n.val ≠ 0 → cyc = s.cycleNo → ((s.set k).ready.any fun r => r.1 == n.val && r.2.1 == cyc) = false →
      exec (.readyFrameReceive dt n cyc k sg m r) s =
        .next ((s.advance dt).putSet k { s.set k with ready := (s.set k).ready ++ [(n.val, cyc, true, sg.toNat, m, r)] })) ∧
    (s.rng.isMaster = false → exec (.readyFrameReceive dt n cyc k sg m r) s = .next (s.advance dt))) ∧
  (∀ (s : State) (dt cyc : Nat) (n : Fin 33) (sets go mis : BitVec 16) (gone : BitVec 32), n.val = s.rng.master → n.val ≠ 0 →
    s.rng.isMaster = false → s.rng.cut = false → s.mode .ring = true → cyc = s.cycleNo → Completes (.decisionFrameReceive dt n cyc sets go mis gone) s fun t =>
      ∀ k, k < 16 → (sets.getLsbD k = true → (s.set k).members ≠ 0 → (t.set k).go = some (go.getLsbD k)) ∧
        ((sets.getLsbD k = false ∨ (s.set k).members = 0) → (t.set k).go = (s.set k).go)) ∧
  (∀ (s : State) (dt : Nat) (n : Fin 33), n.val ≠ 0 → n.val ≠ s.nodeNo →
    (∀ k det, exec (.ringEventFrame dt n (.portDown k det)) s = .next (hearDown n (k % 2) det (s.advance dt))) ∧
    (∀ slot c, n.val = s.rng.master →
      exec (.ringEventFrame dt n (.keySwitch slot c)) s = .next { s.advance dt with rng := { s.rng with keySwitch := some (slot % 2, c) } }) ∧
    (∀ t, n.val = s.rng.master → exec (.ringEventFrame dt n (.handover s.nodeNo t)) s =
      .next { s.advance dt with rng := { s.rng with handover := some (s.nodeNo, t, 0) } })) ∧
  (∀ (s : State) (dt k ix : Nat) (n d : Fin 33) (m : BitVec 32), n.val ≠ 0 → n.val ≠ s.nodeNo → ix ≤ 65535 →
    m = BitVec.ofNat 32 (tget 0 s.rng.published (65536 * k + ix)) →
    (d.val = s.nodeNo → exec (.subscribeFrame dt ⟨n, d⟩ true k ix) s = .next { s.advance dt with rng := { s.rng with
      published := tset 0 s.rng.published (65536 * k + ix) (m ||| nodeMask [n.val]).toNat } }) ∧
    (d.val = s.nodeNo → exec (.subscribeFrame dt ⟨n, d⟩ false k ix) s = .next { s.advance dt with rng := { s.rng with
      published := tset 0 s.rng.published (65536 * k + ix) (m &&& ~~~nodeMask [n.val]).toNat } }) ∧
    (d.val ≠ s.nodeNo → s.rng.isMaster = true → exec (.subscribeFrame dt ⟨n, d⟩ true k ix) s = .next { s.advance dt with rng := { s.rng with
      peerSubs := s.rng.peerSubs.filter (· ≠ (n.val, d.val, k, ix)) ++ [(n.val, d.val, k, ix)] } }) ∧
    (d.val ≠ s.nodeNo → s.rng.isMaster = true → exec (.subscribeFrame dt ⟨n, d⟩ false k ix) s = .next { s.advance dt with rng := { s.rng with
      peerSubs := s.rng.peerSubs.filter (· ≠ (n.val, d.val, k, ix)) } })) ∧
  (∀ (s : State) (dt : Nat) (n : Fin 33) (m : PeerSample), n.val ≠ 0 → n.val ≠ s.nodeNo → s.rng.cut = false →
    (s.rng.subs.contains (m.kind, n.val, m.index) = true → s.feeds (m.kind, n.val, m.index) = true → exec (.samplesFrame dt n [m]) s =
      .next { s.advance dt with alm := { s.alm with inbox := s.alm.inbox ++
        [(m.kind, n.val, { src := m.index, value := m.value, sqw := m.sqw, time := m.time })] } }) ∧
    (s.rng.subs.contains (m.kind, n.val, m.index) = false → exec (.samplesFrame dt n [m]) s = .next (s.advance dt))) ∧
  (∀ (s : State) (dt : Nat) (n : Fin 33) (m : PeerSample) (l : List PeerSample) (t : State), n.val ≠ 0 → n.val ≠ s.nodeNo → s.rng.cut = false →
    exec (.samplesFrame dt n [m]) s = .next t → exec (.samplesFrame dt n (m :: l)) s = exec (.samplesFrame 0 n l) t) ∧
  (∀ (s : State) (dt : Nat) (n : Fin 33) (f : Fin 256) (sev : Fin 5) (r : PeerRecord), s.rng.isMaster = true → n.val ≠ 0 →
    (((s.flow f).state = .closed ∨ (s.flow f).stream = true ∨ (s.flow f).origin / 2 ^ (n.val - 1) % 2 = 0) → exec (.recordFrame dt n f sev r) s =
      .next ((s.advance dt).setFlow f { s.flow f with lost := ((s.flow f).lost + 1) % 2 ^ 32 })) ∧
    ((s.flow f).state ≠ .closed → (s.flow f).stream = false → (s.flow f).origin / 2 ^ (n.val - 1) % 2 = 1 → exec (.recordFrame dt n f sev r) s =
      .next (offerItem (min r.decided (s.now + dt)) f
        (.record { typ := r.typ, time := r.time, node := n.val, subsys := r.subsys, index := r.index, code := r.code, payload := r.payload })
        r.time (s.advance dt)).2)) ∧
  (∀ (s : State) (dt : Nat) (n : Fin 33) (f : Fin 256) (sev : Fin 5) (r : PeerRecord), s.rng.isMaster = false →
    exec (.recordFrame dt n f sev r) s = .next (s.advance dt))

/-- Ports (R353, R358 to R362, R373, R383). PORT_DOWN for block lock, high BER or loss of signal takes an up port down with its cause; 8 takes a
disabled one. LINK_WORD_TIMEOUT after 10 µs, not before. PORT_LOCK_STABLE sends LINK_UP with a new epoch where the port has a transmit clock.
LINK_UP_FRAME: double number, wrong key, else the port is up with full credit. LINK_EPOCH_RENEW near 2^31 renews the epoch. LINK_WORD_SEND sends the
word each µs or at once after a failure. LINK_WORD_RECEIVE discards a bad word; a good one keeps the port alive; a NAK resends, at most twice.
SFP_DIAG_POLL, SFP_MODULE_EVENT and DELAY_EXCHANGE store what they read. -/
def Obligations.RingPortsAndLinks : Prop :=
  (∀ (s : State) (dt : Nat) (p : Fin 2) (c : Fin 9),
    ((c.val = 1 ∨ c.val = 2 ∨ c.val = 3) → (s.port p).up = true → Completes (.portDown dt p c) s fun t => (t.port p).up = false ∧
      (t.port p).downCause = c.val ∧ (t.port p).sent = [] ∧ (t.port p).alive = false ∧ ((s.port (1 - p.val)).up = false → t.rng.state = 0)) ∧
    (c.val = 8 → (s.port p).en = true → exec (.portDown dt p c) s = .next (s.advance dt)) ∧
    (c.val = 8 → (s.port p).en = false → exec (.portDown dt p c) s = .next (portDown p 8 (s.advance dt))) ∧
    ((c.val = 0 ∨ (4 ≤ c.val ∧ c.val ≤ 7)) → exec (.portDown dt p c) s = .next (s.advance dt))) ∧
  (∀ (s : State) (dt : Nat) (p : Fin 2), (s.port p).up = true →
    ((s.port p).wordAt + 10000 ≤ s.now + dt → exec (.linkWordTimeout dt p) s = .next (portDown p 4 (s.advance dt))) ∧
    (s.now + dt < (s.port p).wordAt + 10000 → exec (.linkWordTimeout dt p) s = .next (s.advance dt))) ∧
  (∀ (s : State) (dt : Nat) (p : Fin 2), s.txDisable p = false → (s.port p).los = false → (s.port p).up = false → s.pwr.phase ≠ .asserted →
    (s.rng.txLost = false → Completes (.portLockStable dt p) s fun t => (t.port p).blockLock = true ∧ (t.port p).hiBer = false ∧
      (t.port p).up = false ∧ (t.port p).epoch = Config.freeNat s.fresh % 2 ^ 32 ∧ t.rng.out.length = s.rng.out.length + 1) ∧
    (s.rng.txLost = true → Completes (.portLockStable dt p) s fun t => (t.port p).blockLock = true ∧ (t.port p).hiBer = false ∧
      (t.port p).up = false ∧ t.rng.out = s.rng.out)) ∧
  (∀ (s : State) (dt : Nat) (p : Fin 2), s.txDisable p = true → exec (.portLockStable dt p) s = .next (s.advance dt)) ∧
  (∀ (s : State) (dt : Nat) (p : Fin 2) (n : Fin 33) (kcv ep : Word) (d : Bool), s.txDisable p = false → (s.port p).los = false →
    (s.port p).blockLock = true → (s.port p).hiBer = false → s.pwr.phase ≠ .asserted →
    (d = true ∨ n.val = s.nodeNo → exec (.linkUpFrame dt p n kcv ep d) s =
      .next (portDown p 6 ((s.advance dt).setPort p { s.port p with neighbour := n }))) ∧
    (d = false → n.val ≠ s.nodeNo → (kcv.toNat ≠ keyCheck (s.rng.key s.rng.keySlot) ∨ (s.rng.key s.rng.keySlot = none ∧ s.nullKeyOk = false)) →
      exec (.linkUpFrame dt p n kcv ep d) s = .next (portDown p 7 ((s.advance dt).setPort p { s.port p with neighbour := n }))) ∧
    (d = false → n.val ≠ s.nodeNo → kcv.toNat = keyCheck (s.rng.key s.rng.keySlot) → (s.rng.key s.rng.keySlot ≠ none ∨ s.nullKeyOk = true) →
      Completes (.linkUpFrame dt p n kcv ep d) s fun t => (t.port p).up = true ∧ (t.port p).neighbour = n.val ∧ (t.port p).txEpoch = ep.toNat ∧
        (t.port p).txSeq = 0 ∧ (t.port p).credit = [128, 736, 736, 736, 736])) ∧
  (∀ (s : State) (dt : Nat) (p : Fin 2), (s.port p).up = true →
    (2 ^ 31 - 2 ^ 20 ≤ (s.port p).rxSeq → Completes (.linkEpochRenew dt p) s fun t =>
      (t.port p).rxSeq = 0 ∧ (t.port p).epoch = Config.freeNat s.fresh % 2 ^ 32 ∧ (t.port p).up = true) ∧
    ((s.port p).rxSeq < 2 ^ 31 - 2 ^ 20 → exec (.linkEpochRenew dt p) s = .next (s.advance dt))) ∧
  (∀ (s : State) (dt : Nat) (p : Fin 2), (s.port p).up = false → exec (.linkEpochRenew dt p) s = .next (s.advance dt) ∧
    exec (.linkWordSend dt p) s = .next (s.advance dt) ∧ exec (.linkWordTimeout dt p) s = .next (s.advance dt)) ∧
  (∀ (s : State) (dt : Nat) (p : Fin 2), s.canSend p = true →
    ((s.port p).nak = true ∨ (∀ t, (s.port p).txWordAt = some t → t + 1000 ≤ s.now + dt)) → Completes (.linkWordSend dt p) s fun t =>
      (t.port p).txWord = BitVec.ofNat 56 (linkWord p s) ∧ (t.port p).txWordAt = some (s.now + dt) ∧ (t.port p).nak = false) ∧
  (∀ (s : State) (dt : Nat) (p : Fin 2) (w : BitVec 56), linkCheck (w.toNat % 2 ^ 48) ≠ w.toNat / 2 ^ 48 →
    exec (.linkWordReceive dt p w) s = .next (s.advance dt)) ∧
  (∀ (s : State) (dt : Nat) (p : Fin 2) (w : BitVec 56), (s.port p).up = true → linkCheck (w.toNat % 2 ^ 48) = w.toNat / 2 ^ 48 →
    w.toNat / 65536 % 2 = 0 → Completes (.linkWordReceive dt p w) s fun t => (t.port p).wordAt = s.now + dt ∧ (t.port p).alive = true ∧
      (t.port p).up = true ∧ (t.port p).resends = (s.port p).resends) ∧
  (∀ (s : State) (k q c u n : Nat) (r : List (Nat × Nat × Nat × Nat)), (s.port k).sent = (q, c, u, n) :: r →
    (2 ≤ n → retryFrames k s = portDown k 5 s) ∧
    (n < 2 → ((retryFrames k s).port k).sent = (q, c, u, n + 1) :: r ∧
      ((retryFrames k s).port k).resends = min 65535 ((s.port k).resends + r.length + 1))) ∧
  (∀ (s : State) (dt : Nat) (p : Fin 2) (l : List Byte) (a : Bool),
    ((s.port p).modAbs = false → Completes (.sfpDiagPoll dt p l a) s fun t => (t.port p).sfp = fitBytes 12 l ∧ (t.port p).sfpAlarm = a) ∧
    ((s.port p).modAbs = true → exec (.sfpDiagPoll dt p l a) s = .next (s.advance dt))) ∧
  (∀ (s : State) (dt : Nat) (p : Fin 2) (ab los : Bool), Completes (.sfpModuleEvent dt p ab los) s fun t => (t.port p).modAbs = ab ∧
    (t.port p).los = los ∧ ((ab || los) = true → (t.port p).up = false ∧ (t.port p).blockLock = false)) ∧
  (∀ (s : State) (dt a b c d m : Nat) (p : Fin 2) (l : List Nat), (s.port p).up = true → l = (((b + d) - (a + c)) / 2 :: (s.port p).delays).take 16 →
    m = sumNat l / l.length - Config.portLatency p →
    (((s.port p).delays = [] ∨ (s.port p).delayAt + 10000000 ≤ s.now + dt) → exec (.delayExchange dt p a b c d) s =
      .next ((s.advance dt).setPort p { s.port p with delays := l, delayAt := s.now + dt, delay := m % 2 ^ 24, len := (m + 49) / 50 })) ∧
    ((s.port p).delays ≠ [] → s.now + dt < (s.port p).delayAt + 10000000 → exec (.delayExchange dt p a b c d) s = .next (s.advance dt)))

/-- SYNC_SEND (R374) is the master's, each ms. SYNC_RECEIVE (R374, R375): of the master's SYNC the copy that came fewer hops counts; beyond 1 µs a
member that is not locked steps its time, within 50 ns it counts as good, and 16 good ones in a row lock. TIME_HOLDOVER_TIMEOUT after 4 ms,
TIME_FREE_TIMEOUT after 10 s or with no master. PPS_IN_EDGE (R376) of the right polarity locks the master to the pulse; PPS_IN_LOSS after 1.5 s;
PPS_OUT_PULSE at each whole second. RING_KEY_SWITCH (R384) at its cycle, and RING_KEY_GRACE_END 10 cycles later. -/
def Obligations.RingTimeAndKeys : Prop :=
  (∀ (s : State) (dt : Nat), s.rng.isMaster = false → exec (.syncSend dt) s = .next (s.advance dt)) ∧
  (∀ (s : State) (dt : Nat), s.rng.isMaster = true →
    ((∀ t, s.rng.syncSent = some t → t + 1000000 ≤ s.now + dt) → exec (.syncSend dt) s =
      .next (originate 0 0 0 none (le 8 (s.now + dt) ++ zeros 24) { s.advance dt with rng := { s.rng with syncSent := some (s.now + dt) } })) ∧
    (∀ t, s.rng.syncSent = some t → s.now + dt < t + 1000000 → exec (.syncSend dt) s = .next (s.advance dt))) ∧
  (∀ (s : State) (dt t : Nat) (d : Fin 2) (n : Fin 33) (h : Fin 32), (s.rng.isMaster = true ∨ n.val ≠ s.rng.master) →
    exec (.syncReceive dt d n h t) s = .next (s.advance dt)) ∧
  (∀ (s : State) (dt t o : Nat) (d : Fin 2) (n : Fin 33) (h : Fin 32) (off : Int), s.rng.isMaster = false → n.val ≠ 0 → n.val = s.rng.master →
    (d.val = 0 → o = (s.dirEntry n).hops0) → (d.val = 1 → o = (s.dirEntry n).hops1) → off = (t : Int) - (s.now + dt : Nat) →
    (o ≠ 0 → (o < h.val + 1 ∨ (o = h.val + 1 ∧ d.val = 1)) → exec (.syncReceive dt d n h t) s = .next (s.advance dt)) ∧
    ((o = 0 ∨ h.val + 1 < o ∨ (o = h.val + 1 ∧ d.val = 0)) →
      (s.rng.tState ≠ 2 → 1000 < off.natAbs → Completes (.syncReceive dt d n h t) s fun u =>
        u.now = t ∧ u.rng.offset = 0 ∧ u.rng.goodSyncs = 0 ∧ u.rng.tState = 1 ∧ u.rng.gm = n.val) ∧
      (off.natAbs ≤ 50 → (s.rng.tState = 2 ∨ 15 ≤ s.rng.goodSyncs) → Completes (.syncReceive dt d n h t) s fun u =>
        u.now = s.now + dt ∧ u.rng.goodSyncs = s.rng.goodSyncs + 1 ∧ u.rng.offset = off ∧ u.rng.tState = 2) ∧
      (off.natAbs ≤ 50 → s.rng.tState ≠ 2 → s.rng.goodSyncs < 15 → Completes (.syncReceive dt d n h t) s fun u =>
        u.now = s.now + dt ∧ u.rng.goodSyncs = s.rng.goodSyncs + 1 ∧ u.rng.offset = off ∧ u.rng.tState = 1) ∧
      (50 < off.natAbs → off.natAbs ≤ 1000 → Completes (.syncReceive dt d n h t) s fun u =>
        u.now = s.now + dt ∧ u.rng.goodSyncs = 0 ∧ u.rng.offset = off))) ∧
  (∀ (s : State) (dt t : Nat), s.rng.syncAt = some t → s.rng.isMaster = false → s.rng.tState = 2 →
    (t + 4000000 ≤ s.now + dt → exec (.timeHoldoverTimeout dt) s =
      .next (setTimeState 3 { s.advance dt with rng := { s.rng with holdAt := s.now + dt, goodSyncs := 0 } })) ∧
    (s.now + dt < t + 4000000 → exec (.timeHoldoverTimeout dt) s = .next (s.advance dt))) ∧
  (∀ (s : State) (dt : Nat), s.rng.isMaster = false →
    ((s.rng.tState = 3 ∧ s.rng.holdAt + 10000000000 ≤ s.now + dt) ∨ (s.rng.tState ≠ 0 ∧ s.rng.master = 0) → exec (.timeFreeTimeout dt) s =
      .next (setTimeState 0 { s.advance dt with rng := { s.rng with tSource := 0, goodSyncs := 0 } })) ∧
    (s.rng.tState = 3 → s.rng.master ≠ 0 → s.now + dt < s.rng.holdAt + 10000000000 → exec (.timeFreeTimeout dt) s = .next (s.advance dt))) ∧
  (∀ (s : State) (n : Nat), (setTimeState n s).rng.tState = n) ∧
  (∀ (s : State) (dt : Nat), s.rng.tState = 0 → exec (.timeFreeTimeout dt) s = .next (s.advance dt)) ∧
  (∀ (s : State) (dt : Nat) (b : Bool), (s.rng.ppsInEn = false ∨ b ≠ s.rng.ppsPol) → exec (.ppsInEdge dt b) s = .next (s.advance dt)) ∧
  (∀ (s : State) (dt : Nat), s.rng.ppsInEn = true →
    (s.rng.isMaster = false → exec (.ppsInEdge dt s.rng.ppsPol) s = .next { s.advance dt with rng := { s.rng with ppsLast := s.now + dt } }) ∧
    (s.rng.isMaster = true → Completes (.ppsInEdge dt s.rng.ppsPol) s fun t =>
      t.rng.ppsOk = true ∧ t.rng.ppsSecond = none ∧ t.rng.ppsLocked = true ∧ t.rng.tSource = 2 ∧ t.rng.gm = s.nodeNo)) ∧
  (∀ (s : State) (dt : Nat), s.rng.ppsOk = true →
    (s.rng.ppsLast + 1500000000 ≤ s.now + dt → exec (.ppsInLoss dt) s =
      .next (note 0x050A 0 (le 1 0) { s.advance dt with rng := { s.rng with ppsOk := false, tSource := 0 } })) ∧
    (s.now + dt < s.rng.ppsLast + 1500000000 → exec (.ppsInLoss dt) s = .next (s.advance dt))) ∧
  (∀ (s : State) (dt t : Nat), t = 1000000000 * ((s.now + dt) / 1000000000) →
    (s.rng.ppsOutEn = true → s.rng.ppsOutAt < t →
      exec (.ppsOutPulse dt) s = .next { s.advance dt with rng := { s.rng with ppsOutAt := t, ppsOutEnd := some (t + 10000000) } }) ∧
    ((s.rng.ppsOutEn = false ∨ t ≤ s.rng.ppsOutAt) → exec (.ppsOutPulse dt) s = .next (s.advance dt))) ∧
  (∀ (s : State) (dt k c : Nat), s.rng.keySwitch = some (k, c) →
    (c ≤ s.cycleNo → exec (.ringKeySwitch dt) s = .next (note 0x0508 k (le 8 c ++ le 4 (keyCheck (s.rng.key k))) { s.advance dt with rng := { s.rng with
      keySlot := k, keySwitch := none, keyGrace := some (c + 10) } })) ∧
    (s.cycleNo < c → exec (.ringKeySwitch dt) s = .next (s.advance dt))) ∧
  (∀ (s : State) (dt c : Nat), s.rng.keyGrace = some c →
    (c ≤ s.cycleNo → exec (.ringKeyGraceEnd dt) s = .next { s.advance dt with rng := { s.rng with keyGrace := none } }) ∧
    (s.cycleNo < c → exec (.ringKeyGraceEnd dt) s = .next (s.advance dt)))

/-- Commands over spares (R418, R422, R423, R440). SPARE_STATUS answers a pool instance. SPARE_SWAP: 0x00C1 for pools 3 to 5; for the others, in
order, 0x00C0 where no part serves, NO_SPARE, MODE_CONFLICT 0x00A3, BUSY_SERV while a swap or calibration holds the object, else the swap starts as
a job. SPARE_POLICY stores the policy and acts on the parts at REPLACE. SPARE_APPROVE: 0x00C6 for a proposal not standing, ACTION 1 drops it, ACTION
0 starts its swap under SPARE_SWAP's refusals. WEAR_READ answers a part. PROPOSAL_LAPSE drops the proposals that are 24 h old. -/
def Obligations.SpareCommands : Prop :=
  (∀ (s : State) (dt : Nat) (c : Cmd) (env : Env), s.Ready .spareStatus dt c → Clean c [(32, 2)] 0 → c.u8 32 ≤ 6 → c.u8 33 < poolInsts (c.u8 32) →
    Answers s (.spareStatus dt c env) stOk (le 4 (s.poolRegs (c.u8 32) (c.u8 33)).1 ++ le 4 (s.poolRegs (c.u8 32) (c.u8 33)).2 ++
      le 1 (s.poolNow (c.u8 32) (c.u8 33)) ++ le 1 (min 255 (s.workingSpares (c.u8 32) (c.u8 33))) ++
      le 1 (min 255 (deliveredSpares (c.u8 32)))) (s.entered .spareStatus dt c)) ∧
  (∀ (s : State) (dt : Nat) (c : Cmd) (env : Env), s.Ready .spareSwap dt c → Clean c [(32, 4)] 0 → 3 ≤ c.u8 32 → c.u8 32 ≤ 5 →
    Answers s (.spareSwap dt c env) stBadParam (le 2 0xC1) (s.entered .spareSwap dt c)) ∧
  (∀ (s : State) (dt p i x n : Nat) (c : Cmd) (env : Env) (u : State), s.Ready .spareSwap dt c → Clean c [(32, 4)] 0 → p = c.u8 32 → i = c.u8 33 →
    x = c.u8 34 → n = c.u8 35 → u = s.entered .spareSwap dt c →
    ((p = 0 ∧ i < 8 ∧ x < 8 ∧ (n < 10 ∨ n = 255)) ∨ (p = 1 ∧ i < 8 ∧ x < 8 ∧ (n < 9 ∨ n = 255)) ∨
      (p = 2 ∧ i < 6 ∧ x < 16 ∧ (n = 16 ∨ n = 17 ∨ n = 255)) ∨ (p = 6 ∧ i = 0 ∧ x < 4 ∧ (n < 5 ∨ n = 255))) →
    (s.wornPart p i x = none → Answers s (.spareSwap dt c env) stBadParam (le 2 0xC0) u) ∧
    (∀ w, s.wornPart p i x = some w → s.pickSpare p i x n = none → Answers s (.spareSwap dt c env) stNoSpare [] u) ∧
    (∀ w k, s.wornPart p i x = some w → s.pickSpare p i x n = some k → (s.mode .serv = false ∨ (p = 0 ∧ s.mode .acq = false)) →
      Answers s (.spareSwap dt c env) stModeConflict (le 2 0xA3) u) ∧
    (∀ w k, s.wornPart p i x = some w → s.pickSpare p i x n = some k → s.mode .serv = true → (p = 0 → s.mode .acq = true) →
      (s.swapHolds p i x = true ∨ s.calHolds p i x = true) →
      Answers s (.spareSwap dt c env) stBusyServ (le 2 0 ++ le 4 (holdTime p i x u).1) (holdTime p i x u).2) ∧
    (∀ w k, s.wornPart p i x = some w → s.pickSpare p i x n = some k → s.mode .serv = true → s.swapHolds p i x = false → s.calHolds p i x = false →
      (p = 0 → s.mode .acq = true →
        StartsJob s (.spareSwap dt c env) (s.entryOf .spareSwap dt c) [] (startSliceSwap (i * 8 + x) k 0 false (some s.cp.nextId) u)) ∧
      (p = 1 → StartsJob s (.spareSwap dt c env) (s.entryOf .spareSwap dt c) [] (startCellSwap (i * 8 + x) k 0 false (some s.cp.nextId) u)) ∧
      (p = 2 → StartsJob s (.spareSwap dt c env) (s.entryOf .spareSwap dt c) [] (startDriverSwap i x w k 0 (some s.cp.nextId) u)) ∧
      (p = 6 → StartsJob s (.spareSwap dt c env) (s.entryOf .spareSwap dt c) [] (startPhaseSwap x w k 0 (some s.cp.nextId) u)))) ∧
  (∀ (s : State) (dt : Nat) (c : Cmd) (env : Env), s.Ready .sparePolicy dt c → Clean c [(32, 2)] 0 → (c.u8 32 ≤ 2 ∨ c.u8 32 = 6) → c.u8 33 ≤ 2 →
    Answers s (.sparePolicy dt c env) stOk [] (actOnPool (c.u8 32) { s.entered .sparePolicy dt c with
      spr := { s.spr with policies := s.spr.policies.set (policyIdx (c.u8 32)) (c.u8 33) } })) ∧
  (∀ (s : State) (dt : Nat) (c : Cmd) (env : Env), s.Ready .spareApprove dt c → Clean c [(32, 1), (36, 4)] 0 → c.u8 32 ≤ 1 →
    (∀ p, p ∈ s.spr.proposals → p.num = c.u32 36 → p.expiry ≤ s.now + dt) →
    Answers s (.spareApprove dt c env) stBadParam (le 2 0xC6) (s.entered .spareApprove dt c)) ∧
  (∀ (s : State) (dt : Nat) (c : Cmd) (env : Env) (p : Proposal), s.Ready .spareApprove dt c → Clean c [(32, 1), (36, 4)] 0 → c.u8 32 = 1 → p ∈ s.spr.proposals →
    p.num = c.u32 36 → s.now + dt < p.expiry → Answers s (.spareApprove dt c env) stOk [] { s.entered .spareApprove dt c with
      spr := { s.spr with proposals := s.spr.proposals.filter fun q => q.num ≠ c.u32 36 } }) ∧
  (∀ (s : State) (dt : Nat) (c : Cmd) (env : Env) (p : Proposal) (u : State), s.Ready .spareApprove dt c → Clean c [(32, 1), (36, 4)] 0 → c.u8 32 = 0 →
    s.spr.proposals = [p] → p.num = c.u32 36 → s.now + dt < p.expiry → u = s.entered .spareApprove dt c →
    (∀ r v, plannedSwap p.pool p.isl p.idx 255 none u = (some (.final r v), u) → Answers s (.spareApprove dt c env) r v u) ∧
    (∀ w k, s.wornPart p.pool p.isl p.idx = some w → s.pickSpare p.pool p.isl p.idx 255 = some k → s.mode .serv = true → s.mode .acq = true →
      s.swapHolds p.pool p.isl p.idx = false → s.calHolds p.pool p.isl p.idx = false →
      ∃ t, Answers s (.spareApprove dt c env) stOk [] t ∧ t.spr.proposals = [] ∧ t.spr.swaps.length = s.spr.swaps.length + 1)) ∧
  (∀ (s : State) (dt p i n : Nat) (c : Cmd) (env : Env), s.Ready .wearRead dt c → Clean c [(32, 3)] 0 → p = c.u8 32 → i = c.u8 33 → n = c.u8 34 → i < poolInsts p →
    ((p = 0 ∧ n < 10) ∨ (p = 1 ∧ n < 9) ∨ (p = 2 ∧ n < 18) ∨ (p = 3 ∧ n < 2) ∨ (p = 4 ∧ n < 3) ∨ (p = 5 ∧ n = 0) ∨ (p = 6 ∧ n < 5)) →
    Answers s (.wearRead dt c env) stOk (le 1 (s.wearOf p i n).1 ++
      le 1 (bit (50 ≤ (s.wearOf p i n).1) 0 + bit (100 ≤ (s.wearOf p i n).1) 1 + bit ((s.wearOf p i n).2.1 = 3) 2) ++ zeros 2 ++
      le 4 (s.wearOf p i n).2.2.1.toNat ++ le 8 (s.wearOf p i n).2.2.2) (s.entered .wearRead dt c)) ∧
  (∀ (s : State) (dt : Nat), exec (.proposalLapse dt) s = .next { s.advance dt with
    spr := { s.spr with proposals := s.spr.proposals.filter fun p => decide (s.now + dt < p.expiry) } })

/-- Wear and hard failures (R57, R420 to R427, R433, R434, R436). SLICE_AUDIT starts with a spare checked in the last 10 s on a slice not audited
for a day, and after 16 pairs charges the slice. SPARE_REFERENCE_CHECK notes instant and error of a spare. DIRECT_SWAP: beyond a quarter of the
accuracy, or with a shorted switch, the spare is refused; else it takes over. FORCED_SLICE_SWAP: a slice in service is replaced, a spare becomes
FAILED. PULSE_READBACK_CHECK within 0.1 % counts a pass. LANE_SELF_TEST_END: the lane is the spare again or retires. PAGE_CORRECTED_ERROR: the
second error of a page in 24 h retires it. -/
def Obligations.WearAndForcedSwaps : Prop :=
  (∀ (s : State) (dt x : Nat) (ch : Fin 64) (fl : List Nat), (s.chan ch).pslice = none → exec (.sliceAudit dt ⟨ch, fl⟩ x) s = .next (s.advance dt)) ∧
  (∀ (s : State) (dt x p : Nat) (ch : Fin 64) (a : Audit) (fl : List Nat), s.audit (ch / 8) = some a → (s.chan ch).pslice = some p →
    ((a.ch ≠ ch.val ∨ a.pairs < 16) → exec (.sliceAudit dt ⟨ch, fl⟩ x) s = .next (s.advance dt)) ∧
    (a.ch = ch.val → 16 ≤ a.pairs → a.pct < 200 →
      exec (.sliceAudit dt ⟨ch, fl⟩ x) s = .next (chargeWear 0 (ch / 8) p (max a.pct (excursionIndex x)) a.dev
        ((endAudit (ch / 8) (s.advance dt)).setSlice (ch / 8) p
          { (endAudit (ch / 8) (s.advance dt)).slice (ch / 8) p with auditAt := some (s.now + dt) })))) ∧
  (∀ (s : State) (dt x p n t : Nat) (ch : Fin 64) (fl : List Nat), s.audit (ch / 8) = none → (s.chan ch).pslice = some p →
    (s.slice (ch / 8) p).auditAt = none → s.glideOk ch = true → (s.chan ch).spare = none → s.sliceSwap ch = none → s.canSample ch = true →
    s.mode .acq = true → (s.slice (ch / 8) n).checked = some t → s.now + dt ≤ t + 10000000000 → (s.slice (ch / 8) n).checkPct < 25 →
    (s.slice (ch / 8) n).role = 1 → s.sliceHeld (ch / 8) n = false → s.reserved 0 (ch / 8) n = false → n < 10 →
    (∀ m, m < n → (s.slice (ch / 8) m).role ≠ 1) →
    (((s.chan ch).twinJoins n).any (shortedIn fl) = false → Completes (.sliceAudit dt ⟨ch, fl⟩ x) s fun t =>
      t.partRole 0 (ch / 8) n = 4 ∧ t.audit (ch / 8) = some { ch := ch, spare := n, joinAt := s.now + dt }) ∧
    (((s.chan ch).twinJoins n).any (shortedIn fl) = true → Completes (.sliceAudit dt ⟨ch, fl⟩ x) s fun t => t.spr.audits = s.spr.audits)) ∧
  (∀ (s : State) (dt pct : Nat) (i : Fin 8) (n : Fin 10), (s.partRole 0 i n = 0 ∨ 5 ≤ s.partRole 0 i n) →
    exec (.spareReferenceCheck dt i n pct) s = .next (s.advance dt)) ∧
  (∀ (s : State) (dt pct : Nat) (i : Fin 8) (n : Fin 10), 1 ≤ s.partRole 0 i n → s.partRole 0 i n ≤ 4 → (s.aisl i).powered = true →
    (∀ w, w ∈ s.spr.swaps → w.pool = 0 → w.isl = i.val → w.spare = n.val → w.phase ≠ 4) → exec (.spareReferenceCheck dt i n pct) s =
      .next ((s.advance dt).setSlice i n { s.slice i n with checked := some (s.now + dt), checkPct := pct })) ∧
  (∀ (s : State) (dt : Nat) (ch : Fin 64) (w : Swap) (fl : List Nat), s.sliceSwap ch = some w → w.method = 0 →
    exec (.directSwap dt ⟨ch, fl⟩) s = .next (s.advance dt)) ∧
  (∀ (s : State) (dt t : Nat) (ch : Fin 64) (w : Swap) (fl : List Nat), s.sliceSwap ch = some w → w.method = 1 → (s.aisl (ch / 8)).powered = true →
    (s.chan ch).cfg.pulsed = false → (s.chan ch).change = none → (s.slice (ch / 8) w.spare).checked = some t →
    (t + 10000000000 < s.now + dt → exec (.directSwap dt ⟨ch, fl⟩) s = .next (s.advance dt)) ∧
    (s.now + dt ≤ t + 10000000000 → 25 < (s.slice (ch / 8) w.spare).checkPct → w.fails = false →
      exec (.directSwap dt ⟨ch, fl⟩) s = .next (abortSwap w 0x00C3 6 (s.advance dt))) ∧
    (s.now + dt ≤ t + 10000000000 → (s.slice (ch / 8) w.spare).checkPct ≤ 25 → ((s.chan ch).moved w.spare).any (shortedIn fl) = true → w.fails = false →
      exec (.directSwap dt ⟨ch, fl⟩) s = .next (abortSwap w 0x00C3 1 (testNew (ch / 8) fl ((s.chan ch).moved w.spare) (s.advance dt)).2)) ∧
    (s.now + dt ≤ t + 10000000000 → (s.slice (ch / 8) w.spare).checkPct ≤ 25 → ((s.chan ch).moved w.spare).any (shortedIn fl) = false →
      Completes (.directSwap dt ⟨ch, fl⟩) s fun t => (t.chan ch).pslice = some w.spare ∧
        (t.chan ch).nextSeq = ((s.chan ch).nextSeq + (s.chan ch).cfg.settle) % 65536 ∧ (t.chan ch).gap = true ∧ (t.chan ch).glideNext = true ∧
        (t.chan ch).conn = (s.chan ch).moveSlice w.spare)) ∧
  (∀ (s : State) (dt c : Nat) (i : Fin 8) (n : Fin 10), ((List.range 8).find? fun c => (s.chan (i * 8 + c)).pslice = some n.val) = some c →
    exec (.forcedSliceSwap dt i n) s = .next (forceSlice (i * 8 + c) (s.advance dt))) ∧
  (∀ (s : State) (dt : Nat) (i : Fin 8) (n : Fin 10), (∀ c, c < 8 → (s.chan (i * 8 + c)).pslice ≠ some n.val) →
    (5 ≤ s.partRole 0 i n → exec (.forcedSliceSwap dt i n) s = .next (s.advance dt)) ∧
    (s.partRole 0 i n < 5 → s.reserved 0 i n = false → Completes (.forcedSliceSwap dt i n) s fun t =>
      t.partRole 0 i n = 6 ∧ (t.slice i n).level = 3)) ∧
  (∀ (s : State) (dt ppm : Nat) (ch : Fin 64), ((s.chan ch).cfg.pulsed = false ∨ (s.chan ch).srcOn = none) →
    exec (.pulseReadbackCheck dt ch ppm) s = .next (s.advance dt)) ∧
  (∀ (s : State) (dt ppm : Nat) (ch : Fin 64), (s.chan ch).cfg.pulsed = true → (s.chan ch).srcOn.isSome = true → 999000 ≤ ppm → ppm ≤ 1001000 →
    exec (.pulseReadbackCheck dt ch ppm) s = .next (excitationWear ch ppm ((s.advance dt).setChan ch { s.chan ch with
      rbFail := false, rbFails := 0, rbPasses := (s.chan ch).rbPasses + 1,
      rbFault := (s.chan ch).rbFault && decide ((s.chan ch).rbPasses + 1 < 3) }))) ∧
  (∀ (s : State) (dt : Nat) (b l : Fin 3) (ok : Bool), (s.lanes b).roles.getD l 0 ≠ 2 →
    exec (.laneSelfTestEnd dt b l ok) s = .next (s.advance dt)) ∧
  (∀ (s : State) (dt : Nat) (b l : Fin 3), (s.lanes b).roles.getD l 0 = 2 → l.val < (s.lanes b).roles.length →
    Completes (.laneSelfTestEnd dt b l false) s fun t => (t.lanes b).roles.getD l 0 = 3 ∧ tget false t.spr.laneFault b = false) ∧
  (∀ (s : State) (dt : Nat) (b l : Fin 3), (s.lanes b).roles.getD l 0 = 2 → l.val < (s.lanes b).roles.length → (s.lanes b).transients = [] →
    Completes (.laneSelfTestEnd dt b l true) s fun t => (t.lanes b).roles.getD l 0 = 1 ∧ (t.lanes b).transients = [(s.now + dt, l.val)]) ∧
  (∀ (s : State) (dt : Nat) (p : Fin 524544), s.spr.retiredPages.contains p.val = false → s.spr.pageErrors = [] →
    exec (.pageCorrectedError dt p) s = .next { s.advance dt with spr := { s.spr with
      corrected := min 65535 (s.spr.corrected + 1), pageErrors := [(p.val, s.now + dt)] } }) ∧
  (∀ (s : State) (dt t : Nat) (p : Fin 524544), s.spr.retiredPages.contains p.val = false → s.spr.pageErrors = [(p.val, t)] →
    s.now + dt < t + 86400000000000 → Completes (.pageCorrectedError dt p) s fun x => x.spr.retiredPages = s.spr.retiredPages ++ [p.val] ∧
      x.spr.sparePages = s.spr.sparePages - 1 ∧ x.spr.pageErrors = [])

/-- Sensors, the health log and SMBus (R27, R539 to R543, R547). SENSOR_SAMPLE: a lost sensor, or one of a lost island, is a fault at once; else the
value counts and three in a row below LO, above HI or back inside decide the state, a fault ending with the first value; a change of state adds a
log entry. LOG_SUMMARY adds 40 entries at its period. LOG_BATCH_WRITE appends the batch to the log, which keeps its newest 32,768 entries.
MSS_HEARTBEAT_LOSS restarts the MSS alone. SENSOR_READ answers the sensor words. HEALTH_READ answers where nothing is left to read and else writes
the entries to host memory before its reply. SMBUS_STATUS_READ puts an answer on the bus, but in VIGIL. -/
def Obligations.SensorsAndHealthLog : Prop :=
  (∀ (s : State) (dt : Nat) (k : Fin 40) (v : Option (BitVec 16)), s.mss.ok = false → exec (.sensorSample dt k v) s = .next (s.advance dt)) ∧
  (∀ (s : State) (dt : Nat) (k : Fin 40), s.mss.ok = true → exec (.sensorSample dt k none) s = .next (sensorState k 3 (s.advance dt))) ∧
  (∀ (s : State) (dt : Nat) (k : Fin 40) (v : BitVec 16), s.mss.ok = true → s.sensorLost k = true →
    exec (.sensorSample dt k (some v)) s = .next (sensorState k 3 (s.advance dt))) ∧
  (∀ (s : State) (dt : Nat) (k : Fin 40) (v : BitVec 16) (x y : Sensor), x = s.sensor k → s.mss.ok = true → s.sensorLost k = false →
    y = { x with value := v.toInt, lows := y.lows, highs := y.highs, backs := y.backs, min := y.min, max := y.max, sum := x.sum + v.toInt, count := x.count + 1 } →
    (x.count = 0 → y.min = v.toInt ∧ y.max = v.toInt) → (x.count ≠ 0 → y.min = min x.min v.toInt ∧ y.max = max x.max v.toInt) →
    (v.toInt < x.lo → y.lows = x.lows + 1) → (x.lo ≤ v.toInt → y.lows = 0) → (x.hi < v.toInt → y.highs = x.highs + 1) → (v.toInt ≤ x.hi → y.highs = 0) →
    (x.inside v.toInt = true → y.backs = x.backs + 1) → (x.inside v.toInt = false → y.backs = 0) →
    (3 ≤ y.lows → exec (.sensorSample dt k (some v)) s = .next (sensorState k 1 ((s.advance dt).setSensor k y))) ∧
    (y.lows < 3 → 3 ≤ y.highs → exec (.sensorSample dt k (some v)) s = .next (sensorState k 2 ((s.advance dt).setSensor k y))) ∧
    (y.lows < 3 → y.highs < 3 → (x.state = 3 ∨ 3 ≤ y.backs) → exec (.sensorSample dt k (some v)) s = .next (sensorState k 0 ((s.advance dt).setSensor k y))) ∧
    (y.lows < 3 → y.highs < 3 → x.state ≠ 3 → y.backs < 3 → exec (.sensorSample dt k (some v)) s = .next ((s.advance dt).setSensor k y))) ∧
  (∀ (s : State) (k : Nat), sensorState k (s.sensor k).state s = s) ∧
  (∀ (s : State) (k n : Nat), n ≠ (s.sensor k).state → ((sensorState k n s).sensor k).state = n ∧ ((sensorState k n s).sensor k).lows = 0 ∧
    ((sensorState k n s).sensor k).highs = 0 ∧ ((sensorState k n s).sensor k).backs = 0 ∧
    ((sensorState k n s).sensor k).value = (s.sensor k).value ∧ (sensorState k n s).mss.batch.length = s.mss.batch.length + 1) ∧
  (∀ (s : State) (dt : Nat), (s.mss.ok = false ∨ s.now + dt < s.mss.summaryAt + 3600000000000 * s.mss.summary) →
    exec (.logSummary dt) s = .next (s.advance dt)) ∧
  (∀ (s : State) (dt : Nat), s.mss.ok = true → s.mss.summaryAt + 3600000000000 * s.mss.summary ≤ s.now + dt →
    Completes (.logSummary dt) s fun t => t.mss.summaryAt = s.now + dt ∧ t.mss.batch.length = s.mss.batch.length + 40 ∧
      ∀ k, k < 40 → (t.sensor k).count = 0 ∧ (t.sensor k).value = (s.sensor k).value) ∧
  (∀ (s : State) (dt : Nat), s.mss.batch = [] → exec (.logBatchWrite dt) s = .next (s.advance dt)) ∧
  (∀ (s : State) (dt : Nat), s.mss.batch ≠ [] → Completes (.logBatchWrite dt) s fun t => t.mss.batch = [] ∧ t.mss.log.length ≤ 32768 ∧
    t.mss.log = (s.mss.log ++ s.mss.batch).drop (s.mss.log.length + s.mss.batch.length - 32768)) ∧
  (∀ (s : State) (dt : Nat), s.coreOn = true → Completes (.mssHeartbeatLoss dt) s fun t => t.mss.restarts = min 255 (s.mss.restarts + 1) ∧
    t.mss.batch.length = s.mss.batch.length + 1 ∧ t.mss.log = s.mss.log) ∧
  (∀ (s : State) (dt : Nat), s.coreOn = false → exec (.mssHeartbeatLoss dt) s = .next (s.advance dt)) ∧
  (∀ (s : State) (dt : Nat) (c : Cmd) (env : Env), s.Ready .sensorRead dt c → Clean c [(32, 2)] 0 → 1 ≤ c.u8 33 → c.u8 33 ≤ 8 → c.u8 32 + c.u8 33 ≤ 40 →
    Answers s (.sensorRead dt c env) stOk ((List.range (c.u8 33)).flatMap fun i => le 4 (s.sensorWord (c.u8 32 + i)))
      (s.entered .sensorRead dt c)) ∧
  (∀ (s : State) (dt : Nat) (c : Cmd) (env : Env), s.Ready .sensorRead dt c → Clean c [(32, 2)] 0 → (c.u8 33 = 0 ∨ 8 < c.u8 33 ∨ 40 < c.u8 32 + c.u8 33) →
    Answers s (.sensorRead dt c env) stBadParam (le 2 8) (s.entered .sensorRead dt c)) ∧
  (∀ (s : State) (dt : Nat) (c : Cmd) (env : Env) (out : List LogEntry), s.Ready .healthRead dt c → Clean c [(36, 4), (40, 8), (48, 4)] 0 → c.u64 40 % 64 = 0 →
    c.u32 48 ≤ 1048576 → out = ((s.mss.log ++ s.mss.batch).filter fun x => decide (seqKey s.mss.hseq (c.u32 36) ≤ seqKey s.mss.hseq x.hseq)).take (c.u32 48 / 32) →
    (s.mss.log ++ s.mss.batch = [] →
      Answers s (.healthRead dt c env) stOk (le 4 0 ++ le 4 s.mss.hseq ++ le 4 s.mss.hseq) (s.entered .healthRead dt c)) ∧
    (∀ x l, s.mss.log ++ s.mss.batch = x :: l → out = [] →
      Answers s (.healthRead dt c env) stOk (le 4 0 ++ le 4 s.mss.hseq ++ le 4 x.hseq) (s.entered .healthRead dt c)) ∧
    (∀ x y l, s.mss.log ++ s.mss.batch = x :: l → out.getLast? = some y →
      StaysOpen s (.healthRead dt c env) (s.entryOf .healthRead dt c) [] (answerThrough s.cp.nextId (c.u64 40) (out.flatMap LogEntry.bytes)
        (le 4 out.length ++ le 4 ((y.hseq + 1) % 2 ^ 32) ++ le 4 x.hseq) (s.entered .healthRead dt c)).2)) ∧
  (∀ (s : State) (dt : Nat), s.pwr.state ≠ .vigil → Completes (.smbusStatusRead dt) s fun t => t.now = s.now + dt ∧
    t.host.bus.length = s.host.bus.length + 1 ∧ t.mss = s.mss ∧ t.flows = s.flows) ∧
  (∀ (s : State) (dt : Nat), s.pwr.state = .vigil → exec (.smbusStatusRead dt) s = .next (s.advance dt))

/-- Update windows, the proven set and the Security Unit (R181, R555, R561, R562, R568, R573). UPDATE_WINDOW_SET stores or clears a window with
record 0x0A09 and refuses bounds out of range (0x0106). PROVEN_SET_ACCEPT makes the running set the proven one, refused (0x010D) where the boot
outcome is 2 or more. TRIAL_PROVEN after 24 h of a trial in RUN does so in the Standalone profile and proposes it in the Delegated one.
SECURITY_STATUS answers the unit's words. TAMPER_CLEAR clears the latch, refused (0x010A) while TAMPER_N is live; TAMPER_N_RELEASE ends that. -/
def Obligations.ProvenSetAndTamper : Prop :=
  (∀ (s : State) (dt : Nat) (c : Cmd) (env : Env), s.Ready .updateWindowSet dt c → Clean c [(32, 1), (40, 8), (48, 8)] 0 → c.u8 32 ≤ 3 →
    (c.u64 40 ≠ 0 ∨ c.u64 48 ≠ 0) → (c.u64 48 < c.u64 40 + 600000000000 ∨ c.u64 40 + 86400000000000 < c.u64 48 ∨ c.u64 48 ≤ s.now + dt) →
    Answers s (.updateWindowSet dt c env) stBadParam (le 2 0x106) (s.entered .updateWindowSet dt c)) ∧
  (∀ (s : State) (dt : Nat) (c : Cmd) (env : Env), s.Ready .updateWindowSet dt c → Clean c [(32, 1), (40, 8), (48, 8)] 0 → c.u8 32 ≤ 3 →
    ((c.u64 40 = 0 ∧ c.u64 48 = 0) ∨ (c.u64 40 + 600000000000 ≤ c.u64 48 ∧ c.u64 48 ≤ c.u64 40 + 86400000000000 ∧ s.now + dt < c.u64 48)) →
    Answers s (.updateWindowSet dt c env) stOk [] (note 0x0A09 (c.u8 32) (le 8 (c.u64 40) ++ le 8 (c.u64 48))
      { s.entered .updateWindowSet dt c with mss := { s.mss with windows := s.mss.windows.set (c.u8 32) (c.u64 40, c.u64 48) } })) ∧
  (∀ (s : State) (dt : Nat) (c : Cmd) (env : Env), s.Ready .provenSetAccept dt c → Clean c [] 0 →
    (2 ≤ s.mss.outcome → Answers s (.provenSetAccept dt c env) stBadParam (le 2 0x10D) (s.entered .provenSetAccept dt c)) ∧
    (s.mss.outcome < 2 → ∃ t, Answers s (.provenSetAccept dt c env) stOk [] t ∧
      t.mss.proven = some ((List.range 5).map fun k => ((s.kindOf k).active, (s.kindOf k).run.version), s.now + dt) ∧ t.mss.trial = none ∧
      s.sec.rollback ≤ t.sec.rollback)) ∧
  (∀ (s : State) (dt t : Nat), s.mss.trial = some t → t + 86400000000000 ≤ s.now + dt → s.pwr.state = .run → s.mod.holdSafe = 0 → s.mss.proposed = false →
    (s.mod.profile = 0 → exec (.trialProven dt) s = .next (acceptProven 0 (s.advance dt))) ∧
    (s.mod.profile ≠ 0 → exec (.trialProven dt) s = .next (raiseVector 2 3 { s.advance dt with mss := { s.mss with proposed := true } }))) ∧
  (∀ (s : State) (dt t : Nat), s.mss.trial = some t → (s.pwr.state ≠ .run ∨ s.mod.holdSafe ≠ 0 ∨ s.mss.proposed = true ∨ s.now + dt < t + 86400000000000) →
    exec (.trialProven dt) s = .next (s.advance dt)) ∧
  (∀ (s : State) (dt : Nat), s.mss.trial = none → exec (.trialProven dt) s = .next (s.advance dt)) ∧
  (∀ (s : State) (dt : Nat) (c : Cmd) (env : Env), s.Ready .securityStatus dt c → Clean c [] 0 → Answers s (.securityStatus dt c env) stOk
    (le 4 s.secStatus ++ le 4 s.secTamper ++ le 8 s.secSessions ++ le 4 (slotCheck s.rng.key0) ++ le 4 (slotCheck s.rng.key1))
    (s.entered .securityStatus dt c)) ∧
  (∀ (s : State) (dt : Nat) (c : Cmd) (env : Env), s.Ready .tamperClear dt c → Clean c [] 0 →
    (s.sec.live = true → Answers s (.tamperClear dt c env) stBadParam (le 2 0x10A) (s.entered .tamperClear dt c)) ∧
    (s.sec.live = false → Answers s (.tamperClear dt c env) stOk [] { s.entered .tamperClear dt c with sec := { s.sec with latched := false } })) ∧
  (∀ (s : State) (dt : Nat), exec (.tamperNRelease dt) s = .next { s.advance dt with sec := { s.sec with live := false } })

/-- Supplies (R181, R418, R420, R443 to R448). SUPPLY_INPUT_CHANGE stores the input's state, starts the 10 ms of both inputs lost and ends them.
HOLD_CAP_MEASURE, daily in RUN, stores C; HOLD_LOW_CHECK in RUN sets HOLD low below 4.75 V once charging is late; HOLD_CHARGED ends that. VBAT_LOW:
the flag below 2.2 V, and in VIGIL below 2.0 V class B is lost. SUPPLY_PHASE_CHECK stores share and phases of a powered island; an island without a
phase is unpowered. HOLDOVER (R27, R444, R446, R449 to R451, R465). HOLDOVER_ENTER: nothing before both inputs have been lost for 10 ms; early in a
start or below 2.2 V the node goes to VIGIL, else to HOLDOVER with t_h. HOLDOVER_PANEL_PARK parks the panel at t_h - 300 ms, HOLDOVER_SEAL seals the
journal at t_h - 200 ms, each not before and once. HOLDOVER_END at t_h: a restart where an input is back, DORMANT with energy for it, else VIGIL.
CORE_CLOCK_LOSS in HOLDOVER ends it at once, in RUN resets with cause 9. -/
def Obligations.SuppliesAndHoldover : Prop :=
  (∀ (s : State) (dt mv : Nat) (n : Fin 3), (s.pwr.p1 = inputOf n → exec (.supplyInputChange dt 0 n mv) s = .next (s.advance dt)) ∧
    (s.pwr.p2 = inputOf n → exec (.supplyInputChange dt 1 n mv) s = .next (s.advance dt))) ∧
  (∀ (s : State) (dt mv : Nat) (n : Fin 3), s.pwr.p1 ≠ inputOf n →
    (inputOf n = .lost → s.pwr.p2 = .lost → Completes (.supplyInputChange dt 0 n mv) s fun t => t.pwr.p1 = .lost ∧ t.pwr.p2 = .lost ∧
      t.pwr.bothLost = some (s.pwr.bothLost.getD (s.now + dt)) ∧ t.pwr.state = s.pwr.state) ∧
    ((inputOf n ≠ .lost ∨ s.pwr.p2 ≠ .lost) → Completes (.supplyInputChange dt 0 n mv) s fun t => t.pwr.p1 = inputOf n ∧ t.pwr.p2 = s.pwr.p2 ∧
      t.pwr.bothLost = none ∧ t.pwr.state = s.pwr.state ∧
      (s.pwr.p1 = .lost → s.pwr.p2 = .lost → s.pwr.state ≠ .run → t.pwr.busUp = s.now + dt))) ∧
  (∀ (s : State) (dt mv : Nat) (n : Fin 3), s.pwr.p2 ≠ inputOf n →
    (inputOf n = .lost → s.pwr.p1 = .lost → Completes (.supplyInputChange dt 1 n mv) s fun t => t.pwr.p1 = .lost ∧ t.pwr.p2 = .lost ∧
      t.pwr.bothLost = some (s.pwr.bothLost.getD (s.now + dt)) ∧ t.pwr.state = s.pwr.state) ∧
    ((inputOf n ≠ .lost ∨ s.pwr.p1 ≠ .lost) → Completes (.supplyInputChange dt 1 n mv) s fun t => t.pwr.p2 = inputOf n ∧ t.pwr.p1 = s.pwr.p1 ∧
      t.pwr.bothLost = none ∧ t.pwr.state = s.pwr.state ∧
      (s.pwr.p1 = .lost → s.pwr.p2 = .lost → s.pwr.state ≠ .run → t.pwr.busUp = s.now + dt))) ∧
  (∀ (s : State) (dt dv mv : Nat), (dv = 0 ∨ s.pwr.state ≠ .run ∨ ∃ t, s.pwr.capAt = some t ∧ s.now + dt < t + 86400000000000) →
    exec (.holdCapMeasure dt dv mv) s = .next (s.advance dt)) ∧
  (∀ (s : State) (dt dv mv : Nat), dv ≠ 0 → s.pwr.state = .run → (∀ t, s.pwr.capAt = some t → t + 86400000000000 ≤ s.now + dt) →
    exec (.holdCapMeasure dt dv mv) s = .next (judgeHold { s.advance dt with pwr := { s.pwr with
      holdMf := some (200000 / dv), holdMv := mv, capAt := some (s.now + dt) } })) ∧
  (∀ (s : State), (s.pwr.holdLow = true → (judgeHold s).pwr.holdBad = true) ∧
    (∀ c, s.pwr.holdLow = false → s.pwr.holdMf = some c → (judgeHold s).pwr.holdBad = decide (c < 1000))) ∧
  (∀ (s : State) (dt mv : Nat), s.pwr.state = .run → s.pwr.busUp + 5000000000 + 10000000 * s.pwr.holdMf.getD 3000 < s.now + dt → mv < 4750 →
    exec (.holdLowCheck dt mv) s = .next (judgeHold { s.advance dt with pwr := { s.pwr with holdMv := mv, holdLow := true } })) ∧
  (∀ (s : State) (dt mv : Nat), (s.pwr.state ≠ .run ∨ 4750 ≤ mv ∨ s.now + dt ≤ s.pwr.busUp + 5000000000 + 10000000 * s.pwr.holdMf.getD 3000) →
    exec (.holdLowCheck dt mv) s = .next { s.advance dt with pwr := { s.pwr with holdMv := mv } }) ∧
  (∀ (s : State) (dt mv : Nat), 4750 ≤ mv →
    exec (.holdCharged dt mv) s = .next (judgeHold { s.advance dt with pwr := { s.pwr with holdMv := mv, holdLow := false } })) ∧
  (∀ (s : State) (dt mv : Nat), mv < 4750 → exec (.holdCharged dt mv) s = .next { s.advance dt with pwr := { s.pwr with holdMv := mv } }) ∧
  (∀ (s : State) (dt mv : Nat), s.pwr.state ≠ .vigil → Completes (.vbatLow dt mv) s fun t => t.pwr.vbatLow = decide (mv < 2200) ∧
    t.sec = s.sec ∧ t.rtc = s.rtc) ∧
  (∀ (s : State) (dt mv : Nat), s.pwr.state = .vigil → 2000 ≤ mv → exec (.vbatLow dt mv) s = .next (s.advance dt)) ∧
  (∀ (s : State) (dt mv : Nat), s.pwr.state = .vigil → mv < 2000 → Completes (.vbatLow dt mv) s fun t => t.pwr.vbatLost = true ∧
    t.rtc.osf = true ∧ t.sec.count = 0 ∧ t.sec.latched = false ∧ t.sec.time = 0 ∧ t.sec.pending = false) ∧
  (∀ (s : State) (dt : Nat) (i : Fin 14) (sh : Fin 101) (ok : BitVec 2), (s.coreOn = false ∨ s.islandPowered i = false) →
    exec (.supplyPhaseCheck dt i sh ok) s = .next (s.advance dt)) ∧
  (∀ (s : State) (dt : Nat) (i : Fin 14) (sh : Fin 101) (ok : BitVec 2), s.coreOn = true → s.islandPowered i = true →
    Completes (.supplyPhaseCheck dt i sh ok) s fun t => t.supplyOf i = ok ∧ (t.islandPowered i = true ↔ ok ≠ 0) ∧ tget 50 t.spr.shares i = sh.val) ∧
  (∀ (s : State) (dt ve : Nat), (s.pwr.bothLost = none ∨ s.pwr.state ≠ .run) → exec (.holdoverEnter dt ve) s = .next (s.advance dt)) ∧
  (∀ (s : State) (dt ve t : Nat), s.pwr.bothLost = some t → s.now + dt < t + 10000000 → exec (.holdoverEnter dt ve) s = .next (s.advance dt)) ∧
  (∀ (s : State) (dt ve t : Nat), s.pwr.bothLost = some t → s.pwr.state = .run → t + 10000000 ≤ s.now + dt →
    (s.pwr.phase ≠ .asserted → s.pwr.phase ≠ .released → s.pwr.phase ≠ .links → 2200 ≤ ve →
      Completes (.holdoverEnter dt ve) s fun u => u.pwr.state = .holdover ∧
        u.pwr.holdover = some (s.now + dt, holdTime_h (s.pwr.holdMf.getD 1000) ve) ∧ u.pwr.parked = false ∧ u.pwr.sealed = false ∧
        u.pwr.tR = s.now + dt ∧ u.pwr.nodeOk = false) ∧
    ((s.pwr.phase = .asserted ∨ s.pwr.phase = .released ∨ s.pwr.phase = .links ∨ ve < 2200) →
      Completes (.holdoverEnter dt ve) s fun u => u.pwr.state = .vigil ∧ u.pwr.prior = 3)) ∧
  (∀ (s : State) (dt t th : Nat), s.pwr.holdover = some (t, th) → s.pwr.state = .holdover → s.pwr.parked = false →
    (t + (th - 300000000) ≤ s.now + dt → exec (.holdoverPanelPark dt) s = .next (holdPark (s.advance dt))) ∧
    (s.now + dt < t + (th - 300000000) → exec (.holdoverPanelPark dt) s = .next (s.advance dt))) ∧
  (∀ (s : State), (holdPark s).pwr.parked = true) ∧
  (∀ (s : State) (dt : Nat), (s.pwr.holdover = none ∨ s.pwr.state ≠ .holdover ∨ s.pwr.parked = true) →
    exec (.holdoverPanelPark dt) s = .next (s.advance dt)) ∧
  (∀ (s : State) (dt t th mj : Nat), s.pwr.holdover = some (t, th) → s.pwr.state = .holdover → s.pwr.parked = true → s.pwr.sealed = false →
    (t + (if th < 300000000 then 0 else th - 200000000) ≤ s.now + dt → exec (.holdoverSeal dt mj) s =
      .next (note 0x0004 0 (le 1 ((sealJournal (s.advance dt)).holdOutcome mj) ++ le 1 (sealJournal (s.advance dt)).pwr.parkedRegions ++
        zeros 2 ++ le 4 mj) (sealJournal (s.advance dt)))) ∧
    (s.now + dt < t + (if th < 300000000 then 0 else th - 200000000) → exec (.holdoverSeal dt mj) s = .next (s.advance dt))) ∧
  (∀ (s : State), (sealJournal s).pwr.sealed = true ∧ (sealJournal s).pwr.sealAt = s.now ∧ (sealJournal s).mss.batch = []) ∧
  (∀ (s : State) (dt mj : Nat), (s.pwr.holdover = none ∨ s.pwr.state ≠ .holdover ∨ s.pwr.parked = false ∨ s.pwr.sealed = true) →
    exec (.holdoverSeal dt mj) s = .next (s.advance dt)) ∧
  (∀ (s : State) (dt t th mj : Nat), s.pwr.holdover = some (t, th) → s.pwr.state = .holdover → s.pwr.sealed = true →
    (t + th ≤ s.now + dt → exec (.holdoverEnd dt mj) s = .next (endHoldover mj (s.advance dt))) ∧
    (s.now + dt < t + th → exec (.holdoverEnd dt mj) s = .next (s.advance dt))) ∧
  (∀ (s : State) (mj : Nat), (s.inputBack = true → s.pwr.phase ≠ .asserted → (endHoldover mj s).pwr.state = .run ∧ (endHoldover mj s).pwr.phase = .asserted ∧
      (endHoldover mj s).pwr.cause = 2 ∧ (endHoldover mj s).pwr.prior = 1) ∧
    (s.inputBack = false → 412 ≤ mj → s.mod.life ≠ .retired → (endHoldover mj s).pwr.state = .dormant ∧ (endHoldover mj s).pwr.wakeMask = 0 ∧
      (endHoldover mj s).pwr.prior = 2) ∧
    (s.inputBack = false → (mj < 412 ∨ s.mod.life = .retired) → (endHoldover mj s).pwr.state = .vigil ∧ (endHoldover mj s).pwr.prior = 3)) ∧
  (∀ (s : State) (dt mj : Nat), (s.pwr.holdover = none ∨ s.pwr.state ≠ .holdover ∨ s.pwr.sealed = false) →
    exec (.holdoverEnd dt mj) s = .next (s.advance dt)) ∧
  (∀ (s : State) (dt mj : Nat) (u : State), u = logEntry 6 0 [] (s.advance dt) →
    (s.pwr.state = .holdover → s.pwr.sealed = true → exec (.coreClockLoss dt mj) s = .next (endHoldover mj u)) ∧
    (s.pwr.state = .holdover → s.pwr.sealed = false → s.pwr.parked = true →
      exec (.coreClockLoss dt mj) s = .next (endHoldover mj (unsealedEnd (s.now + dt) u))) ∧
    (s.pwr.state = .holdover → s.pwr.sealed = false → s.pwr.parked = false →
      exec (.coreClockLoss dt mj) s = .next (endHoldover mj (unsealedEnd (s.now + dt) (holdPark u)))) ∧
    (s.pwr.state ≠ .holdover → exec (.coreClockLoss dt mj) s = .next (assertReset 9 false u)))

/-- DORMANT, VIGIL and TAMPER_N (R408, R449, R452 to R455, R547, R555). DORMANT_ENTER refuses in HOLDOVER, as ring master, with no wake source, with
a wake time within a second, else answers OK. DORMANT_SHUTDOWN goes DORMANT once the reply is gone or its time has passed and the panel rests.
DORMANT_WAKE and SMBUS_WAKE start the node for an enabled source that holds. DORMANT_HOLD_EXHAUSTED goes to VIGIL, VIGIL_POWER_ON starts from it.
TAMPER_ASSERT is latched in every state and acts at once while the core is on. -/
def Obligations.DormantVigilAndTamper : Prop :=
  (∀ (s : State) (dt : Nat) (c : Cmd) (env : Env), s.Ready .dormantEnter dt c → Clean c [(32, 1), (40, 8)] 0 → c.u8 32 ≤ 31 →
    (s.pwr.state = .holdover → Answers s (.dormantEnter dt c env) stModeConflict (le 2 0xA2) (s.entered .dormantEnter dt c)) ∧
    (s.pwr.state ≠ .holdover → s.rng.isMaster = true → s.mode .ring = true →
      Answers s (.dormantEnter dt c env) stModeConflict (le 2 0xA1) (s.entered .dormantEnter dt c)) ∧
    (s.pwr.state ≠ .holdover → (s.rng.isMaster = false ∨ s.mode .ring = false) →
      (c.u8 32 = 0 → Answers s (.dormantEnter dt c env) stBadParam (le 2 0xB0) (s.entered .dormantEnter dt c)) ∧
      (c.u8 32 ≠ 0 → c.u64 40 ≠ 0 → c.u64 40 < max (s.now + dt) c.notBefore + 1000000000 →
        Answers s (.dormantEnter dt c env) stBadParam (le 2 0xB1) (s.entered .dormantEnter dt c)) ∧
      (c.u8 32 ≠ 0 → (c.u64 40 = 0 ∨ max (s.now + dt) c.notBefore + 1000000000 ≤ c.u64 40) → ∃ u, Answers s (.dormantEnter dt c env) stOk [] u ∧
        u.pwr.state = s.pwr.state ∧ ∃ r, u.pwr.dormantGoing = some r ∧ r.mask = c.u8 32 ∧ r.wakeAt = c.u64 40 ∧ r.session = c.session ∧ r.flow = c.replyFlow))) ∧
  (∀ (s : State) (dt : Nat), s.pwr.dormantGoing = none → exec (.dormantShutdown dt) s = .next (s.advance dt)) ∧
  (∀ (s : State) (dt : Nat) (r : DormantReq), s.pwr.dormantGoing = some r →
    (s.pwr.state = .run → (r.limit + 10000000000 ≤ s.now + dt ∨ ((r.limit ≤ s.now + dt ∨ s.replyGone r.flow r.seq = true) ∧ s.liveRegions = [])) →
      Completes (.dormantShutdown dt) s fun t => t.pwr.state = .dormant ∧ t.pwr.wakeMask = r.mask ∧ t.pwr.wakeAt = r.wakeAt ∧
        t.pwr.prior = 2 ∧ t.pwr.phase = .asserted ∧ t.pwr.dormantGoing = none) ∧
    ((s.pwr.state ≠ .run ∨ (s.now + dt < r.limit ∧ s.replyGone r.flow r.seq = false) ∨ (s.liveRegions ≠ [] ∧ s.now + dt < r.limit + 10000000000)) →
      exec (.dormantShutdown dt) s = .next (s.advance dt))) ∧
  (∀ (s : State) (dt : Nat), s.pwr.state = .dormant →
    (s.pwr.wakeMask.testBit 0 = true → s.pwr.wakeAt ≠ 0 → s.pwr.wakeAt ≤ (s.advance dt).rtcNodeTime →
      exec (.dormantWake dt 0) s = .next (startNode 3 1 (s.advance dt))) ∧
    ((s.pwr.wakeMask.testBit 0 = false ∨ s.pwr.wakeAt = 0 ∨ (s.advance dt).rtcNodeTime < s.pwr.wakeAt) →
      exec (.dormantWake dt 0) s = .next (s.advance dt)) ∧
    (s.pwr.wakeMask.testBit 1 = true → s.pwr.resetN = true → exec (.dormantWake dt 1) s = .next (startNode 3 2 (s.advance dt))) ∧
    ((s.pwr.wakeMask.testBit 1 = false ∨ s.pwr.resetN = false) → exec (.dormantWake dt 1) s = .next (s.advance dt)) ∧
    (s.pwr.wakeMask.testBit 2 = true → s.pwr.perstSeen = true → s.pwr.perst = false →
      exec (.dormantWake dt 2) s = .next (startNode 3 3 (s.advance dt))) ∧
    ((s.pwr.wakeMask.testBit 2 = false ∨ s.pwr.perstSeen = false ∨ s.pwr.perst = true) → exec (.dormantWake dt 2) s = .next (s.advance dt)) ∧
    (s.pwr.onHold = true → s.inputBack = true → exec (.dormantWake dt 5) s = .next (startNode 3 6 (s.advance dt))) ∧
    ((s.pwr.onHold = false ∨ s.inputBack = false) → exec (.dormantWake dt 5) s = .next (s.advance dt))) ∧
  (∀ (s : State) (dt : Nat), exec (.dormantWake dt 3) s = .next (s.advance dt) ∧ exec (.dormantWake dt 4) s = .next (s.advance dt)) ∧
  (∀ (s : State) (dt : Nat) (k : Fin 6), s.pwr.state ≠ .dormant → exec (.dormantWake dt k) s = .next (s.advance dt)) ∧
  (∀ (s : State) (c w : Nat), (startNode c w s).pwr.state = .run ∧ (startNode c w s).pwr.phase = .asserted ∧ (startNode c w s).pwr.cause = c ∧
    (startNode c w s).pwr.wake = w ∧ (startNode c w s).pwr.powerOn = true ∧ (startNode c w s).pwr.assertedAt = s.now ∧
    ((startNode c w s).pwr.wakeN = true ↔ w ≠ 0)) ∧
  (∀ (s : State) (dt : Nat), s.pwr.state = .dormant → s.pwr.wakeMask.testBit 3 = true → (s.mod.life ≠ .sealed ∨ s.sec.smbusWake = true) →
    exec (.smbusWake dt 0xA5) s = .next (startNode 3 4 (s.advance dt))) ∧
  (∀ (s : State) (dt : Nat) (b : Byte), (b ≠ 0xA5 ∨ s.pwr.state ≠ .dormant ∨ s.pwr.wakeMask.testBit 3 = false ∨
    (s.mod.life = .sealed ∧ s.sec.smbusWake = false)) → exec (.smbusWake dt b) s = .next (s.advance dt)) ∧
  (∀ (s : State) (dt : Nat), s.pwr.state = .dormant → s.inputBack = false → Completes (.dormantHoldExhausted dt) s fun t =>
    t.pwr.state = .vigil ∧ t.pwr.prior = 3 ∧ t.pwr.onHold = false) ∧
  (∀ (s : State) (dt : Nat), (s.pwr.state ≠ .dormant ∨ s.inputBack = true) → exec (.dormantHoldExhausted dt) s = .next (s.advance dt)) ∧
  (∀ (s : State) (dt : Nat), s.pwr.state = .vigil → s.inputBack = true → exec (.vigilPowerOn dt) s = .next (startNode 1 0 (s.advance dt))) ∧
  (∀ (s : State) (dt : Nat), (s.pwr.state ≠ .vigil ∨ s.inputBack = false) → exec (.vigilPowerOn dt) s = .next (s.advance dt)) ∧
  (∀ (s : State) (dt : Nat), s.coreOn = true → exec (.tamperAssert dt) s = .next (applyTamper { s.advance dt with sec := { s.sec with
    live := true, latched := true, count := min 255 (s.sec.count + 1), time := s.now + dt, pending := true } })) ∧
  (∀ (s : State) (dt : Nat), s.coreOn = false → Completes (.tamperAssert dt) s fun t => t.sec.live = true ∧ t.sec.latched = true ∧
    t.sec.count = min 255 (s.sec.count + 1) ∧ t.sec.time = (s.advance dt).rtcNodeTime ∧ t.sec.pending = true ∧
    (s.pwr.state = .dormant → s.pwr.wakeMask.testBit 4 = true → t.pwr.state = .run ∧ t.pwr.wake = 5) ∧
    ((s.pwr.state ≠ .dormant ∨ s.pwr.wakeMask.testBit 4 = false) → t.pwr = s.pwr))

/-- The full reset (R27, R244, R287, R340, R433, R434, R451, R456 to R459, R467). FULL_RESET_ASSERT, HOT_RESET_RECEIVE, WATCHDOG_TIMEOUT,
CORE_SUPPLY_FAULT, MEMORY_UE, and PERST_ASSERT and RESET_N_PIN when their pin goes low, assert the reset with their cause, which in HOLDOVER or
during an assertion is only added to OTHER. DEVICE_RESET answers OK and DEVICE_RESET_ASSERT follows the reply, with KIND 1 after 50 ms with the
islands off. LANE_DISAGREEMENT hands over to the spare, else the Block Engine abandons its cycle and another block resets. HOST_REFCLK_LOSS takes
the host link down, RING_TX_CLOCK_LOSS stops transmission. -/
def Obligations.FullResets : Prop :=
  (∀ (s : State) (dt : Nat) (k : Fin 15), (k.val ≠ 0 → exec (.fullResetAssert dt k) s = .next (assertReset k false (s.advance dt))) ∧
    (k.val = 0 → exec (.fullResetAssert dt k) s = .next (s.advance dt))) ∧
  (∀ (s : State) (dt : Nat), exec (.hotResetReceive dt) s = .next (assertReset 5 false (s.advance dt)) ∧
    exec (.watchdogTimeout dt) s = .next (assertReset 10 false (s.advance dt)) ∧
    exec (.coreSupplyFault dt) s = .next (assertReset 13 false (s.advance dt))) ∧
  (∀ (s : State) (c : Nat) (b : Bool), s.pwr.state = .run → s.pwr.phase ≠ .asserted → (assertReset c b s).pwr.phase = .asserted ∧
    (assertReset c b s).pwr.cause = c ∧ (assertReset c b s).pwr.assertedAt = s.now ∧
    (assertReset c b s).pwr.nodeOk = false ∧ (assertReset c b s).pwr.tR = s.now ∧
    (b = true → (assertReset c b s).pwr.islandsKept = false) ∧
    (b = false → s.cp.resetPending = none → (assertReset c b s).pwr.islandsKept = true) ∧
    (s.host.ready = true → (assertReset c b s).pwr.nested = 0) ∧
    (s.host.ready = false → (assertReset c b s).pwr.nested = min 255 (s.pwr.nested + 1)) ∧ (assertReset c b s).host.ready = false) ∧
  (∀ (s : State) (c : Nat) (b : Bool), (s.pwr.state = .holdover ∨ (s.pwr.state = .run ∧ s.pwr.phase = .asserted)) →
    assertReset c b s = { s with pwr := { s.pwr with other := s.pwr.other ||| BitVec.ofNat 16 (2 ^ (c - 1)) } }) ∧
  (∀ (s : State) (c : Nat) (b : Bool), (s.pwr.state = .dormant ∨ s.pwr.state = .vigil) → assertReset c b s = s) ∧
  (∀ (s : State) (dt : Nat), exec (.perstAssert dt true) s = .next (assertReset 4 false { s.advance dt with
      pwr := { s.pwr with perst := true, perstSeen := true } }) ∧
    exec (.perstAssert dt false) s = .next { s.advance dt with pwr := { s.pwr with perst := false } }) ∧
  (∀ (s : State) (dt : Nat), exec (.resetNPin dt true) s = .next (assertReset 6 false { s.advance dt with pwr := { s.pwr with resetN := true } }) ∧
    exec (.resetNPin dt false) s = .next { s.advance dt with pwr := { s.pwr with resetN := false } }) ∧
  (∀ (s : State) (dt : Nat) (p : Fin 524544), ((s.pwr.state = .run ∨ s.pwr.state = .holdover) → exec (.memoryUe dt p) s =
      .next (assertReset 11 false { s.advance dt with spr := { s.spr with uePage := some p.val } })) ∧
    ((s.pwr.state = .dormant ∨ s.pwr.state = .vigil) → exec (.memoryUe dt p) s = .next (s.advance dt))) ∧
  (∀ (s : State) (dt : Nat) (c : Cmd) (env : Env) (r : Nat × Nat × Nat × Nat), s.Ready .deviceReset dt c → Clean c [(32, 1)] 0 →
    r = (max (s.now + dt) c.notBefore + 2000000 + classDeadline (s.flow c.replyFlow).cls, c.u8 32, c.replyFlow, (s.flow c.replyFlow).seq) →
    (1 < c.u8 32 → Answers s (.deviceReset dt c env) stBadParam (le 2 8) (s.entered .deviceReset dt c)) ∧
    (c.u8 32 ≤ 1 → Answers s (.deviceReset dt c env) stOk [] { s.entered .deviceReset dt c with
      cp := { (s.entered .deviceReset dt c).cp with resetPending := some r } })) ∧
  (∀ (s : State) (dt : Nat), s.cp.resetPending = none → exec (.deviceResetAssert dt) s = .next (s.advance dt)) ∧
  (∀ (s : State) (dt t k f q : Nat), s.cp.resetPending = some (t, k, f, q) → (t ≤ s.now + dt ∨ s.replyGone f q = true) →
    (k = 1 → Completes (.deviceResetAssert dt) s fun u => u.cp.resetPending = some (s.now + dt + 50000000, 2, 256, 0) ∧ u.pwr = s.pwr ∧
      ∀ i, i < 8 → (u.aisl i).powered = false) ∧
    (k = 2 → exec (.deviceResetAssert dt) s = .next (assertReset 7 true (s.advance dt))) ∧
    (k ≠ 1 → k ≠ 2 → exec (.deviceResetAssert dt) s = .next (assertReset 7 false (s.advance dt)))) ∧
  (∀ (s : State) (dt t k f q : Nat), s.cp.resetPending = some (t, k, f, q) → s.now + dt < t → s.replyGone f q = false →
    exec (.deviceResetAssert dt) s = .next (s.advance dt)) ∧
  (∀ (s : State) (dt k : Nat) (b l : Fin 3), ((List.range 3).find? fun l => (s.lanes b).roles.getD l 3 = 1) = some k →
    ((s.lanes b).roles.getD l 3 = 0 → Completes (.laneDisagreement dt b (some l)) s fun t => (t.lanes b).roles = ((s.lanes b).roles.set l 2).set k 0 ∧
      tget false t.spr.laneFault b = true ∧ t.pwr = s.pwr) ∧
    ((s.lanes b).roles.getD l 3 ≠ 0 → Completes (.laneDisagreement dt b (some l)) s fun t => (t.lanes b).roles = (s.lanes b).roles ∧ t.pwr = s.pwr)) ∧
  (∀ (s : State) (dt : Nat) (b : Fin 3) (l : Option (Fin 3)), (l = none ∨ ((List.range 3).find? fun l => (s.lanes b).roles.getD l 3 = 1) = none) →
    (b.val ≠ 2 → s.pwr.state = .run → s.pwr.phase ≠ .asserted → Completes (.laneDisagreement dt b l) s fun t =>
      t.pwr.phase = .asserted ∧ t.pwr.cause = 12) ∧
    (b.val = 2 → Completes (.laneDisagreement dt b l) s fun t => t.prg.phase = .idle ∧ t.prg.work = {} ∧ t.pwr = s.pwr)) ∧
  (∀ (s : State) (dt : Nat), s.host.speed = 0 → exec (.hostRefclkLoss dt) s = .next (s.advance dt)) ∧
  (∀ (s : State) (dt : Nat), s.host.speed ≠ 0 → Completes (.hostRefclkLoss dt) s fun t => t.host.speed = 0 ∧ t.host.width = 0 ∧
    t.host.irq.getLsbD 1 = true ∧ t.mss.batch.length = s.mss.batch.length + 1) ∧
  (∀ (s : State) (dt : Nat), exec (.ringTxClockLoss dt) s = .next { s.advance dt with rng := { s.rng with txLost := true } })

/-- From release to READY (R200, R246, R433, R457 to R462, R563). RESET_RELEASE waits for its time, tests the lanes and takes the boot set.
RESTART_LINKS_UP, RESTART_JOURNAL_RESTORE, ACQUISITION_RESUME and ALARM_EVAL_RESUME each go from the phase before it and do nothing in another one;
CATCHUP_END waits for the samples; HOST_READY raises READY once, not under PERST_N. POWER_ON_SEQUENCE is the cold start from release to journal
restore in one row. -/
def Obligations.Restart : Prop :=
  (∀ (s : State) (dt : Nat) (l : BitVec 9) (h : BitVec 10), (s.pwr.islandsKept = false ∨ s.now + dt < s.pwr.assertedAt + 1000000 ∨ s.pwr.resetN = true ∨
      s.pwr.heldInReset = true ∨ s.pwr.phase ≠ .asserted ∨ s.pwr.state ≠ .run) → exec (.resetRelease dt l h) s = .next (s.advance dt)) ∧
  (∀ (s : State) (dt : Nat) (l : BitVec 9) (h : BitVec 10), s.pwr.islandsKept = true → exec (.resetRelease dt l h) s = .next (releaseReset l h (s.advance dt))) ∧
  (∀ (s : State) (l : BitVec 9) (h : BitVec 10), s.pwr.phase = .asserted → s.pwr.state = .run →
    s.pwr.heldInReset = false → s.pwr.resetN = false → s.pwr.nestedAt = [] → s.pwr.cause ≠ 13 → s.pwr.assertedAt + 1000000 ≤ s.now →
    (∀ b, b < 3 → (s.lanes b).roles = [0, 0, 1]) →
    (∀ o set, l = 511 → h = 0 → bootChoice s = some (o, set) → (releaseReset l h s).pwr.phase = .released ∧
      (releaseReset l h s).pwr.tRel = s.now ∧ (releaseReset l h s).mss.outcome = o) ∧
    (l = 511 → bootChoice s = none → (releaseReset l h s).pwr.phase = .asserted ∧ (releaseReset l h s).pwr.heldInReset = true) ∧
    (l = 0 → (releaseReset l h s).pwr.phase = .asserted ∧ (releaseReset l h s).pwr.heldInReset = true)) ∧
  (∀ (s : State) (dt : Nat) (a : BitVec 14), (s.pwr.phase ≠ .released ∨ s.pwr.islandsKept = false) → exec (.restartLinksUp dt a) s = .next (s.advance dt)) ∧
  (∀ (s : State) (dt : Nat) (a : BitVec 14), s.pwr.phase = .released → s.pwr.islandsKept = true →
    (a ≠ 0 → Completes (.restartLinksUp dt a) s fun t => t.pwr.phase = .links ∧ t.now = s.now + dt ∧
      (∀ i, i < 8 → (t.aisl i).linkUp = ((s.aisl i).powered && a.getLsbD i) ∧ (t.aisl i).lost = ((s.aisl i).powered && !a.getLsbD i)) ∧
      ∀ d, d < 6 → (t.disl d).linkUp = ((s.disl d).powered && a.getLsbD (8 + d))) ∧
    (a = 0 → Completes (.restartLinksUp dt a) s fun t => t.pwr.phase = .links ∧ t.now = (s.advance dt).rtcNodeTime ∧
      ∀ i, i < 8 → (t.aisl i).linkUp = false)) ∧
  (∀ (s : State) (dt : Nat) (h : Bool) (n : Fin 65536) (l : List (Fin 4096)), s.pwr.phase ≠ .links →
    exec (.restartJournalRestore dt h n l) s = .next (s.advance dt)) ∧
  (∀ (s : State) (dt : Nat) (h : Bool) (n : Fin 65536) (l : List (Fin 4096)), s.pwr.phase = .links →
    exec (.restartJournalRestore dt h n l) s = .next (journalRestore h n (l.map fun p => p.val) (s.advance dt))) ∧
  (∀ (s : State) (h : Bool) (n : Nat) (l : List Nat), (journalRestore h n l s).pwr.phase = .restored ∧ (journalRestore h n l s).pwr.other = 0 ∧
    (journalRestore h n l s).rcd.torn = n ∧ (journalRestore h n l s).rcd.headerOk = h ∧ ((journalRestore h n l s).flow 0).state ≠ .closed ∧
    (h = false → (journalRestore h n l s).pwr.cause = 14)) ∧
  (∀ (s : State) (dt : Nat), s.pwr.phase ≠ .restored → exec (.acquisitionResume dt) s = .next (s.advance dt)) ∧
  (∀ (s : State) (dt : Nat), s.pwr.phase = .restored → Completes (.acquisitionResume dt) s fun t => t.pwr.phase = .acquiring ∧
    t.prg.notBefore = s.now + dt + 10000000 ∧ ∀ i, i < 8 → (s.aisl i).linkUp = true → (t.aisl i).rtb = [] ∧ (t.aisl i).waves = []) ∧
  (∀ (s : State) (dt : Nat), s.pwr.phase = .acquiring → exec (.alarmEvalResume dt) s =
    .next (alarmResume { s.advance dt with pwr := { s.pwr with phase := .evaluating, nodeOk := s.mss.ok } })) ∧
  (∀ (s : State) (dt : Nat), s.pwr.phase ≠ .acquiring → exec (.alarmEvalResume dt) s = .next (s.advance dt)) ∧
  (∀ (s : State) (dt : Nat), s.pwr.phase = .evaluating → s.pwr.catchup = true → s.alm.inbox = [] →
    exec (.catchupEnd dt) s = .next { s.advance dt with pwr := { s.pwr with catchup := false, catchupEnd := s.now + dt } }) ∧
  (∀ (s : State) (dt : Nat), (s.pwr.phase ≠ .evaluating ∨ s.pwr.catchup = false ∨ s.alm.inbox ≠ []) →
    exec (.catchupEnd dt) s = .next (s.advance dt)) ∧
  (∀ (s : State) (dt : Nat), (s.host.ready = true ∨ s.pwr.perst = true ∨ s.coreOn = false) → exec (.hostReady dt) s = .next (s.advance dt)) ∧
  (∀ (s : State) (dt : Nat), s.host.ready = false → s.pwr.perst = false → s.coreOn = true → Completes (.hostReady dt) s fun t =>
    t.host.ready = true ∧ t.host.irq.getLsbD 0 = true ∧ t.pwr.nested = 0 ∧ t.pwr.coreSupplyRuns = 0 ∧ t.pwr.wakeN = false) ∧
  (∀ (s : State) (dt : Nat) (l : BitVec 9) (h : BitVec 10) (a : BitVec 14) (j : Bool) (n : Fin 65536) (p : List (Fin 4096)) (fl : List Nat),
    (s.pwr.islandsKept = true → exec (.powerOnSequence dt l h a j n ⟨p, fl⟩) s = .next (s.advance dt)) ∧
    (s.pwr.islandsKept = false → (releaseReset l h (s.advance dt)).pwr.phase ≠ .released →
      exec (.powerOnSequence dt l h a j n ⟨p, fl⟩) s = .next (releaseReset l h (s.advance dt))) ∧
    (s.pwr.islandsKept = false → (releaseReset l h (s.advance dt)).pwr.phase = .released →
      Completes (.powerOnSequence dt l h a j n ⟨p, fl⟩) s fun t => t.pwr.phase = .restored ∧ (t.flow 0).state ≠ .closed ∧
        ∀ i, i < 8 → (t.aisl i).powered = true ∧ (t.aisl i).linkUp = a.getLsbD i))

/-- Updates (R557, R559, R564, R567 to R569, R571, R572). PACKAGE_STAGE and PACKAGE_ACTIVATE refuse in the order of their checks and else start a
job; an activation with WHEN 0 begins at once. STAGE_JOB_END ends the oldest staging job with its status. UPDATE_WINDOW_OPEN begins a waiting
activation inside its window in RUN with no point unacknowledged; ACTIVATION_WINDOW_EXPIRY ends it when the wait is over. ISLAND_IMAGE_RESTART
restarts the activation's next island, and ends the activation with the last one. -/
def Obligations.UpdatesAndActivations : Prop :=
  (∀ (s : State) (dt k : Nat) (c : Cmd) (env : Env) (u : State), s.Ready .packageStage dt c → Clean c [(32, 1), (40, 12)] 0 → k = c.u8 32 → k ≤ 4 →
    u = s.entered .packageStage dt c →
    (c.u64 40 % 4096 ≠ 0 → Answers s (.packageStage dt c env) stBadParam (le 2 0x0101) u) ∧
    (c.u64 40 % 4096 = 0 → s.pwr.state = .holdover → Answers s (.packageStage dt c env) stModeConflict (le 2 0xA2) u) ∧
    (c.u64 40 % 4096 = 0 → s.pwr.state ≠ .holdover → s.mode .serv = false → s.mod.holdSafe = 0 →
      Answers s (.packageStage dt c env) stModeConflict (le 2 0xA3) u) ∧
    (c.u64 40 % 4096 = 0 → s.pwr.state ≠ .holdover → s.updatesAllowed = true → s.provenBank k = true →
      Answers s (.packageStage dt c env) stBadParam (le 2 0x0105) u) ∧
    (∀ id e, c.u64 40 % 4096 = 0 → s.pwr.state ≠ .holdover → s.updatesAllowed = true → s.provenBank k = false → s.jobOn k = some id → u.cmd id = some e →
      Answers s (.packageStage dt c env) stBusyServ (le 2 0 ++ le 4 ((e.jobEnd - (s.now + dt)) / 1000000)) u) ∧
    (c.u64 40 % 4096 = 0 → s.pwr.state ≠ .holdover → s.updatesAllowed = true → s.provenBank k = false → s.jobOn k = none → env.dma = none →
      Answers s (.packageStage dt c env) stBadParam (le 2 0x0101) u) ∧
    (∀ l, c.u64 40 % 4096 = 0 → s.pwr.state ≠ .holdover → s.updatesAllowed = true → s.provenBank k = false → s.jobOn k = none → env.dma = some l →
      (∀ st pl, judgePackage k (l.take (c.u32 48)) s = .inl (.final st pl) → StartsJob s (.packageStage dt c env) (s.entryOf .packageStage dt c) []
        (u.stageJob { cmd := s.cp.nextId, kind := k, bank := 1 - (s.kindOf k).active, image := {}, bad := some (st, pl) })) ∧
      (∀ b, judgePackage k (l.take (c.u32 48)) s = .inr b → StartsJob s (.packageStage dt c env) (s.entryOf .packageStage dt c) []
        ((u.setKind k { (s.kindOf k).setBank (1 - (s.kindOf k).active) none with staged := false }).stageJob
          { cmd := s.cp.nextId, kind := k, bank := 1 - (s.kindOf k).active, image := b })))) ∧
  (∀ (s : State) (dt : Nat), (s.mss.stage = [] ∨ s.coreOn = false) → exec (.stageJobEnd dt) s = .next (s.advance dt)) ∧
  (∀ (s : State) (dt st : Nat) (pl : List Byte) (j : StageJob) (r : List StageJob), s.coreOn = true → s.mss.stage = j :: r →
    j.bad = some (st, pl) → exec (.stageJobEnd dt) s =
      .next (raiseVector 2 2 (endJob j.cmd st pl { s.advance dt with mss := { s.mss with stage := r } }))) ∧
  (∀ (s : State) (dt : Nat) (j : StageJob) (r : List StageJob) (d : List Byte), s.coreOn = true → s.mss.stage = j :: r → j.bad = none →
    d = le 4 j.image.version ++ le 1 j.image.svn ++ le 1 j.bank → exec (.stageJobEnd dt) s =
      .next (raiseVector 2 2 (endJob j.cmd stOk d (logEntry 5 j.kind d (note 0x0A02 j.kind d
        ({ s.advance dt with mss := { s.mss with stage := r } }.setKind j.kind
          { (s.kindOf j.kind).setBank j.bank (some j.image) with staged := true })))))) ∧
  (∀ (s : State) (dt m w start : Nat) (c : Cmd) (env : Env) (u : State), s.Ready .packageActivate dt c → Clean c [(32, 2)] 0 → m = c.u8 32 → m ≤ 31 →
    w = c.u8 33 → w ≤ 1 → u = s.entered .packageActivate dt c → start = max (s.now + dt) c.notBefore →
    (s.pwr.state = .holdover → Answers s (.packageActivate dt c env) stModeConflict (le 2 0xA2) u) ∧
    (s.pwr.state ≠ .holdover → s.mode .serv = false → s.mod.holdSafe = 0 → Answers s (.packageActivate dt c env) stModeConflict (le 2 0xA3) u) ∧
    (∀ k, s.pwr.state ≠ .holdover → s.updatesAllowed = true → k < 5 → m.testBit k = true → (s.kindOf k).staged = false →
      Answers s (.packageActivate dt c env) stBadParam (le 2 0x0104) u) ∧
    (s.pwr.state ≠ .holdover → s.updatesAllowed = true → (∀ k, k < 5 → m.testBit k = true → (s.kindOf k).staged = true) →
      (∀ p v, s.badPair (s.flipped m) = some p → (v = fun k => (((s.kindOf k).bank ((s.flipped m).getD k 0)).getD {}).version) →
        Answers s (.packageActivate dt c env) stIncompatible (le 2 0x010B ++ le 1 p.1 ++ le 1 p.2 ++ le 4 (v p.1) ++ le 4 (v p.2)) u) ∧
      (s.badPair (s.flipped m) = none →
        (w = 1 → s.mod.profile = 1 → Answers s (.packageActivate dt c env) stModeConflict (le 2 0x0109) u) ∧
        (w = 1 → s.mod.profile ≠ 1 → s.nextWindow start = none → Answers s (.packageActivate dt c env) stOutsideWindow [] u) ∧
        (w = 0 → s.mod.profile = 0 → u.openWindow = false → Answers s (.packageActivate dt c env) stOutsideWindow [] u) ∧
        (∀ id e, ((w = 1 ∧ s.mod.profile ≠ 1 ∧ s.nextWindow start ≠ none) ∨ (w = 0 ∧ (s.mod.profile ≠ 0 ∨ u.openWindow = true))) →
          ((List.range 5).filter m.testBit).findSome? s.jobOn = some id → u.cmd id = some e →
          Answers s (.packageActivate dt c env) stBusyServ (le 2 0 ++ le 4 ((e.jobEnd - (s.now + dt)) / 1000000)) u) ∧
        (∀ (o cl : Nat) (x : Activation), w = 1 → s.mod.profile ≠ 1 → s.nextWindow start = some (o, cl) → (∀ k, k < 5 → m.testBit k = true → s.jobOn k = none) →
          x = { cmd := s.cp.nextId, mask := m, wh := 1, start := start, phase := 0, opens := o, closes := cl, islands := [], kept := 0 } →
          StartsJob s (.packageActivate dt c env) (s.entryOf .packageActivate dt c) [] { u with mss := { s.mss with acts := s.mss.acts ++ [x] } }) ∧
        (∀ (o cl : Nat) (x : Activation), w = 0 → (s.mod.profile ≠ 0 ∨ u.openWindow = true) → (s.nextWindow start).getD (0, 0) = (o, cl) →
          (∀ k, k < 5 → m.testBit k = true → s.jobOn k = none) →
          x = { cmd := s.cp.nextId, mask := m, wh := 0, start := start, phase := 0, opens := o, closes := cl, islands := [], kept := 0 } →
          exec (.packageActivate dt c env) s = .next (beginActivation x env
            (acceptJob (s.entryOf .packageActivate dt c) [] { u with mss := { s.mss with acts := s.mss.acts ++ [x] } })))))) ∧
  (∀ (s : State) (dt : Nat) (env : Env), (∀ a, a ∈ s.mss.acts → a.phase ≠ 0) → exec (.updateWindowOpen dt env) s = .next (s.advance dt) ∧
    exec (.activationWindowExpiry dt) s = .next (s.advance dt)) ∧
  (∀ (s : State) (dt : Nat) (env : Env) (a : Activation), s.mss.acts = [a] → a.phase = 0 →
    (a.opens ≤ s.now + dt → s.now + dt < a.last → s.coreOn = true → s.pwr.state = .run → (s.alm.points.any fun e => e.2.unack) = false →
      exec (.updateWindowOpen dt env) s = .next (beginActivation a env (s.advance dt))) ∧
    ((s.now + dt < a.opens ∨ a.last ≤ s.now + dt ∨ s.coreOn = false ∨ s.pwr.state ≠ .run ∨ (s.alm.points.any fun e => e.2.unack) = true) →
      exec (.updateWindowOpen dt env) s = .next (s.advance dt)) ∧
    (s.now + dt < a.last → exec (.activationWindowExpiry dt) s = .next (s.advance dt)) ∧
    (a.last ≤ s.now + dt → exec (.activationWindowExpiry dt) s = .next (endActivation a stOutsideWindow [] (s.advance dt)))) ∧
  (∀ (s : State) (dt : Nat) (i : Fin 14) (b : Bool) (ms : Fin 201),
    (s.coreOn = false ∨ ∀ a, a ∈ s.mss.acts → a.phase = 2 → a.islands.head? ≠ some i.val) →
    exec (.islandImageRestart dt i b ms) s = .next (s.advance dt)) ∧
  (∀ (s : State) (dt : Nat) (i : Fin 14) (b : Bool) (ms : Fin 201) (a : Activation) (r : List Nat), s.coreOn = true →
    s.mss.acts = [a] → a.phase = 2 → a.islands = i.val :: r →
    (r ≠ [] → Completes (.islandImageRestart dt i b ms) s fun t =>
      (b = true → t.mss.acts = [{ a with islands := r }]) ∧ (b = false → t.mss.acts = [{ a with islands := r, kept := a.kept + 2 ^ i.val }])) ∧
    (r = [] → Completes (.islandImageRestart dt i b ms) s fun t => t.mss.acts = []) ∧
    (b = true → Completes (.islandImageRestart dt i b ms) s fun t =>
      (tget {} t.mss.islands i.val).slot = 1 - (tget {} s.mss.islands i.val).slot ∧ (tget {} t.mss.islands i.val).dead = false) ∧
    (b = false → Completes (.islandImageRestart dt i b ms) s fun t => (tget {} t.mss.islands i.val).slot = (tget {} s.mss.islands i.val).slot))

/-- Starts and bounds (R109, R136, R143, R163, R276, R283 to R286, R293, R295). COMMAND_START runs a command that is due, alone in its turn, and not
one that waits. COMMAND_BOUND_REACHED: what has not completed at its bound fails with 0x006B and its work is dropped, but a CONDITION_CONFIGURE is
complete and a PIN_CONFIGURE starts its mode; nothing happens before. JOB_BOUND_REACHED does the same to a job. FORWARDED_COMMAND_RECEIVE checks
opcode and lifecycle of what the master forwards, and queues it, a reissue meeting its entry. A command row whose packet names an object on which an
earlier command is still in execution is accepted and waits: nothing else changes until its COMMAND_START (R45, R283). This holds of each of the 103
rows that are command packets. -/
def Obligations.StartsAndBounds : Prop :=
  (∀ (s : State) (dt id : Nat) (env : Env), s.cmd id = none → exec (.commandStart dt id env) s = .next (s.advance dt)) ∧
  (∀ (s : State) (dt id : Nat) (env : Env) (e : CmdEntry), s.cmd id = some e →
    (s.now + dt < e.start ∨ s.blocked e = true ∨ e.phase ≠ .waiting ∨ s.coreOn = false) → exec (.commandStart dt id env) s = .next (s.advance dt)) ∧
  (∀ (s : State) (dt : Nat) (env : Env) (e : CmdEntry), s.coreOn = true → s.cp.exec = [e] → e.phase = .waiting → e.start ≤ s.now + dt →
    exec (.commandStart dt e.id env) s = .next (finish { e with phase := .running, mark := 1 }
      (runOpcode e.op { e with phase := .running, mark := 1 } env { s.advance dt with
        cp := { s.cp with exec := [{ e with phase := .running, mark := 1 }] } }).1
      (runOpcode e.op { e with phase := .running, mark := 1 } env { s.advance dt with
        cp := { s.cp with exec := [{ e with phase := .running, mark := 1 }] } }).2)) ∧
  (∀ (s : State) (dt : Nat) (env : Env) (e f : CmdEntry), s.coreOn = true → s.cmd e.id = some e → f ∈ s.cp.exec → (s.advance dt).cmdDue f = true →
    (f.cls < e.cls ∨ (f.cls = e.cls ∧ f.id < e.id)) → exec (.commandStart dt e.id env) s = .next (s.advance dt)) ∧
  (∀ (s : State) (dt id : Nat), s.cmd id = none → exec (.commandBoundReached dt id) s = .next (s.advance dt) ∧
    exec (.jobBoundReached dt id) s = .next (s.advance dt)) ∧
  (∀ (s : State) (dt id : Nat) (e : CmdEntry), s.cmd id = some e →
    (s.now + dt < s.boundFrom e + cmdBound e.op e.c s ∨ (e.phase ≠ .waiting ∧ e.phase ≠ .running)) →
    exec (.commandBoundReached dt id) s = .next (s.advance dt)) ∧
  (∀ (s : State) (dt id : Nat) (e : CmdEntry), s.cmd id = some e → s.boundFrom e + cmdBound e.op e.c s ≤ s.now + dt →
    (e.phase = .waiting → exec (.commandBoundReached dt id) s =
      .next (completeCmd id stFailedHardware (le 2 0x6B ++ le 1 0) (dropWork id (s.advance dt)))) ∧
    (e.phase = .running → e.op ≠ .conditionConfigure → e.op ≠ .pinConfigure → changesAtEnd e.op = true → exec (.commandBoundReached dt id) s =
      .next (completeCmd id stFailedHardware (le 2 0x6B ++ le 1 0) (dropWork id (s.advance dt)))) ∧
    (e.phase = .running → e.op ≠ .conditionConfigure → e.op ≠ .pinConfigure → changesAtEnd e.op = false → exec (.commandBoundReached dt id) s =
      .next (completeCmd id stFailedHardware (le 2 0x6B ++ le 1 2) (dropWork id (s.advance dt)))) ∧
    (e.phase = .running → e.op = .conditionConfigure → exec (.commandBoundReached dt id) s = .next (condBound id (chanOf e.c) (s.advance dt))) ∧
    (e.phase = .running → e.op = .pinConfigure →
      exec (.commandBoundReached dt id) s = .next (startMode (64 + e.c.u8 32 * 16 + e.c.u8 33) (s.advance dt)))) ∧
  (∀ (s : State) (e : CmdEntry), (e.phase ≠ .running → s.boundFrom e = e.start) ∧
    (∀ x t k y, e.phase = .running → e.op = .outputWrite → (s.out (chanOf e.c)).staged = some (x, t, k, y) → s.boundFrom e = max e.start t)) ∧
  (∀ (s : State) (dt id : Nat) (e : CmdEntry), s.cmd id = some e → (s.now + dt < e.jobEnd ∨ e.phase ≠ .job) →
    exec (.jobBoundReached dt id) s = .next (s.advance dt)) ∧
  (∀ (s : State) (dt id : Nat) (e : CmdEntry), s.cmd id = some e → e.phase = .job → e.jobEnd ≤ s.now + dt →
    (e.op = .packageStage → exec (.jobBoundReached dt id) s = .next (endJob id stFailedHardware (le 2 0x6B ++ le 1 2)
      { s.advance dt with mss := { s.mss with stage := s.mss.stage.filter fun j => j.cmd ≠ id } })) ∧
    (∀ w, e.op = .spareSwap → (s.spr.swaps.find? fun w => w.cmd = some id) = some w →
      exec (.jobBoundReached dt id) s = .next (swapExpires w (s.advance dt))) ∧
    (∀ a, e.op = .packageActivate → (s.mss.acts.find? fun a => a.cmd = id) = some a →
      (a.phase = 0 → exec (.jobBoundReached dt id) s = .next (endActivation a stFailedHardware (le 2 0x6B ++ le 1 0) (s.advance dt))) ∧
      (a.phase ≠ 0 → exec (.jobBoundReached dt id) s = .next (endActivation a stFailedHardware (le 2 0x6B ++ le 1 2) (s.advance dt)))) ∧
    (e.op = .panelUpdate → s.pnl.regions = [] → exec (.jobBoundReached dt id) s = .next (endJob id stFailedHardware (le 2 0x6B ++ le 1 0)
      { s.advance dt with pnl := { s.pnl with queue := s.pnl.queue.filter fun u => match u.src with | .host k _ => k ≠ id | _ => true } })) ∧
    (e.op ≠ .packageStage → e.op ≠ .spareSwap → e.op ≠ .packageActivate → e.op ≠ .panelUpdate →
      exec (.jobBoundReached dt id) s = .next (endJob id stFailedHardware (le 2 0x6B ++ le 1 2) (s.advance dt)))) ∧
  (∀ (s : State) (dt : Nat) (o : BitVec 16) (c : Cmd) (g : BitVec 4), s.coreOn = false →
    exec (.forwardedCommandReceive dt o c g) s = .next (s.advance dt)) ∧
  (∀ (s : State) (dt : Nat) (o : BitVec 16) (c : Cmd) (g : BitVec 4), s.coreOn = true → opcOf o.toNat = none →
    exec (.forwardedCommandReceive dt o c g) s = .next { s.advance dt with
      cp := { s.cp with nextId := s.cp.nextId + 1, answers := s.cp.answers ++ [(s.cp.nextId, stBadOpcode, [])] } }) ∧
  (∀ (s : State) (dt : Nat) (o : BitVec 16) (c : Cmd) (g : BitVec 4) (op : Opc), s.coreOn = true → opcOf o.toNat = some op → c.token = 0 →
    (lifeAllows op s = false → exec (.forwardedCommandReceive dt o c g) s = .next { s.advance dt with
      cp := { s.cp with nextId := s.cp.nextId + 1, answers := s.cp.answers ++ [(s.cp.nextId, stLifecycle, [])] } }) ∧
    (∀ e : CmdEntry, lifeAllows op s = true → (s.cp.fwdWindow.filter fun x => x.1 == c.session).length ≤ 1024 → (c.cls = 255 → e.cls = (opRow op).cls) →
      (c.cls ≠ 255 → e.cls = c.cls) →
      e = { id := s.cp.nextId, op := op, c := { c with target := 0 }, cls := e.cls, fetched := s.now + dt, start := max (s.now + dt) c.notBefore, mark := 0,
            phase := .waiting, jobEnd := 0, fromMaster := some g.toNat, work := [] } →
      exec (.forwardedCommandReceive dt o c g) s =
        .next { s.advance dt with cp := { s.cp with nextId := s.cp.nextId + 1, exec := s.cp.exec ++ [e] } })) ∧
  (∀ (s : State) (dt : Nat) (o : BitVec 16) (c : Cmd) (g : BitVec 4) (op : Opc) (f : Option (Nat × DupEntry)), s.coreOn = true → opcOf o.toNat = some op →
    c.token ≠ 0 → f = s.cp.fwdWindow.find? (fun d => d.1 == c.session && d.2.token == c.token) →
    (∀ d, f = some d → d.2.digest ≠ crc32c (packetBytes o.toNat c) → exec (.forwardedCommandReceive dt o c g) s = .next { s.advance dt with
      cp := { s.cp with nextId := s.cp.nextId + 1, answers := s.cp.answers ++ [(s.cp.nextId, stBadParam, le 2 0x61)] } }) ∧
    (∀ d st, f = some d → d.2.digest = crc32c (packetBytes o.toNat c) → d.2.status = some st → exec (.forwardedCommandReceive dt o c g) s = .next
      { s.advance dt with cp := { s.cp with
        nextId := s.cp.nextId + 1, answers := s.cp.answers ++ [(s.cp.nextId, stDuplicate + 65536 * st, d.2.payload)] } }) ∧
    (∀ d, f = some d → d.2.digest = crc32c (packetBytes o.toNat c) → d.2.status = none → d.2.job = true → exec (.forwardedCommandReceive dt o c g) s =
      .next { s.advance dt with cp := { s.cp with
        nextId := s.cp.nextId + 1, answers := s.cp.answers ++ [(s.cp.nextId, stDuplicate + 65536 * stAccepted, [])] } }) ∧
    (∀ d, f = some d → d.2.digest = crc32c (packetBytes o.toNat c) → d.2.status = none → d.2.job = false →
      Completes (.forwardedCommandReceive dt o c g) s fun t => t.cp.exec = s.cp.exec ∧ t.cp.answers = s.cp.answers ∧
        t.cp.fwdWindow.length = s.cp.fwdWindow.length) ∧
    (f = none → lifeAllows op s = false → exec (.forwardedCommandReceive dt o c g) s = .next { s.advance dt with
      cp := { s.cp with nextId := s.cp.nextId + 1, answers := s.cp.answers ++ [(s.cp.nextId, stLifecycle, [])] } }) ∧
    (f = none → lifeAllows op s = true → Completes (.forwardedCommandReceive dt o c g) s fun t => t.cp.nextId = s.cp.nextId + 1 ∧
      t.cp.exec.length = s.cp.exec.length + 1 ∧ ∃ e, t.cp.exec.getLast? = some e ∧ e.id = s.cp.nextId ∧ e.op = op ∧ e.c = { c with target := 0 } ∧
        e.phase = .waiting ∧ e.start = max (s.now + dt) c.notBefore ∧ e.fromMaster = some g.toNat)) ∧
  (∀ (i : Instr) (op : Opc) (dt : Nat) (c : Cmd) (s : State), i.packet = some (op, dt, c) → ¬ s.Ready op dt c → exec i s = .next (s.behind op dt c))

/-- The recorder's commands (R471, R474, R476, R478, R481, R486, R489, R490, R492). RECORDER_STATUS answers the counts and ends the refusal fault
source. QUOTA_SET stores quotas that keep the limits, else 0x00D0. RECORD_MARK answers the next RSEQ and places the mark while REC is 1. RECORD_READ
is refused for its fields (0x0008, 0x00D1) or, by RSEQ, with RECORD_GONE when older than the oldest; else it answers what fits, at once where that
is nothing and otherwise once the records are written. JOURNAL_READ (0x00D4 outside its region) writes as many bytes as asked before its reply.
MIRROR_CONFIGURE refuses in order 0x00D2, 0x0008, 0x00D0 and admission, else stores. -/
def Obligations.RecorderCommands : Prop :=
  (∀ (s : State) (dt : Nat) (c : Cmd) (env : Env), s.Ready .recorderStatus dt c → Clean c [] 0 →
    Answers s (.recorderStatus dt c env) stOk
      (le 4 (recStatus s) ++ le 4 s.rcd.next ++ [0, 1, 2, 3, 4].flatMap (fun t => le 2 (s.rcd.held t)) ++ le 2 s.rcd.mirUsed ++
        [0, 1, 2, 3, 4].flatMap (fun t => le 4 (s.rcd.sevRefused.getD t 0)))
      { s.entered .recorderStatus dt c with rcd := { s.rcd with refused := false } }) ∧
  (∀ (s : State) (dt : Nat) (c : Cmd) (env : Env) (q : List Nat), s.Ready .quotaSet dt c → Clean c [(32, 10)] 0 →
    q = [c.u16 32, c.u16 34, c.u16 36, c.u16 38, c.u16 40] →
    ((q.getD 3 0 < 64 ∨ q.getD 4 0 < 64 ∨ 12032 < q.sum + s.rcd.mirrorMax) →
      Answers s (.quotaSet dt c env) stBadParam (le 2 0xD0) (s.entered .quotaSet dt c)) ∧
    (64 ≤ q.getD 3 0 → 64 ≤ q.getD 4 0 → q.sum + s.rcd.mirrorMax ≤ 12032 →
      Answers s (.quotaSet dt c env) stOk [] (note 0x0702 c.session (q.flatMap (le 2 ·) ++ le 2 s.rcd.mirrorMax)
        { s.entered .quotaSet dt c with rcd := { s.rcd with
          quota := q, reclaiming := decide (s.rcd.freeSegs < { s.rcd with quota := q }.reservedAll) } }))) ∧
  (∀ (s : State) (dt : Nat) (c : Cmd) (env : Env), s.Ready .recordMark dt c → c.restZero [(32, 1)] = true →
    (2 < c.u8 32 → Answers s (.recordMark dt c env) stBadParam (le 2 8) (s.entered .recordMark dt c)) ∧
    (c.u8 32 ≤ 2 → (c.paramLen = 0 ∨ 1004 < c.paramLen) →
      Answers s (.recordMark dt c env) stBadParam (le 2 0xD3) (s.entered .recordMark dt c)) ∧
    (c.u8 32 ≤ 2 → 1 ≤ c.paramLen → c.paramLen ≤ 1004 → s.mode .recd = false →
      Answers s (.recordMark dt c env) stOk (le 4 s.rcd.next) (s.entered .recordMark dt c)) ∧
    (∀ b, c.u8 32 ≤ 2 → 1 ≤ c.paramLen → c.paramLen ≤ 1004 → s.mode .recd = true →
      b = le 1 c.session ++ zeros 3 ++ fitBytes c.paramLen c.ext ++ zeros ((4 - (fitBytes c.paramLen c.ext).length % 4) % 4) →
      Answers s (.recordMark dt c env) stOk (le 4 s.rcd.next)
        (afterOffer (c.u8 32) (placeRecord ⟨c.u8 32, false, 1, 0, s.now + dt, b⟩ s.rcd).1 { s.entered .recordMark dt c with
          rcd := (placeRecord ⟨c.u8 32, false, 1, 0, s.now + dt, b⟩ s.rcd).2 }))) ∧
  (∀ (s : State) (dt : Nat) (c : Cmd) (env : Env), s.Ready .recordRead dt c → Clean c [(32, 3), (36, 4), (40, 8), (48, 4), (56, 8)] 0 →
    ((1 < c.u8 32 ∨ 31 < c.u8 33 ∨ 1 < c.u8 34 ∨ c.u32 48 < 1024 ∨ 1048576 < c.u32 48) →
      Answers s (.recordRead dt c env) stBadParam (le 2 8) (s.entered .recordRead dt c)) ∧
    (c.u8 32 ≤ 1 → c.u8 33 ≤ 31 → c.u8 34 ≤ 1 → 1024 ≤ c.u32 48 → c.u32 48 ≤ 1048576 → c.u64 40 % 64 ≠ 0 →
      Answers s (.recordRead dt c env) stBadParam (le 2 0xD1) (s.entered .recordRead dt c))) ∧
  (∀ (s : State) (dt nx old : Nat) (c : Cmd) (env : Env) (m g : Bool) (l fr out rest : List Stored) (a : Option Nat) (p : List Byte), s.Ready .recordRead dt c →
    Clean c [(32, 3), (36, 4), (40, 8), (48, 4), (56, 8)] 0 → c.u8 32 ≤ 1 → c.u8 33 ≤ 31 → c.u8 34 ≤ 1 → 1024 ≤ c.u32 48 → c.u32 48 ≤ 1048576 →
    c.u64 40 % 64 = 0 → m = decide (c.u8 34 = 1) → l = s.rcd.matching m (c.u8 33) →
    (c.u8 32 = 0 → a = some (c.u32 36) ∧ fr = l.dropWhile fun t => decide (seqKey (s.rcd.base m) t.rseq < seqKey (s.rcd.base m) (c.u32 36))) →
    (c.u8 32 = 1 → a = none ∧ fr = l.dropWhile fun t => decide (t.time < c.u64 56)) → out = takeFit (c.u32 48) fr → rest = fr.drop out.length →
    (∀ t r, rest = t :: r → nx = t.rseq) → (∀ t, rest = [] → out.getLast? = some t → nx = (t.rseq + 1) % 2 ^ 32) →
    (rest = [] → out = [] → c.u8 32 = 0 → nx = c.u32 36) → (rest = [] → out = [] → c.u8 32 = 1 → m = true → nx = 0) →
    (rest = [] → out = [] → c.u8 32 = 1 → m = false → nx = s.rcd.next) →
    (∀ t r, l = t :: r → old = t.rseq) → (l = [] → m = true → old = 0) → (l = [] → m = false → old = s.rcd.next) →
    g = s.rcd.gap m (c.u8 33) a (rest.head?.map fun t => t.rseq) →
    p = le 4 out.length ++ le 4 (out.flatMap Stored.bytes).length ++ le 4 nx ++ le 4 old ++ le 1 (bit g 0 + bit rest.isEmpty 1) →
    (∀ t r, c.u8 32 = 0 → l = t :: r → seqKey (s.rcd.base m) (c.u32 36) < seqKey (s.rcd.base m) t.rseq →
      Answers s (.recordRead dt c env) 0x0800 (zeros 12 ++ le 4 t.rseq) (s.entered .recordRead dt c)) ∧
    ((c.u8 32 = 1 ∨ ∀ t r, l = t :: r → seqKey (s.rcd.base m) t.rseq ≤ seqKey (s.rcd.base m) (c.u32 36)) →
      (out = [] → Answers s (.recordRead dt c env) stOk p (s.entered .recordRead dt c)) ∧
      (out ≠ [] → StaysOpen s (.recordRead dt c env) (s.entryOf .recordRead dt c) []
        (answerThrough s.cp.nextId (c.u64 40) (out.flatMap Stored.bytes) p (s.entered .recordRead dt c)).2))) ∧
  (∀ (s : State) (dt : Nat) (c : Cmd) (env : Env), s.Ready .journalRead dt c → Clean c [(32, 1), (36, 4), (40, 8), (48, 4)] 0 →
    ((10 < c.u8 32 ∨ c.u32 48 = 0 ∨ 1048576 < c.u32 48 ∨ regionSize (c.u8 32) < c.u32 36 + c.u32 48) →
      Answers s (.journalRead dt c env) stBadParam (le 2 0xD4) (s.entered .journalRead dt c)) ∧
    (c.u8 32 ≤ 10 → 0 < c.u32 48 → c.u32 48 ≤ 1048576 → c.u32 36 + c.u32 48 ≤ regionSize (c.u8 32) → ∃ b : List Byte, b.length = c.u32 48 ∧
      StaysOpen s (.journalRead dt c env) (s.entryOf .journalRead dt c) []
        (answerThrough s.cp.nextId (c.u64 40) b [] { s.entered .journalRead dt c with fresh := s.fresh + 1 }).2)) ∧
  (∀ (s : State) (dt to' from' : Nat) (c : Cmd) (env : Env) (u : State), s.Ready .mirrorConfigure dt c → Clean c [(32, 3), (36, 6)] 0 → to' = c.u8 32 → from' = c.u8 33 →
    u = s.entered .mirrorConfigure dt c →
    ((32 < to' ∨ 32 < from' ∨ (to' ≠ 0 ∧ to' = s.rng.node) ∨ (from' ≠ 0 ∧ from' = s.rng.node)) →
      Answers s (.mirrorConfigure dt c env) stBadParam (le 2 0xD2) u) ∧
    (to' ≤ 32 → from' ≤ 32 → (to' = 0 ∨ to' ≠ s.rng.node) → (from' = 0 ∨ from' ≠ s.rng.node) →
      ((4 < c.u8 34 ∨ c.u32 36 < 1000 ∨ 10000000 < c.u32 36) → Answers s (.mirrorConfigure dt c env) stBadParam (le 2 8) u) ∧
      (c.u8 34 ≤ 4 → 1000 ≤ c.u32 36 → c.u32 36 ≤ 10000000 →
        (quotaOk ([0, 1, 2, 3, 4].map s.rcd.q) (c.u16 40) = false → Answers s (.mirrorConfigure dt c env) stBadParam (le 2 0xD0) u) ∧
        (quotaOk ([0, 1, 2, 3, 4].map s.rcd.q) (c.u16 40) = true →
          (∀ f : Failure, to' ≠ 0 → ringTests u u.testFlows [] (some (to', c.u32 36)) = some f →
            Answers s (.mirrorConfigure dt c env) stAdmission ({ f with detail := 0x53 } : Failure).payload u) ∧
          (to' = 0 ∨ ringTests u u.testFlows [] (some (to', c.u32 36)) = none → ∃ t, Answers s (.mirrorConfigure dt c env) stOk [] t ∧
            t.rcd.mirTo = to' ∧ t.rcd.mirFrom = from' ∧ t.rcd.mirSev = c.u8 34 ∧ t.rcd.mirRate = c.u32 36 ∧ t.rcd.mirrorMax = c.u16 40 ∧
            (to' = 0 → t.rcd.mirState = 0) ∧ (to' ≠ 0 → t.rcd.mirState = 1 ∨ t.rcd.mirState = 2))))))

/-- The recorder at work (R473, R475, R478, R479, R482 to R485, R488). RECORD_COPY_NAND moves a record to the open segment of its severity, to a new
one where that is full, or refuses it. QUOTA_RECLAIM erases one over-quota segment each 10 ms until the reservations are free. NAND_SCRUB rewrites a
closed segment above 16 corrected bits. NAND_BLOCK_FAIL retires a block. CHECKPOINT_WRITE writes the other half. MIRROR_FRAME places records of the
accepted peer and acknowledges the last; MIRROR_ACK_FRAME moves the cursor forward; MIRROR_RESEND sends again from it after 20 ms. -/
def Obligations.RecorderEvents : Prop :=
  (∀ (s : State) (dt n : Nat), s.rcd.staging = [] → s.rcd.overflow = [] → exec (.recordCopyNand dt n) s = .next (s.advance dt)) ∧
  (∀ (s : State) (dt : Nat) (t : Stored) (r : List Stored) (u : Recorder), s.rcd.staging = t :: r → s.rcd.overflow = [] →
    u = { s.rcd with staging := r, catchup := s.rcd.catchup - 1 } →
    (∀ g, u.segments.find? (Segment.fits t) = some g → g.used + t.len ≤ 262144 →
      exec (.recordCopyNand dt 1) s = .next { s.advance dt with rcd := u.putOpen t }) ∧
    (∀ g v, t.mirrored = false → u.segments.find? (Segment.fits t) = some g → 262144 < g.used + t.len →
      Recorder.allocate t.sev (s.now + dt) { u with
        segments := u.segments.map fun h => if h.block = g.block then { h with closed := true } else h } = some v →
      exec (.recordCopyNand dt 1) s = .next { s.advance dt with rcd := v.putOpen t }) ∧
    (∀ v, t.mirrored = false → u.segments.find? (Segment.fits t) = none → u.allocate t.sev (s.now + dt) = some v →
      exec (.recordCopyNand dt 1) s = .next { s.advance dt with rcd := v.putOpen t }) ∧
    (∀ v, t.mirrored = true → u.segments.find? (Segment.fits t) = none → u.allocateMirror (s.now + dt) = some v →
      exec (.recordCopyNand dt 1) s = .next { s.advance dt with rcd := v.putOpen t }) ∧
    (t.mirrored = false → u.segments.find? (Segment.fits t) = none → u.allocate t.sev (s.now + dt) = none →
      exec (.recordCopyNand dt 1) s = .next (afterOffer t.sev .refused { s.advance dt with rcd := { u with
        refused := true, sevRefused := bump u.sevRefused t.sev, refSince := bump u.refSince t.sev } })) ∧
    (t.mirrored = true → u.segments.find? (Segment.fits t) = none → u.allocateMirror (s.now + dt) = none →
      exec (.recordCopyNand dt 1) s = .next { s.advance dt with rcd := u })) ∧
  (∀ (s : State) (dt : Nat), (s.rcd.reclaiming = false ∨ s.now + dt < s.rcd.reclaimAt + 10000000) →
    exec (.quotaReclaim dt) s = .next (s.advance dt)) ∧
  (∀ (s : State) (dt : Nat) (o : Option Segment), s.rcd.reclaiming = true → s.rcd.reclaimAt + 10000000 ≤ s.now + dt →
    o = oldestSeg (s.rcd.base false) (s.rcd.segments.filter fun g => g.closed && !g.mirrored && decide (s.rcd.q g.sev < s.rcd.held g.sev)) →
    ((s.rcd.reservedAll ≤ s.rcd.freeSegs ∨ o = none) →
      exec (.quotaReclaim dt) s = .next { s.advance dt with rcd := { s.rcd with reclaiming := false } }) ∧
    (∀ g, s.rcd.freeSegs < s.rcd.reservedAll → o = some g →
      exec (.quotaReclaim dt) s = .next { s.advance dt with rcd := { s.rcd.overwrite g with reclaimAt := s.now + dt } })) ∧
  (∀ (s : State) (dt n bits : Nat), (∀ g, g ∈ s.rcd.segments → g.block = n → g.closed = false) → exec (.nandScrub dt n bits) s = .next (s.advance dt)) ∧
  (∀ (s : State) (dt bits : Nat) (g : Segment), s.rcd.segments.find? (fun h => h.block == g.block) = some g → g.closed = true →
    ((bits ≤ 16 ∨ s.rcd.nextBlock = none) → exec (.nandScrub dt g.block bits) s = .next { s.advance dt with
      rcd := { s.rcd with segments := s.rcd.segments.map fun h => if h.block = g.block then { h with scrubbed := s.now + dt } else h } }) ∧
    (∀ b, 16 < bits → s.rcd.nextBlock = some b → Completes (.nandScrub dt g.block bits) s fun t =>
      t.rcd.segments = (s.rcd.segments.map fun h => if h.block = g.block then { h with scrubbed := s.now + dt, block := b } else h) ∧ g.block ∈ t.rcd.erased ∧
      tget 0 t.rcd.erases g.block = tget 0 s.rcd.erases g.block + 1)) ∧
  (∀ (s : State) (dt n : Nat) (k : Fin 3), (n ∈ s.rcd.retired ∨ 12800 ≤ n) → exec (.nandBlockFail dt n k) s = .next (s.advance dt)) ∧
  (∀ (s : State) (dt n : Nat) (k : Fin 3), n ∉ s.rcd.retired → n < 12800 →
    (0 < s.rcd.spares → Completes (.nandBlockFail dt n k) s fun t =>
      t.rcd.retired = s.rcd.retired ++ [n] ∧ t.rcd.spares = s.rcd.spares - 1 ∧ t.rcd.segLost = s.rcd.segLost) ∧
    (s.rcd.spares = 0 → Completes (.nandBlockFail dt n k) s fun t =>
      t.rcd.retired = s.rcd.retired ++ [n] ∧ t.rcd.spares = 0 ∧ t.rcd.segLost = s.rcd.segLost + 1 ∧ t.rcd.reclaiming = true)) ∧
  (∀ (s : State) (dt : Nat), exec (.checkpointWrite dt) s = .next { s.advance dt with rcd := { s.rcd with
    checkpoint := s.now + dt, checkHalf := !s.rcd.checkHalf, checkProg := (s.prg.stateNum, s.prg.cycleCount) } }) ∧
  (∀ (s : State) (dt : Nat) (n : Fin 33) (l : List StoredRecord), (n.val = 0 ∨ n.val ≠ s.rcd.mirFrom ∨ s.mode .ring = false ∨ l = []) →
    exec (.mirrorFrame dt n l) s = .next (s.advance dt)) ∧
  (∀ (s : State) (dt : Nat) (n : Fin 33) (l : List StoredRecord) (x : StoredRecord), n.val ≠ 0 → n.val = s.rcd.mirFrom → s.mode .ring = true →
    l.getLast? = some x →
    ((∀ y, y ∈ l → y.sev ≤ 4) → usedBytes s.rcd.staging + (l.map fun y => 16 + y.body.length).sum ≤ 524288 → exec (.mirrorFrame dt n l) s =
      .next (originate 4 4 n none (le 4 x.rseq) { s.advance dt with
        rcd := { s.rcd with staging := s.rcd.staging ++ l.map fun y => ⟨y.sev, true, y.fmt, y.rseq, y.time, y.body⟩ } })) ∧
    (524288 < usedBytes s.rcd.staging + (l.map fun y => 16 + y.body.length).sum → exec (.mirrorFrame dt n l) s = .next (s.advance dt))) ∧
  (∀ (s : State) (dt : Nat) (n : Fin 33) (w : Word), (n.val = 0 ∨ n.val ≠ s.rcd.mirTo) → exec (.mirrorAckFrame dt n w) s = .next (s.advance dt)) ∧
  (∀ (s : State) (dt : Nat) (n : Fin 33) (w : Word), n.val ≠ 0 → n.val = s.rcd.mirTo →
    (s.rcd.mirSent = true → seqKey s.rcd.next w.toNat < seqKey s.rcd.next s.rcd.mirCursor → Completes (.mirrorAckFrame dt n w) s fun t =>
      t.rcd.mirCursor = s.rcd.mirCursor ∧ t.rcd.mirSent = true) ∧
    ((s.rcd.mirSent = false ∨ seqKey s.rcd.next s.rcd.mirCursor ≤ seqKey s.rcd.next w.toNat) → Completes (.mirrorAckFrame dt n w) s fun t =>
      t.rcd.mirCursor = w.toNat ∧ t.rcd.mirSent = true)) ∧
  (∀ (s : State) (dt : Nat), (s.rcd.mirTo = 0 ∨ ∃ t, s.rcd.mirWait = some t ∧ s.now + dt < t + 20000000) →
    exec (.mirrorResend dt) s = .next (s.advance dt)) ∧
  (∀ (s : State) (dt t : Nat), s.rcd.mirTo ≠ 0 → s.rcd.mirWait = some t → t + 20000000 ≤ s.now + dt →
    exec (.mirrorResend dt) s = .next (sendMirror (setMirState 2 (s.advance dt)))) ∧
  (∀ (s : State) (dt : Nat), s.rcd.mirTo ≠ 0 → s.rcd.mirWait = none → exec (.mirrorResend dt) s = .next (sendMirror (s.advance dt)))

/-- How an own record of severity `sev` finds a segment (R475): a free one while its quota or the reservations of the others leave it, else the
oldest of the victims, whose records count as overwritten, else none. What it erases is never mirrored, of a higher severity, or of a lower one
within its quota, and mirrored records erase closed mirrored segments only. -/
def Obligations.SegmentAllocation : Prop :=
  ∀ (r : Recorder) (sev now : Nat) (vs : List Segment), (r.segments.map (·.block)).Nodup →
    vs = (r.segments.filter fun g => g.closed && !g.mirrored && (g.sev == sev || (decide (g.sev < sev) && decide (r.q g.sev < r.held g.sev)))) →
    (1 ≤ r.freeSegs → (r.held sev < r.q sev ∨ r.reservedOthers sev ≤ r.freeSegs - 1) →
      ∃ t g, r.allocate sev now = some t ∧ t.segments = r.segments ++ [g] ∧ g.sev = sev ∧ g.mirrored = false ∧ t.sevOver = r.sevOver) ∧
    ((r.freeSegs = 0 ∨ (r.q sev ≤ r.held sev ∧ r.freeSegs - 1 < r.reservedOthers sev)) → vs = [] → r.allocate sev now = none) ∧
    ((r.freeSegs = 0 ∨ (r.q sev ≤ r.held sev ∧ r.freeSegs - 1 < r.reservedOthers sev)) → vs ≠ [] →
      ∃ t v g, r.allocate sev now = some t ∧ v ∈ vs ∧ (∀ w, w ∈ vs → v.age (r.base false) ≤ w.age (r.base false)) ∧
        t.segments = (r.segments.filter fun h => h.block ≠ v.block) ++ [g] ∧ g.sev = sev ∧ g.mirrored = false ∧
        t.sevOver = addAt r.sevOver v.sev v.recs.length) ∧
    (∀ t, r.allocate sev now = some t → ∀ g, g ∈ r.segments → g ∉ t.segments →
      g.closed = true ∧ g.mirrored = false ∧ (g.sev = sev ∨ (g.sev < sev ∧ r.q g.sev < r.held g.sev))) ∧
    (∀ t, r.allocateMirror now = some t → ∀ g, g ∈ r.segments → g ∉ t.segments → g.closed = true ∧ g.mirrored = true) ∧
    (∀ k, r.reservedOthers k = (([0, 1, 2, 3, 4].filter (· ≠ k)).map fun m => r.q m - r.held m).sum + (r.mirrorMax - r.mirUsed))

/-- The panel's commands (R514, R516, R518, R522, R524 to R526, R534 to R536, R538). PANEL_CONFIGURE with fields in range: 0x00F1 where the frame
does not fit the set, 0x00F4 while an update is due, else stored. WAVEFORM_LOAD: 0x00F0 for a bad set, 0x00F1, a wait while a region uses the slot,
else installed. PANEL_WRITE: 0x00F2, 0x00F4, 0x00F5, else the targets. PANEL_UPDATE: 0x00F2, 0x00F7 while SHORT, TEMP_RANGE, 0x00F3, 0x00F5, PANEL
at 0, not RUN, 64 queued, else a job. TILE_IMAGE_LOAD: 0x00F2, 0x00F6, 0x00F4, else the tile. PANEL_STATUS and PANEL_POWER answer, the rail test
with the voltages. A host read that fails is FAILED_HARDWARE. -/
def Obligations.PanelCommands : Prop :=
  (∀ (s : State) (dt w h l o : Nat) (c : Cmd) (env : Env), s.Ready .panelConfigure dt c → Clean c [(32, 11), (44, 2)] 0 → w = c.u16 32 → h = c.u16 34 → l = c.u16 36 →
    o = c.u16 40 → 256 ≤ w → w ≤ 2048 → w % 8 = 0 → 64 ≤ h → h ≤ 1536 → h % 8 = 0 → w / 8 + 44 ≤ l → l ≤ 1023 → 20 ≤ c.u16 38 → c.u16 38 ≤ 330 → o < 2 ^ 15 →
    (∀ k, k < 5 → o % 8 = k ∨ o / 8 % 8 = k ∨ o / 64 % 8 = k ∨ o / 512 % 8 = k ∨ o / 4096 % 8 = k) → 1 ≤ c.u8 42 → c.u8 42 ≤ 100 → c.u16 44 ≤ 600 →
    (∀ b, s.activeSet = some b → 1000 * wfFrameUs b < (h + 4) * (l * 40) →
      Answers s (.panelConfigure dt c env) stBadParam (le 2 0xF1) (s.entered .panelConfigure dt c)) ∧
    ((∀ b, s.activeSet = some b → (h + 4) * (l * 40) ≤ 1000 * wfFrameUs b) →
      ((s.pnl.queue ≠ [] ∨ s.liveRegions ≠ []) → Answers s (.panelConfigure dt c env) stBadParam (le 2 0xF4) (s.entered .panelConfigure dt c)) ∧
      (s.pnl.queue = [] → s.liveRegions = [] → Answers s (.panelConfigure dt c env) stOk [] { s.entered .panelConfigure dt c with pnl := { s.pnl with
        width := w, height := h, lineClk := l, vcom := c.u16 38, order := o, dly := c.u8 42, railHold := c.u16 44 } }))) ∧
  (∀ (s : State) (dt : Nat) (c : Cmd) (env : Env), s.Ready .waveformLoad dt c → Clean c [(40, 12)] 0 → c.u64 40 % 4096 = 0 → 0 < c.u32 48 → c.u32 48 ≤ 4194304 →
    (env.dma = none → Answers s (.waveformLoad dt c env) stFailedHardware (le 2 0 ++ le 1 0) (s.entered .waveformLoad dt c)) ∧
    (∀ l b, env.dma = some l → b = fitBytes (c.u32 48) l →
      (∀ i, wfBad b = some i → Answers s (.waveformLoad dt c env) stBadParam (le 2 0xF0 ++ zeros 2 ++ le 4 i) (s.entered .waveformLoad dt c)) ∧
      (wfBad b = none → s.pnl.height ≠ 0 → 1000 * wfFrameUs b < (s.pnl.height + 4) * (s.pnl.lineClk * 40) →
        Answers s (.waveformLoad dt c env) stBadParam (le 2 0xF1) (s.entered .waveformLoad dt c)) ∧
      (wfBad b = none → (s.pnl.height = 0 ∨ (s.pnl.height + 4) * (s.pnl.lineClk * 40) ≤ 1000 * wfFrameUs b) →
        (s.slotHeld (1 - s.pnl.active) = true → StaysOpen s (.waveformLoad dt c env) (s.entryOf .waveformLoad dt c) []
          { s.entered .waveformLoad dt c with pnl := { s.pnl with loading := some (s.cp.nextId, c.session, b) } }) ∧
        (s.slotHeld (1 - s.pnl.active) = false → Answers s (.waveformLoad dt c env) stOk (le 4 (wfSetId b) ++ le 4 (wfCrc b))
          (installSet c.session b (s.entered .waveformLoad dt c)))))) ∧
  (∀ (s : State) (k : Nat) (b : List Byte), s.pnl.active ≤ 1 → (installSet k b s).pnl.active = 1 - s.pnl.active ∧ (installSet k b s).activeSet = some b ∧
    (installSet k b s).panelSet s.pnl.active = s.panelSet s.pnl.active) ∧
  (∀ (s : State) (dt : Nat) (c : Cmd) (env : Env) (r : Rect), s.Ready .panelWrite dt c → Clean c [(32, 16)] 0 → r = rectOf c 32 →
    ((r.w = 0 ∨ r.h = 0 ∨ s.pnl.width < r.x + r.w ∨ s.pnl.height < r.y + r.h) →
      Answers s (.panelWrite dt c env) stBadParam (le 2 0xF2) (s.entered .panelWrite dt c)) ∧
    (r.w ≠ 0 → r.h ≠ 0 → s.inPanel r = true →
      (s.hitsActive r = true → Answers s (.panelWrite dt c env) stBadParam (le 2 0xF4) (s.entered .panelWrite dt c)) ∧
      (s.hitsActive r = false → s.hitsTile r none = true → Answers s (.panelWrite dt c env) stBadParam (le 2 0xF5) (s.entered .panelWrite dt c)) ∧
      (s.hitsActive r = false → s.hitsTile r none = false → env.dma = none →
        Answers s (.panelWrite dt c env) stFailedHardware (le 2 0 ++ le 1 0) (s.entered .panelWrite dt c)) ∧
      (∀ l, s.hitsActive r = false → s.hitsTile r none = false → env.dma = some l → Answers s (.panelWrite dt c env) stOk []
        (r.pixels.foldl (fun s p => setTarget p (nibbleAt l r.w (p.1 - r.x) (p.2 - r.y)) s) (s.entered .panelWrite dt c))))) ∧
  (∀ (s : State) (dt m : Nat) (c : Cmd) (env : Env) (r : Rect) (u : State), s.Ready .panelUpdate dt c → Clean c [(32, 9)] 0 → m = c.u8 40 → m ≤ 15 → r = rectOf c 32 →
    u = s.entered .panelUpdate dt c →
    ((r.x % 8 ≠ 0 ∨ r.w % 8 ≠ 0 ∨ r.w < 8 ∨ r.h < 8 ∨ s.inPanel r = false) → Answers s (.panelUpdate dt c env) stBadParam (le 2 0xF2) u) ∧
    (r.x % 8 = 0 → r.w % 8 = 0 → 8 ≤ r.w → 8 ≤ r.h → s.inPanel r = true →
      (s.railsShort = true → Answers s (.panelUpdate dt c env) stFailedHardware (le 2 0xF7 ++ le 1 0) u) ∧
      (s.railsShort = false → s.pnl.tempOut = true → m ≠ 3 → Answers s (.panelUpdate dt c env) 0x0900 [] u) ∧
      (s.railsShort = false → (s.pnl.tempOut = false ∨ m = 3) →
        (s.activeSet = none → Answers s (.panelUpdate dt c env) stBadParam (le 2 0xF3) u) ∧
        (∀ b, s.activeSet = some b →
          (wfMode b m = none → Answers s (.panelUpdate dt c env) stBadParam (le 2 0xF3) u) ∧
          ((wfMode b m).isSome = true → s.hitsTile r none = true → Answers s (.panelUpdate dt c env) stBadParam (le 2 0xF5) u) ∧
          ((wfMode b m).isSome = true → s.hitsTile r none = false →
            (s.mode .panel = false → Answers s (.panelUpdate dt c env) stModeConflict (le 2 0xA3) u) ∧
            (s.mode .panel = true → (s.pwr.state ≠ .run ∨ s.pwr.dormantGoing ≠ none) → Answers s (.panelUpdate dt c env) stModeConflict (le 2 0xA2) u) ∧
            (s.mode .panel = true → s.pwr.state = .run → s.pwr.dormantGoing = none →
              (64 ≤ s.pnl.queue.length → Answers s (.panelUpdate dt c env) stDeadline (le 2 0xF8) u) ∧
              (s.pnl.queue.length < 64 → StartsJob s (.panelUpdate dt c env) (s.entryOf .panelUpdate dt c) []
                (enqueue ⟨r, m, .host s.cp.nextId c.session, some (max (s.now + dt) c.notBefore + 3000000000)⟩ u)))))))) ∧
  (∀ (s : State) (dt n : Nat) (c : Cmd) (env : Env) (r : Rect) (u : State), s.Ready .tileImageLoad dt c → Clean c [(32, 10), (48, 8)] 0 → n = c.u16 32 → n ≤ 511 →
    r = rectOf c 34 → r.x % 8 = 0 → r.w % 8 = 0 → 8 ≤ r.w → r.w ≤ 512 → 8 ≤ r.h → r.h ≤ 512 → u = s.entered .tileImageLoad dt c →
    (s.pnl.tiles.foldl (fun (k : Nat) t => match t.2 with | some t' => if t.1 = n then k else k + t'.images.length | none => k) 0) + 4 * tileSize r ≤ 16777216 →
    (s.inPanel r = false → Answers s (.tileImageLoad dt c env) stBadParam (le 2 0xF2) u) ∧
    (s.inPanel r = true → s.hitsTile r (some n) = true → Answers s (.tileImageLoad dt c env) stBadParam (le 2 0xF6) u) ∧
    (s.inPanel r = true → s.hitsTile r (some n) = false →
      (s.hitsActive r = true → Answers s (.tileImageLoad dt c env) stBadParam (le 2 0xF4) u) ∧
      (s.hitsActive r = false → env.dma = none → Answers s (.tileImageLoad dt c env) stFailedHardware (le 2 0 ++ le 1 0) u) ∧
      (∀ l, s.hitsActive r = false → env.dma = some l → Answers s (.tileImageLoad dt c env) stOk []
        (tileHandoff n (tget 0 s.alm.tstate n)
          (State.setTile { u with pnl := { s.pnl with queue := s.pnl.queue.filter fun (u : Update) => u.src ≠ UpdSrc.tile n } } n
            ⟨r, fitBytes (4 * tileSize r) l, tget 0 s.alm.tstate n, none, false⟩))))) ∧
  (∀ (s : State) (dt : Nat) (c : Cmd) (env : Env), s.Ready .panelStatus dt c → Clean c [] 0 → Answers s (.panelStatus dt c env) stOk
    (le 4 s.panelStatus ++ le 4 s.panelTempReg ++ le 4 s.panelWfs.1 ++ le 4 ((s.liveRegions.map fun x => 2 ^ x.1).foldl (· + ·) 0))
    (s.entered .panelStatus dt c)) ∧
  (∀ (s : State) (dt : Nat) (c : Cmd) (env : Env) (v : List Int) (u : State), s.Ready .panelPower dt c → Clean c [(32, 1), (44, 2)] 0 →
    v = [env.sense.getD 0 0, env.sense.getD 1 0, env.sense.getD 2 0, env.sense.getD 3 0, env.sense.getD 4 0] → u = phaseSwaps (s.entered .panelPower dt c) →
    (c.u8 32 = 0 → c.u16 44 ≤ 600 →
      Answers s (.panelPower dt c env) stOk [] { s.entered .panelPower dt c with pnl := { s.pnl with railHold := c.u16 44 } }) ∧
    (c.u8 32 = 1 → (s.pnl.queue ≠ [] ∨ s.liveRegions ≠ []) →
      Answers s (.panelPower dt c env) stBadParam (le 2 0xF4) (s.entered .panelPower dt c)) ∧
    (c.u8 32 = 1 → s.pnl.queue = [] → s.liveRegions = [] →
      ((∀ k, k ∈ s.railOrder → s.railOk k (v.getD k 0) = true) → Answers s (.panelPower dt c env) stOk (v.flatMap fun x => le 2 (x % 65536).toNat)
        { u with pnl := { u.pnl with railMv := v, railFault := false, railsUp := false, frameAt := none } }) ∧
      (∀ k, (s.railOrder.find? fun k => !s.railOk k (v.getD k 0)) = some k →
        Answers s (.panelPower dt c env) stOk (v.flatMap fun x => le 2 (x % 65536).toNat) (railFault k (v.getD k 0) u))))

/-- The panel at work (R515, R516, R518, R523, R524, R526 to R528, R531, R533). PANEL_RAIL_UP raises the rails for an update that is due, a rail out
of regulation being a RAIL_FAULT; PANEL_RAIL_DOWN lowers them. PANEL_TEMP_READ each second, PANEL_SENSOR_TIMEOUT after 60 s of sensor fault.
PANEL_UPDATE_START starts the next update, or ends one of the host that may not run. PANEL_FRAME drives a region, ends it after its frames, or
interrupts it where it has to stop. PANEL_QUEUE_TIMEOUT after 3 s. FRAME_MEMORY_SCRUB rebuilds a band. -/
def Obligations.PanelEvents : Prop :=
  (∀ (s : State) (dt : Nat) (v : Vector Int 5) (w : Vector Nat 4), (s.pnl.railsUp = true ∨ s.updateDue = false ∨ s.mode .panel = false ∨
    s.pwr.holdMv < 3000 ∨ s.railsShort = true ∨ s.pwr.state ≠ .run) → exec (.panelRailUp dt v w) s = .next (s.advance dt)) ∧
  (∀ (s : State) (dt : Nat) (v : Vector Int 5) (w : Vector Nat 4), s.pnl.railsUp = false → s.updateDue = true → s.mode .panel = true → 3000 ≤ s.pwr.holdMv →
    s.railsShort = false → s.pwr.state = .run →
    ((∀ k, k ∈ s.railOrder → s.railOk k (v.toList.getD k 0) = true) → Completes (.panelRailUp dt v w) s
      fun t => t.pnl.railsUp = true ∧ t.pnl.railFault = false ∧ t.pnl.idleAt = s.now + dt ∧ t.pnl.frameAt = none ∧ t.pnl.railMv = v.toList) ∧
    (∀ k, (s.railOrder.find? fun k => !s.railOk k (v.toList.getD k 0)) = some k →
      exec (.panelRailUp dt v w) s = .next (railFault k (v.toList.getD k 0) (phaseSwaps (s.advance dt))))) ∧
  (∀ (s : State) (dt : Nat), (s.pnl.railsUp = false ∨ s.liveRegions ≠ [] ∨
    (s.mode .panel = true ∧ s.now + dt < s.pnl.idleAt + 100000000 * s.pnl.railHold)) →
    exec (.panelRailDown dt) s = .next (s.advance dt)) ∧
  (∀ (s : State) (dt : Nat), s.pnl.railsUp = true → s.liveRegions = [] →
    (s.mode .panel = false ∨ s.pnl.idleAt + 100000000 * s.pnl.railHold ≤ s.now + dt) →
    exec (.panelRailDown dt) s = .next { s.advance dt with pnl := { s.pnl with railsUp := false, frameAt := none } }) ∧
  (∀ (s : State) (dt : Nat) (k : Fin 5) (mv : Int), ((s.pnl.railsUp = false ∨ s.railOk k mv = true) → exec (.railFault dt k mv) s = .next (s.advance dt)) ∧
    (s.pnl.railsUp = true → s.railOk k mv = false → exec (.railFault dt k mv) s = .next (railFault k mv (s.advance dt)))) ∧
  (∀ (s : State) (k : Nat) (mv : Int), (railFault k mv s).pnl.railsUp = false ∧ (railFault k mv s).pnl.railFault = true) ∧
  (∀ (s : State) (dt t : Nat) (v : Option Int), s.pnl.tempAt = some t → s.now + dt < t + 1000000000 →
    exec (.panelTempRead dt v) s = .next (s.advance dt)) ∧
  (∀ (s : State) (dt : Nat), (∀ t, s.pnl.tempAt = some t → t + 1000000000 ≤ s.now + dt) →
    (∀ v : Int, -400 ≤ v → v ≤ 850 → s.activeSet = none → exec (.panelTempRead dt (some v)) s =
      .next (setTempOut false { s.advance dt with pnl := { s.pnl with tempAt := some (s.now + dt), temp := v, sensorFault := none } })) ∧
    (∀ (v : Int) (b : List Byte), -400 ≤ v → v ≤ 850 → s.activeSet = some b → exec (.panelTempRead dt (some v)) s =
      .next (setTempOut (!wfInRange b v) { s.advance dt with pnl := { s.pnl with tempAt := some (s.now + dt), temp := v, sensorFault := none } })) ∧
    (∀ v : Int, (v < -400 ∨ 850 < v) → exec (.panelTempRead dt (some v)) s = exec (.panelTempRead dt none) s) ∧
    exec (.panelTempRead dt none) s = .next { s.advance dt with pnl := { s.pnl with
      tempAt := some (s.now + dt), sensorFault := some (s.pnl.sensorFault.getD (s.now + dt)) } }) ∧
  (∀ (s : State) (dt : Nat), s.pnl.sensorFault = none → exec (.panelSensorTimeout dt) s = .next (s.advance dt)) ∧
  (∀ (s : State) (dt t : Nat), s.pnl.sensorFault = some t →
    (s.now + dt < t + 60000000000 → exec (.panelSensorTimeout dt) s = .next (s.advance dt)) ∧
    (t + 60000000000 ≤ s.now + dt → exec (.panelSensorTimeout dt) s = .next (setTempOut true (s.advance dt)))) ∧
  (∀ (s : State) (dt : Nat) (v : Option Int), s.railsShort = false → (s.pnl.railsUp = false ∨ s.mode .panel = false ∨ s.pwr.state ≠ .run ∨
    s.pwr.dormantGoing ≠ none ∨ s.activeSet = none ∨ s.nextUpdate = none) → exec (.panelUpdateStart dt v) s = .next (s.advance dt)) ∧
  (∀ (s : State) (dt : Nat) (v : Option Int), s.railsShort = true →
    (s.pnl.queue = [] → exec (.panelUpdateStart dt v) s = .next (s.advance dt)) ∧
    (∀ u id ses, s.pnl.queue = [u] → u.src = .host id ses → exec (.panelUpdateStart dt v) s =
      .next (endJob id stFailedHardware (le 2 0xF7 ++ le 1 0) ((s.advance dt).unqueue u)))) ∧
  (∀ (s : State) (dt : Nat) (v : Option Int) (b : List Byte) (u : Update), s.pnl.railsUp = true → s.mode .panel = true → s.pwr.state = .run →
    s.pwr.dormantGoing = none → s.railsShort = false → s.activeSet = some b → s.nextUpdate = some u →
    ((u.src = .balance ∨ (∃ n, u.src = .recovery n) ∨ ∃ n, u.src = .tile n) →
      exec (.panelUpdateStart dt v) s = .next (startUpdate b u (panelTemp v (s.advance dt)))) ∧
    (∀ id ses, u.src = .host id ses → ((panelTemp v (s.advance dt)).pnl.tempOut = false ∨ u.mode = 3) →
      exec (.panelUpdateStart dt v) s = .next (startUpdate b u (panelTemp v (s.advance dt)))) ∧
    (∀ id ses, u.src = .host id ses → (panelTemp v (s.advance dt)).pnl.tempOut = true → u.mode ≠ 3 →
      exec (.panelUpdateStart dt v) s = .next (endJob id 0x0900 [] ((panelTemp v (s.advance dt)).unqueue u)))) ∧
  (∀ (s : State) (dt : Nat), (s.pnl.railsUp = false ∨ s.liveRegions = [] ∨ ∃ t, s.pnl.frameAt = some t ∧ s.now + dt < t + s.framePeriod) →
    exec (.panelFrame dt) s = .next (s.advance dt)) ∧
  (∀ (s : State) (dt n : Nat) (r : Region) (u : State), s.pnl.railsUp = true → (∀ t, s.pnl.frameAt = some t → t + s.framePeriod ≤ s.now + dt) →
    s.pnl.regions = [(n, r)] → r.live = true → u = { s.advance dt with pnl := { s.pnl with frameAt := some (s.now + dt) } } →
    (r.stop = false → r.frame < r.frames → exec (.panelFrame dt) s = .next (driveRegion n r u)) ∧
    (r.stop = false → r.frames ≤ r.frame → exec (.panelFrame dt) s = .next (endUpdate n r u)) ∧
    (r.stop = true → r.frame % 4 ≠ 0 → r.frame < r.frames → exec (.panelFrame dt) s = .next (driveRegion n r u)) ∧
    (r.stop = true → (r.frame % 4 = 0 ∨ r.frames ≤ r.frame) → exec (.panelFrame dt) s = .next (interruptRegions [(n, r)] u))) ∧
  (∀ (s : State) (dt : Nat), (∀ u t, u ∈ s.pnl.queue → u.limit = some t → s.now + dt < t) →
    exec (.panelQueueTimeout dt) s = .next (s.advance dt)) ∧
  (∀ (s : State) (dt t : Nat) (u : Update) (r : List Update), s.pnl.queue = u :: r → u.limit = some t → t ≤ s.now + dt →
    (∀ id ses, u.src = .host id ses → exec (.panelQueueTimeout dt) s =
      .next (endJob id stDeadline (le 2 0xF8) { s.advance dt with pnl := { s.pnl with queue := r } })) ∧
    ((u.src = .balance ∨ (∃ n, u.src = .recovery n) ∨ ∃ n, u.src = .tile n) →
      exec (.panelQueueTimeout dt) s = .next { s.advance dt with pnl := { s.pnl with queue := r } })) ∧
  (∀ (s : State) (dt : Nat) (n : Fin 24), exec (.frameMemoryScrub dt n false) s = .next (s.advance dt) ∧
    (s.pnl.height ≤ n.val * 64 → exec (.frameMemoryScrub dt n true) s = .next (s.advance dt))) ∧
  (∀ (s : State) (dt : Nat) (n : Fin 24), n.val * 64 < s.pnl.height → Completes (.frameMemoryScrub dt n true) s fun t =>
    t.pnl.crcErr = true ∧ t.pnl.image = s.pnl.image ∧ t.pnl.target = s.pnl.target ∧ t.pnl.ledger = s.pnl.ledger ∧ t.pnl.queue = s.pnl.queue)

/-- Frames of the command rows that are packets: in a next state of a command named in a clause, only Node Time and the components of the state that
the clause names differ from the state before. All others keep every value: so no channel changes by a command over alarms, no key by one over
outputs, no pin by one over the panel. The rows left out, PACKAGE_ACTIVATE, ROLE_SET, RETIRE and DEBUG_OPEN, may end in a reset or change forces and
with them most components. -/
def Obligations.CommandFrames : Prop :=
  (∀ (s t : State) (i : Instr) (dt : Nat) (c : Cmd) (env : Env), i ∈ [.deviceReset dt c env, .modeRead dt c env, .channelRead dt c env, .tableRead dt c env, .pinRead dt c env, .pointRead dt c env,
    .programStatus dt c env, .variableRead dt c env, .ringStatus dt c env, .spareStatus dt c env, .wearRead dt c env,
    .recorderStatus dt c env, .quotaSet dt c env, .mirrorConfigure dt c env, .recordMark dt c env, .panelStatus dt c env,
    .sensorRead dt c env, .securityStatus dt c env, .sessionClose dt c env, .sessionRead dt c env, .echo dt c env, .flowOpen dt c env,
    .flowClose dt c env, .flowRead dt c env, .streamOpen dt c env, .streamClose dt c env, .budgetRead dt c env] →
    exec i s = .next t → t = { s with now := t.now, flows := t.flows, cp := t.cp, rcd := t.rcd }) ∧
  (∀ (s t : State) (i : Instr) (dt : Nat) (c : Cmd) (env : Env), i ∈ [.firstoutReset dt c env] →
    exec i s = .next t → t = { s with now := t.now, flows := t.flows, cp := t.cp, rcd := t.rcd, alm := t.alm }) ∧
  (∀ (s t : State) (i : Instr) (dt : Nat) (c : Cmd) (env : Env), i ∈ [.blankConfigure dt c env, .crosspointTest dt c env, .tableLoad dt c env, .outputWrite dt c env, .outputFaultClear dt c env,
    .outputHoldSet dt c env] →
    exec i s = .next t → t = { s with now := t.now, flows := t.flows, cp := t.cp, rcd := t.rcd, ana := t.ana }) ∧
  (∀ (s t : State) (i : Instr) (dt : Nat) (c : Cmd) (env : Env), i ∈ [.digitalWrite dt c env, .counterReset dt c env, .digitalHoldSet dt c env] →
    exec i s = .next t → t = { s with now := t.now, flows := t.flows, cp := t.cp, rcd := t.rcd, dig := t.dig }) ∧
  (∀ (s t : State) (i : Instr) (dt : Nat) (c : Cmd) (env : Env), i ∈ [.modeSet dt c env, .startWordSet dt c env, .profileSet dt c env, .seal dt c env, .debugClose dt c env] →
    exec i s = .next t → t = { s with now := t.now, flows := t.flows, cp := t.cp, rcd := t.rcd, mod := t.mod }) ∧
  (∀ (s t : State) (i : Instr) (dt : Nat) (c : Cmd) (env : Env), i ∈ [.packageStage dt c env, .updateWindowSet dt c env] →
    exec i s = .next t → t = { s with now := t.now, flows := t.flows, cp := t.cp, rcd := t.rcd, mss := t.mss }) ∧
  (∀ (s t : State) (i : Instr) (dt : Nat) (c : Cmd) (env : Env), i ∈ [.panelConfigure dt c env, .waveformLoad dt c env, .panelWrite dt c env, .panelUpdate dt c env, .tileImageLoad dt c env] →
    exec i s = .next t → t = { s with now := t.now, flows := t.flows, cp := t.cp, rcd := t.rcd, pnl := t.pnl }) ∧
  (∀ (s t : State) (i : Instr) (dt : Nat) (c : Cmd) (env : Env), i ∈ [.programLoad dt c env, .programStart dt c env, .programStop dt c env, .variableForce dt c env, .setConfigure dt c env] →
    exec i s = .next t → t = { s with now := t.now, flows := t.flows, cp := t.cp, rcd := t.rcd, prg := t.prg }) ∧
  (∀ (s t : State) (i : Instr) (dt : Nat) (c : Cmd) (env : Env), i ∈ [.dormantEnter dt c env] →
    exec i s = .next t → t = { s with now := t.now, flows := t.flows, cp := t.cp, rcd := t.rcd, pwr := t.pwr }) ∧
  (∀ (s t : State) (i : Instr) (dt : Nat) (c : Cmd) (env : Env), i ∈ [.ringConfigure dt c env, .ringKeySet dt c env, .pairConfigure dt c env, .masterHandover dt c env] →
    exec i s = .next t → t = { s with now := t.now, flows := t.flows, cp := t.cp, rcd := t.rcd, rng := t.rng }) ∧
  (∀ (s t : State) (i : Instr) (dt : Nat) (c : Cmd) (env : Env), i ∈ [.clockRead dt c env, .clockShift dt c env, .clockAlarmSet dt c env, .trimCurveLoad dt c env] →
    exec i s = .next t → t = { s with now := t.now, flows := t.flows, cp := t.cp, rcd := t.rcd, rtc := t.rtc }) ∧
  (∀ (s t : State) (i : Instr) (dt : Nat) (c : Cmd) (env : Env), i ∈ [.tamperClear dt c env] →
    exec i s = .next t → t = { s with now := t.now, flows := t.flows, cp := t.cp, rcd := t.rcd, sec := t.sec }) ∧
  (∀ (s t : State) (i : Instr) (dt : Nat) (c : Cmd) (env : Env), i ∈ [.recordRead dt c env, .healthRead dt c env] →
    exec i s = .next t → t = { s with now := t.now, host := t.host, flows := t.flows, cp := t.cp, rcd := t.rcd }) ∧
  (∀ (s t : State) (i : Instr) (dt : Nat) (c : Cmd) (env : Env), i ∈ [.pinConfigure dt c env, .groupConfigure dt c env, .digitalFaultClear dt c env] →
    exec i s = .next t → t = { s with now := t.now, flows := t.flows, cp := t.cp, rcd := t.rcd, ana := t.ana, dig := t.dig }) ∧
  (∀ (s t : State) (i : Instr) (dt : Nat) (c : Cmd) (env : Env), i ∈ [.channelConfigure dt c env, .conditionConfigure dt c env, .outputConfigure dt c env, .outputParallel dt c env, .sparePolicy dt c env] →
    exec i s = .next t → t = { s with now := t.now, flows := t.flows, cp := t.cp, rcd := t.rcd, ana := t.ana, spr := t.spr }) ∧
  (∀ (s t : State) (i : Instr) (dt : Nat) (c : Cmd) (env : Env), i ∈ [.ownerKeyInstall dt c env, .ownerKeyRotate dt c env] →
    exec i s = .next t → t = { s with now := t.now, flows := t.flows, cp := t.cp, rcd := t.rcd, mod := t.mod, sec := t.sec }) ∧
  (∀ (s t : State) (i : Instr) (dt : Nat) (c : Cmd) (env : Env), i ∈ [.provenSetAccept dt c env] →
    exec i s = .next t → t = { s with now := t.now, flows := t.flows, cp := t.cp, rcd := t.rcd, mss := t.mss, sec := t.sec }) ∧
  (∀ (s t : State) (i : Instr) (dt : Nat) (c : Cmd) (env : Env), i ∈ [.cycleConfigure dt c env] →
    exec i s = .next t → t = { s with now := t.now, flows := t.flows, cp := t.cp, rcd := t.rcd, prg := t.prg, rng := t.rng }) ∧
  (∀ (s t : State) (i : Instr) (dt : Nat) (c : Cmd) (env : Env), i ∈ [.leapSet dt c env] →
    exec i s = .next t → t = { s with now := t.now, flows := t.flows, cp := t.cp, rcd := t.rcd, rng := t.rng, rtc := t.rtc }) ∧
  (∀ (s t : State) (i : Instr) (dt : Nat) (c : Cmd) (env : Env), i ∈ [.journalRead dt c env] →
    exec i s = .next t → t = { s with now := t.now, fresh := t.fresh, host := t.host, flows := t.flows, cp := t.cp, rcd := t.rcd }) ∧
  (∀ (s t : State) (i : Instr) (dt : Nat) (c : Cmd) (env : Env), i ∈ [.dutySet dt c env, .tileBind dt c env] →
    exec i s = .next t → t = { s with now := t.now, flows := t.flows, cp := t.cp, rcd := t.rcd, dig := t.dig, alm := t.alm, pnl := t.pnl }) ∧
  (∀ (s t : State) (i : Instr) (dt : Nat) (c : Cmd) (env : Env), i ∈ [.panelPower dt c env] →
    exec i s = .next t → t = { s with now := t.now, flows := t.flows, cp := t.cp, rcd := t.rcd, dig := t.dig, spr := t.spr, pnl := t.pnl }) ∧
  (∀ (s t : State) (i : Instr) (dt : Nat) (c : Cmd) (env : Env), i ∈ [.channelCalibrate dt c env] →
    exec i s = .next t → t = { s with now := t.now, fresh := t.fresh, flows := t.flows, cp := t.cp, rcd := t.rcd, ana := t.ana, mod := t.mod }) ∧
  (∀ (s t : State) (i : Instr) (dt : Nat) (c : Cmd) (env : Env), i ∈ [.spareSwap dt c env, .spareApprove dt c env] →
    exec i s = .next t → t = { s with now := t.now, fresh := t.fresh, flows := t.flows, cp := t.cp, rcd := t.rcd, ana := t.ana, spr := t.spr }) ∧
  (∀ (s t : State) (i : Instr) (dt : Nat) (c : Cmd) (env : Env), i ∈ [.sessionOpen dt c env] →
    exec i s = .next t → t = { s with now := t.now, fresh := t.fresh, host := t.host, flows := t.flows, cp := t.cp, rcd := t.rcd, sec := t.sec }) ∧
  (∀ (s t : State) (i : Instr) (dt : Nat) (c : Cmd) (env : Env), i ∈ [.alarmGroupConfigure dt c env, .chainConfigure dt c env, .callConfigure dt c env] →
    exec i s = .next t → t = { s with now := t.now, flows := t.flows, cp := t.cp, rcd := t.rcd, ana := t.ana, dig := t.dig, alm := t.alm, pnl := t.pnl }) ∧
  (∀ (s t : State) (i : Instr) (dt : Nat) (c : Cmd) (env : Env), i ∈ [.pointConfigure dt c env, .alarmAck dt c env, .alarmSilence dt c env, .alarmShelve dt c env, .pointService dt c env,
    .derivedConfigure dt c env] →
    exec i s = .next t → t = { s with now := t.now, flows := t.flows, cp := t.cp, rcd := t.rcd, dig := t.dig, alm := t.alm, rng := t.rng, pnl := t.pnl }) ∧
  (∀ (s t : State) (i : Instr) (dt : Nat) (c : Cmd) (env : Env), i ∈ [.timeConfigure dt c env] →
    exec i s = .next t → t = { s with now := t.now, flows := t.flows, cp := t.cp, rcd := t.rcd, ana := t.ana, dig := t.dig, prg := t.prg, rng := t.rng, rtc := t.rtc }) ∧
  (∀ (s t : State) (i : Instr) (dt : Nat) (c : Cmd) (env : Env), i ∈ [.channelSimulate dt c env, .pinSimulate dt c env] →
    exec i s = .next t → t = { s with now := t.now, flows := t.flows, cp := t.cp, rcd := t.rcd, ana := t.ana, dig := t.dig, alm := t.alm, prg := t.prg, rng := t.rng, mod := t.mod })

/-- Frames of the command rows that are events and register accesses: in a next state of a row named in a clause, only Node Time and the components
of the state that the clause names differ from the state before. All others keep every value. The rows left out are those that assert or end a full
reset or a power state, apply a mode word, write a register of any function, or end whichever command reached its bound. -/
def Obligations.EventFrames : Prop :=
  (∀ (s t : State) (i : Instr) (dt : Nat) (src : Fin 33) (l : List PeerSample), i ∈ [.samplesFrame dt src l] →
    exec i s = .next t → t = { s with now := t.now, alm := t.alm }) ∧
  (∀ (s t : State) (i : Instr) (dt readback : Nat) (isl : Fin 8) (rate : Fin 17) (ch : Fin 64) (code : BitVec 24) (term : Fin 32), i ∈ [.sampleStrobe dt isl rate, .waveformWord dt ch ⟨code, readback⟩, .clampEnd dt isl term, .clampReclose dt isl term, .blankInputAssert dt isl,
    .blankInputDeassert dt isl, .pulseSourceOn dt ch, .pulseWindowOpen dt ch] →
    exec i s = .next t → t = { s with now := t.now, ana := t.ana }) ∧
  (∀ (s t : State) (i : Instr) (dt : Nat) (opcode : BitVec 16) (c : Cmd) (rights : BitVec 4) (ses : Fin 64) (token : Word), i ∈ [.forwardedCommandReceive dt opcode c rights, .dupWindowExpiry dt ses token] →
    exec i s = .next t → t = { s with now := t.now, cp := t.cp }) ∧
  (∀ (s t : State) (i : Instr) (dt ma : Nat) (pin : Fin 96), i ∈ [.driverCurrentLimit dt pin ma] →
    exec i s = .next t → t = { s with now := t.now, dig := t.dig }) ∧
  (∀ (s t : State) (i : Instr) (dt : Nat) (pf : Fin 3) (vector : Fin 264) (cleared aspm : Bool), i ∈ [.msixVectorUnmask dt pf vector, .memorySpaceDisable dt pf cleared, .l1Entry dt aspm, .pcieCorrectableError dt, .smbusStatusRead dt] →
    exec i s = .next t → t = { s with now := t.now, host := t.host }) ∧
  (∀ (s t : State) (i : Instr) (dt : Nat), i ∈ [.logSummary dt] →
    exec i s = .next t → t = { s with now := t.now, mss := t.mss }) ∧
  (∀ (s t : State) (i : Instr) (dt : Nat), i ∈ [.panelRailDown dt] →
    exec i s = .next t → t = { s with now := t.now, pnl := t.pnl }) ∧
  (∀ (s t : State) (i : Instr) (dt cycle : Nat) (src : Fin 33) (l : List ExportValue) (l2 : List RemoteValue) (set : Fin 16) (signature : Word) (members missing : BitVec 32) (reduce : Bool) (sets go mismatch : BitVec 16), i ∈ [.importGather dt, .exportFrameReceive dt src cycle l, .outputFrameReceive dt src cycle l2,
    .readyFrameReceive dt src cycle set signature members reduce, .decisionFrameReceive dt src cycle sets go mismatch missing] →
    exec i s = .next t → t = { s with now := t.now, prg := t.prg }) ∧
  (∀ (s t : State) (i : Instr) (dt : Nat) (src : Fin 6) (data : Byte), i ∈ [.dormantWake dt src, .vigilPowerOn dt, .catchupEnd dt, .smbusWake dt data] →
    exec i s = .next t → t = { s with now := t.now, pwr := t.pwr }) ∧
  (∀ (s t : State) (i : Instr) (dt seg bits : Nat), i ∈ [.quotaReclaim dt, .nandScrub dt seg bits, .checkpointWrite dt] →
    exec i s = .next t → t = { s with now := t.now, rcd := t.rcd }) ∧
  (∀ (s t : State) (i : Instr) (dt t1 t2 t3 t4 kind index : Nat) (port : Fin 2) (src dst : Fin 33) (add : Bool), i ∈ [.linkWordSend dt port, .masterLost dt, .announceSend dt, .ringKeyGraceEnd dt, .delayExchange dt port t1 t2 t3 t4, .syncSend dt,
    .ppsOutPulse dt, .subscribeFrame dt ⟨src, dst⟩ add kind index, .ringTxClockLoss dt] →
    exec i s = .next t → t = { s with now := t.now, rng := t.rng }) ∧
  (∀ (s t : State) (i : Instr) (dt : Nat) (value : Word) (date ok : Bool) (temp : Int), i ∈ [.rtcSnapWrite dt value, .rtcHaltSet dt, .rtcCalendarWrite dt date value, .rtcShiftWrite dt value, .rtcSrcRetry dt, .trimWindow dt temp,
    .rtcSrcRetryEnd dt ok] →
    exec i s = .next t → t = { s with now := t.now, rtc := t.rtc }) ∧
  (∀ (s t : State) (i : Instr) (dt : Nat), i ∈ [.tamperNRelease dt] →
    exec i s = .next t → t = { s with now := t.now, sec := t.sec }) ∧
  (∀ (s t : State) (i : Instr) (dt : Nat), i ∈ [.proposalLapse dt] →
    exec i s = .next t → t = { s with now := t.now, spr := t.spr }) ∧
  (∀ (s t : State) (i : Instr) (dt : Nat) (isl : Fin 14), i ∈ [.islandLinkLost dt isl, .islandLinkSilent dt isl, .islandLinkRestored dt isl] →
    exec i s = .next t → t = { s with now := t.now, ana := t.ana, dig := t.dig }) ∧
  (∀ (s t : State) (i : Instr) (dt count : Nat) (flow : Fin 256) (src : Fin 33) (sev : Fin 5) (r : PeerRecord), i ∈ [.streamBlockComplete dt flow, .recordFrame dt src flow sev r, .recordCopyNand dt count] →
    exec i s = .next t → t = { s with now := t.now, flows := t.flows, rcd := t.rcd }) ∧
  (∀ (s t : State) (i : Instr) (dt : Nat) (port : Fin 2), i ∈ [.portLockStable dt port, .linkEpochRenew dt port] →
    exec i s = .next t → t = { s with now := t.now, fresh := t.fresh, rng := t.rng }) ∧
  (∀ (s t : State) (i : Instr) (dt : Nat) (ch : Fin 64), i ∈ [.achChRawRead dt ch, .achOutRbiRead dt ch] →
    exec i s = .next t → t = { s with now := t.now, host := t.host, ana := t.ana }) ∧
  (∀ (s t : State) (i : Instr) (dt : Nat) (ses : Fin 64) (value : Word), i ∈ [.sessionRingEnable dt ses value] →
    exec i s = .next t → t = { s with now := t.now, host := t.host, cp := t.cp }) ∧
  (∀ (s t : State) (i : Instr) (dt : Nat) (pin : Fin 96), i ∈ [.dchPinStatusRead dt pin] →
    exec i s = .next t → t = { s with now := t.now, host := t.host, dig := t.dig }) ∧
  (∀ (s t : State) (i : Instr) (dt : Nat) (pf : Fin 2) (flow : Fin 256), i ∈ [.flushingReadIssue dt pf, .msixMessageDue dt flow] →
    exec i s = .next t → t = { s with now := t.now, host := t.host, flows := t.flows }) ∧
  (∀ (s t : State) (i : Instr) (dt : Nat), i ∈ [.logBatchWrite dt] →
    exec i s = .next t → t = { s with now := t.now, host := t.host, mss := t.mss }) ∧
  (∀ (s t : State) (i : Instr) (dt : Nat), i ∈ [.rtcSubsecRead dt] →
    exec i s = .next t → t = { s with now := t.now, host := t.host, rtc := t.rtc }) ∧
  (∀ (s t : State) (i : Instr) (dt : Nat), i ∈ [.solve dt, .setDecision dt] →
    exec i s = .next t → t = { s with now := t.now, prg := t.prg, rng := t.rng }) ∧
  (∀ (s t : State) (i : Instr) (dt : Nat), i ∈ [.holdoverPanelPark dt] →
    exec i s = .next t → t = { s with now := t.now, pwr := t.pwr, pnl := t.pnl }) ∧
  (∀ (s t : State) (i : Instr) (dt : Nat) (src : Fin 33) (recs : List StoredRecord), i ∈ [.mirrorFrame dt src recs] →
    exec i s = .next t → t = { s with now := t.now, rcd := t.rcd, rng := t.rng }) ∧
  (∀ (s t : State) (i : Instr) (dt : Nat) (group : Fin 256), i ∈ [.reflashEnd dt group] →
    exec i s = .next t → t = { s with now := t.now, dig := t.dig, alm := t.alm, pnl := t.pnl }) ∧
  (∀ (s t : State) (i : Instr) (dt id : Nat) (code : Word) (payload : List Byte) (ses : Fin 64), i ∈ [.forwardAnswerReceive dt id code payload, .forwardNoAnswer dt id, .sessionGrantExpiry dt ses] →
    exec i s = .next t → t = { s with now := t.now, flows := t.flows, cp := t.cp, rcd := t.rcd }) ∧
  (∀ (s t : State) (i : Instr) (dt : Nat) (group : Fin 256), i ∈ [.firstOutDecide dt group] →
    exec i s = .next t → t = { s with now := t.now, flows := t.flows, rcd := t.rcd, alm := t.alm }) ∧
  (∀ (s t : State) (i : Instr) (dt : Nat) (isl : Fin 8) (dev : Vector Int 3) (term : Fin 32), i ∈ [.referenceVote dt isl dev, .clampOnset dt isl term, .blankHoldExpiry dt isl, .longBlanking dt isl, .outputHoldExpiry dt isl] →
    exec i s = .next t → t = { s with now := t.now, flows := t.flows, rcd := t.rcd, ana := t.ana }) ∧
  (∀ (s t : State) (i : Instr) (dt ma ua mv : Nat) (pin : Fin 96) (isl : Fin 6), i ∈ [.openOnDetect dt pin ma, .wireBreakDetect dt pin ua, .lplusStateChange dt isl mv] →
    exec i s = .next t → t = { s with now := t.now, flows := t.flows, rcd := t.rcd, dig := t.dig }) ∧
  (∀ (s t : State) (i : Instr) (dt : Nat), i ∈ [.dbgEnFall dt, .debugExpiry dt] →
    exec i s = .next t → t = { s with now := t.now, flows := t.flows, rcd := t.rcd, mod := t.mod }) ∧
  (∀ (s t : State) (i : Instr) (dt : Nat), i ∈ [.mssHeartbeatLoss dt] →
    exec i s = .next t → t = { s with now := t.now, flows := t.flows, rcd := t.rcd, mss := t.mss }) ∧
  (∀ (s t : State) (i : Instr) (dt : Nat) (t1 : Option Int) (band : Fin 24) (bad : Bool), i ∈ [.panelTempRead dt t1, .panelSensorTimeout dt, .frameMemoryScrub dt band bad] →
    exec i s = .next t → t = { s with now := t.now, flows := t.flows, rcd := t.rcd, pnl := t.pnl }) ∧
  (∀ (s t : State) (i : Instr) (dt : Nat), i ∈ [.solveOverrun dt] →
    exec i s = .next t → t = { s with now := t.now, flows := t.flows, rcd := t.rcd, prg := t.prg }) ∧
  (∀ (s t : State) (i : Instr) (dt mv dv : Nat) (input : Fin 2) (state : Fin 3), i ∈ [.supplyInputChange dt input state mv, .holdCapMeasure dt dv mv, .holdLowCheck dt mv, .holdCharged dt mv] →
    exec i s = .next t → t = { s with now := t.now, flows := t.flows, rcd := t.rcd, pwr := t.pwr }) ∧
  (∀ (s t : State) (i : Instr) (dt : Nat) (port : Fin 2) (word : BitVec 56) (cause : Fin 9) (node src : Fin 33) (kcv epoch rseq : Word) (dup alarm absent los : Bool) (ev : RingEvent) (diag : List Byte), i ∈ [.linkWordReceive dt port word, .portDown dt port cause, .linkWordTimeout dt port, .linkUpFrame dt port node kcv epoch dup,
    .ringEventFrame dt src ev, .standbyTakeover dt, .nodeAdmit dt node, .electionEnd dt, .splitHeal dt, .handoverSwitch dt,
    .ringKeySwitch dt, .timeHoldoverTimeout dt, .timeFreeTimeout dt, .ppsInLoss dt, .mirrorAckFrame dt src rseq, .mirrorResend dt,
    .sfpDiagPoll dt port diag alarm, .sfpModuleEvent dt port absent los] →
    exec i s = .next t → t = { s with now := t.now, flows := t.flows, rcd := t.rcd, rng := t.rng }) ∧
  (∀ (s t : State) (i : Instr) (dt : Nat) (xtal2 : Bool), i ∈ [.rtcOscFail dt xtal2] →
    exec i s = .next t → t = { s with now := t.now, flows := t.flows, rcd := t.rcd, rtc := t.rtc }) ∧
  (∀ (s t : State) (i : Instr) (dt block2 : Nat) (block lane cause : Fin 3) (ok : Bool) (page : Fin 524544), i ∈ [.laneSelfTestEnd dt block lane ok, .pageCorrectedError dt page, .nandBlockFail dt block2 cause] →
    exec i s = .next t → t = { s with now := t.now, flows := t.flows, rcd := t.rcd, spr := t.spr }) ∧
  (∀ (s t : State) (i : Instr) (dt : Nat) (pf : Fin 2) (flow : Fin 256) (value : Word), i ∈ [.flushReadTimeout dt pf, .flwHeadWrite dt flow value, .flwCtlArm dt flow value] →
    exec i s = .next t → t = { s with now := t.now, host := t.host, flows := t.flows, rcd := t.rcd }) ∧
  (∀ (s t : State) (i : Instr) (dt : Nat), i ∈ [.alarmEvalResume dt] →
    exec i s = .next t → t = { s with now := t.now, dig := t.dig, alm := t.alm, pwr := t.pwr, pnl := t.pnl }) ∧
  (∀ (s t : State) (i : Instr) (dt : Nat) (ch : Fin 64), i ∈ [.setPointApply dt ch] →
    exec i s = .next t → t = { s with now := t.now, flows := t.flows, cp := t.cp, rcd := t.rcd, ana := t.ana }) ∧
  (∀ (s t : State) (i : Instr) (dt : Nat) (ch : Fin 64), i ∈ [.calCaptureEnd dt ch] →
    exec i s = .next t → t = { s with now := t.now, flows := t.flows, cp := t.cp, rcd := t.rcd, mod := t.mod }) ∧
  (∀ (s t : State) (i : Instr) (dt : Nat) (t1 : Option Int), i ∈ [.panelUpdateStart dt t1, .panelFrame dt, .panelQueueTimeout dt] →
    exec i s = .next t → t = { s with now := t.now, flows := t.flows, cp := t.cp, rcd := t.rcd, pnl := t.pnl }) ∧
  (∀ (s t : State) (i : Instr) (dt : Nat) (node : Fin 33), i ∈ [.memberDrop dt node] →
    exec i s = .next t → t = { s with now := t.now, flows := t.flows, cp := t.cp, rcd := t.rcd, rng := t.rng }) ∧
  (∀ (s t : State) (i : Instr) (dt ma : Nat) (pin : Fin 96) (still : Bool) (isl : Fin 6) (quad : Fin 4) (cur : Vector Nat 4), i ∈ [.shortLimitTimeout dt pin still ma, .shortRetry dt pin, .thermalShutdown dt pin, .thermalReenable dt pin,
    .groupMemberCheck dt isl quad cur, .digitalHoldExpiry dt isl] →
    exec i s = .next t → t = { s with now := t.now, flows := t.flows, rcd := t.rcd, ana := t.ana, dig := t.dig }) ∧
  (∀ (s t : State) (i : Instr) (dt mj : Nat), i ∈ [.holdoverSeal dt mj] →
    exec i s = .next t → t = { s with now := t.now, flows := t.flows, rcd := t.rcd, pwr := t.pwr, mss := t.mss }) ∧
  (∀ (s t : State) (i : Instr) (dt : Nat), i ∈ [.rtcHaltRelease dt, .rtcHaltTimeout dt] →
    exec i s = .next t → t = { s with now := t.now, flows := t.flows, rcd := t.rcd, rng := t.rng, rtc := t.rtc }) ∧
  (∀ (s t : State) (i : Instr) (dt : Nat) (port : Fin 2) (f : RingFrame), i ∈ [.ringFrameReceive dt port f] →
    exec i s = .next t → t = { s with now := t.now, fresh := t.fresh, flows := t.flows, rcd := t.rcd, rng := t.rng }) ∧
  (∀ (s t : State) (i : Instr) (dt : Nat), i ∈ [.hostReady dt] →
    exec i s = .next t → t = { s with now := t.now, host := t.host, cp := t.cp, pwr := t.pwr, mss := t.mss }) ∧
  (∀ (s t : State) (i : Instr) (dt : Nat) (ses : Fin 64) (value opcode : BitVec 16) (c : Cmd) (err : Option (Fin 3)) (pf : Fin 2) (speed : Fin 4) (width : Fin 5) (pf2 : Fin 3) (cleared entered : Bool) (kind : PcieError) (status : Word) (header : List Byte), i ∈ [.glbSesDbWrite dt ses value, .commandFetch dt ses opcode c err, .itemWriteDue dt, .flushingReadCompletion dt pf,
    .linkWidthChange dt speed width, .linkDown dt, .busMasterDisable dt pf2 cleared, .d3hotEntry dt pf2 entered,
    .pcieUncorrectableError dt pf2 kind status header] →
    exec i s = .next t → t = { s with now := t.now, host := t.host, flows := t.flows, cp := t.cp, rcd := t.rcd }) ∧
  (∀ (s t : State) (i : Instr) (dt : Nat) (index : Fin 40) (v : Option (BitVec 16)), i ∈ [.sensorSample dt index v] →
    exec i s = .next t → t = { s with now := t.now, host := t.host, flows := t.flows, rcd := t.rcd, mss := t.mss }) ∧
  (∀ (s t : State) (i : Instr) (dt count : Nat) (isl : Fin 8) (acked : Bool), i ∈ [.sampleFrameReceive dt isl count acked] →
    exec i s = .next t → t = { s with now := t.now, flows := t.flows, ana := t.ana, alm := t.alm, prg := t.prg, rng := t.rng }) ∧
  (∀ (s t : State) (i : Instr) (dt : Nat) (pin : Fin 96) (rising : Bool), i ∈ [.countEdge dt pin rising, .doStateApply dt pin] →
    exec i s = .next t → t = { s with now := t.now, flows := t.flows, cp := t.cp, rcd := t.rcd, ana := t.ana, dig := t.dig }) ∧
  (∀ (s t : State) (i : Instr) (dt : Nat) (ch : Fin 64), i ∈ [.channelSwitchClose dt ch] →
    exec i s = .next t → t = { s with now := t.now, flows := t.flows, cp := t.cp, rcd := t.rcd, ana := t.ana, spr := t.spr }) ∧
  (∀ (s t : State) (i : Instr) (dt mv : Nat) (isl : Fin 6), i ∈ [.railSwapStep dt ⟨isl, mv⟩] →
    exec i s = .next t → t = { s with now := t.now, flows := t.flows, cp := t.cp, rcd := t.rcd, dig := t.dig, spr := t.spr }) ∧
  (∀ (s t : State) (i : Instr) (dt : Nat) (port : Fin 2) (f : CycleFrame), i ∈ [.cycleFrameReceive dt port f] →
    exec i s = .next t → t = { s with now := t.now, flows := t.flows, cp := t.cp, rcd := t.rcd, prg := t.prg, rng := t.rng }) ∧
  (∀ (s t : State) (i : Instr) (dt : Nat), i ∈ [.rtcSecond dt] →
    exec i s = .next t → t = { s with now := t.now, flows := t.flows, cp := t.cp, rcd := t.rcd, rng := t.rng, rtc := t.rtc }) ∧
  (∀ (s t : State) (i : Instr) (dt : Nat) (rail : Fin 5) (mv : Int), i ∈ [.railFault dt rail mv] →
    exec i s = .next t → t = { s with now := t.now, flows := t.flows, cp := t.cp, rcd := t.rcd, spr := t.spr, pnl := t.pnl }) ∧
  (∀ (s t : State) (i : Instr) (dt : Nat), i ∈ [.programAutostart dt] →
    exec i s = .next t → t = { s with now := t.now, flows := t.flows, rcd := t.rcd, ana := t.ana, dig := t.dig, prg := t.prg }) ∧
  (∀ (s t : State) (i : Instr) (dt : Nat) (isl : Fin 14) (share : Fin 101) (ok : BitVec 2), i ∈ [.supplyPhaseCheck dt isl share ok] →
    exec i s = .next t → t = { s with now := t.now, flows := t.flows, rcd := t.rcd, ana := t.ana, dig := t.dig, spr := t.spr }) ∧
  (∀ (s t : State) (i : Instr) (dt : Nat), i ∈ [.dutySelectorStable dt, .dutySelectorInvalid dt] →
    exec i s = .next t → t = { s with now := t.now, flows := t.flows, rcd := t.rcd, dig := t.dig, alm := t.alm, pnl := t.pnl }) ∧
  (∀ (s t : State) (i : Instr) (dt mv : Nat), i ∈ [.vbatLow dt mv] →
    exec i s = .next t → t = { s with now := t.now, flows := t.flows, rcd := t.rcd, pwr := t.pwr, sec := t.sec, rtc := t.rtc }) ∧
  (∀ (s t : State) (i : Instr) (dt offset size : Nat) (pf : Fin 3), i ∈ [.register64LowRead dt pf ⟨offset, size⟩] →
    exec i s = .next t → t = { s with now := t.now, fresh := t.fresh, host := t.host, ana := t.ana, dig := t.dig, rtc := t.rtc }) ∧
  (∀ (s t : State) (i : Instr) (dt : Nat), i ∈ [.hostRefclkLoss dt, .activationWindowExpiry dt, .stageJobEnd dt] →
    exec i s = .next t → t = { s with now := t.now, host := t.host, flows := t.flows, cp := t.cp, rcd := t.rcd, mss := t.mss }) ∧
  (∀ (s t : State) (i : Instr) (dt : Nat), i ∈ [.trialProven dt] →
    exec i s = .next t → t = { s with now := t.now, host := t.host, flows := t.flows, rcd := t.rcd, mss := t.mss, sec := t.sec }) ∧
  (∀ (s t : State) (i : Instr) (dt mvOn mvOff ua mohm ma pct mv level : Nat) (ch : Fin 64) (fails : List Nat) (pin : Fin 96) (rose : Option Bool) (isl : Fin 8) (slice : Fin 10) (env : Env), i ∈ [.excitationChange dt ⟨ch, fails⟩, .offStateTest dt pin mvOn ⟨mvOff, ua⟩, .ronMeasure dt pin mohm ⟨ma, rose⟩, .spareReferenceCheck dt isl slice pct,
    .directSwap dt ⟨ch, fails⟩, .cellSwapVolt dt ch mv level env] →
    exec i s = .next t → t = { s with now := t.now, flows := t.flows, cp := t.cp, rcd := t.rcd, ana := t.ana, dig := t.dig, spr := t.spr }) ∧
  (∀ (s t : State) (i : Instr) (dt : Nat) (point : Fin 4096) (sup : Bool) (index : Fin 256) (chain : Fin 16), i ∈ [.alarmSample dt, .delayExpiry dt point, .staleTimeout dt point sup, .votePartnerTimeout dt point, .faultSourceChange dt index,
    .suppressionRelease dt point, .silenceExpiry dt point, .shelveExpiry dt point, .escalationStepDue dt point, .ackPinEdge dt chain,
    .silencePinEdge dt chain] →
    exec i s = .next t → t = { s with now := t.now, flows := t.flows, rcd := t.rcd, dig := t.dig, alm := t.alm, rng := t.rng, pnl := t.pnl }) ∧
  (∀ (s t : State) (i : Instr) (dt : Nat), i ∈ [.cycleSnap dt] →
    exec i s = .next t → t = { s with now := t.now, flows := t.flows, cp := t.cp, rcd := t.rcd, ana := t.ana, dig := t.dig, prg := t.prg, rng := t.rng }) ∧
  (∀ (s t : State) (i : Instr) (dt ppm excursion : Nat) (ch : Fin 64) (r : Reading) (r2 : Readback) (fails : List Nat) (isl : Fin 8) (slice : Fin 10), i ∈ [.precisionSample dt ch r, .pulseReadbackCheck dt ch ppm, .outputReadbackSample dt ch r2, .sliceAudit dt ⟨ch, fails⟩ excursion,
    .forcedSliceSwap dt isl slice] →
    exec i s = .next t → t = { s with now := t.now, flows := t.flows, cp := t.cp, rcd := t.rcd, ana := t.ana, dig := t.dig, spr := t.spr, mod := t.mod }) ∧
  (∀ (s t : State) (i : Instr) (dt : Nat) (mv : Vector Int 5) (ripple : Vector Nat 4), i ∈ [.panelRailUp dt mv ripple] →
    exec i s = .next t → t = { s with now := t.now, flows := t.flows, cp := t.cp, rcd := t.rcd, ana := t.ana, dig := t.dig, spr := t.spr, pnl := t.pnl }) ∧
  (∀ (s t : State) (i : Instr) (dt : Nat), i ∈ [.cycleCommit dt] →
    exec i s = .next t → t = { s with now := t.now, flows := t.flows, rcd := t.rcd, ana := t.ana, dig := t.dig, alm := t.alm, prg := t.prg, rng := t.rng }) ∧
  (∀ (s t : State) (i : Instr) (dt since : Nat) (pin : Fin 96) (level : Bool), i ∈ [.inputTransitionAccepted dt pin level since, .inputPeriodicSample dt pin, .countSample dt pin, .freqGateEnd dt pin] →
    exec i s = .next t → t = { s with now := t.now, flows := t.flows, cp := t.cp, rcd := t.rcd, ana := t.ana, dig := t.dig, alm := t.alm, prg := t.prg, rng := t.rng }) ∧
  (∀ (s t : State) (i : Instr) (dt : Nat) (answer : BitVec 14), i ∈ [.restartLinksUp dt answer] →
    exec i s = .next t → t = { s with now := t.now, flows := t.flows, rcd := t.rcd, ana := t.ana, dig := t.dig, prg := t.prg, pwr := t.pwr, mss := t.mss, rtc := t.rtc }) ∧
  (∀ (s t : State) (i : Instr) (dt time : Nat) (dir : Fin 2) (src : Fin 33) (hops : Fin 32) (falling : Bool), i ∈ [.syncReceive dt dir src hops time, .ppsInEdge dt falling] →
    exec i s = .next t → t = { s with now := t.now, fresh := t.fresh, flows := t.flows, rcd := t.rcd, ana := t.ana, dig := t.dig, prg := t.prg, rng := t.rng, rtc := t.rtc }) ∧
  (∀ (s t : State) (i : Instr) (dt : Nat) (lanes : BitVec 9) (hashBad : BitVec 10), i ∈ [.resetRelease dt lanes hashBad] →
    exec i s = .next t → t = { s with now := t.now, fresh := t.fresh, flows := t.flows, rcd := t.rcd, spr := t.spr, mod := t.mod, pwr := t.pwr, mss := t.mss, sec := t.sec }) ∧
  (∀ (s t : State) (i : Instr) (dt : Nat) (isl : Fin 14) (answered : Bool) (ms : Fin 201), i ∈ [.islandImageRestart dt isl answered ms] →
    exec i s = .next t → t = { s with now := t.now, host := t.host, flows := t.flows, cp := t.cp, rcd := t.rcd, ana := t.ana, dig := t.dig, mod := t.mod, mss := t.mss }) ∧
  (∀ (s t : State) (i : Instr) (dt id : Nat), i ∈ [.jobBoundReached dt id] →
    exec i s = .next t → t = { s with now := t.now, host := t.host, flows := t.flows, cp := t.cp, rcd := t.rcd, ana := t.ana, dig := t.dig, spr := t.spr, mss := t.mss, pnl := t.pnl }) ∧
  (∀ (s t : State) (i : Instr) (dt : Nat), i ∈ [.tamperAssert dt] →
    exec i s = .next t → t = { s with now := t.now, host := t.host, flows := t.flows, cp := t.cp, rcd := t.rcd, rng := t.rng, mod := t.mod, pwr := t.pwr, mss := t.mss, sec := t.sec })
end

