-- ==== Sys2Proof/Laws/Tables.lean ====
section
/-! SUPPORT. Keyed tables: a read after a write, and the canonical form. -/

namespace Sys2Proof.Machine

variable {α : Type}

@[simp] theorem tget_nil (d : α) (k : Nat) : tget d [] k = d := rfl

@[simp] theorem tget_tdel_same (d : α) (t : List (Nat × α)) (k : Nat) : tget d (tdel t k) k = d := by
  induction t with
  | nil => rfl
  | cons e r ih =>
    obtain ⟨j, v⟩ := e
    simp only [tdel]
    split
    · exact ih
    · next h => simp [tget, h, ih]

theorem tget_tdel_ne (d : α) (t : List (Nat × α)) {j k : Nat} (h : j ≠ k) : tget d (tdel t k) j = tget d t j := by
  induction t with
  | nil => rfl
  | cons e r ih =>
    obtain ⟨i, v⟩ := e
    simp only [tdel, tget]
    split
    · next hk => subst hk; rw [if_neg (Ne.symm h)]; exact ih
    · simp only [tget]; rw [ih]

@[simp] theorem tget_tput_same (d : α) (t : List (Nat × α)) (k : Nat) (v : α) : tget d (tput t k v) k = v := by
  induction t with
  | nil => simp [tput, tget]
  | cons e r ih =>
    obtain ⟨j, w⟩ := e
    simp only [tput]
    split
    · simp [tget]
    · split
      · simp [tget]
      · next h => simp only [tget]; rw [if_neg (Ne.symm h)]; exact ih

theorem tget_tput_ne (d : α) (t : List (Nat × α)) {j k : Nat} (v : α) (h : j ≠ k) : tget d (tput t k v) j = tget d t j := by
  induction t with
  | nil => simp only [tput, tget]; rw [if_neg (Ne.symm h)]
  | cons e r ih =>
    obtain ⟨i, w⟩ := e
    simp only [tput]
    split
    · simp only [tget]; rw [if_neg (Ne.symm h)]
    · split
      · next hk => subst hk; simp only [tget]; rw [if_neg (Ne.symm h), if_neg (Ne.symm h)]
      · simp only [tget]; rw [ih]

variable [DecidableEq α]

@[simp] theorem tget_tset_same (d : α) (t : List (Nat × α)) (k : Nat) (v : α) : tget d (tset d t k v) k = v := by
  unfold tset
  split
  · next h => rw [h]; exact tget_tdel_same d t k
  · exact tget_tput_same d t k v

theorem tget_tset_ne (d : α) (t : List (Nat × α)) {j k : Nat} (v : α) (h : j ≠ k) : tget d (tset d t k v) j = tget d t j := by
  unfold tset
  split
  · exact tget_tdel_ne d t h
  · exact tget_tput_ne d t v h

theorem tget_tset (d : α) (t : List (Nat × α)) (j k : Nat) (v : α) :
    tget d (tset d t k v) j = if j = k then v else tget d t j := by
  split
  · next h => rw [h]; exact tget_tset_same d t k v
  · next h => exact tget_tset_ne d t v h

/-! ### The canonical form -/

theorem twf_iff (d : α) (t : List (Nat × α)) :
    twf d t = true ↔ (∀ e ∈ t, e.2 ≠ d) ∧ t.Pairwise (fun a b => a.1 < b.1) := by
  simp [twf, List.pairwise_map]

omit [DecidableEq α] in
theorem mem_tdel (t : List (Nat × α)) (k : Nat) (e : Nat × α) : e ∈ tdel t k → e ∈ t := by
  induction t with
  | nil => simp [tdel]
  | cons f r ih =>
    obtain ⟨j, v⟩ := f
    simp only [tdel]
    split
    · intro h; exact List.mem_cons_of_mem _ (ih h)
    · intro h
      cases List.mem_cons.mp h with
      | inl h => simp [h]
      | inr h => exact List.mem_cons_of_mem _ (ih h)

omit [DecidableEq α] in
theorem mem_tput (t : List (Nat × α)) (k : Nat) (v : α) (e : Nat × α) : e ∈ tput t k v → e = (k, v) ∨ e ∈ t := by
  induction t with
  | nil => simp [tput]
  | cons f r ih =>
    obtain ⟨j, w⟩ := f
    simp only [tput]
    split
    · simp
    · split
      · intro h; cases List.mem_cons.mp h with
        | inl h => exact .inl h
        | inr h => exact .inr (List.mem_cons_of_mem _ h)
      · intro h; cases List.mem_cons.mp h with
        | inl h => exact .inr (by simp [h])
        | inr h => exact (ih h).imp id (List.mem_cons_of_mem _)

theorem twf_tdel (d : α) {t : List (Nat × α)} (k : Nat) (h : twf d t = true) : twf d (tdel t k) = true := by
  rw [twf_iff] at *
  refine ⟨fun e he => h.1 e (mem_tdel t k e he), ?_⟩
  have hp := h.2
  clear h
  induction t with
  | nil => exact List.Pairwise.nil
  | cons f r ih =>
    obtain ⟨j, v⟩ := f
    have hc := List.pairwise_cons.mp hp
    simp only [tdel]
    split
    · exact ih hc.2
    · exact List.pairwise_cons.mpr ⟨fun e he => hc.1 e (mem_tdel r k e he), ih hc.2⟩

theorem twf_tput (d : α) {t : List (Nat × α)} (k : Nat) {v : α} (hv : v ≠ d) (h : twf d t = true) : twf d (tput t k v) = true := by
  rw [twf_iff] at *
  refine ⟨fun e he => ?_, ?_⟩
  · cases mem_tput t k v e he with
    | inl h' => rw [h']; exact hv
    | inr h' => exact h.1 e h'
  · have hp := h.2
    clear h
    induction t with
    | nil => simp [tput]
    | cons f r ih =>
      obtain ⟨j, w⟩ := f
      have hc := List.pairwise_cons.mp hp
      simp only [tput]
      split
      · next hlt =>
        refine List.pairwise_cons.mpr ⟨fun e he => ?_, hp⟩
        cases List.mem_cons.mp he with
        | inl h => rw [h]; exact hlt
        | inr h => exact Nat.lt_trans hlt (hc.1 e h)
      · split
        · next hk => exact List.pairwise_cons.mpr ⟨fun e he => by rw [hk]; exact hc.1 e he, hc.2⟩
        · refine List.pairwise_cons.mpr ⟨fun e he => ?_, ih hc.2⟩
          cases mem_tput r k v e he with
          | inl h => rw [h]; show j < k; omega
          | inr h => exact hc.1 e h

/-- Every write keeps the canonical form. -/
theorem twf_tset (d : α) {t : List (Nat × α)} (k : Nat) (v : α) (h : twf d t = true) : twf d (tset d t k v) = true := by
  unfold tset
  split
  · exact twf_tdel d k h
  · next hv => exact twf_tput d k hv h

@[simp] theorem twf_nil (d : α) : twf d [] = true := rfl

end Sys2Proof.Machine
end

