-- ==== Sys2Proof/Laws/State.lean ====
section
/-! SUPPORT. What each update of the state changes and leaves: one lemma for each field, and a read after a write of each table. -/

namespace Sys2Proof.Machine

/-! advance -/
@[simp] theorem State.advance_pending (s : State) (dt : Nat) : (s.advance dt).pending = s.pending := rfl
@[simp] theorem State.advance_now (s : State) (dt : Nat) : (s.advance dt).now = s.now + dt := rfl
@[simp] theorem State.advance_fresh (s : State) (dt : Nat) : (s.advance dt).fresh = s.fresh := rfl
@[simp] theorem State.advance_host (s : State) (dt : Nat) : (s.advance dt).host = s.host := rfl
@[simp] theorem State.advance_flows (s : State) (dt : Nat) : (s.advance dt).flows = s.flows := rfl
@[simp] theorem State.advance_cp (s : State) (dt : Nat) : (s.advance dt).cp = s.cp := rfl
@[simp] theorem State.advance_rcd (s : State) (dt : Nat) : (s.advance dt).rcd = s.rcd := rfl
@[simp] theorem State.advance_ana (s : State) (dt : Nat) : (s.advance dt).ana = s.ana := rfl
@[simp] theorem State.advance_dig (s : State) (dt : Nat) : (s.advance dt).dig = s.dig := rfl
@[simp] theorem State.advance_alm (s : State) (dt : Nat) : (s.advance dt).alm = s.alm := rfl
@[simp] theorem State.advance_prg (s : State) (dt : Nat) : (s.advance dt).prg = s.prg := rfl
@[simp] theorem State.advance_rng (s : State) (dt : Nat) : (s.advance dt).rng = s.rng := rfl
@[simp] theorem State.advance_spr (s : State) (dt : Nat) : (s.advance dt).spr = s.spr := rfl
@[simp] theorem State.advance_mod (s : State) (dt : Nat) : (s.advance dt).mod = s.mod := rfl
@[simp] theorem State.advance_pwr (s : State) (dt : Nat) : (s.advance dt).pwr = s.pwr := rfl
@[simp] theorem State.advance_mss (s : State) (dt : Nat) : (s.advance dt).mss = s.mss := rfl
@[simp] theorem State.advance_sec (s : State) (dt : Nat) : (s.advance dt).sec = s.sec := rfl
@[simp] theorem State.advance_pnl (s : State) (dt : Nat) : (s.advance dt).pnl = s.pnl := rfl
@[simp] theorem State.advance_rtc (s : State) (dt : Nat) : (s.advance dt).rtc = s.rtc := rfl
@[simp] theorem State.advance_other (s : State) (dt : Nat) : (s.advance dt).other = s.other := rfl

/-! setFlow -/
@[simp] theorem State.setFlow_pending (s : State) (f : Nat) (x : Flow) : (s.setFlow f x).pending = s.pending := rfl
@[simp] theorem State.setFlow_now (s : State) (f : Nat) (x : Flow) : (s.setFlow f x).now = s.now := rfl
@[simp] theorem State.setFlow_fresh (s : State) (f : Nat) (x : Flow) : (s.setFlow f x).fresh = s.fresh := rfl
@[simp] theorem State.setFlow_host (s : State) (f : Nat) (x : Flow) : (s.setFlow f x).host = s.host := rfl
@[simp] theorem State.setFlow_flows (s : State) (f : Nat) (x : Flow) : (s.setFlow f x).flows = tset {} s.flows f x := rfl
@[simp] theorem State.setFlow_cp (s : State) (f : Nat) (x : Flow) : (s.setFlow f x).cp = s.cp := rfl
@[simp] theorem State.setFlow_rcd (s : State) (f : Nat) (x : Flow) : (s.setFlow f x).rcd = s.rcd := rfl
@[simp] theorem State.setFlow_ana (s : State) (f : Nat) (x : Flow) : (s.setFlow f x).ana = s.ana := rfl
@[simp] theorem State.setFlow_dig (s : State) (f : Nat) (x : Flow) : (s.setFlow f x).dig = s.dig := rfl
@[simp] theorem State.setFlow_alm (s : State) (f : Nat) (x : Flow) : (s.setFlow f x).alm = s.alm := rfl
@[simp] theorem State.setFlow_prg (s : State) (f : Nat) (x : Flow) : (s.setFlow f x).prg = s.prg := rfl
@[simp] theorem State.setFlow_rng (s : State) (f : Nat) (x : Flow) : (s.setFlow f x).rng = s.rng := rfl
@[simp] theorem State.setFlow_spr (s : State) (f : Nat) (x : Flow) : (s.setFlow f x).spr = s.spr := rfl
@[simp] theorem State.setFlow_mod (s : State) (f : Nat) (x : Flow) : (s.setFlow f x).mod = s.mod := rfl
@[simp] theorem State.setFlow_pwr (s : State) (f : Nat) (x : Flow) : (s.setFlow f x).pwr = s.pwr := rfl
@[simp] theorem State.setFlow_mss (s : State) (f : Nat) (x : Flow) : (s.setFlow f x).mss = s.mss := rfl
@[simp] theorem State.setFlow_sec (s : State) (f : Nat) (x : Flow) : (s.setFlow f x).sec = s.sec := rfl
@[simp] theorem State.setFlow_pnl (s : State) (f : Nat) (x : Flow) : (s.setFlow f x).pnl = s.pnl := rfl
@[simp] theorem State.setFlow_rtc (s : State) (f : Nat) (x : Flow) : (s.setFlow f x).rtc = s.rtc := rfl
@[simp] theorem State.setFlow_other (s : State) (f : Nat) (x : Flow) : (s.setFlow f x).other = s.other := rfl

/-! busOp -/
@[simp] theorem State.busOp_pending (s : State) (b : BusOp) : (s.busOp b).pending = s.pending := rfl
@[simp] theorem State.busOp_now (s : State) (b : BusOp) : (s.busOp b).now = s.now := rfl
@[simp] theorem State.busOp_fresh (s : State) (b : BusOp) : (s.busOp b).fresh = s.fresh := rfl
@[simp] theorem State.busOp_host (s : State) (b : BusOp) : (s.busOp b).host = { s.host with bus := s.host.bus ++ [b] } := rfl
@[simp] theorem State.busOp_flows (s : State) (b : BusOp) : (s.busOp b).flows = s.flows := rfl
@[simp] theorem State.busOp_cp (s : State) (b : BusOp) : (s.busOp b).cp = s.cp := rfl
@[simp] theorem State.busOp_rcd (s : State) (b : BusOp) : (s.busOp b).rcd = s.rcd := rfl
@[simp] theorem State.busOp_ana (s : State) (b : BusOp) : (s.busOp b).ana = s.ana := rfl
@[simp] theorem State.busOp_dig (s : State) (b : BusOp) : (s.busOp b).dig = s.dig := rfl
@[simp] theorem State.busOp_alm (s : State) (b : BusOp) : (s.busOp b).alm = s.alm := rfl
@[simp] theorem State.busOp_prg (s : State) (b : BusOp) : (s.busOp b).prg = s.prg := rfl
@[simp] theorem State.busOp_rng (s : State) (b : BusOp) : (s.busOp b).rng = s.rng := rfl
@[simp] theorem State.busOp_spr (s : State) (b : BusOp) : (s.busOp b).spr = s.spr := rfl
@[simp] theorem State.busOp_mod (s : State) (b : BusOp) : (s.busOp b).mod = s.mod := rfl
@[simp] theorem State.busOp_pwr (s : State) (b : BusOp) : (s.busOp b).pwr = s.pwr := rfl
@[simp] theorem State.busOp_mss (s : State) (b : BusOp) : (s.busOp b).mss = s.mss := rfl
@[simp] theorem State.busOp_sec (s : State) (b : BusOp) : (s.busOp b).sec = s.sec := rfl
@[simp] theorem State.busOp_pnl (s : State) (b : BusOp) : (s.busOp b).pnl = s.pnl := rfl
@[simp] theorem State.busOp_rtc (s : State) (b : BusOp) : (s.busOp b).rtc = s.rtc := rfl
@[simp] theorem State.busOp_other (s : State) (b : BusOp) : (s.busOp b).other = s.other := rfl

/-! reads -/
@[simp] theorem State.reads_pending (s : State) (v : Nat) : (s.reads v).pending = s.pending := rfl
@[simp] theorem State.reads_now (s : State) (v : Nat) : (s.reads v).now = s.now := rfl
@[simp] theorem State.reads_fresh (s : State) (v : Nat) : (s.reads v).fresh = s.fresh := rfl
@[simp] theorem State.reads_host (s : State) (v : Nat) : (s.reads v).host = { s.host with readValue := v } := rfl
@[simp] theorem State.reads_flows (s : State) (v : Nat) : (s.reads v).flows = s.flows := rfl
@[simp] theorem State.reads_cp (s : State) (v : Nat) : (s.reads v).cp = s.cp := rfl
@[simp] theorem State.reads_rcd (s : State) (v : Nat) : (s.reads v).rcd = s.rcd := rfl
@[simp] theorem State.reads_ana (s : State) (v : Nat) : (s.reads v).ana = s.ana := rfl
@[simp] theorem State.reads_dig (s : State) (v : Nat) : (s.reads v).dig = s.dig := rfl
@[simp] theorem State.reads_alm (s : State) (v : Nat) : (s.reads v).alm = s.alm := rfl
@[simp] theorem State.reads_prg (s : State) (v : Nat) : (s.reads v).prg = s.prg := rfl
@[simp] theorem State.reads_rng (s : State) (v : Nat) : (s.reads v).rng = s.rng := rfl
@[simp] theorem State.reads_spr (s : State) (v : Nat) : (s.reads v).spr = s.spr := rfl
@[simp] theorem State.reads_mod (s : State) (v : Nat) : (s.reads v).mod = s.mod := rfl
@[simp] theorem State.reads_pwr (s : State) (v : Nat) : (s.reads v).pwr = s.pwr := rfl
@[simp] theorem State.reads_mss (s : State) (v : Nat) : (s.reads v).mss = s.mss := rfl
@[simp] theorem State.reads_sec (s : State) (v : Nat) : (s.reads v).sec = s.sec := rfl
@[simp] theorem State.reads_pnl (s : State) (v : Nat) : (s.reads v).pnl = s.pnl := rfl
@[simp] theorem State.reads_rtc (s : State) (v : Nat) : (s.reads v).rtc = s.rtc := rfl
@[simp] theorem State.reads_other (s : State) (v : Nat) : (s.reads v).other = s.other := rfl

/-! setSession -/
@[simp] theorem State.setSession_pending (s : State) (n : Nat) (x : Session) : (s.setSession n x).pending = s.pending := rfl
@[simp] theorem State.setSession_now (s : State) (n : Nat) (x : Session) : (s.setSession n x).now = s.now := rfl
@[simp] theorem State.setSession_fresh (s : State) (n : Nat) (x : Session) : (s.setSession n x).fresh = s.fresh := rfl
@[simp] theorem State.setSession_host (s : State) (n : Nat) (x : Session) : (s.setSession n x).host = s.host := rfl
@[simp] theorem State.setSession_flows (s : State) (n : Nat) (x : Session) : (s.setSession n x).flows = s.flows := rfl
@[simp] theorem State.setSession_cp (s : State) (n : Nat) (x : Session) : (s.setSession n x).cp = { s.cp with ses := tset {} s.cp.ses n x } := rfl
@[simp] theorem State.setSession_rcd (s : State) (n : Nat) (x : Session) : (s.setSession n x).rcd = s.rcd := rfl
@[simp] theorem State.setSession_ana (s : State) (n : Nat) (x : Session) : (s.setSession n x).ana = s.ana := rfl
@[simp] theorem State.setSession_dig (s : State) (n : Nat) (x : Session) : (s.setSession n x).dig = s.dig := rfl
@[simp] theorem State.setSession_alm (s : State) (n : Nat) (x : Session) : (s.setSession n x).alm = s.alm := rfl
@[simp] theorem State.setSession_prg (s : State) (n : Nat) (x : Session) : (s.setSession n x).prg = s.prg := rfl
@[simp] theorem State.setSession_rng (s : State) (n : Nat) (x : Session) : (s.setSession n x).rng = s.rng := rfl
@[simp] theorem State.setSession_spr (s : State) (n : Nat) (x : Session) : (s.setSession n x).spr = s.spr := rfl
@[simp] theorem State.setSession_mod (s : State) (n : Nat) (x : Session) : (s.setSession n x).mod = s.mod := rfl
@[simp] theorem State.setSession_pwr (s : State) (n : Nat) (x : Session) : (s.setSession n x).pwr = s.pwr := rfl
@[simp] theorem State.setSession_mss (s : State) (n : Nat) (x : Session) : (s.setSession n x).mss = s.mss := rfl
@[simp] theorem State.setSession_sec (s : State) (n : Nat) (x : Session) : (s.setSession n x).sec = s.sec := rfl
@[simp] theorem State.setSession_pnl (s : State) (n : Nat) (x : Session) : (s.setSession n x).pnl = s.pnl := rfl
@[simp] theorem State.setSession_rtc (s : State) (n : Nat) (x : Session) : (s.setSession n x).rtc = s.rtc := rfl
@[simp] theorem State.setSession_other (s : State) (n : Nat) (x : Session) : (s.setSession n x).other = s.other := rfl

/-! setRing -/
@[simp] theorem State.setRing_pending (s : State) (n : Nat) (x : SesRing) : (s.setRing n x).pending = s.pending := rfl
@[simp] theorem State.setRing_now (s : State) (n : Nat) (x : SesRing) : (s.setRing n x).now = s.now := rfl
@[simp] theorem State.setRing_fresh (s : State) (n : Nat) (x : SesRing) : (s.setRing n x).fresh = s.fresh := rfl
@[simp] theorem State.setRing_host (s : State) (n : Nat) (x : SesRing) : (s.setRing n x).host = s.host := rfl
@[simp] theorem State.setRing_flows (s : State) (n : Nat) (x : SesRing) : (s.setRing n x).flows = s.flows := rfl
@[simp] theorem State.setRing_cp (s : State) (n : Nat) (x : SesRing) : (s.setRing n x).cp = { s.cp with rings := tset {} s.cp.rings n x } := rfl
@[simp] theorem State.setRing_rcd (s : State) (n : Nat) (x : SesRing) : (s.setRing n x).rcd = s.rcd := rfl
@[simp] theorem State.setRing_ana (s : State) (n : Nat) (x : SesRing) : (s.setRing n x).ana = s.ana := rfl
@[simp] theorem State.setRing_dig (s : State) (n : Nat) (x : SesRing) : (s.setRing n x).dig = s.dig := rfl
@[simp] theorem State.setRing_alm (s : State) (n : Nat) (x : SesRing) : (s.setRing n x).alm = s.alm := rfl
@[simp] theorem State.setRing_prg (s : State) (n : Nat) (x : SesRing) : (s.setRing n x).prg = s.prg := rfl
@[simp] theorem State.setRing_rng (s : State) (n : Nat) (x : SesRing) : (s.setRing n x).rng = s.rng := rfl
@[simp] theorem State.setRing_spr (s : State) (n : Nat) (x : SesRing) : (s.setRing n x).spr = s.spr := rfl
@[simp] theorem State.setRing_mod (s : State) (n : Nat) (x : SesRing) : (s.setRing n x).mod = s.mod := rfl
@[simp] theorem State.setRing_pwr (s : State) (n : Nat) (x : SesRing) : (s.setRing n x).pwr = s.pwr := rfl
@[simp] theorem State.setRing_mss (s : State) (n : Nat) (x : SesRing) : (s.setRing n x).mss = s.mss := rfl
@[simp] theorem State.setRing_sec (s : State) (n : Nat) (x : SesRing) : (s.setRing n x).sec = s.sec := rfl
@[simp] theorem State.setRing_pnl (s : State) (n : Nat) (x : SesRing) : (s.setRing n x).pnl = s.pnl := rfl
@[simp] theorem State.setRing_rtc (s : State) (n : Nat) (x : SesRing) : (s.setRing n x).rtc = s.rtc := rfl
@[simp] theorem State.setRing_other (s : State) (n : Nat) (x : SesRing) : (s.setRing n x).other = s.other := rfl

/-! setCmd -/
@[simp] theorem State.setCmd_pending (s : State) (e : CmdEntry) : (s.setCmd e).pending = s.pending := rfl
@[simp] theorem State.setCmd_now (s : State) (e : CmdEntry) : (s.setCmd e).now = s.now := rfl
@[simp] theorem State.setCmd_fresh (s : State) (e : CmdEntry) : (s.setCmd e).fresh = s.fresh := rfl
@[simp] theorem State.setCmd_host (s : State) (e : CmdEntry) : (s.setCmd e).host = s.host := rfl
@[simp] theorem State.setCmd_flows (s : State) (e : CmdEntry) : (s.setCmd e).flows = s.flows := rfl
@[simp] theorem State.setCmd_cp (s : State) (e : CmdEntry) : (s.setCmd e).cp = { s.cp with exec := s.cp.exec.map fun x => if x.id = e.id then e else x } := rfl
@[simp] theorem State.setCmd_rcd (s : State) (e : CmdEntry) : (s.setCmd e).rcd = s.rcd := rfl
@[simp] theorem State.setCmd_ana (s : State) (e : CmdEntry) : (s.setCmd e).ana = s.ana := rfl
@[simp] theorem State.setCmd_dig (s : State) (e : CmdEntry) : (s.setCmd e).dig = s.dig := rfl
@[simp] theorem State.setCmd_alm (s : State) (e : CmdEntry) : (s.setCmd e).alm = s.alm := rfl
@[simp] theorem State.setCmd_prg (s : State) (e : CmdEntry) : (s.setCmd e).prg = s.prg := rfl
@[simp] theorem State.setCmd_rng (s : State) (e : CmdEntry) : (s.setCmd e).rng = s.rng := rfl
@[simp] theorem State.setCmd_spr (s : State) (e : CmdEntry) : (s.setCmd e).spr = s.spr := rfl
@[simp] theorem State.setCmd_mod (s : State) (e : CmdEntry) : (s.setCmd e).mod = s.mod := rfl
@[simp] theorem State.setCmd_pwr (s : State) (e : CmdEntry) : (s.setCmd e).pwr = s.pwr := rfl
@[simp] theorem State.setCmd_mss (s : State) (e : CmdEntry) : (s.setCmd e).mss = s.mss := rfl
@[simp] theorem State.setCmd_sec (s : State) (e : CmdEntry) : (s.setCmd e).sec = s.sec := rfl
@[simp] theorem State.setCmd_pnl (s : State) (e : CmdEntry) : (s.setCmd e).pnl = s.pnl := rfl
@[simp] theorem State.setCmd_rtc (s : State) (e : CmdEntry) : (s.setCmd e).rtc = s.rtc := rfl
@[simp] theorem State.setCmd_other (s : State) (e : CmdEntry) : (s.setCmd e).other = s.other := rfl

/-! dropCmd -/
@[simp] theorem State.dropCmd_pending (s : State) (n : Nat) : (s.dropCmd n).pending = s.pending := rfl
@[simp] theorem State.dropCmd_now (s : State) (n : Nat) : (s.dropCmd n).now = s.now := rfl
@[simp] theorem State.dropCmd_fresh (s : State) (n : Nat) : (s.dropCmd n).fresh = s.fresh := rfl
@[simp] theorem State.dropCmd_host (s : State) (n : Nat) : (s.dropCmd n).host = s.host := rfl
@[simp] theorem State.dropCmd_flows (s : State) (n : Nat) : (s.dropCmd n).flows = s.flows := rfl
@[simp] theorem State.dropCmd_cp (s : State) (n : Nat) : (s.dropCmd n).cp = { s.cp with exec := s.cp.exec.filter fun x => x.id ≠ n } := rfl
@[simp] theorem State.dropCmd_rcd (s : State) (n : Nat) : (s.dropCmd n).rcd = s.rcd := rfl
@[simp] theorem State.dropCmd_ana (s : State) (n : Nat) : (s.dropCmd n).ana = s.ana := rfl
@[simp] theorem State.dropCmd_dig (s : State) (n : Nat) : (s.dropCmd n).dig = s.dig := rfl
@[simp] theorem State.dropCmd_alm (s : State) (n : Nat) : (s.dropCmd n).alm = s.alm := rfl
@[simp] theorem State.dropCmd_prg (s : State) (n : Nat) : (s.dropCmd n).prg = s.prg := rfl
@[simp] theorem State.dropCmd_rng (s : State) (n : Nat) : (s.dropCmd n).rng = s.rng := rfl
@[simp] theorem State.dropCmd_spr (s : State) (n : Nat) : (s.dropCmd n).spr = s.spr := rfl
@[simp] theorem State.dropCmd_mod (s : State) (n : Nat) : (s.dropCmd n).mod = s.mod := rfl
@[simp] theorem State.dropCmd_pwr (s : State) (n : Nat) : (s.dropCmd n).pwr = s.pwr := rfl
@[simp] theorem State.dropCmd_mss (s : State) (n : Nat) : (s.dropCmd n).mss = s.mss := rfl
@[simp] theorem State.dropCmd_sec (s : State) (n : Nat) : (s.dropCmd n).sec = s.sec := rfl
@[simp] theorem State.dropCmd_pnl (s : State) (n : Nat) : (s.dropCmd n).pnl = s.pnl := rfl
@[simp] theorem State.dropCmd_rtc (s : State) (n : Nat) : (s.dropCmd n).rtc = s.rtc := rfl
@[simp] theorem State.dropCmd_other (s : State) (n : Nat) : (s.dropCmd n).other = s.other := rfl

/-! setChan -/
@[simp] theorem State.setChan_pending (s : State) (g : Nat) (x : Chan) : (s.setChan g x).pending = s.pending := rfl
@[simp] theorem State.setChan_now (s : State) (g : Nat) (x : Chan) : (s.setChan g x).now = s.now := rfl
@[simp] theorem State.setChan_fresh (s : State) (g : Nat) (x : Chan) : (s.setChan g x).fresh = s.fresh := rfl
@[simp] theorem State.setChan_host (s : State) (g : Nat) (x : Chan) : (s.setChan g x).host = s.host := rfl
@[simp] theorem State.setChan_flows (s : State) (g : Nat) (x : Chan) : (s.setChan g x).flows = s.flows := rfl
@[simp] theorem State.setChan_cp (s : State) (g : Nat) (x : Chan) : (s.setChan g x).cp = s.cp := rfl
@[simp] theorem State.setChan_rcd (s : State) (g : Nat) (x : Chan) : (s.setChan g x).rcd = s.rcd := rfl
@[simp] theorem State.setChan_ana (s : State) (g : Nat) (x : Chan) : (s.setChan g x).ana = { s.ana with chans := tset {} s.ana.chans g x } := rfl
@[simp] theorem State.setChan_dig (s : State) (g : Nat) (x : Chan) : (s.setChan g x).dig = s.dig := rfl
@[simp] theorem State.setChan_alm (s : State) (g : Nat) (x : Chan) : (s.setChan g x).alm = s.alm := rfl
@[simp] theorem State.setChan_prg (s : State) (g : Nat) (x : Chan) : (s.setChan g x).prg = s.prg := rfl
@[simp] theorem State.setChan_rng (s : State) (g : Nat) (x : Chan) : (s.setChan g x).rng = s.rng := rfl
@[simp] theorem State.setChan_spr (s : State) (g : Nat) (x : Chan) : (s.setChan g x).spr = s.spr := rfl
@[simp] theorem State.setChan_mod (s : State) (g : Nat) (x : Chan) : (s.setChan g x).mod = s.mod := rfl
@[simp] theorem State.setChan_pwr (s : State) (g : Nat) (x : Chan) : (s.setChan g x).pwr = s.pwr := rfl
@[simp] theorem State.setChan_mss (s : State) (g : Nat) (x : Chan) : (s.setChan g x).mss = s.mss := rfl
@[simp] theorem State.setChan_sec (s : State) (g : Nat) (x : Chan) : (s.setChan g x).sec = s.sec := rfl
@[simp] theorem State.setChan_pnl (s : State) (g : Nat) (x : Chan) : (s.setChan g x).pnl = s.pnl := rfl
@[simp] theorem State.setChan_rtc (s : State) (g : Nat) (x : Chan) : (s.setChan g x).rtc = s.rtc := rfl
@[simp] theorem State.setChan_other (s : State) (g : Nat) (x : Chan) : (s.setChan g x).other = s.other := rfl

/-! setOut -/
@[simp] theorem State.setOut_pending (s : State) (g : Nat) (x : Output) : (s.setOut g x).pending = s.pending := rfl
@[simp] theorem State.setOut_now (s : State) (g : Nat) (x : Output) : (s.setOut g x).now = s.now := rfl
@[simp] theorem State.setOut_fresh (s : State) (g : Nat) (x : Output) : (s.setOut g x).fresh = s.fresh := rfl
@[simp] theorem State.setOut_host (s : State) (g : Nat) (x : Output) : (s.setOut g x).host = s.host := rfl
@[simp] theorem State.setOut_flows (s : State) (g : Nat) (x : Output) : (s.setOut g x).flows = s.flows := rfl
@[simp] theorem State.setOut_cp (s : State) (g : Nat) (x : Output) : (s.setOut g x).cp = s.cp := rfl
@[simp] theorem State.setOut_rcd (s : State) (g : Nat) (x : Output) : (s.setOut g x).rcd = s.rcd := rfl
@[simp] theorem State.setOut_ana (s : State) (g : Nat) (x : Output) : (s.setOut g x).ana = { s.ana with outs := tset {} s.ana.outs g x } := rfl
@[simp] theorem State.setOut_dig (s : State) (g : Nat) (x : Output) : (s.setOut g x).dig = s.dig := rfl
@[simp] theorem State.setOut_alm (s : State) (g : Nat) (x : Output) : (s.setOut g x).alm = s.alm := rfl
@[simp] theorem State.setOut_prg (s : State) (g : Nat) (x : Output) : (s.setOut g x).prg = s.prg := rfl
@[simp] theorem State.setOut_rng (s : State) (g : Nat) (x : Output) : (s.setOut g x).rng = s.rng := rfl
@[simp] theorem State.setOut_spr (s : State) (g : Nat) (x : Output) : (s.setOut g x).spr = s.spr := rfl
@[simp] theorem State.setOut_mod (s : State) (g : Nat) (x : Output) : (s.setOut g x).mod = s.mod := rfl
@[simp] theorem State.setOut_pwr (s : State) (g : Nat) (x : Output) : (s.setOut g x).pwr = s.pwr := rfl
@[simp] theorem State.setOut_mss (s : State) (g : Nat) (x : Output) : (s.setOut g x).mss = s.mss := rfl
@[simp] theorem State.setOut_sec (s : State) (g : Nat) (x : Output) : (s.setOut g x).sec = s.sec := rfl
@[simp] theorem State.setOut_pnl (s : State) (g : Nat) (x : Output) : (s.setOut g x).pnl = s.pnl := rfl
@[simp] theorem State.setOut_rtc (s : State) (g : Nat) (x : Output) : (s.setOut g x).rtc = s.rtc := rfl
@[simp] theorem State.setOut_other (s : State) (g : Nat) (x : Output) : (s.setOut g x).other = s.other := rfl

/-! setAisl -/
@[simp] theorem State.setAisl_pending (s : State) (i : Nat) (x : AIsland) : (s.setAisl i x).pending = s.pending := rfl
@[simp] theorem State.setAisl_now (s : State) (i : Nat) (x : AIsland) : (s.setAisl i x).now = s.now := rfl
@[simp] theorem State.setAisl_fresh (s : State) (i : Nat) (x : AIsland) : (s.setAisl i x).fresh = s.fresh := rfl
@[simp] theorem State.setAisl_host (s : State) (i : Nat) (x : AIsland) : (s.setAisl i x).host = s.host := rfl
@[simp] theorem State.setAisl_flows (s : State) (i : Nat) (x : AIsland) : (s.setAisl i x).flows = s.flows := rfl
@[simp] theorem State.setAisl_cp (s : State) (i : Nat) (x : AIsland) : (s.setAisl i x).cp = s.cp := rfl
@[simp] theorem State.setAisl_rcd (s : State) (i : Nat) (x : AIsland) : (s.setAisl i x).rcd = s.rcd := rfl
@[simp] theorem State.setAisl_ana (s : State) (i : Nat) (x : AIsland) : (s.setAisl i x).ana = { s.ana with isls := tset {} s.ana.isls i x } := rfl
@[simp] theorem State.setAisl_dig (s : State) (i : Nat) (x : AIsland) : (s.setAisl i x).dig = s.dig := rfl
@[simp] theorem State.setAisl_alm (s : State) (i : Nat) (x : AIsland) : (s.setAisl i x).alm = s.alm := rfl
@[simp] theorem State.setAisl_prg (s : State) (i : Nat) (x : AIsland) : (s.setAisl i x).prg = s.prg := rfl
@[simp] theorem State.setAisl_rng (s : State) (i : Nat) (x : AIsland) : (s.setAisl i x).rng = s.rng := rfl
@[simp] theorem State.setAisl_spr (s : State) (i : Nat) (x : AIsland) : (s.setAisl i x).spr = s.spr := rfl
@[simp] theorem State.setAisl_mod (s : State) (i : Nat) (x : AIsland) : (s.setAisl i x).mod = s.mod := rfl
@[simp] theorem State.setAisl_pwr (s : State) (i : Nat) (x : AIsland) : (s.setAisl i x).pwr = s.pwr := rfl
@[simp] theorem State.setAisl_mss (s : State) (i : Nat) (x : AIsland) : (s.setAisl i x).mss = s.mss := rfl
@[simp] theorem State.setAisl_sec (s : State) (i : Nat) (x : AIsland) : (s.setAisl i x).sec = s.sec := rfl
@[simp] theorem State.setAisl_pnl (s : State) (i : Nat) (x : AIsland) : (s.setAisl i x).pnl = s.pnl := rfl
@[simp] theorem State.setAisl_rtc (s : State) (i : Nat) (x : AIsland) : (s.setAisl i x).rtc = s.rtc := rfl
@[simp] theorem State.setAisl_other (s : State) (i : Nat) (x : AIsland) : (s.setAisl i x).other = s.other := rfl

/-! setDisl -/
@[simp] theorem State.setDisl_pending (s : State) (d : Nat) (x : DIsland) : (s.setDisl d x).pending = s.pending := rfl
@[simp] theorem State.setDisl_now (s : State) (d : Nat) (x : DIsland) : (s.setDisl d x).now = s.now := rfl
@[simp] theorem State.setDisl_fresh (s : State) (d : Nat) (x : DIsland) : (s.setDisl d x).fresh = s.fresh := rfl
@[simp] theorem State.setDisl_host (s : State) (d : Nat) (x : DIsland) : (s.setDisl d x).host = s.host := rfl
@[simp] theorem State.setDisl_flows (s : State) (d : Nat) (x : DIsland) : (s.setDisl d x).flows = s.flows := rfl
@[simp] theorem State.setDisl_cp (s : State) (d : Nat) (x : DIsland) : (s.setDisl d x).cp = s.cp := rfl
@[simp] theorem State.setDisl_rcd (s : State) (d : Nat) (x : DIsland) : (s.setDisl d x).rcd = s.rcd := rfl
@[simp] theorem State.setDisl_ana (s : State) (d : Nat) (x : DIsland) : (s.setDisl d x).ana = s.ana := rfl
@[simp] theorem State.setDisl_alm (s : State) (d : Nat) (x : DIsland) : (s.setDisl d x).alm = s.alm := rfl
@[simp] theorem State.setDisl_prg (s : State) (d : Nat) (x : DIsland) : (s.setDisl d x).prg = s.prg := rfl
@[simp] theorem State.setDisl_rng (s : State) (d : Nat) (x : DIsland) : (s.setDisl d x).rng = s.rng := rfl
@[simp] theorem State.setDisl_spr (s : State) (d : Nat) (x : DIsland) : (s.setDisl d x).spr = s.spr := rfl
@[simp] theorem State.setDisl_mod (s : State) (d : Nat) (x : DIsland) : (s.setDisl d x).mod = s.mod := rfl
@[simp] theorem State.setDisl_pwr (s : State) (d : Nat) (x : DIsland) : (s.setDisl d x).pwr = s.pwr := rfl
@[simp] theorem State.setDisl_mss (s : State) (d : Nat) (x : DIsland) : (s.setDisl d x).mss = s.mss := rfl
@[simp] theorem State.setDisl_sec (s : State) (d : Nat) (x : DIsland) : (s.setDisl d x).sec = s.sec := rfl
@[simp] theorem State.setDisl_pnl (s : State) (d : Nat) (x : DIsland) : (s.setDisl d x).pnl = s.pnl := rfl
@[simp] theorem State.setDisl_rtc (s : State) (d : Nat) (x : DIsland) : (s.setDisl d x).rtc = s.rtc := rfl
@[simp] theorem State.setDisl_other (s : State) (d : Nat) (x : DIsland) : (s.setDisl d x).other = s.other := rfl

/-! setPin -/
@[simp] theorem State.setPin_pending (s : State) (g : Nat) (x : Pin) : (s.setPin g x).pending = s.pending := rfl
@[simp] theorem State.setPin_now (s : State) (g : Nat) (x : Pin) : (s.setPin g x).now = s.now := rfl
@[simp] theorem State.setPin_fresh (s : State) (g : Nat) (x : Pin) : (s.setPin g x).fresh = s.fresh := rfl
@[simp] theorem State.setPin_host (s : State) (g : Nat) (x : Pin) : (s.setPin g x).host = s.host := rfl
@[simp] theorem State.setPin_flows (s : State) (g : Nat) (x : Pin) : (s.setPin g x).flows = s.flows := rfl
@[simp] theorem State.setPin_cp (s : State) (g : Nat) (x : Pin) : (s.setPin g x).cp = s.cp := rfl
@[simp] theorem State.setPin_rcd (s : State) (g : Nat) (x : Pin) : (s.setPin g x).rcd = s.rcd := rfl
@[simp] theorem State.setPin_ana (s : State) (g : Nat) (x : Pin) : (s.setPin g x).ana = s.ana := rfl
@[simp] theorem State.setPin_alm (s : State) (g : Nat) (x : Pin) : (s.setPin g x).alm = s.alm := rfl
@[simp] theorem State.setPin_prg (s : State) (g : Nat) (x : Pin) : (s.setPin g x).prg = s.prg := rfl
@[simp] theorem State.setPin_rng (s : State) (g : Nat) (x : Pin) : (s.setPin g x).rng = s.rng := rfl
@[simp] theorem State.setPin_spr (s : State) (g : Nat) (x : Pin) : (s.setPin g x).spr = s.spr := rfl
@[simp] theorem State.setPin_mod (s : State) (g : Nat) (x : Pin) : (s.setPin g x).mod = s.mod := rfl
@[simp] theorem State.setPin_pwr (s : State) (g : Nat) (x : Pin) : (s.setPin g x).pwr = s.pwr := rfl
@[simp] theorem State.setPin_mss (s : State) (g : Nat) (x : Pin) : (s.setPin g x).mss = s.mss := rfl
@[simp] theorem State.setPin_sec (s : State) (g : Nat) (x : Pin) : (s.setPin g x).sec = s.sec := rfl
@[simp] theorem State.setPin_pnl (s : State) (g : Nat) (x : Pin) : (s.setPin g x).pnl = s.pnl := rfl
@[simp] theorem State.setPin_rtc (s : State) (g : Nat) (x : Pin) : (s.setPin g x).rtc = s.rtc := rfl
@[simp] theorem State.setPin_other (s : State) (g : Nat) (x : Pin) : (s.setPin g x).other = s.other := rfl

/-! setPoint -/
@[simp] theorem State.setPoint_pending (s : State) (p : Nat) (x : Point) : (s.setPoint p x).pending = s.pending := rfl
@[simp] theorem State.setPoint_now (s : State) (p : Nat) (x : Point) : (s.setPoint p x).now = s.now := rfl
@[simp] theorem State.setPoint_fresh (s : State) (p : Nat) (x : Point) : (s.setPoint p x).fresh = s.fresh := rfl
@[simp] theorem State.setPoint_host (s : State) (p : Nat) (x : Point) : (s.setPoint p x).host = s.host := rfl
@[simp] theorem State.setPoint_flows (s : State) (p : Nat) (x : Point) : (s.setPoint p x).flows = s.flows := rfl
@[simp] theorem State.setPoint_cp (s : State) (p : Nat) (x : Point) : (s.setPoint p x).cp = s.cp := rfl
@[simp] theorem State.setPoint_rcd (s : State) (p : Nat) (x : Point) : (s.setPoint p x).rcd = s.rcd := rfl
@[simp] theorem State.setPoint_ana (s : State) (p : Nat) (x : Point) : (s.setPoint p x).ana = s.ana := rfl
@[simp] theorem State.setPoint_dig (s : State) (p : Nat) (x : Point) : (s.setPoint p x).dig = s.dig := rfl
@[simp] theorem State.setPoint_alm (s : State) (p : Nat) (x : Point) : (s.setPoint p x).alm = { s.alm with points := tset {} s.alm.points p x } := rfl
@[simp] theorem State.setPoint_prg (s : State) (p : Nat) (x : Point) : (s.setPoint p x).prg = s.prg := rfl
@[simp] theorem State.setPoint_rng (s : State) (p : Nat) (x : Point) : (s.setPoint p x).rng = s.rng := rfl
@[simp] theorem State.setPoint_spr (s : State) (p : Nat) (x : Point) : (s.setPoint p x).spr = s.spr := rfl
@[simp] theorem State.setPoint_mod (s : State) (p : Nat) (x : Point) : (s.setPoint p x).mod = s.mod := rfl
@[simp] theorem State.setPoint_pwr (s : State) (p : Nat) (x : Point) : (s.setPoint p x).pwr = s.pwr := rfl
@[simp] theorem State.setPoint_mss (s : State) (p : Nat) (x : Point) : (s.setPoint p x).mss = s.mss := rfl
@[simp] theorem State.setPoint_sec (s : State) (p : Nat) (x : Point) : (s.setPoint p x).sec = s.sec := rfl
@[simp] theorem State.setPoint_pnl (s : State) (p : Nat) (x : Point) : (s.setPoint p x).pnl = s.pnl := rfl
@[simp] theorem State.setPoint_rtc (s : State) (p : Nat) (x : Point) : (s.setPoint p x).rtc = s.rtc := rfl
@[simp] theorem State.setPoint_other (s : State) (p : Nat) (x : Point) : (s.setPoint p x).other = s.other := rfl

/-! setGroup -/
@[simp] theorem State.setGroup_pending (s : State) (g : Nat) (x : Group) : (s.setGroup g x).pending = s.pending := rfl
@[simp] theorem State.setGroup_now (s : State) (g : Nat) (x : Group) : (s.setGroup g x).now = s.now := rfl
@[simp] theorem State.setGroup_fresh (s : State) (g : Nat) (x : Group) : (s.setGroup g x).fresh = s.fresh := rfl
@[simp] theorem State.setGroup_host (s : State) (g : Nat) (x : Group) : (s.setGroup g x).host = s.host := rfl
@[simp] theorem State.setGroup_flows (s : State) (g : Nat) (x : Group) : (s.setGroup g x).flows = s.flows := rfl
@[simp] theorem State.setGroup_cp (s : State) (g : Nat) (x : Group) : (s.setGroup g x).cp = s.cp := rfl
@[simp] theorem State.setGroup_rcd (s : State) (g : Nat) (x : Group) : (s.setGroup g x).rcd = s.rcd := rfl
@[simp] theorem State.setGroup_ana (s : State) (g : Nat) (x : Group) : (s.setGroup g x).ana = s.ana := rfl
@[simp] theorem State.setGroup_dig (s : State) (g : Nat) (x : Group) : (s.setGroup g x).dig = s.dig := rfl
@[simp] theorem State.setGroup_prg (s : State) (g : Nat) (x : Group) : (s.setGroup g x).prg = s.prg := rfl
@[simp] theorem State.setGroup_rng (s : State) (g : Nat) (x : Group) : (s.setGroup g x).rng = s.rng := rfl
@[simp] theorem State.setGroup_spr (s : State) (g : Nat) (x : Group) : (s.setGroup g x).spr = s.spr := rfl
@[simp] theorem State.setGroup_mod (s : State) (g : Nat) (x : Group) : (s.setGroup g x).mod = s.mod := rfl
@[simp] theorem State.setGroup_pwr (s : State) (g : Nat) (x : Group) : (s.setGroup g x).pwr = s.pwr := rfl
@[simp] theorem State.setGroup_mss (s : State) (g : Nat) (x : Group) : (s.setGroup g x).mss = s.mss := rfl
@[simp] theorem State.setGroup_sec (s : State) (g : Nat) (x : Group) : (s.setGroup g x).sec = s.sec := rfl
@[simp] theorem State.setGroup_pnl (s : State) (g : Nat) (x : Group) : (s.setGroup g x).pnl = s.pnl := rfl
@[simp] theorem State.setGroup_rtc (s : State) (g : Nat) (x : Group) : (s.setGroup g x).rtc = s.rtc := rfl
@[simp] theorem State.setGroup_other (s : State) (g : Nat) (x : Group) : (s.setGroup g x).other = s.other := rfl

/-! setChain -/
@[simp] theorem State.setChain_pending (s : State) (n : Nat) (x : Chain) : (s.setChain n x).pending = s.pending := rfl
@[simp] theorem State.setChain_now (s : State) (n : Nat) (x : Chain) : (s.setChain n x).now = s.now := rfl
@[simp] theorem State.setChain_fresh (s : State) (n : Nat) (x : Chain) : (s.setChain n x).fresh = s.fresh := rfl
@[simp] theorem State.setChain_host (s : State) (n : Nat) (x : Chain) : (s.setChain n x).host = s.host := rfl
@[simp] theorem State.setChain_flows (s : State) (n : Nat) (x : Chain) : (s.setChain n x).flows = s.flows := rfl
@[simp] theorem State.setChain_cp (s : State) (n : Nat) (x : Chain) : (s.setChain n x).cp = s.cp := rfl
@[simp] theorem State.setChain_rcd (s : State) (n : Nat) (x : Chain) : (s.setChain n x).rcd = s.rcd := rfl
@[simp] theorem State.setChain_ana (s : State) (n : Nat) (x : Chain) : (s.setChain n x).ana = s.ana := rfl
@[simp] theorem State.setChain_dig (s : State) (n : Nat) (x : Chain) : (s.setChain n x).dig = s.dig := rfl
@[simp] theorem State.setChain_prg (s : State) (n : Nat) (x : Chain) : (s.setChain n x).prg = s.prg := rfl
@[simp] theorem State.setChain_rng (s : State) (n : Nat) (x : Chain) : (s.setChain n x).rng = s.rng := rfl
@[simp] theorem State.setChain_spr (s : State) (n : Nat) (x : Chain) : (s.setChain n x).spr = s.spr := rfl
@[simp] theorem State.setChain_mod (s : State) (n : Nat) (x : Chain) : (s.setChain n x).mod = s.mod := rfl
@[simp] theorem State.setChain_pwr (s : State) (n : Nat) (x : Chain) : (s.setChain n x).pwr = s.pwr := rfl
@[simp] theorem State.setChain_mss (s : State) (n : Nat) (x : Chain) : (s.setChain n x).mss = s.mss := rfl
@[simp] theorem State.setChain_sec (s : State) (n : Nat) (x : Chain) : (s.setChain n x).sec = s.sec := rfl
@[simp] theorem State.setChain_pnl (s : State) (n : Nat) (x : Chain) : (s.setChain n x).pnl = s.pnl := rfl
@[simp] theorem State.setChain_rtc (s : State) (n : Nat) (x : Chain) : (s.setChain n x).rtc = s.rtc := rfl
@[simp] theorem State.setChain_other (s : State) (n : Nat) (x : Chain) : (s.setChain n x).other = s.other := rfl

/-! putSet -/
@[simp] theorem State.putSet_pending (s : State) (n : Nat) (x : ConSet) : (s.putSet n x).pending = s.pending := rfl
@[simp] theorem State.putSet_now (s : State) (n : Nat) (x : ConSet) : (s.putSet n x).now = s.now := rfl
@[simp] theorem State.putSet_fresh (s : State) (n : Nat) (x : ConSet) : (s.putSet n x).fresh = s.fresh := rfl
@[simp] theorem State.putSet_host (s : State) (n : Nat) (x : ConSet) : (s.putSet n x).host = s.host := rfl
@[simp] theorem State.putSet_flows (s : State) (n : Nat) (x : ConSet) : (s.putSet n x).flows = s.flows := rfl
@[simp] theorem State.putSet_cp (s : State) (n : Nat) (x : ConSet) : (s.putSet n x).cp = s.cp := rfl
@[simp] theorem State.putSet_rcd (s : State) (n : Nat) (x : ConSet) : (s.putSet n x).rcd = s.rcd := rfl
@[simp] theorem State.putSet_ana (s : State) (n : Nat) (x : ConSet) : (s.putSet n x).ana = s.ana := rfl
@[simp] theorem State.putSet_dig (s : State) (n : Nat) (x : ConSet) : (s.putSet n x).dig = s.dig := rfl
@[simp] theorem State.putSet_alm (s : State) (n : Nat) (x : ConSet) : (s.putSet n x).alm = s.alm := rfl
@[simp] theorem State.putSet_prg (s : State) (n : Nat) (x : ConSet) : (s.putSet n x).prg = { s.prg with sets := tset {} s.prg.sets n x } := rfl
@[simp] theorem State.putSet_rng (s : State) (n : Nat) (x : ConSet) : (s.putSet n x).rng = s.rng := rfl
@[simp] theorem State.putSet_spr (s : State) (n : Nat) (x : ConSet) : (s.putSet n x).spr = s.spr := rfl
@[simp] theorem State.putSet_mod (s : State) (n : Nat) (x : ConSet) : (s.putSet n x).mod = s.mod := rfl
@[simp] theorem State.putSet_pwr (s : State) (n : Nat) (x : ConSet) : (s.putSet n x).pwr = s.pwr := rfl
@[simp] theorem State.putSet_mss (s : State) (n : Nat) (x : ConSet) : (s.putSet n x).mss = s.mss := rfl
@[simp] theorem State.putSet_sec (s : State) (n : Nat) (x : ConSet) : (s.putSet n x).sec = s.sec := rfl
@[simp] theorem State.putSet_pnl (s : State) (n : Nat) (x : ConSet) : (s.putSet n x).pnl = s.pnl := rfl
@[simp] theorem State.putSet_rtc (s : State) (n : Nat) (x : ConSet) : (s.putSet n x).rtc = s.rtc := rfl
@[simp] theorem State.putSet_other (s : State) (n : Nat) (x : ConSet) : (s.putSet n x).other = s.other := rfl

/-! setDir -/
@[simp] theorem State.setDir_pending (s : State) (n : Nat) (x : DirEntry) : (s.setDir n x).pending = s.pending := rfl
@[simp] theorem State.setDir_now (s : State) (n : Nat) (x : DirEntry) : (s.setDir n x).now = s.now := rfl
@[simp] theorem State.setDir_fresh (s : State) (n : Nat) (x : DirEntry) : (s.setDir n x).fresh = s.fresh := rfl
@[simp] theorem State.setDir_host (s : State) (n : Nat) (x : DirEntry) : (s.setDir n x).host = s.host := rfl
@[simp] theorem State.setDir_flows (s : State) (n : Nat) (x : DirEntry) : (s.setDir n x).flows = s.flows := rfl
@[simp] theorem State.setDir_cp (s : State) (n : Nat) (x : DirEntry) : (s.setDir n x).cp = s.cp := rfl
@[simp] theorem State.setDir_rcd (s : State) (n : Nat) (x : DirEntry) : (s.setDir n x).rcd = s.rcd := rfl
@[simp] theorem State.setDir_ana (s : State) (n : Nat) (x : DirEntry) : (s.setDir n x).ana = s.ana := rfl
@[simp] theorem State.setDir_dig (s : State) (n : Nat) (x : DirEntry) : (s.setDir n x).dig = s.dig := rfl
@[simp] theorem State.setDir_alm (s : State) (n : Nat) (x : DirEntry) : (s.setDir n x).alm = s.alm := rfl
@[simp] theorem State.setDir_prg (s : State) (n : Nat) (x : DirEntry) : (s.setDir n x).prg = s.prg := rfl
@[simp] theorem State.setDir_spr (s : State) (n : Nat) (x : DirEntry) : (s.setDir n x).spr = s.spr := rfl
@[simp] theorem State.setDir_mod (s : State) (n : Nat) (x : DirEntry) : (s.setDir n x).mod = s.mod := rfl
@[simp] theorem State.setDir_pwr (s : State) (n : Nat) (x : DirEntry) : (s.setDir n x).pwr = s.pwr := rfl
@[simp] theorem State.setDir_mss (s : State) (n : Nat) (x : DirEntry) : (s.setDir n x).mss = s.mss := rfl
@[simp] theorem State.setDir_sec (s : State) (n : Nat) (x : DirEntry) : (s.setDir n x).sec = s.sec := rfl
@[simp] theorem State.setDir_pnl (s : State) (n : Nat) (x : DirEntry) : (s.setDir n x).pnl = s.pnl := rfl
@[simp] theorem State.setDir_rtc (s : State) (n : Nat) (x : DirEntry) : (s.setDir n x).rtc = s.rtc := rfl
@[simp] theorem State.setDir_other (s : State) (n : Nat) (x : DirEntry) : (s.setDir n x).other = s.other := rfl

/-! setSlice -/
@[simp] theorem State.setSlice_pending (s : State) (i p : Nat) (x : Part) : (s.setSlice i p x).pending = s.pending := rfl
@[simp] theorem State.setSlice_now (s : State) (i p : Nat) (x : Part) : (s.setSlice i p x).now = s.now := rfl
@[simp] theorem State.setSlice_fresh (s : State) (i p : Nat) (x : Part) : (s.setSlice i p x).fresh = s.fresh := rfl
@[simp] theorem State.setSlice_host (s : State) (i p : Nat) (x : Part) : (s.setSlice i p x).host = s.host := rfl
@[simp] theorem State.setSlice_flows (s : State) (i p : Nat) (x : Part) : (s.setSlice i p x).flows = s.flows := rfl
@[simp] theorem State.setSlice_cp (s : State) (i p : Nat) (x : Part) : (s.setSlice i p x).cp = s.cp := rfl
@[simp] theorem State.setSlice_rcd (s : State) (i p : Nat) (x : Part) : (s.setSlice i p x).rcd = s.rcd := rfl
@[simp] theorem State.setSlice_ana (s : State) (i p : Nat) (x : Part) : (s.setSlice i p x).ana = s.ana := rfl
@[simp] theorem State.setSlice_dig (s : State) (i p : Nat) (x : Part) : (s.setSlice i p x).dig = s.dig := rfl
@[simp] theorem State.setSlice_alm (s : State) (i p : Nat) (x : Part) : (s.setSlice i p x).alm = s.alm := rfl
@[simp] theorem State.setSlice_prg (s : State) (i p : Nat) (x : Part) : (s.setSlice i p x).prg = s.prg := rfl
@[simp] theorem State.setSlice_rng (s : State) (i p : Nat) (x : Part) : (s.setSlice i p x).rng = s.rng := rfl
@[simp] theorem State.setSlice_mod (s : State) (i p : Nat) (x : Part) : (s.setSlice i p x).mod = s.mod := rfl
@[simp] theorem State.setSlice_pwr (s : State) (i p : Nat) (x : Part) : (s.setSlice i p x).pwr = s.pwr := rfl
@[simp] theorem State.setSlice_mss (s : State) (i p : Nat) (x : Part) : (s.setSlice i p x).mss = s.mss := rfl
@[simp] theorem State.setSlice_sec (s : State) (i p : Nat) (x : Part) : (s.setSlice i p x).sec = s.sec := rfl
@[simp] theorem State.setSlice_pnl (s : State) (i p : Nat) (x : Part) : (s.setSlice i p x).pnl = s.pnl := rfl
@[simp] theorem State.setSlice_rtc (s : State) (i p : Nat) (x : Part) : (s.setSlice i p x).rtc = s.rtc := rfl
@[simp] theorem State.setSlice_other (s : State) (i p : Nat) (x : Part) : (s.setSlice i p x).other = s.other := rfl

/-! setCell -/
@[simp] theorem State.setCell_pending (s : State) (i p : Nat) (x : Part) : (s.setCell i p x).pending = s.pending := rfl
@[simp] theorem State.setCell_now (s : State) (i p : Nat) (x : Part) : (s.setCell i p x).now = s.now := rfl
@[simp] theorem State.setCell_fresh (s : State) (i p : Nat) (x : Part) : (s.setCell i p x).fresh = s.fresh := rfl
@[simp] theorem State.setCell_host (s : State) (i p : Nat) (x : Part) : (s.setCell i p x).host = s.host := rfl
@[simp] theorem State.setCell_flows (s : State) (i p : Nat) (x : Part) : (s.setCell i p x).flows = s.flows := rfl
@[simp] theorem State.setCell_cp (s : State) (i p : Nat) (x : Part) : (s.setCell i p x).cp = s.cp := rfl
@[simp] theorem State.setCell_rcd (s : State) (i p : Nat) (x : Part) : (s.setCell i p x).rcd = s.rcd := rfl
@[simp] theorem State.setCell_ana (s : State) (i p : Nat) (x : Part) : (s.setCell i p x).ana = s.ana := rfl
@[simp] theorem State.setCell_dig (s : State) (i p : Nat) (x : Part) : (s.setCell i p x).dig = s.dig := rfl
@[simp] theorem State.setCell_alm (s : State) (i p : Nat) (x : Part) : (s.setCell i p x).alm = s.alm := rfl
@[simp] theorem State.setCell_prg (s : State) (i p : Nat) (x : Part) : (s.setCell i p x).prg = s.prg := rfl
@[simp] theorem State.setCell_rng (s : State) (i p : Nat) (x : Part) : (s.setCell i p x).rng = s.rng := rfl
@[simp] theorem State.setCell_mod (s : State) (i p : Nat) (x : Part) : (s.setCell i p x).mod = s.mod := rfl
@[simp] theorem State.setCell_pwr (s : State) (i p : Nat) (x : Part) : (s.setCell i p x).pwr = s.pwr := rfl
@[simp] theorem State.setCell_mss (s : State) (i p : Nat) (x : Part) : (s.setCell i p x).mss = s.mss := rfl
@[simp] theorem State.setCell_sec (s : State) (i p : Nat) (x : Part) : (s.setCell i p x).sec = s.sec := rfl
@[simp] theorem State.setCell_pnl (s : State) (i p : Nat) (x : Part) : (s.setCell i p x).pnl = s.pnl := rfl
@[simp] theorem State.setCell_rtc (s : State) (i p : Nat) (x : Part) : (s.setCell i p x).rtc = s.rtc := rfl
@[simp] theorem State.setCell_other (s : State) (i p : Nat) (x : Part) : (s.setCell i p x).other = s.other := rfl

/-! setSwap -/
@[simp] theorem State.setSwap_pending (s : State) (w : Swap) : (s.setSwap w).pending = s.pending := rfl
@[simp] theorem State.setSwap_now (s : State) (w : Swap) : (s.setSwap w).now = s.now := rfl
@[simp] theorem State.setSwap_fresh (s : State) (w : Swap) : (s.setSwap w).fresh = s.fresh := rfl
@[simp] theorem State.setSwap_host (s : State) (w : Swap) : (s.setSwap w).host = s.host := rfl
@[simp] theorem State.setSwap_flows (s : State) (w : Swap) : (s.setSwap w).flows = s.flows := rfl
@[simp] theorem State.setSwap_cp (s : State) (w : Swap) : (s.setSwap w).cp = s.cp := rfl
@[simp] theorem State.setSwap_rcd (s : State) (w : Swap) : (s.setSwap w).rcd = s.rcd := rfl
@[simp] theorem State.setSwap_ana (s : State) (w : Swap) : (s.setSwap w).ana = s.ana := rfl
@[simp] theorem State.setSwap_dig (s : State) (w : Swap) : (s.setSwap w).dig = s.dig := rfl
@[simp] theorem State.setSwap_alm (s : State) (w : Swap) : (s.setSwap w).alm = s.alm := rfl
@[simp] theorem State.setSwap_prg (s : State) (w : Swap) : (s.setSwap w).prg = s.prg := rfl
@[simp] theorem State.setSwap_rng (s : State) (w : Swap) : (s.setSwap w).rng = s.rng := rfl
@[simp] theorem State.setSwap_mod (s : State) (w : Swap) : (s.setSwap w).mod = s.mod := rfl
@[simp] theorem State.setSwap_pwr (s : State) (w : Swap) : (s.setSwap w).pwr = s.pwr := rfl
@[simp] theorem State.setSwap_mss (s : State) (w : Swap) : (s.setSwap w).mss = s.mss := rfl
@[simp] theorem State.setSwap_sec (s : State) (w : Swap) : (s.setSwap w).sec = s.sec := rfl
@[simp] theorem State.setSwap_pnl (s : State) (w : Swap) : (s.setSwap w).pnl = s.pnl := rfl
@[simp] theorem State.setSwap_rtc (s : State) (w : Swap) : (s.setSwap w).rtc = s.rtc := rfl
@[simp] theorem State.setSwap_other (s : State) (w : Swap) : (s.setSwap w).other = s.other := rfl

/-! dropSwap -/
@[simp] theorem State.dropSwap_pending (s : State) (w : Swap) : (s.dropSwap w).pending = s.pending := rfl
@[simp] theorem State.dropSwap_now (s : State) (w : Swap) : (s.dropSwap w).now = s.now := rfl
@[simp] theorem State.dropSwap_fresh (s : State) (w : Swap) : (s.dropSwap w).fresh = s.fresh := rfl
@[simp] theorem State.dropSwap_host (s : State) (w : Swap) : (s.dropSwap w).host = s.host := rfl
@[simp] theorem State.dropSwap_flows (s : State) (w : Swap) : (s.dropSwap w).flows = s.flows := rfl
@[simp] theorem State.dropSwap_cp (s : State) (w : Swap) : (s.dropSwap w).cp = s.cp := rfl
@[simp] theorem State.dropSwap_rcd (s : State) (w : Swap) : (s.dropSwap w).rcd = s.rcd := rfl
@[simp] theorem State.dropSwap_ana (s : State) (w : Swap) : (s.dropSwap w).ana = s.ana := rfl
@[simp] theorem State.dropSwap_dig (s : State) (w : Swap) : (s.dropSwap w).dig = s.dig := rfl
@[simp] theorem State.dropSwap_alm (s : State) (w : Swap) : (s.dropSwap w).alm = s.alm := rfl
@[simp] theorem State.dropSwap_prg (s : State) (w : Swap) : (s.dropSwap w).prg = s.prg := rfl
@[simp] theorem State.dropSwap_rng (s : State) (w : Swap) : (s.dropSwap w).rng = s.rng := rfl
@[simp] theorem State.dropSwap_mod (s : State) (w : Swap) : (s.dropSwap w).mod = s.mod := rfl
@[simp] theorem State.dropSwap_pwr (s : State) (w : Swap) : (s.dropSwap w).pwr = s.pwr := rfl
@[simp] theorem State.dropSwap_mss (s : State) (w : Swap) : (s.dropSwap w).mss = s.mss := rfl
@[simp] theorem State.dropSwap_sec (s : State) (w : Swap) : (s.dropSwap w).sec = s.sec := rfl
@[simp] theorem State.dropSwap_pnl (s : State) (w : Swap) : (s.dropSwap w).pnl = s.pnl := rfl
@[simp] theorem State.dropSwap_rtc (s : State) (w : Swap) : (s.dropSwap w).rtc = s.rtc := rfl
@[simp] theorem State.dropSwap_other (s : State) (w : Swap) : (s.dropSwap w).other = s.other := rfl

/-! setAudit -/
@[simp] theorem State.setAudit_pending (s : State) (i : Nat) (a : Option Audit) : (s.setAudit i a).pending = s.pending := rfl
@[simp] theorem State.setAudit_now (s : State) (i : Nat) (a : Option Audit) : (s.setAudit i a).now = s.now := rfl
@[simp] theorem State.setAudit_fresh (s : State) (i : Nat) (a : Option Audit) : (s.setAudit i a).fresh = s.fresh := rfl
@[simp] theorem State.setAudit_host (s : State) (i : Nat) (a : Option Audit) : (s.setAudit i a).host = s.host := rfl
@[simp] theorem State.setAudit_flows (s : State) (i : Nat) (a : Option Audit) : (s.setAudit i a).flows = s.flows := rfl
@[simp] theorem State.setAudit_cp (s : State) (i : Nat) (a : Option Audit) : (s.setAudit i a).cp = s.cp := rfl
@[simp] theorem State.setAudit_rcd (s : State) (i : Nat) (a : Option Audit) : (s.setAudit i a).rcd = s.rcd := rfl
@[simp] theorem State.setAudit_ana (s : State) (i : Nat) (a : Option Audit) : (s.setAudit i a).ana = s.ana := rfl
@[simp] theorem State.setAudit_dig (s : State) (i : Nat) (a : Option Audit) : (s.setAudit i a).dig = s.dig := rfl
@[simp] theorem State.setAudit_alm (s : State) (i : Nat) (a : Option Audit) : (s.setAudit i a).alm = s.alm := rfl
@[simp] theorem State.setAudit_prg (s : State) (i : Nat) (a : Option Audit) : (s.setAudit i a).prg = s.prg := rfl
@[simp] theorem State.setAudit_rng (s : State) (i : Nat) (a : Option Audit) : (s.setAudit i a).rng = s.rng := rfl
@[simp] theorem State.setAudit_mod (s : State) (i : Nat) (a : Option Audit) : (s.setAudit i a).mod = s.mod := rfl
@[simp] theorem State.setAudit_pwr (s : State) (i : Nat) (a : Option Audit) : (s.setAudit i a).pwr = s.pwr := rfl
@[simp] theorem State.setAudit_mss (s : State) (i : Nat) (a : Option Audit) : (s.setAudit i a).mss = s.mss := rfl
@[simp] theorem State.setAudit_sec (s : State) (i : Nat) (a : Option Audit) : (s.setAudit i a).sec = s.sec := rfl
@[simp] theorem State.setAudit_pnl (s : State) (i : Nat) (a : Option Audit) : (s.setAudit i a).pnl = s.pnl := rfl
@[simp] theorem State.setAudit_rtc (s : State) (i : Nat) (a : Option Audit) : (s.setAudit i a).rtc = s.rtc := rfl
@[simp] theorem State.setAudit_other (s : State) (i : Nat) (a : Option Audit) : (s.setAudit i a).other = s.other := rfl

/-! setTrim -/
@[simp] theorem State.setTrim_pending (s : State) (g : Nat) (x : Word × Word) : (s.setTrim g x).pending = s.pending := rfl
@[simp] theorem State.setTrim_now (s : State) (g : Nat) (x : Word × Word) : (s.setTrim g x).now = s.now := rfl
@[simp] theorem State.setTrim_fresh (s : State) (g : Nat) (x : Word × Word) : (s.setTrim g x).fresh = s.fresh := rfl
@[simp] theorem State.setTrim_host (s : State) (g : Nat) (x : Word × Word) : (s.setTrim g x).host = s.host := rfl
@[simp] theorem State.setTrim_flows (s : State) (g : Nat) (x : Word × Word) : (s.setTrim g x).flows = s.flows := rfl
@[simp] theorem State.setTrim_cp (s : State) (g : Nat) (x : Word × Word) : (s.setTrim g x).cp = s.cp := rfl
@[simp] theorem State.setTrim_rcd (s : State) (g : Nat) (x : Word × Word) : (s.setTrim g x).rcd = s.rcd := rfl
@[simp] theorem State.setTrim_ana (s : State) (g : Nat) (x : Word × Word) : (s.setTrim g x).ana = s.ana := rfl
@[simp] theorem State.setTrim_dig (s : State) (g : Nat) (x : Word × Word) : (s.setTrim g x).dig = s.dig := rfl
@[simp] theorem State.setTrim_alm (s : State) (g : Nat) (x : Word × Word) : (s.setTrim g x).alm = s.alm := rfl
@[simp] theorem State.setTrim_prg (s : State) (g : Nat) (x : Word × Word) : (s.setTrim g x).prg = s.prg := rfl
@[simp] theorem State.setTrim_rng (s : State) (g : Nat) (x : Word × Word) : (s.setTrim g x).rng = s.rng := rfl
@[simp] theorem State.setTrim_spr (s : State) (g : Nat) (x : Word × Word) : (s.setTrim g x).spr = s.spr := rfl
@[simp] theorem State.setTrim_pwr (s : State) (g : Nat) (x : Word × Word) : (s.setTrim g x).pwr = s.pwr := rfl
@[simp] theorem State.setTrim_mss (s : State) (g : Nat) (x : Word × Word) : (s.setTrim g x).mss = s.mss := rfl
@[simp] theorem State.setTrim_sec (s : State) (g : Nat) (x : Word × Word) : (s.setTrim g x).sec = s.sec := rfl
@[simp] theorem State.setTrim_pnl (s : State) (g : Nat) (x : Word × Word) : (s.setTrim g x).pnl = s.pnl := rfl
@[simp] theorem State.setTrim_rtc (s : State) (g : Nat) (x : Word × Word) : (s.setTrim g x).rtc = s.rtc := rfl
@[simp] theorem State.setTrim_other (s : State) (g : Nat) (x : Word × Word) : (s.setTrim g x).other = s.other := rfl

/-! setCal -/
@[simp] theorem State.setCal_pending (s : State) (g : Nat) (k : Cal) : (s.setCal g k).pending = s.pending := rfl
@[simp] theorem State.setCal_now (s : State) (g : Nat) (k : Cal) : (s.setCal g k).now = s.now := rfl
@[simp] theorem State.setCal_fresh (s : State) (g : Nat) (k : Cal) : (s.setCal g k).fresh = s.fresh := rfl
@[simp] theorem State.setCal_host (s : State) (g : Nat) (k : Cal) : (s.setCal g k).host = s.host := rfl
@[simp] theorem State.setCal_flows (s : State) (g : Nat) (k : Cal) : (s.setCal g k).flows = s.flows := rfl
@[simp] theorem State.setCal_cp (s : State) (g : Nat) (k : Cal) : (s.setCal g k).cp = s.cp := rfl
@[simp] theorem State.setCal_rcd (s : State) (g : Nat) (k : Cal) : (s.setCal g k).rcd = s.rcd := rfl
@[simp] theorem State.setCal_ana (s : State) (g : Nat) (k : Cal) : (s.setCal g k).ana = s.ana := rfl
@[simp] theorem State.setCal_dig (s : State) (g : Nat) (k : Cal) : (s.setCal g k).dig = s.dig := rfl
@[simp] theorem State.setCal_alm (s : State) (g : Nat) (k : Cal) : (s.setCal g k).alm = s.alm := rfl
@[simp] theorem State.setCal_prg (s : State) (g : Nat) (k : Cal) : (s.setCal g k).prg = s.prg := rfl
@[simp] theorem State.setCal_rng (s : State) (g : Nat) (k : Cal) : (s.setCal g k).rng = s.rng := rfl
@[simp] theorem State.setCal_spr (s : State) (g : Nat) (k : Cal) : (s.setCal g k).spr = s.spr := rfl
@[simp] theorem State.setCal_pwr (s : State) (g : Nat) (k : Cal) : (s.setCal g k).pwr = s.pwr := rfl
@[simp] theorem State.setCal_mss (s : State) (g : Nat) (k : Cal) : (s.setCal g k).mss = s.mss := rfl
@[simp] theorem State.setCal_sec (s : State) (g : Nat) (k : Cal) : (s.setCal g k).sec = s.sec := rfl
@[simp] theorem State.setCal_pnl (s : State) (g : Nat) (k : Cal) : (s.setCal g k).pnl = s.pnl := rfl
@[simp] theorem State.setCal_rtc (s : State) (g : Nat) (k : Cal) : (s.setCal g k).rtc = s.rtc := rfl
@[simp] theorem State.setCal_other (s : State) (g : Nat) (k : Cal) : (s.setCal g k).other = s.other := rfl

/-! setSensor -/
@[simp] theorem State.setSensor_pending (s : State) (k : Nat) (x : Sensor) : (s.setSensor k x).pending = s.pending := rfl
@[simp] theorem State.setSensor_now (s : State) (k : Nat) (x : Sensor) : (s.setSensor k x).now = s.now := rfl
@[simp] theorem State.setSensor_fresh (s : State) (k : Nat) (x : Sensor) : (s.setSensor k x).fresh = s.fresh := rfl
@[simp] theorem State.setSensor_host (s : State) (k : Nat) (x : Sensor) : (s.setSensor k x).host = s.host := rfl
@[simp] theorem State.setSensor_flows (s : State) (k : Nat) (x : Sensor) : (s.setSensor k x).flows = s.flows := rfl
@[simp] theorem State.setSensor_cp (s : State) (k : Nat) (x : Sensor) : (s.setSensor k x).cp = s.cp := rfl
@[simp] theorem State.setSensor_rcd (s : State) (k : Nat) (x : Sensor) : (s.setSensor k x).rcd = s.rcd := rfl
@[simp] theorem State.setSensor_ana (s : State) (k : Nat) (x : Sensor) : (s.setSensor k x).ana = s.ana := rfl
@[simp] theorem State.setSensor_dig (s : State) (k : Nat) (x : Sensor) : (s.setSensor k x).dig = s.dig := rfl
@[simp] theorem State.setSensor_alm (s : State) (k : Nat) (x : Sensor) : (s.setSensor k x).alm = s.alm := rfl
@[simp] theorem State.setSensor_prg (s : State) (k : Nat) (x : Sensor) : (s.setSensor k x).prg = s.prg := rfl
@[simp] theorem State.setSensor_rng (s : State) (k : Nat) (x : Sensor) : (s.setSensor k x).rng = s.rng := rfl
@[simp] theorem State.setSensor_spr (s : State) (k : Nat) (x : Sensor) : (s.setSensor k x).spr = s.spr := rfl
@[simp] theorem State.setSensor_mod (s : State) (k : Nat) (x : Sensor) : (s.setSensor k x).mod = s.mod := rfl
@[simp] theorem State.setSensor_pwr (s : State) (k : Nat) (x : Sensor) : (s.setSensor k x).pwr = s.pwr := rfl
@[simp] theorem State.setSensor_mss (s : State) (k : Nat) (x : Sensor) : (s.setSensor k x).mss = { s.mss with sensors := tset {} s.mss.sensors k x } := rfl
@[simp] theorem State.setSensor_sec (s : State) (k : Nat) (x : Sensor) : (s.setSensor k x).sec = s.sec := rfl
@[simp] theorem State.setSensor_pnl (s : State) (k : Nat) (x : Sensor) : (s.setSensor k x).pnl = s.pnl := rfl
@[simp] theorem State.setSensor_rtc (s : State) (k : Nat) (x : Sensor) : (s.setSensor k x).rtc = s.rtc := rfl
@[simp] theorem State.setSensor_other (s : State) (k : Nat) (x : Sensor) : (s.setSensor k x).other = s.other := rfl

/-! setKind -/
@[simp] theorem State.setKind_pending (s : State) (k : Nat) (x : ImageKind) : (s.setKind k x).pending = s.pending := rfl
@[simp] theorem State.setKind_now (s : State) (k : Nat) (x : ImageKind) : (s.setKind k x).now = s.now := rfl
@[simp] theorem State.setKind_fresh (s : State) (k : Nat) (x : ImageKind) : (s.setKind k x).fresh = s.fresh := rfl
@[simp] theorem State.setKind_host (s : State) (k : Nat) (x : ImageKind) : (s.setKind k x).host = s.host := rfl
@[simp] theorem State.setKind_flows (s : State) (k : Nat) (x : ImageKind) : (s.setKind k x).flows = s.flows := rfl
@[simp] theorem State.setKind_cp (s : State) (k : Nat) (x : ImageKind) : (s.setKind k x).cp = s.cp := rfl
@[simp] theorem State.setKind_rcd (s : State) (k : Nat) (x : ImageKind) : (s.setKind k x).rcd = s.rcd := rfl
@[simp] theorem State.setKind_ana (s : State) (k : Nat) (x : ImageKind) : (s.setKind k x).ana = s.ana := rfl
@[simp] theorem State.setKind_dig (s : State) (k : Nat) (x : ImageKind) : (s.setKind k x).dig = s.dig := rfl
@[simp] theorem State.setKind_alm (s : State) (k : Nat) (x : ImageKind) : (s.setKind k x).alm = s.alm := rfl
@[simp] theorem State.setKind_prg (s : State) (k : Nat) (x : ImageKind) : (s.setKind k x).prg = s.prg := rfl
@[simp] theorem State.setKind_rng (s : State) (k : Nat) (x : ImageKind) : (s.setKind k x).rng = s.rng := rfl
@[simp] theorem State.setKind_spr (s : State) (k : Nat) (x : ImageKind) : (s.setKind k x).spr = s.spr := rfl
@[simp] theorem State.setKind_mod (s : State) (k : Nat) (x : ImageKind) : (s.setKind k x).mod = s.mod := rfl
@[simp] theorem State.setKind_pwr (s : State) (k : Nat) (x : ImageKind) : (s.setKind k x).pwr = s.pwr := rfl
@[simp] theorem State.setKind_mss (s : State) (k : Nat) (x : ImageKind) : (s.setKind k x).mss = { s.mss with kinds := s.mss.kinds.set k x } := rfl
@[simp] theorem State.setKind_sec (s : State) (k : Nat) (x : ImageKind) : (s.setKind k x).sec = s.sec := rfl
@[simp] theorem State.setKind_pnl (s : State) (k : Nat) (x : ImageKind) : (s.setKind k x).pnl = s.pnl := rfl
@[simp] theorem State.setKind_rtc (s : State) (k : Nat) (x : ImageKind) : (s.setKind k x).rtc = s.rtc := rfl
@[simp] theorem State.setKind_other (s : State) (k : Nat) (x : ImageKind) : (s.setKind k x).other = s.other := rfl

/-! setAct -/
@[simp] theorem State.setAct_pending (s : State) (a : Activation) : (s.setAct a).pending = s.pending := rfl
@[simp] theorem State.setAct_now (s : State) (a : Activation) : (s.setAct a).now = s.now := rfl
@[simp] theorem State.setAct_fresh (s : State) (a : Activation) : (s.setAct a).fresh = s.fresh := rfl
@[simp] theorem State.setAct_host (s : State) (a : Activation) : (s.setAct a).host = s.host := rfl
@[simp] theorem State.setAct_flows (s : State) (a : Activation) : (s.setAct a).flows = s.flows := rfl
@[simp] theorem State.setAct_cp (s : State) (a : Activation) : (s.setAct a).cp = s.cp := rfl
@[simp] theorem State.setAct_rcd (s : State) (a : Activation) : (s.setAct a).rcd = s.rcd := rfl
@[simp] theorem State.setAct_ana (s : State) (a : Activation) : (s.setAct a).ana = s.ana := rfl
@[simp] theorem State.setAct_dig (s : State) (a : Activation) : (s.setAct a).dig = s.dig := rfl
@[simp] theorem State.setAct_alm (s : State) (a : Activation) : (s.setAct a).alm = s.alm := rfl
@[simp] theorem State.setAct_prg (s : State) (a : Activation) : (s.setAct a).prg = s.prg := rfl
@[simp] theorem State.setAct_rng (s : State) (a : Activation) : (s.setAct a).rng = s.rng := rfl
@[simp] theorem State.setAct_spr (s : State) (a : Activation) : (s.setAct a).spr = s.spr := rfl
@[simp] theorem State.setAct_mod (s : State) (a : Activation) : (s.setAct a).mod = s.mod := rfl
@[simp] theorem State.setAct_pwr (s : State) (a : Activation) : (s.setAct a).pwr = s.pwr := rfl
@[simp] theorem State.setAct_sec (s : State) (a : Activation) : (s.setAct a).sec = s.sec := rfl
@[simp] theorem State.setAct_pnl (s : State) (a : Activation) : (s.setAct a).pnl = s.pnl := rfl
@[simp] theorem State.setAct_rtc (s : State) (a : Activation) : (s.setAct a).rtc = s.rtc := rfl
@[simp] theorem State.setAct_other (s : State) (a : Activation) : (s.setAct a).other = s.other := rfl

/-! dropAct -/
@[simp] theorem State.dropAct_pending (s : State) (a : Activation) : (s.dropAct a).pending = s.pending := rfl
@[simp] theorem State.dropAct_now (s : State) (a : Activation) : (s.dropAct a).now = s.now := rfl
@[simp] theorem State.dropAct_fresh (s : State) (a : Activation) : (s.dropAct a).fresh = s.fresh := rfl
@[simp] theorem State.dropAct_host (s : State) (a : Activation) : (s.dropAct a).host = s.host := rfl
@[simp] theorem State.dropAct_flows (s : State) (a : Activation) : (s.dropAct a).flows = s.flows := rfl
@[simp] theorem State.dropAct_cp (s : State) (a : Activation) : (s.dropAct a).cp = s.cp := rfl
@[simp] theorem State.dropAct_rcd (s : State) (a : Activation) : (s.dropAct a).rcd = s.rcd := rfl
@[simp] theorem State.dropAct_ana (s : State) (a : Activation) : (s.dropAct a).ana = s.ana := rfl
@[simp] theorem State.dropAct_dig (s : State) (a : Activation) : (s.dropAct a).dig = s.dig := rfl
@[simp] theorem State.dropAct_alm (s : State) (a : Activation) : (s.dropAct a).alm = s.alm := rfl
@[simp] theorem State.dropAct_prg (s : State) (a : Activation) : (s.dropAct a).prg = s.prg := rfl
@[simp] theorem State.dropAct_rng (s : State) (a : Activation) : (s.dropAct a).rng = s.rng := rfl
@[simp] theorem State.dropAct_spr (s : State) (a : Activation) : (s.dropAct a).spr = s.spr := rfl
@[simp] theorem State.dropAct_mod (s : State) (a : Activation) : (s.dropAct a).mod = s.mod := rfl
@[simp] theorem State.dropAct_pwr (s : State) (a : Activation) : (s.dropAct a).pwr = s.pwr := rfl
@[simp] theorem State.dropAct_sec (s : State) (a : Activation) : (s.dropAct a).sec = s.sec := rfl
@[simp] theorem State.dropAct_pnl (s : State) (a : Activation) : (s.dropAct a).pnl = s.pnl := rfl
@[simp] theorem State.dropAct_rtc (s : State) (a : Activation) : (s.dropAct a).rtc = s.rtc := rfl
@[simp] theorem State.dropAct_other (s : State) (a : Activation) : (s.dropAct a).other = s.other := rfl

/-! setPixel -/
@[simp] theorem State.setPixel_pending (s : State) (p : Nat × Nat) (v : Pixel) : (s.setPixel p v).pending = s.pending := rfl
@[simp] theorem State.setPixel_now (s : State) (p : Nat × Nat) (v : Pixel) : (s.setPixel p v).now = s.now := rfl
@[simp] theorem State.setPixel_fresh (s : State) (p : Nat × Nat) (v : Pixel) : (s.setPixel p v).fresh = s.fresh := rfl
@[simp] theorem State.setPixel_host (s : State) (p : Nat × Nat) (v : Pixel) : (s.setPixel p v).host = s.host := rfl
@[simp] theorem State.setPixel_flows (s : State) (p : Nat × Nat) (v : Pixel) : (s.setPixel p v).flows = s.flows := rfl
@[simp] theorem State.setPixel_cp (s : State) (p : Nat × Nat) (v : Pixel) : (s.setPixel p v).cp = s.cp := rfl
@[simp] theorem State.setPixel_rcd (s : State) (p : Nat × Nat) (v : Pixel) : (s.setPixel p v).rcd = s.rcd := rfl
@[simp] theorem State.setPixel_ana (s : State) (p : Nat × Nat) (v : Pixel) : (s.setPixel p v).ana = s.ana := rfl
@[simp] theorem State.setPixel_dig (s : State) (p : Nat × Nat) (v : Pixel) : (s.setPixel p v).dig = s.dig := rfl
@[simp] theorem State.setPixel_alm (s : State) (p : Nat × Nat) (v : Pixel) : (s.setPixel p v).alm = s.alm := rfl
@[simp] theorem State.setPixel_prg (s : State) (p : Nat × Nat) (v : Pixel) : (s.setPixel p v).prg = s.prg := rfl
@[simp] theorem State.setPixel_rng (s : State) (p : Nat × Nat) (v : Pixel) : (s.setPixel p v).rng = s.rng := rfl
@[simp] theorem State.setPixel_spr (s : State) (p : Nat × Nat) (v : Pixel) : (s.setPixel p v).spr = s.spr := rfl
@[simp] theorem State.setPixel_mod (s : State) (p : Nat × Nat) (v : Pixel) : (s.setPixel p v).mod = s.mod := rfl
@[simp] theorem State.setPixel_pwr (s : State) (p : Nat × Nat) (v : Pixel) : (s.setPixel p v).pwr = s.pwr := rfl
@[simp] theorem State.setPixel_mss (s : State) (p : Nat × Nat) (v : Pixel) : (s.setPixel p v).mss = s.mss := rfl
@[simp] theorem State.setPixel_sec (s : State) (p : Nat × Nat) (v : Pixel) : (s.setPixel p v).sec = s.sec := rfl
@[simp] theorem State.setPixel_rtc (s : State) (p : Nat × Nat) (v : Pixel) : (s.setPixel p v).rtc = s.rtc := rfl
@[simp] theorem State.setPixel_other (s : State) (p : Nat × Nat) (v : Pixel) : (s.setPixel p v).other = s.other := rfl

/-! setRegion -/
@[simp] theorem State.setRegion_pending (s : State) (n : Nat) (r : Region) : (s.setRegion n r).pending = s.pending := rfl
@[simp] theorem State.setRegion_now (s : State) (n : Nat) (r : Region) : (s.setRegion n r).now = s.now := rfl
@[simp] theorem State.setRegion_fresh (s : State) (n : Nat) (r : Region) : (s.setRegion n r).fresh = s.fresh := rfl
@[simp] theorem State.setRegion_host (s : State) (n : Nat) (r : Region) : (s.setRegion n r).host = s.host := rfl
@[simp] theorem State.setRegion_flows (s : State) (n : Nat) (r : Region) : (s.setRegion n r).flows = s.flows := rfl
@[simp] theorem State.setRegion_cp (s : State) (n : Nat) (r : Region) : (s.setRegion n r).cp = s.cp := rfl
@[simp] theorem State.setRegion_rcd (s : State) (n : Nat) (r : Region) : (s.setRegion n r).rcd = s.rcd := rfl
@[simp] theorem State.setRegion_ana (s : State) (n : Nat) (r : Region) : (s.setRegion n r).ana = s.ana := rfl
@[simp] theorem State.setRegion_dig (s : State) (n : Nat) (r : Region) : (s.setRegion n r).dig = s.dig := rfl
@[simp] theorem State.setRegion_alm (s : State) (n : Nat) (r : Region) : (s.setRegion n r).alm = s.alm := rfl
@[simp] theorem State.setRegion_prg (s : State) (n : Nat) (r : Region) : (s.setRegion n r).prg = s.prg := rfl
@[simp] theorem State.setRegion_rng (s : State) (n : Nat) (r : Region) : (s.setRegion n r).rng = s.rng := rfl
@[simp] theorem State.setRegion_spr (s : State) (n : Nat) (r : Region) : (s.setRegion n r).spr = s.spr := rfl
@[simp] theorem State.setRegion_mod (s : State) (n : Nat) (r : Region) : (s.setRegion n r).mod = s.mod := rfl
@[simp] theorem State.setRegion_pwr (s : State) (n : Nat) (r : Region) : (s.setRegion n r).pwr = s.pwr := rfl
@[simp] theorem State.setRegion_mss (s : State) (n : Nat) (r : Region) : (s.setRegion n r).mss = s.mss := rfl
@[simp] theorem State.setRegion_sec (s : State) (n : Nat) (r : Region) : (s.setRegion n r).sec = s.sec := rfl
@[simp] theorem State.setRegion_rtc (s : State) (n : Nat) (r : Region) : (s.setRegion n r).rtc = s.rtc := rfl
@[simp] theorem State.setRegion_other (s : State) (n : Nat) (r : Region) : (s.setRegion n r).other = s.other := rfl

/-! dropRegion -/
@[simp] theorem State.dropRegion_pending (s : State) (n : Nat) : (s.dropRegion n).pending = s.pending := rfl
@[simp] theorem State.dropRegion_now (s : State) (n : Nat) : (s.dropRegion n).now = s.now := rfl
@[simp] theorem State.dropRegion_fresh (s : State) (n : Nat) : (s.dropRegion n).fresh = s.fresh := rfl
@[simp] theorem State.dropRegion_host (s : State) (n : Nat) : (s.dropRegion n).host = s.host := rfl
@[simp] theorem State.dropRegion_flows (s : State) (n : Nat) : (s.dropRegion n).flows = s.flows := rfl
@[simp] theorem State.dropRegion_cp (s : State) (n : Nat) : (s.dropRegion n).cp = s.cp := rfl
@[simp] theorem State.dropRegion_rcd (s : State) (n : Nat) : (s.dropRegion n).rcd = s.rcd := rfl
@[simp] theorem State.dropRegion_ana (s : State) (n : Nat) : (s.dropRegion n).ana = s.ana := rfl
@[simp] theorem State.dropRegion_dig (s : State) (n : Nat) : (s.dropRegion n).dig = s.dig := rfl
@[simp] theorem State.dropRegion_alm (s : State) (n : Nat) : (s.dropRegion n).alm = s.alm := rfl
@[simp] theorem State.dropRegion_prg (s : State) (n : Nat) : (s.dropRegion n).prg = s.prg := rfl
@[simp] theorem State.dropRegion_rng (s : State) (n : Nat) : (s.dropRegion n).rng = s.rng := rfl
@[simp] theorem State.dropRegion_spr (s : State) (n : Nat) : (s.dropRegion n).spr = s.spr := rfl
@[simp] theorem State.dropRegion_mod (s : State) (n : Nat) : (s.dropRegion n).mod = s.mod := rfl
@[simp] theorem State.dropRegion_pwr (s : State) (n : Nat) : (s.dropRegion n).pwr = s.pwr := rfl
@[simp] theorem State.dropRegion_mss (s : State) (n : Nat) : (s.dropRegion n).mss = s.mss := rfl
@[simp] theorem State.dropRegion_sec (s : State) (n : Nat) : (s.dropRegion n).sec = s.sec := rfl
@[simp] theorem State.dropRegion_rtc (s : State) (n : Nat) : (s.dropRegion n).rtc = s.rtc := rfl
@[simp] theorem State.dropRegion_other (s : State) (n : Nat) : (s.dropRegion n).other = s.other := rfl

/-! setPort, setLanes, setPart, setPartRole, putInService -/
@[simp] theorem State.setPort_pending (s : State) (k : Nat) (x : RPort) : (s.setPort k x).pending = s.pending := rfl
@[simp] theorem State.setPort_now (s : State) (k : Nat) (x : RPort) : (s.setPort k x).now = s.now := rfl
@[simp] theorem State.setPort_fresh (s : State) (k : Nat) (x : RPort) : (s.setPort k x).fresh = s.fresh := rfl
@[simp] theorem State.setPort_host (s : State) (k : Nat) (x : RPort) : (s.setPort k x).host = s.host := rfl
@[simp] theorem State.setPort_flows (s : State) (k : Nat) (x : RPort) : (s.setPort k x).flows = s.flows := rfl
@[simp] theorem State.setPort_cp (s : State) (k : Nat) (x : RPort) : (s.setPort k x).cp = s.cp := rfl
@[simp] theorem State.setPort_rcd (s : State) (k : Nat) (x : RPort) : (s.setPort k x).rcd = s.rcd := rfl
@[simp] theorem State.setPort_ana (s : State) (k : Nat) (x : RPort) : (s.setPort k x).ana = s.ana := rfl
@[simp] theorem State.setPort_dig (s : State) (k : Nat) (x : RPort) : (s.setPort k x).dig = s.dig := rfl
@[simp] theorem State.setPort_alm (s : State) (k : Nat) (x : RPort) : (s.setPort k x).alm = s.alm := rfl
@[simp] theorem State.setPort_prg (s : State) (k : Nat) (x : RPort) : (s.setPort k x).prg = s.prg := rfl
@[simp] theorem State.setPort_spr (s : State) (k : Nat) (x : RPort) : (s.setPort k x).spr = s.spr := rfl
@[simp] theorem State.setPort_mod (s : State) (k : Nat) (x : RPort) : (s.setPort k x).mod = s.mod := rfl
@[simp] theorem State.setPort_pwr (s : State) (k : Nat) (x : RPort) : (s.setPort k x).pwr = s.pwr := rfl
@[simp] theorem State.setPort_mss (s : State) (k : Nat) (x : RPort) : (s.setPort k x).mss = s.mss := rfl
@[simp] theorem State.setPort_sec (s : State) (k : Nat) (x : RPort) : (s.setPort k x).sec = s.sec := rfl
@[simp] theorem State.setPort_pnl (s : State) (k : Nat) (x : RPort) : (s.setPort k x).pnl = s.pnl := rfl
@[simp] theorem State.setPort_rtc (s : State) (k : Nat) (x : RPort) : (s.setPort k x).rtc = s.rtc := rfl
@[simp] theorem State.setPort_other (s : State) (k : Nat) (x : RPort) : (s.setPort k x).other = s.other := rfl

@[simp] theorem State.setLanes_pending (s : State) (b : Nat) (x : Lanes) : (s.setLanes b x).pending = s.pending := rfl
@[simp] theorem State.setLanes_now (s : State) (b : Nat) (x : Lanes) : (s.setLanes b x).now = s.now := rfl
@[simp] theorem State.setLanes_fresh (s : State) (b : Nat) (x : Lanes) : (s.setLanes b x).fresh = s.fresh := rfl
@[simp] theorem State.setLanes_host (s : State) (b : Nat) (x : Lanes) : (s.setLanes b x).host = s.host := rfl
@[simp] theorem State.setLanes_flows (s : State) (b : Nat) (x : Lanes) : (s.setLanes b x).flows = s.flows := rfl
@[simp] theorem State.setLanes_cp (s : State) (b : Nat) (x : Lanes) : (s.setLanes b x).cp = s.cp := rfl
@[simp] theorem State.setLanes_rcd (s : State) (b : Nat) (x : Lanes) : (s.setLanes b x).rcd = s.rcd := rfl
@[simp] theorem State.setLanes_ana (s : State) (b : Nat) (x : Lanes) : (s.setLanes b x).ana = s.ana := rfl
@[simp] theorem State.setLanes_dig (s : State) (b : Nat) (x : Lanes) : (s.setLanes b x).dig = s.dig := rfl
@[simp] theorem State.setLanes_alm (s : State) (b : Nat) (x : Lanes) : (s.setLanes b x).alm = s.alm := rfl
@[simp] theorem State.setLanes_prg (s : State) (b : Nat) (x : Lanes) : (s.setLanes b x).prg = s.prg := rfl
@[simp] theorem State.setLanes_rng (s : State) (b : Nat) (x : Lanes) : (s.setLanes b x).rng = s.rng := rfl
@[simp] theorem State.setLanes_mod (s : State) (b : Nat) (x : Lanes) : (s.setLanes b x).mod = s.mod := rfl
@[simp] theorem State.setLanes_pwr (s : State) (b : Nat) (x : Lanes) : (s.setLanes b x).pwr = s.pwr := rfl
@[simp] theorem State.setLanes_mss (s : State) (b : Nat) (x : Lanes) : (s.setLanes b x).mss = s.mss := rfl
@[simp] theorem State.setLanes_sec (s : State) (b : Nat) (x : Lanes) : (s.setLanes b x).sec = s.sec := rfl
@[simp] theorem State.setLanes_pnl (s : State) (b : Nat) (x : Lanes) : (s.setLanes b x).pnl = s.pnl := rfl
@[simp] theorem State.setLanes_rtc (s : State) (b : Nat) (x : Lanes) : (s.setLanes b x).rtc = s.rtc := rfl
@[simp] theorem State.setLanes_other (s : State) (b : Nat) (x : Lanes) : (s.setLanes b x).other = s.other := rfl

@[simp] theorem State.setPart_pending (s : State) (pool isl n : Nat) (x : Part) : (s.setPart pool isl n x).pending = s.pending := by
  unfold State.setPart; split <;> rfl
@[simp] theorem State.setPart_now (s : State) (pool isl n : Nat) (x : Part) : (s.setPart pool isl n x).now = s.now := by
  unfold State.setPart; split <;> rfl
@[simp] theorem State.setPart_fresh (s : State) (pool isl n : Nat) (x : Part) : (s.setPart pool isl n x).fresh = s.fresh := by
  unfold State.setPart; split <;> rfl
@[simp] theorem State.setPart_host (s : State) (pool isl n : Nat) (x : Part) : (s.setPart pool isl n x).host = s.host := by
  unfold State.setPart; split <;> rfl
@[simp] theorem State.setPart_flows (s : State) (pool isl n : Nat) (x : Part) : (s.setPart pool isl n x).flows = s.flows := by
  unfold State.setPart; split <;> rfl
@[simp] theorem State.setPart_cp (s : State) (pool isl n : Nat) (x : Part) : (s.setPart pool isl n x).cp = s.cp := by
  unfold State.setPart; split <;> rfl
@[simp] theorem State.setPart_rcd (s : State) (pool isl n : Nat) (x : Part) : (s.setPart pool isl n x).rcd = s.rcd := by
  unfold State.setPart; split <;> rfl
@[simp] theorem State.setPart_ana (s : State) (pool isl n : Nat) (x : Part) : (s.setPart pool isl n x).ana = s.ana := by
  unfold State.setPart; split <;> rfl
@[simp] theorem State.setPart_dig (s : State) (pool isl n : Nat) (x : Part) : (s.setPart pool isl n x).dig = s.dig := by
  unfold State.setPart; split <;> rfl
@[simp] theorem State.setPart_alm (s : State) (pool isl n : Nat) (x : Part) : (s.setPart pool isl n x).alm = s.alm := by
  unfold State.setPart; split <;> rfl
@[simp] theorem State.setPart_prg (s : State) (pool isl n : Nat) (x : Part) : (s.setPart pool isl n x).prg = s.prg := by
  unfold State.setPart; split <;> rfl
@[simp] theorem State.setPart_rng (s : State) (pool isl n : Nat) (x : Part) : (s.setPart pool isl n x).rng = s.rng := by
  unfold State.setPart; split <;> rfl
@[simp] theorem State.setPart_mod (s : State) (pool isl n : Nat) (x : Part) : (s.setPart pool isl n x).mod = s.mod := by
  unfold State.setPart; split <;> rfl
@[simp] theorem State.setPart_pwr (s : State) (pool isl n : Nat) (x : Part) : (s.setPart pool isl n x).pwr = s.pwr := by
  unfold State.setPart; split <;> rfl
@[simp] theorem State.setPart_mss (s : State) (pool isl n : Nat) (x : Part) : (s.setPart pool isl n x).mss = s.mss := by
  unfold State.setPart; split <;> rfl
@[simp] theorem State.setPart_sec (s : State) (pool isl n : Nat) (x : Part) : (s.setPart pool isl n x).sec = s.sec := by
  unfold State.setPart; split <;> rfl
@[simp] theorem State.setPart_pnl (s : State) (pool isl n : Nat) (x : Part) : (s.setPart pool isl n x).pnl = s.pnl := by
  unfold State.setPart; split <;> rfl
@[simp] theorem State.setPart_rtc (s : State) (pool isl n : Nat) (x : Part) : (s.setPart pool isl n x).rtc = s.rtc := by
  unfold State.setPart; split <;> rfl
@[simp] theorem State.setPart_other (s : State) (pool isl n : Nat) (x : Part) : (s.setPart pool isl n x).other = s.other := by
  unfold State.setPart; split <;> rfl

@[simp] theorem State.setPartRole_pending (s : State) (pool isl n role : Nat) : (s.setPartRole pool isl n role).pending = s.pending := State.setPart_pending s pool isl n _
@[simp] theorem State.setPartRole_now (s : State) (pool isl n role : Nat) : (s.setPartRole pool isl n role).now = s.now := State.setPart_now s pool isl n _
@[simp] theorem State.setPartRole_fresh (s : State) (pool isl n role : Nat) : (s.setPartRole pool isl n role).fresh = s.fresh := State.setPart_fresh s pool isl n _
@[simp] theorem State.setPartRole_host (s : State) (pool isl n role : Nat) : (s.setPartRole pool isl n role).host = s.host := State.setPart_host s pool isl n _
@[simp] theorem State.setPartRole_flows (s : State) (pool isl n role : Nat) : (s.setPartRole pool isl n role).flows = s.flows := State.setPart_flows s pool isl n _
@[simp] theorem State.setPartRole_cp (s : State) (pool isl n role : Nat) : (s.setPartRole pool isl n role).cp = s.cp := State.setPart_cp s pool isl n _
@[simp] theorem State.setPartRole_rcd (s : State) (pool isl n role : Nat) : (s.setPartRole pool isl n role).rcd = s.rcd := State.setPart_rcd s pool isl n _
@[simp] theorem State.setPartRole_ana (s : State) (pool isl n role : Nat) : (s.setPartRole pool isl n role).ana = s.ana := State.setPart_ana s pool isl n _
@[simp] theorem State.setPartRole_dig (s : State) (pool isl n role : Nat) : (s.setPartRole pool isl n role).dig = s.dig := State.setPart_dig s pool isl n _
@[simp] theorem State.setPartRole_alm (s : State) (pool isl n role : Nat) : (s.setPartRole pool isl n role).alm = s.alm := State.setPart_alm s pool isl n _
@[simp] theorem State.setPartRole_prg (s : State) (pool isl n role : Nat) : (s.setPartRole pool isl n role).prg = s.prg := State.setPart_prg s pool isl n _
@[simp] theorem State.setPartRole_rng (s : State) (pool isl n role : Nat) : (s.setPartRole pool isl n role).rng = s.rng := State.setPart_rng s pool isl n _
@[simp] theorem State.setPartRole_mod (s : State) (pool isl n role : Nat) : (s.setPartRole pool isl n role).mod = s.mod := State.setPart_mod s pool isl n _
@[simp] theorem State.setPartRole_pwr (s : State) (pool isl n role : Nat) : (s.setPartRole pool isl n role).pwr = s.pwr := State.setPart_pwr s pool isl n _
@[simp] theorem State.setPartRole_mss (s : State) (pool isl n role : Nat) : (s.setPartRole pool isl n role).mss = s.mss := State.setPart_mss s pool isl n _
@[simp] theorem State.setPartRole_sec (s : State) (pool isl n role : Nat) : (s.setPartRole pool isl n role).sec = s.sec := State.setPart_sec s pool isl n _
@[simp] theorem State.setPartRole_pnl (s : State) (pool isl n role : Nat) : (s.setPartRole pool isl n role).pnl = s.pnl := State.setPart_pnl s pool isl n _
@[simp] theorem State.setPartRole_rtc (s : State) (pool isl n role : Nat) : (s.setPartRole pool isl n role).rtc = s.rtc := State.setPart_rtc s pool isl n _
@[simp] theorem State.setPartRole_other (s : State) (pool isl n role : Nat) : (s.setPartRole pool isl n role).other = s.other := State.setPart_other s pool isl n _

@[simp] theorem State.putInService_pending (s : State) (pool isl n c : Nat) : (s.putInService pool isl n c).pending = s.pending := State.setPart_pending s pool isl n _
@[simp] theorem State.putInService_now (s : State) (pool isl n c : Nat) : (s.putInService pool isl n c).now = s.now := State.setPart_now s pool isl n _
@[simp] theorem State.putInService_fresh (s : State) (pool isl n c : Nat) : (s.putInService pool isl n c).fresh = s.fresh := State.setPart_fresh s pool isl n _
@[simp] theorem State.putInService_host (s : State) (pool isl n c : Nat) : (s.putInService pool isl n c).host = s.host := State.setPart_host s pool isl n _
@[simp] theorem State.putInService_flows (s : State) (pool isl n c : Nat) : (s.putInService pool isl n c).flows = s.flows := State.setPart_flows s pool isl n _
@[simp] theorem State.putInService_cp (s : State) (pool isl n c : Nat) : (s.putInService pool isl n c).cp = s.cp := State.setPart_cp s pool isl n _
@[simp] theorem State.putInService_rcd (s : State) (pool isl n c : Nat) : (s.putInService pool isl n c).rcd = s.rcd := State.setPart_rcd s pool isl n _
@[simp] theorem State.putInService_ana (s : State) (pool isl n c : Nat) : (s.putInService pool isl n c).ana = s.ana := State.setPart_ana s pool isl n _
@[simp] theorem State.putInService_dig (s : State) (pool isl n c : Nat) : (s.putInService pool isl n c).dig = s.dig := State.setPart_dig s pool isl n _
@[simp] theorem State.putInService_alm (s : State) (pool isl n c : Nat) : (s.putInService pool isl n c).alm = s.alm := State.setPart_alm s pool isl n _
@[simp] theorem State.putInService_prg (s : State) (pool isl n c : Nat) : (s.putInService pool isl n c).prg = s.prg := State.setPart_prg s pool isl n _
@[simp] theorem State.putInService_rng (s : State) (pool isl n c : Nat) : (s.putInService pool isl n c).rng = s.rng := State.setPart_rng s pool isl n _
@[simp] theorem State.putInService_mod (s : State) (pool isl n c : Nat) : (s.putInService pool isl n c).mod = s.mod := State.setPart_mod s pool isl n _
@[simp] theorem State.putInService_pwr (s : State) (pool isl n c : Nat) : (s.putInService pool isl n c).pwr = s.pwr := State.setPart_pwr s pool isl n _
@[simp] theorem State.putInService_mss (s : State) (pool isl n c : Nat) : (s.putInService pool isl n c).mss = s.mss := State.setPart_mss s pool isl n _
@[simp] theorem State.putInService_sec (s : State) (pool isl n c : Nat) : (s.putInService pool isl n c).sec = s.sec := State.setPart_sec s pool isl n _
@[simp] theorem State.putInService_pnl (s : State) (pool isl n c : Nat) : (s.putInService pool isl n c).pnl = s.pnl := State.setPart_pnl s pool isl n _
@[simp] theorem State.putInService_rtc (s : State) (pool isl n c : Nat) : (s.putInService pool isl n c).rtc = s.rtc := State.setPart_rtc s pool isl n _
@[simp] theorem State.putInService_other (s : State) (pool isl n c : Nat) : (s.putInService pool isl n c).other = s.other := State.setPart_other s pool isl n _

/-! setTile -/
@[simp] theorem State.setTile_pending (s : State) (n : Nat) (x : Tile) : (s.setTile n x).pending = s.pending := rfl
@[simp] theorem State.setTile_now (s : State) (n : Nat) (x : Tile) : (s.setTile n x).now = s.now := rfl
@[simp] theorem State.setTile_fresh (s : State) (n : Nat) (x : Tile) : (s.setTile n x).fresh = s.fresh := rfl
@[simp] theorem State.setTile_host (s : State) (n : Nat) (x : Tile) : (s.setTile n x).host = s.host := rfl
@[simp] theorem State.setTile_flows (s : State) (n : Nat) (x : Tile) : (s.setTile n x).flows = s.flows := rfl
@[simp] theorem State.setTile_cp (s : State) (n : Nat) (x : Tile) : (s.setTile n x).cp = s.cp := rfl
@[simp] theorem State.setTile_rcd (s : State) (n : Nat) (x : Tile) : (s.setTile n x).rcd = s.rcd := rfl
@[simp] theorem State.setTile_ana (s : State) (n : Nat) (x : Tile) : (s.setTile n x).ana = s.ana := rfl
@[simp] theorem State.setTile_dig (s : State) (n : Nat) (x : Tile) : (s.setTile n x).dig = s.dig := rfl
@[simp] theorem State.setTile_alm (s : State) (n : Nat) (x : Tile) : (s.setTile n x).alm = s.alm := rfl
@[simp] theorem State.setTile_prg (s : State) (n : Nat) (x : Tile) : (s.setTile n x).prg = s.prg := rfl
@[simp] theorem State.setTile_rng (s : State) (n : Nat) (x : Tile) : (s.setTile n x).rng = s.rng := rfl
@[simp] theorem State.setTile_spr (s : State) (n : Nat) (x : Tile) : (s.setTile n x).spr = s.spr := rfl
@[simp] theorem State.setTile_mod (s : State) (n : Nat) (x : Tile) : (s.setTile n x).mod = s.mod := rfl
@[simp] theorem State.setTile_pwr (s : State) (n : Nat) (x : Tile) : (s.setTile n x).pwr = s.pwr := rfl
@[simp] theorem State.setTile_mss (s : State) (n : Nat) (x : Tile) : (s.setTile n x).mss = s.mss := rfl
@[simp] theorem State.setTile_sec (s : State) (n : Nat) (x : Tile) : (s.setTile n x).sec = s.sec := rfl
@[simp] theorem State.setTile_rtc (s : State) (n : Nat) (x : Tile) : (s.setTile n x).rtc = s.rtc := rfl
@[simp] theorem State.setTile_other (s : State) (n : Nat) (x : Tile) : (s.setTile n x).other = s.other := rfl

/-! unqueue -/
@[simp] theorem State.unqueue_pending (s : State) (u : Update) : (s.unqueue u).pending = s.pending := rfl
@[simp] theorem State.unqueue_now (s : State) (u : Update) : (s.unqueue u).now = s.now := rfl
@[simp] theorem State.unqueue_fresh (s : State) (u : Update) : (s.unqueue u).fresh = s.fresh := rfl
@[simp] theorem State.unqueue_host (s : State) (u : Update) : (s.unqueue u).host = s.host := rfl
@[simp] theorem State.unqueue_flows (s : State) (u : Update) : (s.unqueue u).flows = s.flows := rfl
@[simp] theorem State.unqueue_cp (s : State) (u : Update) : (s.unqueue u).cp = s.cp := rfl
@[simp] theorem State.unqueue_rcd (s : State) (u : Update) : (s.unqueue u).rcd = s.rcd := rfl
@[simp] theorem State.unqueue_ana (s : State) (u : Update) : (s.unqueue u).ana = s.ana := rfl
@[simp] theorem State.unqueue_dig (s : State) (u : Update) : (s.unqueue u).dig = s.dig := rfl
@[simp] theorem State.unqueue_alm (s : State) (u : Update) : (s.unqueue u).alm = s.alm := rfl
@[simp] theorem State.unqueue_prg (s : State) (u : Update) : (s.unqueue u).prg = s.prg := rfl
@[simp] theorem State.unqueue_rng (s : State) (u : Update) : (s.unqueue u).rng = s.rng := rfl
@[simp] theorem State.unqueue_spr (s : State) (u : Update) : (s.unqueue u).spr = s.spr := rfl
@[simp] theorem State.unqueue_mod (s : State) (u : Update) : (s.unqueue u).mod = s.mod := rfl
@[simp] theorem State.unqueue_pwr (s : State) (u : Update) : (s.unqueue u).pwr = s.pwr := rfl
@[simp] theorem State.unqueue_mss (s : State) (u : Update) : (s.unqueue u).mss = s.mss := rfl
@[simp] theorem State.unqueue_sec (s : State) (u : Update) : (s.unqueue u).sec = s.sec := rfl
@[simp] theorem State.unqueue_rtc (s : State) (u : Update) : (s.unqueue u).rtc = s.rtc := rfl
@[simp] theorem State.unqueue_other (s : State) (u : Update) : (s.unqueue u).other = s.other := rfl

/-! withCommand -/
@[simp] theorem State.withCommand_pending (s : State) (c : Instr) : (s.withCommand c).pending = c :: s.pending := rfl
@[simp] theorem State.withCommand_now (s : State) (c : Instr) : (s.withCommand c).now = s.now := rfl
@[simp] theorem State.withCommand_fresh (s : State) (c : Instr) : (s.withCommand c).fresh = s.fresh := rfl
@[simp] theorem State.withCommand_host (s : State) (c : Instr) : (s.withCommand c).host = s.host := rfl
@[simp] theorem State.withCommand_flows (s : State) (c : Instr) : (s.withCommand c).flows = s.flows := rfl
@[simp] theorem State.withCommand_cp (s : State) (c : Instr) : (s.withCommand c).cp = s.cp := rfl
@[simp] theorem State.withCommand_rcd (s : State) (c : Instr) : (s.withCommand c).rcd = s.rcd := rfl
@[simp] theorem State.withCommand_ana (s : State) (c : Instr) : (s.withCommand c).ana = s.ana := rfl
@[simp] theorem State.withCommand_dig (s : State) (c : Instr) : (s.withCommand c).dig = s.dig := rfl
@[simp] theorem State.withCommand_alm (s : State) (c : Instr) : (s.withCommand c).alm = s.alm := rfl
@[simp] theorem State.withCommand_prg (s : State) (c : Instr) : (s.withCommand c).prg = s.prg := rfl
@[simp] theorem State.withCommand_rng (s : State) (c : Instr) : (s.withCommand c).rng = s.rng := rfl
@[simp] theorem State.withCommand_spr (s : State) (c : Instr) : (s.withCommand c).spr = s.spr := rfl
@[simp] theorem State.withCommand_mod (s : State) (c : Instr) : (s.withCommand c).mod = s.mod := rfl
@[simp] theorem State.withCommand_pwr (s : State) (c : Instr) : (s.withCommand c).pwr = s.pwr := rfl
@[simp] theorem State.withCommand_mss (s : State) (c : Instr) : (s.withCommand c).mss = s.mss := rfl
@[simp] theorem State.withCommand_sec (s : State) (c : Instr) : (s.withCommand c).sec = s.sec := rfl
@[simp] theorem State.withCommand_pnl (s : State) (c : Instr) : (s.withCommand c).pnl = s.pnl := rfl
@[simp] theorem State.withCommand_rtc (s : State) (c : Instr) : (s.withCommand c).rtc = s.rtc := rfl
@[simp] theorem State.withCommand_other (s : State) (c : Instr) : (s.withCommand c).other = s.other := rfl

/-! A read after a write. -/
@[simp] theorem State.flow_setFlow (s : State) (i j : Nat) (x : Flow) : (s.setFlow i x).flow j = if j = i then x else s.flow j :=
  tget_tset _ _ _ _ _
@[simp] theorem State.chan_setChan (s : State) (i j : Nat) (x : Chan) : (s.setChan i x).chan j = if j = i then x else s.chan j :=
  tget_tset _ _ _ _ _
@[simp] theorem State.out_setOut (s : State) (i j : Nat) (x : Output) : (s.setOut i x).out j = if j = i then x else s.out j :=
  tget_tset _ _ _ _ _
@[simp] theorem State.aisl_setAisl (s : State) (i j : Nat) (x : AIsland) : (s.setAisl i x).aisl j = if j = i then x else s.aisl j :=
  tget_tset _ _ _ _ _
@[simp] theorem State.disl_setDisl (s : State) (i j : Nat) (x : DIsland) : (s.setDisl i x).disl j = if j = i then x else s.disl j :=
  tget_tset _ _ _ _ _
@[simp] theorem State.pin_setPin (s : State) (i j : Nat) (x : Pin) : (s.setPin i x).pin j = if j = i then x else s.pin j :=
  tget_tset _ _ _ _ _
@[simp] theorem State.point_setPoint (s : State) (i j : Nat) (x : Point) : (s.setPoint i x).point j = if j = i then x else s.point j :=
  tget_tset _ _ _ _ _
@[simp] theorem State.group_setGroup (s : State) (i j : Nat) (x : Group) : (s.setGroup i x).group j = if j = i then x else s.group j :=
  tget_tset _ _ _ _ _
@[simp] theorem State.chain_setChain (s : State) (i j : Nat) (x : Chain) : (s.setChain i x).chain j = if j = i then x else s.chain j :=
  tget_tset _ _ _ _ _
@[simp] theorem State.session_setSession (s : State) (i j : Nat) (x : Session) : (s.setSession i x).session j = if j = i then x else s.session j :=
  tget_tset _ _ _ _ _
@[simp] theorem State.ring_setRing (s : State) (i j : Nat) (x : SesRing) : (s.setRing i x).ring j = if j = i then x else s.ring j :=
  tget_tset _ _ _ _ _
@[simp] theorem State.set_putSet (s : State) (i j : Nat) (x : ConSet) : (s.putSet i x).set j = if j = i then x else s.set j :=
  tget_tset _ _ _ _ _
@[simp] theorem State.sensor_setSensor (s : State) (i j : Nat) (x : Sensor) : (s.setSensor i x).sensor j = if j = i then x else s.sensor j :=
  tget_tset _ _ _ _ _

end Sys2Proof.Machine
end

