-- ==== Sys2Proof/Laws/Frames.lean ====
section
/-! SUPPORT. What the shared operations leave alone. An operation that hands records over writes the flows and the recorder only;
one that completes a command writes the command processor besides; one that raises an interrupt writes the host port only. Each is
said once for all parts of the state, then projected. -/

namespace Sys2Proof.Machine

/-- `t` differs from `s` in the flows and the recorder at most. -/
structure StoreOnly (s t : State) : Prop where
  eq : t = { s with flows := t.flows, rcd := t.rcd }

theorem StoreOnly.refl (s : State) : StoreOnly s s := ⟨rfl⟩

theorem StoreOnly.trans {s t u : State} (h : StoreOnly s t) (k : StoreOnly t u) : StoreOnly s u := by
  refine ⟨?_⟩; rw [k.eq, h.eq]

theorem storeOnly_setFlow (s : State) (f : Nat) (x : Flow) : StoreOnly s (s.setFlow f x) := ⟨rfl⟩

theorem storeOnly_rcd (s : State) (r : Recorder) : StoreOnly s { s with rcd := r } := ⟨rfl⟩

theorem takeItem_storeOnly (td f : Nat) (b : Body) (s : State) : StoreOnly s (takeItem td f b s).2 := by
  unfold takeItem
  extract_lets x inJournal it
  split
  · exact .refl s
  · split <;> exact storeOnly_setFlow ..

theorem acceptAt_storeOnly (td f : Nat) (b : Body) (s : State) : StoreOnly s (acceptAt td f b s).2 := by
  have h := takeItem_storeOnly td f b s
  unfold acceptAt
  revert h
  generalize takeItem td f b s = y
  intro h
  obtain ⟨q, s'⟩ := y
  extract_lets x
  split
  · exact .refl s
  · cases q with
    | none => exact h
    | some n => exact h.trans (storeOnly_setFlow s' f _)

theorem acceptRaw_storeOnly (f : Nat) (b : Body) (s : State) : StoreOnly s (acceptRaw f b s).2 := acceptAt_storeOnly _ _ _ _

theorem offerRaw_storeOnly (sev : Nat) (r : Rec) (f : Nat) (q : Option Nat) (s : State) : StoreOnly s (offerRaw sev r f q s).2 := by
  unfold offerRaw
  generalize placeRecord (storedOf sev r f q (s.lateOf f q)) s.rcd = y
  obtain ⟨p, x⟩ := y
  split
  · exact .refl s
  · exact storeOnly_rcd s x

theorem storeOnly_ite {s t u : State} (c : Bool) (h : StoreOnly s t) (k : StoreOnly s u) : StoreOnly s (if c then t else u) := by
  cases c <;> assumption

theorem emitPlain_storeOnly (sev : Nat) (r : Rec) (s : State) : StoreOnly s (emitPlain sev r s).2 := by
  have h := acceptRaw_storeOnly 0 (.record r) s
  unfold emitPlain
  revert h
  generalize acceptRaw 0 (.record r) s = y
  intro h
  obtain ⟨q, s'⟩ := y
  exact (storeOnly_ite _ (h.trans (storeOnly_setFlow s' 0 _)) h).trans (offerRaw_storeOnly sev r 0 q _)

theorem countOverRate_storeOnly (f time : Nat) (s : State) : StoreOnly s (countOverRate f time s) := by
  unfold countOverRate
  extract_lets x s1
  have h1 : StoreOnly s s1 := storeOnly_setFlow ..
  clear_value s1
  split
  · have h := emitPlain_storeOnly 0 (s1.mkRec 0x0026 f 0 (le 4 x.overCount ++ le 8 x.overFirst)) s1
    revert h
    generalize emitPlain 0 (s1.mkRec 0x0026 f 0 (le 4 x.overCount ++ le 8 x.overFirst)) s1 = y
    intro h
    obtain ⟨q, s2⟩ := y
    cases q with
    | none => exact h1.trans (h.trans (storeOnly_setFlow s2 f _))
    | some n => exact h1.trans (h.trans (storeOnly_setFlow s2 f _))
  · exact h1

theorem offerItem_storeOnly (td f : Nat) (b : Body) (time : Nat) (s : State) : StoreOnly s (offerItem td f b time s).2 := by
  have h := acceptAt_storeOnly td f b s
  unfold offerItem
  revert h
  generalize acceptAt td f b s = y
  intro h
  obtain ⟨q, s'⟩ := y
  exact storeOnly_ite _ (h.trans (countOverRate_storeOnly f time s')) h

theorem afterOffer_storeOnly (sev : Nat) (p : Placed) (s : State) : StoreOnly s (afterOffer sev p s) := by
  unfold afterOffer
  cases p with
  | kept => exact .refl s
  | refused =>
    dsimp only
    split
    · exact StoreOnly.trans (storeOnly_rcd s _) (emitPlain_storeOnly _ _ _)
    · exact .refl s
  | overflowBegun =>
    dsimp only
    split
    · exact StoreOnly.trans (storeOnly_rcd s _) (emitPlain_storeOnly _ _ _)
    · exact .refl s

theorem emit_storeOnly (sev f : Nat) (r : Rec) (s : State) : StoreOnly s (emit sev f r s) := by
  have h := offerItem_storeOnly s.now f (.record r) r.time s
  unfold emit
  revert h
  generalize offerItem s.now f (.record r) r.time s = y
  intro h
  obtain ⟨q, s1⟩ := y
  exact h.trans ((offerRaw_storeOnly sev r f q s1).trans (afterOffer_storeOnly sev _ _))

theorem noteOf_storeOnly (t typ index : Nat) (p : List Byte) (s : State) : StoreOnly s (noteOf t typ index p s) := by
  unfold noteOf
  exact emit_storeOnly _ _ _ _

theorem noteSev_storeOnly (sev typ index code : Nat) (p : List Byte) (s : State) : StoreOnly s (noteSev sev typ index code p s) := by
  unfold noteSev
  exact emit_storeOnly _ _ _ _

theorem note_storeOnly (typ index : Nat) (p : List Byte) (s : State) : StoreOnly s (note typ index p s) := by
  unfold note
  exact noteSev_storeOnly _ _ _ _ _ _

theorem sendReply_storeOnly (c : Cmd) (hi code : Nat) (p : List Byte) (s : State) : StoreOnly s (sendReply c hi code p s) := by
  unfold sendReply
  exact offerItem_storeOnly _ _ _ _ _

theorem sendRefusal_storeOnly (f : Nat) (c : Cmd) (hi code : Nat) (p : List Byte) (s : State) :
    StoreOnly s (sendRefusal f c hi code p s) := by
  unfold sendRefusal
  extract_lets x x' s1 s2 s3 b full s4
  split
  · split
    · exact StoreOnly.trans (storeOnly_setFlow s f x') (StoreOnly.trans (storeOnly_setFlow s1 f _) (note_storeOnly _ _ _ _))
    · exact storeOnly_setFlow s f x'
  · have h : StoreOnly s s4 := StoreOnly.trans (storeOnly_setFlow s f _) (takeItem_storeOnly _ _ _ _)
    exact storeOnly_ite _ (h.trans (countOverRate_storeOnly _ _ _)) h

/-- `t` differs from `s` in the flows, the recorder and the command processor at most. -/
structure ReplyOnly (s t : State) : Prop where
  eq : t = { s with flows := t.flows, rcd := t.rcd, cp := t.cp }

theorem ReplyOnly.refl (s : State) : ReplyOnly s s := ⟨rfl⟩

theorem ReplyOnly.trans {s t u : State} (h : ReplyOnly s t) (k : ReplyOnly t u) : ReplyOnly s u := by
  refine ⟨?_⟩; rw [k.eq, h.eq]

theorem StoreOnly.reply {s t : State} (h : StoreOnly s t) : ReplyOnly s t := by
  refine ⟨?_⟩; rw [h.eq]

theorem replyOnly_cp (s : State) (x : CmdProc) : ReplyOnly s { s with cp := x } := ⟨rfl⟩

theorem foldl_replyOnly {α : Type} (g : State → α → State) (hg : ∀ s a, ReplyOnly s (g s a)) (l : List α) (s : State) :
    ReplyOnly s (l.foldl g s) := by
  induction l generalizing s with
  | nil => exact .refl s
  | cons a r ih => exact (hg s a).trans (ih _)

theorem completeCmd_replyOnly (id st : Nat) (p : List Byte) (s : State) : ReplyOnly s (completeCmd id st p s) := by
  unfold completeCmd
  cases s.cmd id with
  | none => exact .refl s
  | some e =>
    dsimp only
    cases e.fromMaster with
    | some m => exact replyOnly_cp s _
    | none =>
      dsimp only
      refine (StoreOnly.reply (sendReply_storeOnly _ _ _ _ _)).trans (ReplyOnly.trans (replyOnly_cp _ _)
        (ReplyOnly.trans (foldl_replyOnly _ ?_ _ _) (replyOnly_cp _ _)))
      exact fun _ _ => (sendReply_storeOnly _ _ _ _ _).reply

theorem acceptJob_replyOnly (e : CmdEntry) (w : List Nat) (s : State) : ReplyOnly s (acceptJob e w s) := by
  unfold acceptJob
  dsimp only
  split
  · exact replyOnly_cp s _
  · exact ReplyOnly.trans (replyOnly_cp s _) (ReplyOnly.trans (sendReply_storeOnly _ _ _ _ _).reply (replyOnly_cp _ _))

theorem finish_replyOnly (e : CmdEntry) (r : Rep) (s : State) : ReplyOnly s (finish e r s) := by
  unfold finish
  cases r with
  | final st p => exact completeCmd_replyOnly _ _ _ _
  | job w => exact acceptJob_replyOnly _ _ _
  | wait w => exact replyOnly_cp s _
  | done => exact .refl s

/-- `t` differs from `s` in the host port at most. -/
structure HostOnly (s t : State) : Prop where
  eq : t = { s with host := t.host }

theorem HostOnly.trans {s t u : State} (h : HostOnly s t) (k : HostOnly t u) : HostOnly s u := by
  refine ⟨?_⟩; rw [k.eq, h.eq]

theorem raiseVector_hostOnly (pf v : Nat) (s : State) : HostOnly s (raiseVector pf v s) := by
  unfold raiseVector
  split <;> exact ⟨rfl⟩

theorem setErr_hostOnly (b : Nat) (s : State) : HostOnly s (setErr b s) := ⟨rfl⟩

theorem setIrq_hostOnly (b : Nat) (s : State) : HostOnly s (setIrq b s) := by
  unfold setIrq
  split
  · exact ⟨rfl⟩
  · extract_lets h0 s1
    have h : HostOnly s s1 := ⟨rfl⟩
    clear_value s1
    split
    · exact h.trans (raiseVector_hostOnly _ _ _)
    · exact h

theorem badAccess_hostOnly (s : State) : HostOnly s (badAccess s) := by
  unfold badAccess
  exact (setErr_hostOnly 0 s).trans (setIrq_hostOnly _ _)

theorem answerThrough_hostOnly (id a : Nat) (l p : List Byte) (s : State) : HostOnly s (answerThrough id a l p s).2 := by
  unfold answerThrough
  extract_lets go x s1
  cases go <;> exact ⟨rfl⟩

theorem StoreOnly.pending {s t : State} (h : StoreOnly s t) : t.pending = s.pending := by rw [h.eq]
theorem StoreOnly.now {s t : State} (h : StoreOnly s t) : t.now = s.now := by rw [h.eq]
theorem StoreOnly.fresh {s t : State} (h : StoreOnly s t) : t.fresh = s.fresh := by rw [h.eq]
theorem StoreOnly.host {s t : State} (h : StoreOnly s t) : t.host = s.host := by rw [h.eq]
theorem StoreOnly.cp {s t : State} (h : StoreOnly s t) : t.cp = s.cp := by rw [h.eq]
theorem StoreOnly.ana {s t : State} (h : StoreOnly s t) : t.ana = s.ana := by rw [h.eq]
theorem StoreOnly.dig {s t : State} (h : StoreOnly s t) : t.dig = s.dig := by rw [h.eq]
theorem StoreOnly.alm {s t : State} (h : StoreOnly s t) : t.alm = s.alm := by rw [h.eq]
theorem StoreOnly.prg {s t : State} (h : StoreOnly s t) : t.prg = s.prg := by rw [h.eq]
theorem StoreOnly.rng {s t : State} (h : StoreOnly s t) : t.rng = s.rng := by rw [h.eq]
theorem StoreOnly.spr {s t : State} (h : StoreOnly s t) : t.spr = s.spr := by rw [h.eq]
theorem StoreOnly.mod {s t : State} (h : StoreOnly s t) : t.mod = s.mod := by rw [h.eq]
theorem StoreOnly.pwr {s t : State} (h : StoreOnly s t) : t.pwr = s.pwr := by rw [h.eq]
theorem StoreOnly.mss {s t : State} (h : StoreOnly s t) : t.mss = s.mss := by rw [h.eq]
theorem StoreOnly.sec {s t : State} (h : StoreOnly s t) : t.sec = s.sec := by rw [h.eq]
theorem StoreOnly.pnl {s t : State} (h : StoreOnly s t) : t.pnl = s.pnl := by rw [h.eq]
theorem StoreOnly.rtc {s t : State} (h : StoreOnly s t) : t.rtc = s.rtc := by rw [h.eq]
theorem StoreOnly.other {s t : State} (h : StoreOnly s t) : t.other = s.other := by rw [h.eq]

theorem ReplyOnly.pending {s t : State} (h : ReplyOnly s t) : t.pending = s.pending := by rw [h.eq]
theorem ReplyOnly.now {s t : State} (h : ReplyOnly s t) : t.now = s.now := by rw [h.eq]
theorem ReplyOnly.fresh {s t : State} (h : ReplyOnly s t) : t.fresh = s.fresh := by rw [h.eq]
theorem ReplyOnly.host {s t : State} (h : ReplyOnly s t) : t.host = s.host := by rw [h.eq]
theorem ReplyOnly.ana {s t : State} (h : ReplyOnly s t) : t.ana = s.ana := by rw [h.eq]
theorem ReplyOnly.dig {s t : State} (h : ReplyOnly s t) : t.dig = s.dig := by rw [h.eq]
theorem ReplyOnly.alm {s t : State} (h : ReplyOnly s t) : t.alm = s.alm := by rw [h.eq]
theorem ReplyOnly.prg {s t : State} (h : ReplyOnly s t) : t.prg = s.prg := by rw [h.eq]
theorem ReplyOnly.rng {s t : State} (h : ReplyOnly s t) : t.rng = s.rng := by rw [h.eq]
theorem ReplyOnly.spr {s t : State} (h : ReplyOnly s t) : t.spr = s.spr := by rw [h.eq]
theorem ReplyOnly.mod {s t : State} (h : ReplyOnly s t) : t.mod = s.mod := by rw [h.eq]
theorem ReplyOnly.pwr {s t : State} (h : ReplyOnly s t) : t.pwr = s.pwr := by rw [h.eq]
theorem ReplyOnly.mss {s t : State} (h : ReplyOnly s t) : t.mss = s.mss := by rw [h.eq]
theorem ReplyOnly.sec {s t : State} (h : ReplyOnly s t) : t.sec = s.sec := by rw [h.eq]
theorem ReplyOnly.pnl {s t : State} (h : ReplyOnly s t) : t.pnl = s.pnl := by rw [h.eq]
theorem ReplyOnly.rtc {s t : State} (h : ReplyOnly s t) : t.rtc = s.rtc := by rw [h.eq]
theorem ReplyOnly.other {s t : State} (h : ReplyOnly s t) : t.other = s.other := by rw [h.eq]

theorem HostOnly.pending {s t : State} (h : HostOnly s t) : t.pending = s.pending := by rw [h.eq]
theorem HostOnly.now {s t : State} (h : HostOnly s t) : t.now = s.now := by rw [h.eq]
theorem HostOnly.fresh {s t : State} (h : HostOnly s t) : t.fresh = s.fresh := by rw [h.eq]
theorem HostOnly.flows {s t : State} (h : HostOnly s t) : t.flows = s.flows := by rw [h.eq]
theorem HostOnly.cp {s t : State} (h : HostOnly s t) : t.cp = s.cp := by rw [h.eq]
theorem HostOnly.rcd {s t : State} (h : HostOnly s t) : t.rcd = s.rcd := by rw [h.eq]
theorem HostOnly.ana {s t : State} (h : HostOnly s t) : t.ana = s.ana := by rw [h.eq]
theorem HostOnly.dig {s t : State} (h : HostOnly s t) : t.dig = s.dig := by rw [h.eq]
theorem HostOnly.alm {s t : State} (h : HostOnly s t) : t.alm = s.alm := by rw [h.eq]
theorem HostOnly.prg {s t : State} (h : HostOnly s t) : t.prg = s.prg := by rw [h.eq]
theorem HostOnly.rng {s t : State} (h : HostOnly s t) : t.rng = s.rng := by rw [h.eq]
theorem HostOnly.spr {s t : State} (h : HostOnly s t) : t.spr = s.spr := by rw [h.eq]
theorem HostOnly.mod {s t : State} (h : HostOnly s t) : t.mod = s.mod := by rw [h.eq]
theorem HostOnly.pwr {s t : State} (h : HostOnly s t) : t.pwr = s.pwr := by rw [h.eq]
theorem HostOnly.mss {s t : State} (h : HostOnly s t) : t.mss = s.mss := by rw [h.eq]
theorem HostOnly.sec {s t : State} (h : HostOnly s t) : t.sec = s.sec := by rw [h.eq]
theorem HostOnly.pnl {s t : State} (h : HostOnly s t) : t.pnl = s.pnl := by rw [h.eq]
theorem HostOnly.rtc {s t : State} (h : HostOnly s t) : t.rtc = s.rtc := by rw [h.eq]
theorem HostOnly.other {s t : State} (h : HostOnly s t) : t.other = s.other := by rw [h.eq]

/-! ### `takeItem` -/

@[simp] theorem takeItem_pending (td f : Nat) (b : Body) (s : State) : (takeItem td f b s).2.pending = s.pending :=
  (takeItem_storeOnly td f b s).pending
@[simp] theorem takeItem_now (td f : Nat) (b : Body) (s : State) : (takeItem td f b s).2.now = s.now :=
  (takeItem_storeOnly td f b s).now
@[simp] theorem takeItem_fresh (td f : Nat) (b : Body) (s : State) : (takeItem td f b s).2.fresh = s.fresh :=
  (takeItem_storeOnly td f b s).fresh
@[simp] theorem takeItem_host (td f : Nat) (b : Body) (s : State) : (takeItem td f b s).2.host = s.host :=
  (takeItem_storeOnly td f b s).host
@[simp] theorem takeItem_cp (td f : Nat) (b : Body) (s : State) : (takeItem td f b s).2.cp = s.cp :=
  (takeItem_storeOnly td f b s).cp
@[simp] theorem takeItem_ana (td f : Nat) (b : Body) (s : State) : (takeItem td f b s).2.ana = s.ana :=
  (takeItem_storeOnly td f b s).ana
@[simp] theorem takeItem_dig (td f : Nat) (b : Body) (s : State) : (takeItem td f b s).2.dig = s.dig :=
  (takeItem_storeOnly td f b s).dig
@[simp] theorem takeItem_alm (td f : Nat) (b : Body) (s : State) : (takeItem td f b s).2.alm = s.alm :=
  (takeItem_storeOnly td f b s).alm
@[simp] theorem takeItem_prg (td f : Nat) (b : Body) (s : State) : (takeItem td f b s).2.prg = s.prg :=
  (takeItem_storeOnly td f b s).prg
@[simp] theorem takeItem_rng (td f : Nat) (b : Body) (s : State) : (takeItem td f b s).2.rng = s.rng :=
  (takeItem_storeOnly td f b s).rng
@[simp] theorem takeItem_spr (td f : Nat) (b : Body) (s : State) : (takeItem td f b s).2.spr = s.spr :=
  (takeItem_storeOnly td f b s).spr
@[simp] theorem takeItem_mod (td f : Nat) (b : Body) (s : State) : (takeItem td f b s).2.mod = s.mod :=
  (takeItem_storeOnly td f b s).mod
@[simp] theorem takeItem_pwr (td f : Nat) (b : Body) (s : State) : (takeItem td f b s).2.pwr = s.pwr :=
  (takeItem_storeOnly td f b s).pwr
@[simp] theorem takeItem_mss (td f : Nat) (b : Body) (s : State) : (takeItem td f b s).2.mss = s.mss :=
  (takeItem_storeOnly td f b s).mss
@[simp] theorem takeItem_sec (td f : Nat) (b : Body) (s : State) : (takeItem td f b s).2.sec = s.sec :=
  (takeItem_storeOnly td f b s).sec
@[simp] theorem takeItem_pnl (td f : Nat) (b : Body) (s : State) : (takeItem td f b s).2.pnl = s.pnl :=
  (takeItem_storeOnly td f b s).pnl
@[simp] theorem takeItem_rtc (td f : Nat) (b : Body) (s : State) : (takeItem td f b s).2.rtc = s.rtc :=
  (takeItem_storeOnly td f b s).rtc
@[simp] theorem takeItem_other (td f : Nat) (b : Body) (s : State) : (takeItem td f b s).2.other = s.other :=
  (takeItem_storeOnly td f b s).other

/-! ### `acceptAt` -/

@[simp] theorem acceptAt_pending (td f : Nat) (b : Body) (s : State) : (acceptAt td f b s).2.pending = s.pending :=
  (acceptAt_storeOnly td f b s).pending
@[simp] theorem acceptAt_now (td f : Nat) (b : Body) (s : State) : (acceptAt td f b s).2.now = s.now :=
  (acceptAt_storeOnly td f b s).now
@[simp] theorem acceptAt_fresh (td f : Nat) (b : Body) (s : State) : (acceptAt td f b s).2.fresh = s.fresh :=
  (acceptAt_storeOnly td f b s).fresh
@[simp] theorem acceptAt_host (td f : Nat) (b : Body) (s : State) : (acceptAt td f b s).2.host = s.host :=
  (acceptAt_storeOnly td f b s).host
@[simp] theorem acceptAt_cp (td f : Nat) (b : Body) (s : State) : (acceptAt td f b s).2.cp = s.cp :=
  (acceptAt_storeOnly td f b s).cp
@[simp] theorem acceptAt_ana (td f : Nat) (b : Body) (s : State) : (acceptAt td f b s).2.ana = s.ana :=
  (acceptAt_storeOnly td f b s).ana
@[simp] theorem acceptAt_dig (td f : Nat) (b : Body) (s : State) : (acceptAt td f b s).2.dig = s.dig :=
  (acceptAt_storeOnly td f b s).dig
@[simp] theorem acceptAt_alm (td f : Nat) (b : Body) (s : State) : (acceptAt td f b s).2.alm = s.alm :=
  (acceptAt_storeOnly td f b s).alm
@[simp] theorem acceptAt_prg (td f : Nat) (b : Body) (s : State) : (acceptAt td f b s).2.prg = s.prg :=
  (acceptAt_storeOnly td f b s).prg
@[simp] theorem acceptAt_rng (td f : Nat) (b : Body) (s : State) : (acceptAt td f b s).2.rng = s.rng :=
  (acceptAt_storeOnly td f b s).rng
@[simp] theorem acceptAt_spr (td f : Nat) (b : Body) (s : State) : (acceptAt td f b s).2.spr = s.spr :=
  (acceptAt_storeOnly td f b s).spr
@[simp] theorem acceptAt_mod (td f : Nat) (b : Body) (s : State) : (acceptAt td f b s).2.mod = s.mod :=
  (acceptAt_storeOnly td f b s).mod
@[simp] theorem acceptAt_pwr (td f : Nat) (b : Body) (s : State) : (acceptAt td f b s).2.pwr = s.pwr :=
  (acceptAt_storeOnly td f b s).pwr
@[simp] theorem acceptAt_mss (td f : Nat) (b : Body) (s : State) : (acceptAt td f b s).2.mss = s.mss :=
  (acceptAt_storeOnly td f b s).mss
@[simp] theorem acceptAt_sec (td f : Nat) (b : Body) (s : State) : (acceptAt td f b s).2.sec = s.sec :=
  (acceptAt_storeOnly td f b s).sec
@[simp] theorem acceptAt_pnl (td f : Nat) (b : Body) (s : State) : (acceptAt td f b s).2.pnl = s.pnl :=
  (acceptAt_storeOnly td f b s).pnl
@[simp] theorem acceptAt_rtc (td f : Nat) (b : Body) (s : State) : (acceptAt td f b s).2.rtc = s.rtc :=
  (acceptAt_storeOnly td f b s).rtc
@[simp] theorem acceptAt_other (td f : Nat) (b : Body) (s : State) : (acceptAt td f b s).2.other = s.other :=
  (acceptAt_storeOnly td f b s).other

/-! ### `offerItem` -/

@[simp] theorem offerItem_pending (td f : Nat) (b : Body) (time : Nat) (s : State) : (offerItem td f b time s).2.pending = s.pending :=
  (offerItem_storeOnly td f b time s).pending
@[simp] theorem offerItem_now (td f : Nat) (b : Body) (time : Nat) (s : State) : (offerItem td f b time s).2.now = s.now :=
  (offerItem_storeOnly td f b time s).now
@[simp] theorem offerItem_fresh (td f : Nat) (b : Body) (time : Nat) (s : State) : (offerItem td f b time s).2.fresh = s.fresh :=
  (offerItem_storeOnly td f b time s).fresh
@[simp] theorem offerItem_host (td f : Nat) (b : Body) (time : Nat) (s : State) : (offerItem td f b time s).2.host = s.host :=
  (offerItem_storeOnly td f b time s).host
@[simp] theorem offerItem_cp (td f : Nat) (b : Body) (time : Nat) (s : State) : (offerItem td f b time s).2.cp = s.cp :=
  (offerItem_storeOnly td f b time s).cp
@[simp] theorem offerItem_ana (td f : Nat) (b : Body) (time : Nat) (s : State) : (offerItem td f b time s).2.ana = s.ana :=
  (offerItem_storeOnly td f b time s).ana
@[simp] theorem offerItem_dig (td f : Nat) (b : Body) (time : Nat) (s : State) : (offerItem td f b time s).2.dig = s.dig :=
  (offerItem_storeOnly td f b time s).dig
@[simp] theorem offerItem_alm (td f : Nat) (b : Body) (time : Nat) (s : State) : (offerItem td f b time s).2.alm = s.alm :=
  (offerItem_storeOnly td f b time s).alm
@[simp] theorem offerItem_prg (td f : Nat) (b : Body) (time : Nat) (s : State) : (offerItem td f b time s).2.prg = s.prg :=
  (offerItem_storeOnly td f b time s).prg
@[simp] theorem offerItem_rng (td f : Nat) (b : Body) (time : Nat) (s : State) : (offerItem td f b time s).2.rng = s.rng :=
  (offerItem_storeOnly td f b time s).rng
@[simp] theorem offerItem_spr (td f : Nat) (b : Body) (time : Nat) (s : State) : (offerItem td f b time s).2.spr = s.spr :=
  (offerItem_storeOnly td f b time s).spr
@[simp] theorem offerItem_mod (td f : Nat) (b : Body) (time : Nat) (s : State) : (offerItem td f b time s).2.mod = s.mod :=
  (offerItem_storeOnly td f b time s).mod
@[simp] theorem offerItem_pwr (td f : Nat) (b : Body) (time : Nat) (s : State) : (offerItem td f b time s).2.pwr = s.pwr :=
  (offerItem_storeOnly td f b time s).pwr
@[simp] theorem offerItem_mss (td f : Nat) (b : Body) (time : Nat) (s : State) : (offerItem td f b time s).2.mss = s.mss :=
  (offerItem_storeOnly td f b time s).mss
@[simp] theorem offerItem_sec (td f : Nat) (b : Body) (time : Nat) (s : State) : (offerItem td f b time s).2.sec = s.sec :=
  (offerItem_storeOnly td f b time s).sec
@[simp] theorem offerItem_pnl (td f : Nat) (b : Body) (time : Nat) (s : State) : (offerItem td f b time s).2.pnl = s.pnl :=
  (offerItem_storeOnly td f b time s).pnl
@[simp] theorem offerItem_rtc (td f : Nat) (b : Body) (time : Nat) (s : State) : (offerItem td f b time s).2.rtc = s.rtc :=
  (offerItem_storeOnly td f b time s).rtc
@[simp] theorem offerItem_other (td f : Nat) (b : Body) (time : Nat) (s : State) : (offerItem td f b time s).2.other = s.other :=
  (offerItem_storeOnly td f b time s).other

/-! ### `acceptRaw` -/

@[simp] theorem acceptRaw_pending (f : Nat) (b : Body) (s : State) : (acceptRaw f b s).2.pending = s.pending :=
  (acceptRaw_storeOnly f b s).pending
@[simp] theorem acceptRaw_now (f : Nat) (b : Body) (s : State) : (acceptRaw f b s).2.now = s.now :=
  (acceptRaw_storeOnly f b s).now
@[simp] theorem acceptRaw_fresh (f : Nat) (b : Body) (s : State) : (acceptRaw f b s).2.fresh = s.fresh :=
  (acceptRaw_storeOnly f b s).fresh
@[simp] theorem acceptRaw_host (f : Nat) (b : Body) (s : State) : (acceptRaw f b s).2.host = s.host :=
  (acceptRaw_storeOnly f b s).host
@[simp] theorem acceptRaw_cp (f : Nat) (b : Body) (s : State) : (acceptRaw f b s).2.cp = s.cp :=
  (acceptRaw_storeOnly f b s).cp
@[simp] theorem acceptRaw_ana (f : Nat) (b : Body) (s : State) : (acceptRaw f b s).2.ana = s.ana :=
  (acceptRaw_storeOnly f b s).ana
@[simp] theorem acceptRaw_dig (f : Nat) (b : Body) (s : State) : (acceptRaw f b s).2.dig = s.dig :=
  (acceptRaw_storeOnly f b s).dig
@[simp] theorem acceptRaw_alm (f : Nat) (b : Body) (s : State) : (acceptRaw f b s).2.alm = s.alm :=
  (acceptRaw_storeOnly f b s).alm
@[simp] theorem acceptRaw_prg (f : Nat) (b : Body) (s : State) : (acceptRaw f b s).2.prg = s.prg :=
  (acceptRaw_storeOnly f b s).prg
@[simp] theorem acceptRaw_rng (f : Nat) (b : Body) (s : State) : (acceptRaw f b s).2.rng = s.rng :=
  (acceptRaw_storeOnly f b s).rng
@[simp] theorem acceptRaw_spr (f : Nat) (b : Body) (s : State) : (acceptRaw f b s).2.spr = s.spr :=
  (acceptRaw_storeOnly f b s).spr
@[simp] theorem acceptRaw_mod (f : Nat) (b : Body) (s : State) : (acceptRaw f b s).2.mod = s.mod :=
  (acceptRaw_storeOnly f b s).mod
@[simp] theorem acceptRaw_pwr (f : Nat) (b : Body) (s : State) : (acceptRaw f b s).2.pwr = s.pwr :=
  (acceptRaw_storeOnly f b s).pwr
@[simp] theorem acceptRaw_mss (f : Nat) (b : Body) (s : State) : (acceptRaw f b s).2.mss = s.mss :=
  (acceptRaw_storeOnly f b s).mss
@[simp] theorem acceptRaw_sec (f : Nat) (b : Body) (s : State) : (acceptRaw f b s).2.sec = s.sec :=
  (acceptRaw_storeOnly f b s).sec
@[simp] theorem acceptRaw_pnl (f : Nat) (b : Body) (s : State) : (acceptRaw f b s).2.pnl = s.pnl :=
  (acceptRaw_storeOnly f b s).pnl
@[simp] theorem acceptRaw_rtc (f : Nat) (b : Body) (s : State) : (acceptRaw f b s).2.rtc = s.rtc :=
  (acceptRaw_storeOnly f b s).rtc
@[simp] theorem acceptRaw_other (f : Nat) (b : Body) (s : State) : (acceptRaw f b s).2.other = s.other :=
  (acceptRaw_storeOnly f b s).other

/-! ### `offerRaw` -/

@[simp] theorem offerRaw_pending (sev : Nat) (r : Rec) (f : Nat) (q : Option Nat) (s : State) : (offerRaw sev r f q s).2.pending = s.pending :=
  (offerRaw_storeOnly sev r f q s).pending
@[simp] theorem offerRaw_now (sev : Nat) (r : Rec) (f : Nat) (q : Option Nat) (s : State) : (offerRaw sev r f q s).2.now = s.now :=
  (offerRaw_storeOnly sev r f q s).now
@[simp] theorem offerRaw_fresh (sev : Nat) (r : Rec) (f : Nat) (q : Option Nat) (s : State) : (offerRaw sev r f q s).2.fresh = s.fresh :=
  (offerRaw_storeOnly sev r f q s).fresh
@[simp] theorem offerRaw_host (sev : Nat) (r : Rec) (f : Nat) (q : Option Nat) (s : State) : (offerRaw sev r f q s).2.host = s.host :=
  (offerRaw_storeOnly sev r f q s).host
@[simp] theorem offerRaw_cp (sev : Nat) (r : Rec) (f : Nat) (q : Option Nat) (s : State) : (offerRaw sev r f q s).2.cp = s.cp :=
  (offerRaw_storeOnly sev r f q s).cp
@[simp] theorem offerRaw_ana (sev : Nat) (r : Rec) (f : Nat) (q : Option Nat) (s : State) : (offerRaw sev r f q s).2.ana = s.ana :=
  (offerRaw_storeOnly sev r f q s).ana
@[simp] theorem offerRaw_dig (sev : Nat) (r : Rec) (f : Nat) (q : Option Nat) (s : State) : (offerRaw sev r f q s).2.dig = s.dig :=
  (offerRaw_storeOnly sev r f q s).dig
@[simp] theorem offerRaw_alm (sev : Nat) (r : Rec) (f : Nat) (q : Option Nat) (s : State) : (offerRaw sev r f q s).2.alm = s.alm :=
  (offerRaw_storeOnly sev r f q s).alm
@[simp] theorem offerRaw_prg (sev : Nat) (r : Rec) (f : Nat) (q : Option Nat) (s : State) : (offerRaw sev r f q s).2.prg = s.prg :=
  (offerRaw_storeOnly sev r f q s).prg
@[simp] theorem offerRaw_rng (sev : Nat) (r : Rec) (f : Nat) (q : Option Nat) (s : State) : (offerRaw sev r f q s).2.rng = s.rng :=
  (offerRaw_storeOnly sev r f q s).rng
@[simp] theorem offerRaw_spr (sev : Nat) (r : Rec) (f : Nat) (q : Option Nat) (s : State) : (offerRaw sev r f q s).2.spr = s.spr :=
  (offerRaw_storeOnly sev r f q s).spr
@[simp] theorem offerRaw_mod (sev : Nat) (r : Rec) (f : Nat) (q : Option Nat) (s : State) : (offerRaw sev r f q s).2.mod = s.mod :=
  (offerRaw_storeOnly sev r f q s).mod
@[simp] theorem offerRaw_pwr (sev : Nat) (r : Rec) (f : Nat) (q : Option Nat) (s : State) : (offerRaw sev r f q s).2.pwr = s.pwr :=
  (offerRaw_storeOnly sev r f q s).pwr
@[simp] theorem offerRaw_mss (sev : Nat) (r : Rec) (f : Nat) (q : Option Nat) (s : State) : (offerRaw sev r f q s).2.mss = s.mss :=
  (offerRaw_storeOnly sev r f q s).mss
@[simp] theorem offerRaw_sec (sev : Nat) (r : Rec) (f : Nat) (q : Option Nat) (s : State) : (offerRaw sev r f q s).2.sec = s.sec :=
  (offerRaw_storeOnly sev r f q s).sec
@[simp] theorem offerRaw_pnl (sev : Nat) (r : Rec) (f : Nat) (q : Option Nat) (s : State) : (offerRaw sev r f q s).2.pnl = s.pnl :=
  (offerRaw_storeOnly sev r f q s).pnl
@[simp] theorem offerRaw_rtc (sev : Nat) (r : Rec) (f : Nat) (q : Option Nat) (s : State) : (offerRaw sev r f q s).2.rtc = s.rtc :=
  (offerRaw_storeOnly sev r f q s).rtc
@[simp] theorem offerRaw_other (sev : Nat) (r : Rec) (f : Nat) (q : Option Nat) (s : State) : (offerRaw sev r f q s).2.other = s.other :=
  (offerRaw_storeOnly sev r f q s).other

/-! ### `emitPlain` -/

@[simp] theorem emitPlain_pending (sev : Nat) (r : Rec) (s : State) : (emitPlain sev r s).2.pending = s.pending :=
  (emitPlain_storeOnly sev r s).pending
@[simp] theorem emitPlain_now (sev : Nat) (r : Rec) (s : State) : (emitPlain sev r s).2.now = s.now :=
  (emitPlain_storeOnly sev r s).now
@[simp] theorem emitPlain_fresh (sev : Nat) (r : Rec) (s : State) : (emitPlain sev r s).2.fresh = s.fresh :=
  (emitPlain_storeOnly sev r s).fresh
@[simp] theorem emitPlain_host (sev : Nat) (r : Rec) (s : State) : (emitPlain sev r s).2.host = s.host :=
  (emitPlain_storeOnly sev r s).host
@[simp] theorem emitPlain_cp (sev : Nat) (r : Rec) (s : State) : (emitPlain sev r s).2.cp = s.cp :=
  (emitPlain_storeOnly sev r s).cp
@[simp] theorem emitPlain_ana (sev : Nat) (r : Rec) (s : State) : (emitPlain sev r s).2.ana = s.ana :=
  (emitPlain_storeOnly sev r s).ana
@[simp] theorem emitPlain_dig (sev : Nat) (r : Rec) (s : State) : (emitPlain sev r s).2.dig = s.dig :=
  (emitPlain_storeOnly sev r s).dig
@[simp] theorem emitPlain_alm (sev : Nat) (r : Rec) (s : State) : (emitPlain sev r s).2.alm = s.alm :=
  (emitPlain_storeOnly sev r s).alm
@[simp] theorem emitPlain_prg (sev : Nat) (r : Rec) (s : State) : (emitPlain sev r s).2.prg = s.prg :=
  (emitPlain_storeOnly sev r s).prg
@[simp] theorem emitPlain_rng (sev : Nat) (r : Rec) (s : State) : (emitPlain sev r s).2.rng = s.rng :=
  (emitPlain_storeOnly sev r s).rng
@[simp] theorem emitPlain_spr (sev : Nat) (r : Rec) (s : State) : (emitPlain sev r s).2.spr = s.spr :=
  (emitPlain_storeOnly sev r s).spr
@[simp] theorem emitPlain_mod (sev : Nat) (r : Rec) (s : State) : (emitPlain sev r s).2.mod = s.mod :=
  (emitPlain_storeOnly sev r s).mod
@[simp] theorem emitPlain_pwr (sev : Nat) (r : Rec) (s : State) : (emitPlain sev r s).2.pwr = s.pwr :=
  (emitPlain_storeOnly sev r s).pwr
@[simp] theorem emitPlain_mss (sev : Nat) (r : Rec) (s : State) : (emitPlain sev r s).2.mss = s.mss :=
  (emitPlain_storeOnly sev r s).mss
@[simp] theorem emitPlain_sec (sev : Nat) (r : Rec) (s : State) : (emitPlain sev r s).2.sec = s.sec :=
  (emitPlain_storeOnly sev r s).sec
@[simp] theorem emitPlain_pnl (sev : Nat) (r : Rec) (s : State) : (emitPlain sev r s).2.pnl = s.pnl :=
  (emitPlain_storeOnly sev r s).pnl
@[simp] theorem emitPlain_rtc (sev : Nat) (r : Rec) (s : State) : (emitPlain sev r s).2.rtc = s.rtc :=
  (emitPlain_storeOnly sev r s).rtc
@[simp] theorem emitPlain_other (sev : Nat) (r : Rec) (s : State) : (emitPlain sev r s).2.other = s.other :=
  (emitPlain_storeOnly sev r s).other

/-! ### `countOverRate` -/

@[simp] theorem countOverRate_pending (f time : Nat) (s : State) : (countOverRate f time s).pending = s.pending :=
  (countOverRate_storeOnly f time s).pending
@[simp] theorem countOverRate_now (f time : Nat) (s : State) : (countOverRate f time s).now = s.now :=
  (countOverRate_storeOnly f time s).now
@[simp] theorem countOverRate_fresh (f time : Nat) (s : State) : (countOverRate f time s).fresh = s.fresh :=
  (countOverRate_storeOnly f time s).fresh
@[simp] theorem countOverRate_host (f time : Nat) (s : State) : (countOverRate f time s).host = s.host :=
  (countOverRate_storeOnly f time s).host
@[simp] theorem countOverRate_cp (f time : Nat) (s : State) : (countOverRate f time s).cp = s.cp :=
  (countOverRate_storeOnly f time s).cp
@[simp] theorem countOverRate_ana (f time : Nat) (s : State) : (countOverRate f time s).ana = s.ana :=
  (countOverRate_storeOnly f time s).ana
@[simp] theorem countOverRate_dig (f time : Nat) (s : State) : (countOverRate f time s).dig = s.dig :=
  (countOverRate_storeOnly f time s).dig
@[simp] theorem countOverRate_alm (f time : Nat) (s : State) : (countOverRate f time s).alm = s.alm :=
  (countOverRate_storeOnly f time s).alm
@[simp] theorem countOverRate_prg (f time : Nat) (s : State) : (countOverRate f time s).prg = s.prg :=
  (countOverRate_storeOnly f time s).prg
@[simp] theorem countOverRate_rng (f time : Nat) (s : State) : (countOverRate f time s).rng = s.rng :=
  (countOverRate_storeOnly f time s).rng
@[simp] theorem countOverRate_spr (f time : Nat) (s : State) : (countOverRate f time s).spr = s.spr :=
  (countOverRate_storeOnly f time s).spr
@[simp] theorem countOverRate_mod (f time : Nat) (s : State) : (countOverRate f time s).mod = s.mod :=
  (countOverRate_storeOnly f time s).mod
@[simp] theorem countOverRate_pwr (f time : Nat) (s : State) : (countOverRate f time s).pwr = s.pwr :=
  (countOverRate_storeOnly f time s).pwr
@[simp] theorem countOverRate_mss (f time : Nat) (s : State) : (countOverRate f time s).mss = s.mss :=
  (countOverRate_storeOnly f time s).mss
@[simp] theorem countOverRate_sec (f time : Nat) (s : State) : (countOverRate f time s).sec = s.sec :=
  (countOverRate_storeOnly f time s).sec
@[simp] theorem countOverRate_pnl (f time : Nat) (s : State) : (countOverRate f time s).pnl = s.pnl :=
  (countOverRate_storeOnly f time s).pnl
@[simp] theorem countOverRate_rtc (f time : Nat) (s : State) : (countOverRate f time s).rtc = s.rtc :=
  (countOverRate_storeOnly f time s).rtc
@[simp] theorem countOverRate_other (f time : Nat) (s : State) : (countOverRate f time s).other = s.other :=
  (countOverRate_storeOnly f time s).other

/-! ### `afterOffer` -/

@[simp] theorem afterOffer_pending (sev : Nat) (p : Placed) (s : State) : (afterOffer sev p s).pending = s.pending :=
  (afterOffer_storeOnly sev p s).pending
@[simp] theorem afterOffer_now (sev : Nat) (p : Placed) (s : State) : (afterOffer sev p s).now = s.now :=
  (afterOffer_storeOnly sev p s).now
@[simp] theorem afterOffer_fresh (sev : Nat) (p : Placed) (s : State) : (afterOffer sev p s).fresh = s.fresh :=
  (afterOffer_storeOnly sev p s).fresh
@[simp] theorem afterOffer_host (sev : Nat) (p : Placed) (s : State) : (afterOffer sev p s).host = s.host :=
  (afterOffer_storeOnly sev p s).host
@[simp] theorem afterOffer_cp (sev : Nat) (p : Placed) (s : State) : (afterOffer sev p s).cp = s.cp :=
  (afterOffer_storeOnly sev p s).cp
@[simp] theorem afterOffer_ana (sev : Nat) (p : Placed) (s : State) : (afterOffer sev p s).ana = s.ana :=
  (afterOffer_storeOnly sev p s).ana
@[simp] theorem afterOffer_dig (sev : Nat) (p : Placed) (s : State) : (afterOffer sev p s).dig = s.dig :=
  (afterOffer_storeOnly sev p s).dig
@[simp] theorem afterOffer_alm (sev : Nat) (p : Placed) (s : State) : (afterOffer sev p s).alm = s.alm :=
  (afterOffer_storeOnly sev p s).alm
@[simp] theorem afterOffer_prg (sev : Nat) (p : Placed) (s : State) : (afterOffer sev p s).prg = s.prg :=
  (afterOffer_storeOnly sev p s).prg
@[simp] theorem afterOffer_rng (sev : Nat) (p : Placed) (s : State) : (afterOffer sev p s).rng = s.rng :=
  (afterOffer_storeOnly sev p s).rng
@[simp] theorem afterOffer_spr (sev : Nat) (p : Placed) (s : State) : (afterOffer sev p s).spr = s.spr :=
  (afterOffer_storeOnly sev p s).spr
@[simp] theorem afterOffer_mod (sev : Nat) (p : Placed) (s : State) : (afterOffer sev p s).mod = s.mod :=
  (afterOffer_storeOnly sev p s).mod
@[simp] theorem afterOffer_pwr (sev : Nat) (p : Placed) (s : State) : (afterOffer sev p s).pwr = s.pwr :=
  (afterOffer_storeOnly sev p s).pwr
@[simp] theorem afterOffer_mss (sev : Nat) (p : Placed) (s : State) : (afterOffer sev p s).mss = s.mss :=
  (afterOffer_storeOnly sev p s).mss
@[simp] theorem afterOffer_sec (sev : Nat) (p : Placed) (s : State) : (afterOffer sev p s).sec = s.sec :=
  (afterOffer_storeOnly sev p s).sec
@[simp] theorem afterOffer_pnl (sev : Nat) (p : Placed) (s : State) : (afterOffer sev p s).pnl = s.pnl :=
  (afterOffer_storeOnly sev p s).pnl
@[simp] theorem afterOffer_rtc (sev : Nat) (p : Placed) (s : State) : (afterOffer sev p s).rtc = s.rtc :=
  (afterOffer_storeOnly sev p s).rtc
@[simp] theorem afterOffer_other (sev : Nat) (p : Placed) (s : State) : (afterOffer sev p s).other = s.other :=
  (afterOffer_storeOnly sev p s).other

/-! ### `emit` -/

@[simp] theorem emit_pending (sev f : Nat) (r : Rec) (s : State) : (emit sev f r s).pending = s.pending :=
  (emit_storeOnly sev f r s).pending
@[simp] theorem emit_now (sev f : Nat) (r : Rec) (s : State) : (emit sev f r s).now = s.now :=
  (emit_storeOnly sev f r s).now
@[simp] theorem emit_fresh (sev f : Nat) (r : Rec) (s : State) : (emit sev f r s).fresh = s.fresh :=
  (emit_storeOnly sev f r s).fresh
@[simp] theorem emit_host (sev f : Nat) (r : Rec) (s : State) : (emit sev f r s).host = s.host :=
  (emit_storeOnly sev f r s).host
@[simp] theorem emit_cp (sev f : Nat) (r : Rec) (s : State) : (emit sev f r s).cp = s.cp :=
  (emit_storeOnly sev f r s).cp
@[simp] theorem emit_ana (sev f : Nat) (r : Rec) (s : State) : (emit sev f r s).ana = s.ana :=
  (emit_storeOnly sev f r s).ana
@[simp] theorem emit_dig (sev f : Nat) (r : Rec) (s : State) : (emit sev f r s).dig = s.dig :=
  (emit_storeOnly sev f r s).dig
@[simp] theorem emit_alm (sev f : Nat) (r : Rec) (s : State) : (emit sev f r s).alm = s.alm :=
  (emit_storeOnly sev f r s).alm
@[simp] theorem emit_prg (sev f : Nat) (r : Rec) (s : State) : (emit sev f r s).prg = s.prg :=
  (emit_storeOnly sev f r s).prg
@[simp] theorem emit_rng (sev f : Nat) (r : Rec) (s : State) : (emit sev f r s).rng = s.rng :=
  (emit_storeOnly sev f r s).rng
@[simp] theorem emit_spr (sev f : Nat) (r : Rec) (s : State) : (emit sev f r s).spr = s.spr :=
  (emit_storeOnly sev f r s).spr
@[simp] theorem emit_mod (sev f : Nat) (r : Rec) (s : State) : (emit sev f r s).mod = s.mod :=
  (emit_storeOnly sev f r s).mod
@[simp] theorem emit_pwr (sev f : Nat) (r : Rec) (s : State) : (emit sev f r s).pwr = s.pwr :=
  (emit_storeOnly sev f r s).pwr
@[simp] theorem emit_mss (sev f : Nat) (r : Rec) (s : State) : (emit sev f r s).mss = s.mss :=
  (emit_storeOnly sev f r s).mss
@[simp] theorem emit_sec (sev f : Nat) (r : Rec) (s : State) : (emit sev f r s).sec = s.sec :=
  (emit_storeOnly sev f r s).sec
@[simp] theorem emit_pnl (sev f : Nat) (r : Rec) (s : State) : (emit sev f r s).pnl = s.pnl :=
  (emit_storeOnly sev f r s).pnl
@[simp] theorem emit_rtc (sev f : Nat) (r : Rec) (s : State) : (emit sev f r s).rtc = s.rtc :=
  (emit_storeOnly sev f r s).rtc
@[simp] theorem emit_other (sev f : Nat) (r : Rec) (s : State) : (emit sev f r s).other = s.other :=
  (emit_storeOnly sev f r s).other

/-! ### `noteSev` -/

@[simp] theorem noteSev_pending (sev typ index code : Nat) (p : List Byte) (s : State) : (noteSev sev typ index code p s).pending = s.pending :=
  (noteSev_storeOnly sev typ index code p s).pending
@[simp] theorem noteSev_now (sev typ index code : Nat) (p : List Byte) (s : State) : (noteSev sev typ index code p s).now = s.now :=
  (noteSev_storeOnly sev typ index code p s).now
@[simp] theorem noteSev_fresh (sev typ index code : Nat) (p : List Byte) (s : State) : (noteSev sev typ index code p s).fresh = s.fresh :=
  (noteSev_storeOnly sev typ index code p s).fresh
@[simp] theorem noteSev_host (sev typ index code : Nat) (p : List Byte) (s : State) : (noteSev sev typ index code p s).host = s.host :=
  (noteSev_storeOnly sev typ index code p s).host
@[simp] theorem noteSev_cp (sev typ index code : Nat) (p : List Byte) (s : State) : (noteSev sev typ index code p s).cp = s.cp :=
  (noteSev_storeOnly sev typ index code p s).cp
@[simp] theorem noteSev_ana (sev typ index code : Nat) (p : List Byte) (s : State) : (noteSev sev typ index code p s).ana = s.ana :=
  (noteSev_storeOnly sev typ index code p s).ana
@[simp] theorem noteSev_dig (sev typ index code : Nat) (p : List Byte) (s : State) : (noteSev sev typ index code p s).dig = s.dig :=
  (noteSev_storeOnly sev typ index code p s).dig
@[simp] theorem noteSev_alm (sev typ index code : Nat) (p : List Byte) (s : State) : (noteSev sev typ index code p s).alm = s.alm :=
  (noteSev_storeOnly sev typ index code p s).alm
@[simp] theorem noteSev_prg (sev typ index code : Nat) (p : List Byte) (s : State) : (noteSev sev typ index code p s).prg = s.prg :=
  (noteSev_storeOnly sev typ index code p s).prg
@[simp] theorem noteSev_rng (sev typ index code : Nat) (p : List Byte) (s : State) : (noteSev sev typ index code p s).rng = s.rng :=
  (noteSev_storeOnly sev typ index code p s).rng
@[simp] theorem noteSev_spr (sev typ index code : Nat) (p : List Byte) (s : State) : (noteSev sev typ index code p s).spr = s.spr :=
  (noteSev_storeOnly sev typ index code p s).spr
@[simp] theorem noteSev_mod (sev typ index code : Nat) (p : List Byte) (s : State) : (noteSev sev typ index code p s).mod = s.mod :=
  (noteSev_storeOnly sev typ index code p s).mod
@[simp] theorem noteSev_pwr (sev typ index code : Nat) (p : List Byte) (s : State) : (noteSev sev typ index code p s).pwr = s.pwr :=
  (noteSev_storeOnly sev typ index code p s).pwr
@[simp] theorem noteSev_mss (sev typ index code : Nat) (p : List Byte) (s : State) : (noteSev sev typ index code p s).mss = s.mss :=
  (noteSev_storeOnly sev typ index code p s).mss
@[simp] theorem noteSev_sec (sev typ index code : Nat) (p : List Byte) (s : State) : (noteSev sev typ index code p s).sec = s.sec :=
  (noteSev_storeOnly sev typ index code p s).sec
@[simp] theorem noteSev_pnl (sev typ index code : Nat) (p : List Byte) (s : State) : (noteSev sev typ index code p s).pnl = s.pnl :=
  (noteSev_storeOnly sev typ index code p s).pnl
@[simp] theorem noteSev_rtc (sev typ index code : Nat) (p : List Byte) (s : State) : (noteSev sev typ index code p s).rtc = s.rtc :=
  (noteSev_storeOnly sev typ index code p s).rtc
@[simp] theorem noteSev_other (sev typ index code : Nat) (p : List Byte) (s : State) : (noteSev sev typ index code p s).other = s.other :=
  (noteSev_storeOnly sev typ index code p s).other

/-! ### `note` -/

@[simp] theorem note_pending (typ index : Nat) (p : List Byte) (s : State) : (note typ index p s).pending = s.pending :=
  (note_storeOnly typ index p s).pending
@[simp] theorem note_now (typ index : Nat) (p : List Byte) (s : State) : (note typ index p s).now = s.now :=
  (note_storeOnly typ index p s).now
@[simp] theorem note_fresh (typ index : Nat) (p : List Byte) (s : State) : (note typ index p s).fresh = s.fresh :=
  (note_storeOnly typ index p s).fresh
@[simp] theorem note_host (typ index : Nat) (p : List Byte) (s : State) : (note typ index p s).host = s.host :=
  (note_storeOnly typ index p s).host
@[simp] theorem note_cp (typ index : Nat) (p : List Byte) (s : State) : (note typ index p s).cp = s.cp :=
  (note_storeOnly typ index p s).cp
@[simp] theorem note_ana (typ index : Nat) (p : List Byte) (s : State) : (note typ index p s).ana = s.ana :=
  (note_storeOnly typ index p s).ana
@[simp] theorem note_dig (typ index : Nat) (p : List Byte) (s : State) : (note typ index p s).dig = s.dig :=
  (note_storeOnly typ index p s).dig
@[simp] theorem note_alm (typ index : Nat) (p : List Byte) (s : State) : (note typ index p s).alm = s.alm :=
  (note_storeOnly typ index p s).alm
@[simp] theorem note_prg (typ index : Nat) (p : List Byte) (s : State) : (note typ index p s).prg = s.prg :=
  (note_storeOnly typ index p s).prg
@[simp] theorem note_rng (typ index : Nat) (p : List Byte) (s : State) : (note typ index p s).rng = s.rng :=
  (note_storeOnly typ index p s).rng
@[simp] theorem note_spr (typ index : Nat) (p : List Byte) (s : State) : (note typ index p s).spr = s.spr :=
  (note_storeOnly typ index p s).spr
@[simp] theorem note_mod (typ index : Nat) (p : List Byte) (s : State) : (note typ index p s).mod = s.mod :=
  (note_storeOnly typ index p s).mod
@[simp] theorem note_pwr (typ index : Nat) (p : List Byte) (s : State) : (note typ index p s).pwr = s.pwr :=
  (note_storeOnly typ index p s).pwr
@[simp] theorem note_mss (typ index : Nat) (p : List Byte) (s : State) : (note typ index p s).mss = s.mss :=
  (note_storeOnly typ index p s).mss
@[simp] theorem note_sec (typ index : Nat) (p : List Byte) (s : State) : (note typ index p s).sec = s.sec :=
  (note_storeOnly typ index p s).sec
@[simp] theorem note_pnl (typ index : Nat) (p : List Byte) (s : State) : (note typ index p s).pnl = s.pnl :=
  (note_storeOnly typ index p s).pnl
@[simp] theorem note_rtc (typ index : Nat) (p : List Byte) (s : State) : (note typ index p s).rtc = s.rtc :=
  (note_storeOnly typ index p s).rtc
@[simp] theorem note_other (typ index : Nat) (p : List Byte) (s : State) : (note typ index p s).other = s.other :=
  (note_storeOnly typ index p s).other

/-! ### `noteOf` -/

@[simp] theorem noteOf_pending (t typ index : Nat) (p : List Byte) (s : State) : (noteOf t typ index p s).pending = s.pending :=
  (noteOf_storeOnly t typ index p s).pending
@[simp] theorem noteOf_now (t typ index : Nat) (p : List Byte) (s : State) : (noteOf t typ index p s).now = s.now :=
  (noteOf_storeOnly t typ index p s).now
@[simp] theorem noteOf_fresh (t typ index : Nat) (p : List Byte) (s : State) : (noteOf t typ index p s).fresh = s.fresh :=
  (noteOf_storeOnly t typ index p s).fresh
@[simp] theorem noteOf_host (t typ index : Nat) (p : List Byte) (s : State) : (noteOf t typ index p s).host = s.host :=
  (noteOf_storeOnly t typ index p s).host
@[simp] theorem noteOf_cp (t typ index : Nat) (p : List Byte) (s : State) : (noteOf t typ index p s).cp = s.cp :=
  (noteOf_storeOnly t typ index p s).cp
@[simp] theorem noteOf_ana (t typ index : Nat) (p : List Byte) (s : State) : (noteOf t typ index p s).ana = s.ana :=
  (noteOf_storeOnly t typ index p s).ana
@[simp] theorem noteOf_dig (t typ index : Nat) (p : List Byte) (s : State) : (noteOf t typ index p s).dig = s.dig :=
  (noteOf_storeOnly t typ index p s).dig
@[simp] theorem noteOf_alm (t typ index : Nat) (p : List Byte) (s : State) : (noteOf t typ index p s).alm = s.alm :=
  (noteOf_storeOnly t typ index p s).alm
@[simp] theorem noteOf_prg (t typ index : Nat) (p : List Byte) (s : State) : (noteOf t typ index p s).prg = s.prg :=
  (noteOf_storeOnly t typ index p s).prg
@[simp] theorem noteOf_rng (t typ index : Nat) (p : List Byte) (s : State) : (noteOf t typ index p s).rng = s.rng :=
  (noteOf_storeOnly t typ index p s).rng
@[simp] theorem noteOf_spr (t typ index : Nat) (p : List Byte) (s : State) : (noteOf t typ index p s).spr = s.spr :=
  (noteOf_storeOnly t typ index p s).spr
@[simp] theorem noteOf_mod (t typ index : Nat) (p : List Byte) (s : State) : (noteOf t typ index p s).mod = s.mod :=
  (noteOf_storeOnly t typ index p s).mod
@[simp] theorem noteOf_pwr (t typ index : Nat) (p : List Byte) (s : State) : (noteOf t typ index p s).pwr = s.pwr :=
  (noteOf_storeOnly t typ index p s).pwr
@[simp] theorem noteOf_mss (t typ index : Nat) (p : List Byte) (s : State) : (noteOf t typ index p s).mss = s.mss :=
  (noteOf_storeOnly t typ index p s).mss
@[simp] theorem noteOf_sec (t typ index : Nat) (p : List Byte) (s : State) : (noteOf t typ index p s).sec = s.sec :=
  (noteOf_storeOnly t typ index p s).sec
@[simp] theorem noteOf_pnl (t typ index : Nat) (p : List Byte) (s : State) : (noteOf t typ index p s).pnl = s.pnl :=
  (noteOf_storeOnly t typ index p s).pnl
@[simp] theorem noteOf_rtc (t typ index : Nat) (p : List Byte) (s : State) : (noteOf t typ index p s).rtc = s.rtc :=
  (noteOf_storeOnly t typ index p s).rtc
@[simp] theorem noteOf_other (t typ index : Nat) (p : List Byte) (s : State) : (noteOf t typ index p s).other = s.other :=
  (noteOf_storeOnly t typ index p s).other

/-! ### `sendReply` -/

@[simp] theorem sendReply_pending (c : Cmd) (hi code : Nat) (p : List Byte) (s : State) : (sendReply c hi code p s).pending = s.pending :=
  (sendReply_storeOnly c hi code p s).pending
@[simp] theorem sendReply_now (c : Cmd) (hi code : Nat) (p : List Byte) (s : State) : (sendReply c hi code p s).now = s.now :=
  (sendReply_storeOnly c hi code p s).now
@[simp] theorem sendReply_fresh (c : Cmd) (hi code : Nat) (p : List Byte) (s : State) : (sendReply c hi code p s).fresh = s.fresh :=
  (sendReply_storeOnly c hi code p s).fresh
@[simp] theorem sendReply_host (c : Cmd) (hi code : Nat) (p : List Byte) (s : State) : (sendReply c hi code p s).host = s.host :=
  (sendReply_storeOnly c hi code p s).host
@[simp] theorem sendReply_cp (c : Cmd) (hi code : Nat) (p : List Byte) (s : State) : (sendReply c hi code p s).cp = s.cp :=
  (sendReply_storeOnly c hi code p s).cp
@[simp] theorem sendReply_ana (c : Cmd) (hi code : Nat) (p : List Byte) (s : State) : (sendReply c hi code p s).ana = s.ana :=
  (sendReply_storeOnly c hi code p s).ana
@[simp] theorem sendReply_dig (c : Cmd) (hi code : Nat) (p : List Byte) (s : State) : (sendReply c hi code p s).dig = s.dig :=
  (sendReply_storeOnly c hi code p s).dig
@[simp] theorem sendReply_alm (c : Cmd) (hi code : Nat) (p : List Byte) (s : State) : (sendReply c hi code p s).alm = s.alm :=
  (sendReply_storeOnly c hi code p s).alm
@[simp] theorem sendReply_prg (c : Cmd) (hi code : Nat) (p : List Byte) (s : State) : (sendReply c hi code p s).prg = s.prg :=
  (sendReply_storeOnly c hi code p s).prg
@[simp] theorem sendReply_rng (c : Cmd) (hi code : Nat) (p : List Byte) (s : State) : (sendReply c hi code p s).rng = s.rng :=
  (sendReply_storeOnly c hi code p s).rng
@[simp] theorem sendReply_spr (c : Cmd) (hi code : Nat) (p : List Byte) (s : State) : (sendReply c hi code p s).spr = s.spr :=
  (sendReply_storeOnly c hi code p s).spr
@[simp] theorem sendReply_mod (c : Cmd) (hi code : Nat) (p : List Byte) (s : State) : (sendReply c hi code p s).mod = s.mod :=
  (sendReply_storeOnly c hi code p s).mod
@[simp] theorem sendReply_pwr (c : Cmd) (hi code : Nat) (p : List Byte) (s : State) : (sendReply c hi code p s).pwr = s.pwr :=
  (sendReply_storeOnly c hi code p s).pwr
@[simp] theorem sendReply_mss (c : Cmd) (hi code : Nat) (p : List Byte) (s : State) : (sendReply c hi code p s).mss = s.mss :=
  (sendReply_storeOnly c hi code p s).mss
@[simp] theorem sendReply_sec (c : Cmd) (hi code : Nat) (p : List Byte) (s : State) : (sendReply c hi code p s).sec = s.sec :=
  (sendReply_storeOnly c hi code p s).sec
@[simp] theorem sendReply_pnl (c : Cmd) (hi code : Nat) (p : List Byte) (s : State) : (sendReply c hi code p s).pnl = s.pnl :=
  (sendReply_storeOnly c hi code p s).pnl
@[simp] theorem sendReply_rtc (c : Cmd) (hi code : Nat) (p : List Byte) (s : State) : (sendReply c hi code p s).rtc = s.rtc :=
  (sendReply_storeOnly c hi code p s).rtc
@[simp] theorem sendReply_other (c : Cmd) (hi code : Nat) (p : List Byte) (s : State) : (sendReply c hi code p s).other = s.other :=
  (sendReply_storeOnly c hi code p s).other

/-! ### `sendRefusal` -/

@[simp] theorem sendRefusal_pending (f : Nat) (c : Cmd) (hi code : Nat) (p : List Byte) (s : State) : (sendRefusal f c hi code p s).pending = s.pending :=
  (sendRefusal_storeOnly f c hi code p s).pending
@[simp] theorem sendRefusal_now (f : Nat) (c : Cmd) (hi code : Nat) (p : List Byte) (s : State) : (sendRefusal f c hi code p s).now = s.now :=
  (sendRefusal_storeOnly f c hi code p s).now
@[simp] theorem sendRefusal_fresh (f : Nat) (c : Cmd) (hi code : Nat) (p : List Byte) (s : State) : (sendRefusal f c hi code p s).fresh = s.fresh :=
  (sendRefusal_storeOnly f c hi code p s).fresh
@[simp] theorem sendRefusal_host (f : Nat) (c : Cmd) (hi code : Nat) (p : List Byte) (s : State) : (sendRefusal f c hi code p s).host = s.host :=
  (sendRefusal_storeOnly f c hi code p s).host
@[simp] theorem sendRefusal_cp (f : Nat) (c : Cmd) (hi code : Nat) (p : List Byte) (s : State) : (sendRefusal f c hi code p s).cp = s.cp :=
  (sendRefusal_storeOnly f c hi code p s).cp
@[simp] theorem sendRefusal_ana (f : Nat) (c : Cmd) (hi code : Nat) (p : List Byte) (s : State) : (sendRefusal f c hi code p s).ana = s.ana :=
  (sendRefusal_storeOnly f c hi code p s).ana
@[simp] theorem sendRefusal_dig (f : Nat) (c : Cmd) (hi code : Nat) (p : List Byte) (s : State) : (sendRefusal f c hi code p s).dig = s.dig :=
  (sendRefusal_storeOnly f c hi code p s).dig
@[simp] theorem sendRefusal_alm (f : Nat) (c : Cmd) (hi code : Nat) (p : List Byte) (s : State) : (sendRefusal f c hi code p s).alm = s.alm :=
  (sendRefusal_storeOnly f c hi code p s).alm
@[simp] theorem sendRefusal_prg (f : Nat) (c : Cmd) (hi code : Nat) (p : List Byte) (s : State) : (sendRefusal f c hi code p s).prg = s.prg :=
  (sendRefusal_storeOnly f c hi code p s).prg
@[simp] theorem sendRefusal_rng (f : Nat) (c : Cmd) (hi code : Nat) (p : List Byte) (s : State) : (sendRefusal f c hi code p s).rng = s.rng :=
  (sendRefusal_storeOnly f c hi code p s).rng
@[simp] theorem sendRefusal_spr (f : Nat) (c : Cmd) (hi code : Nat) (p : List Byte) (s : State) : (sendRefusal f c hi code p s).spr = s.spr :=
  (sendRefusal_storeOnly f c hi code p s).spr
@[simp] theorem sendRefusal_mod (f : Nat) (c : Cmd) (hi code : Nat) (p : List Byte) (s : State) : (sendRefusal f c hi code p s).mod = s.mod :=
  (sendRefusal_storeOnly f c hi code p s).mod
@[simp] theorem sendRefusal_pwr (f : Nat) (c : Cmd) (hi code : Nat) (p : List Byte) (s : State) : (sendRefusal f c hi code p s).pwr = s.pwr :=
  (sendRefusal_storeOnly f c hi code p s).pwr
@[simp] theorem sendRefusal_mss (f : Nat) (c : Cmd) (hi code : Nat) (p : List Byte) (s : State) : (sendRefusal f c hi code p s).mss = s.mss :=
  (sendRefusal_storeOnly f c hi code p s).mss
@[simp] theorem sendRefusal_sec (f : Nat) (c : Cmd) (hi code : Nat) (p : List Byte) (s : State) : (sendRefusal f c hi code p s).sec = s.sec :=
  (sendRefusal_storeOnly f c hi code p s).sec
@[simp] theorem sendRefusal_pnl (f : Nat) (c : Cmd) (hi code : Nat) (p : List Byte) (s : State) : (sendRefusal f c hi code p s).pnl = s.pnl :=
  (sendRefusal_storeOnly f c hi code p s).pnl
@[simp] theorem sendRefusal_rtc (f : Nat) (c : Cmd) (hi code : Nat) (p : List Byte) (s : State) : (sendRefusal f c hi code p s).rtc = s.rtc :=
  (sendRefusal_storeOnly f c hi code p s).rtc
@[simp] theorem sendRefusal_other (f : Nat) (c : Cmd) (hi code : Nat) (p : List Byte) (s : State) : (sendRefusal f c hi code p s).other = s.other :=
  (sendRefusal_storeOnly f c hi code p s).other

/-! ### `completeCmd` -/

@[simp] theorem completeCmd_pending (id st : Nat) (p : List Byte) (s : State) : (completeCmd id st p s).pending = s.pending :=
  (completeCmd_replyOnly id st p s).pending
@[simp] theorem completeCmd_now (id st : Nat) (p : List Byte) (s : State) : (completeCmd id st p s).now = s.now :=
  (completeCmd_replyOnly id st p s).now
@[simp] theorem completeCmd_fresh (id st : Nat) (p : List Byte) (s : State) : (completeCmd id st p s).fresh = s.fresh :=
  (completeCmd_replyOnly id st p s).fresh
@[simp] theorem completeCmd_host (id st : Nat) (p : List Byte) (s : State) : (completeCmd id st p s).host = s.host :=
  (completeCmd_replyOnly id st p s).host
@[simp] theorem completeCmd_ana (id st : Nat) (p : List Byte) (s : State) : (completeCmd id st p s).ana = s.ana :=
  (completeCmd_replyOnly id st p s).ana
@[simp] theorem completeCmd_dig (id st : Nat) (p : List Byte) (s : State) : (completeCmd id st p s).dig = s.dig :=
  (completeCmd_replyOnly id st p s).dig
@[simp] theorem completeCmd_alm (id st : Nat) (p : List Byte) (s : State) : (completeCmd id st p s).alm = s.alm :=
  (completeCmd_replyOnly id st p s).alm
@[simp] theorem completeCmd_prg (id st : Nat) (p : List Byte) (s : State) : (completeCmd id st p s).prg = s.prg :=
  (completeCmd_replyOnly id st p s).prg
@[simp] theorem completeCmd_rng (id st : Nat) (p : List Byte) (s : State) : (completeCmd id st p s).rng = s.rng :=
  (completeCmd_replyOnly id st p s).rng
@[simp] theorem completeCmd_spr (id st : Nat) (p : List Byte) (s : State) : (completeCmd id st p s).spr = s.spr :=
  (completeCmd_replyOnly id st p s).spr
@[simp] theorem completeCmd_mod (id st : Nat) (p : List Byte) (s : State) : (completeCmd id st p s).mod = s.mod :=
  (completeCmd_replyOnly id st p s).mod
@[simp] theorem completeCmd_pwr (id st : Nat) (p : List Byte) (s : State) : (completeCmd id st p s).pwr = s.pwr :=
  (completeCmd_replyOnly id st p s).pwr
@[simp] theorem completeCmd_mss (id st : Nat) (p : List Byte) (s : State) : (completeCmd id st p s).mss = s.mss :=
  (completeCmd_replyOnly id st p s).mss
@[simp] theorem completeCmd_sec (id st : Nat) (p : List Byte) (s : State) : (completeCmd id st p s).sec = s.sec :=
  (completeCmd_replyOnly id st p s).sec
@[simp] theorem completeCmd_pnl (id st : Nat) (p : List Byte) (s : State) : (completeCmd id st p s).pnl = s.pnl :=
  (completeCmd_replyOnly id st p s).pnl
@[simp] theorem completeCmd_rtc (id st : Nat) (p : List Byte) (s : State) : (completeCmd id st p s).rtc = s.rtc :=
  (completeCmd_replyOnly id st p s).rtc
@[simp] theorem completeCmd_other (id st : Nat) (p : List Byte) (s : State) : (completeCmd id st p s).other = s.other :=
  (completeCmd_replyOnly id st p s).other

/-! ### `acceptJob` -/

@[simp] theorem acceptJob_pending (e : CmdEntry) (w : List Nat) (s : State) : (acceptJob e w s).pending = s.pending :=
  (acceptJob_replyOnly e w s).pending
@[simp] theorem acceptJob_now (e : CmdEntry) (w : List Nat) (s : State) : (acceptJob e w s).now = s.now :=
  (acceptJob_replyOnly e w s).now
@[simp] theorem acceptJob_fresh (e : CmdEntry) (w : List Nat) (s : State) : (acceptJob e w s).fresh = s.fresh :=
  (acceptJob_replyOnly e w s).fresh
@[simp] theorem acceptJob_host (e : CmdEntry) (w : List Nat) (s : State) : (acceptJob e w s).host = s.host :=
  (acceptJob_replyOnly e w s).host
@[simp] theorem acceptJob_ana (e : CmdEntry) (w : List Nat) (s : State) : (acceptJob e w s).ana = s.ana :=
  (acceptJob_replyOnly e w s).ana
@[simp] theorem acceptJob_dig (e : CmdEntry) (w : List Nat) (s : State) : (acceptJob e w s).dig = s.dig :=
  (acceptJob_replyOnly e w s).dig
@[simp] theorem acceptJob_alm (e : CmdEntry) (w : List Nat) (s : State) : (acceptJob e w s).alm = s.alm :=
  (acceptJob_replyOnly e w s).alm
@[simp] theorem acceptJob_prg (e : CmdEntry) (w : List Nat) (s : State) : (acceptJob e w s).prg = s.prg :=
  (acceptJob_replyOnly e w s).prg
@[simp] theorem acceptJob_rng (e : CmdEntry) (w : List Nat) (s : State) : (acceptJob e w s).rng = s.rng :=
  (acceptJob_replyOnly e w s).rng
@[simp] theorem acceptJob_spr (e : CmdEntry) (w : List Nat) (s : State) : (acceptJob e w s).spr = s.spr :=
  (acceptJob_replyOnly e w s).spr
@[simp] theorem acceptJob_mod (e : CmdEntry) (w : List Nat) (s : State) : (acceptJob e w s).mod = s.mod :=
  (acceptJob_replyOnly e w s).mod
@[simp] theorem acceptJob_pwr (e : CmdEntry) (w : List Nat) (s : State) : (acceptJob e w s).pwr = s.pwr :=
  (acceptJob_replyOnly e w s).pwr
@[simp] theorem acceptJob_mss (e : CmdEntry) (w : List Nat) (s : State) : (acceptJob e w s).mss = s.mss :=
  (acceptJob_replyOnly e w s).mss
@[simp] theorem acceptJob_sec (e : CmdEntry) (w : List Nat) (s : State) : (acceptJob e w s).sec = s.sec :=
  (acceptJob_replyOnly e w s).sec
@[simp] theorem acceptJob_pnl (e : CmdEntry) (w : List Nat) (s : State) : (acceptJob e w s).pnl = s.pnl :=
  (acceptJob_replyOnly e w s).pnl
@[simp] theorem acceptJob_rtc (e : CmdEntry) (w : List Nat) (s : State) : (acceptJob e w s).rtc = s.rtc :=
  (acceptJob_replyOnly e w s).rtc
@[simp] theorem acceptJob_other (e : CmdEntry) (w : List Nat) (s : State) : (acceptJob e w s).other = s.other :=
  (acceptJob_replyOnly e w s).other

/-! ### `finish` -/

@[simp] theorem finish_pending (e : CmdEntry) (r : Rep) (s : State) : (finish e r s).pending = s.pending :=
  (finish_replyOnly e r s).pending
@[simp] theorem finish_now (e : CmdEntry) (r : Rep) (s : State) : (finish e r s).now = s.now :=
  (finish_replyOnly e r s).now
@[simp] theorem finish_fresh (e : CmdEntry) (r : Rep) (s : State) : (finish e r s).fresh = s.fresh :=
  (finish_replyOnly e r s).fresh
@[simp] theorem finish_host (e : CmdEntry) (r : Rep) (s : State) : (finish e r s).host = s.host :=
  (finish_replyOnly e r s).host
@[simp] theorem finish_ana (e : CmdEntry) (r : Rep) (s : State) : (finish e r s).ana = s.ana :=
  (finish_replyOnly e r s).ana
@[simp] theorem finish_dig (e : CmdEntry) (r : Rep) (s : State) : (finish e r s).dig = s.dig :=
  (finish_replyOnly e r s).dig
@[simp] theorem finish_alm (e : CmdEntry) (r : Rep) (s : State) : (finish e r s).alm = s.alm :=
  (finish_replyOnly e r s).alm
@[simp] theorem finish_prg (e : CmdEntry) (r : Rep) (s : State) : (finish e r s).prg = s.prg :=
  (finish_replyOnly e r s).prg
@[simp] theorem finish_rng (e : CmdEntry) (r : Rep) (s : State) : (finish e r s).rng = s.rng :=
  (finish_replyOnly e r s).rng
@[simp] theorem finish_spr (e : CmdEntry) (r : Rep) (s : State) : (finish e r s).spr = s.spr :=
  (finish_replyOnly e r s).spr
@[simp] theorem finish_mod (e : CmdEntry) (r : Rep) (s : State) : (finish e r s).mod = s.mod :=
  (finish_replyOnly e r s).mod
@[simp] theorem finish_pwr (e : CmdEntry) (r : Rep) (s : State) : (finish e r s).pwr = s.pwr :=
  (finish_replyOnly e r s).pwr
@[simp] theorem finish_mss (e : CmdEntry) (r : Rep) (s : State) : (finish e r s).mss = s.mss :=
  (finish_replyOnly e r s).mss
@[simp] theorem finish_sec (e : CmdEntry) (r : Rep) (s : State) : (finish e r s).sec = s.sec :=
  (finish_replyOnly e r s).sec
@[simp] theorem finish_pnl (e : CmdEntry) (r : Rep) (s : State) : (finish e r s).pnl = s.pnl :=
  (finish_replyOnly e r s).pnl
@[simp] theorem finish_rtc (e : CmdEntry) (r : Rep) (s : State) : (finish e r s).rtc = s.rtc :=
  (finish_replyOnly e r s).rtc
@[simp] theorem finish_other (e : CmdEntry) (r : Rep) (s : State) : (finish e r s).other = s.other :=
  (finish_replyOnly e r s).other

/-! ### `raiseVector` -/

@[simp] theorem raiseVector_pending (pf v : Nat) (s : State) : (raiseVector pf v s).pending = s.pending :=
  (raiseVector_hostOnly pf v s).pending
@[simp] theorem raiseVector_now (pf v : Nat) (s : State) : (raiseVector pf v s).now = s.now :=
  (raiseVector_hostOnly pf v s).now
@[simp] theorem raiseVector_fresh (pf v : Nat) (s : State) : (raiseVector pf v s).fresh = s.fresh :=
  (raiseVector_hostOnly pf v s).fresh
@[simp] theorem raiseVector_flows (pf v : Nat) (s : State) : (raiseVector pf v s).flows = s.flows :=
  (raiseVector_hostOnly pf v s).flows
@[simp] theorem raiseVector_cp (pf v : Nat) (s : State) : (raiseVector pf v s).cp = s.cp :=
  (raiseVector_hostOnly pf v s).cp
@[simp] theorem raiseVector_rcd (pf v : Nat) (s : State) : (raiseVector pf v s).rcd = s.rcd :=
  (raiseVector_hostOnly pf v s).rcd
@[simp] theorem raiseVector_ana (pf v : Nat) (s : State) : (raiseVector pf v s).ana = s.ana :=
  (raiseVector_hostOnly pf v s).ana
@[simp] theorem raiseVector_dig (pf v : Nat) (s : State) : (raiseVector pf v s).dig = s.dig :=
  (raiseVector_hostOnly pf v s).dig
@[simp] theorem raiseVector_alm (pf v : Nat) (s : State) : (raiseVector pf v s).alm = s.alm :=
  (raiseVector_hostOnly pf v s).alm
@[simp] theorem raiseVector_prg (pf v : Nat) (s : State) : (raiseVector pf v s).prg = s.prg :=
  (raiseVector_hostOnly pf v s).prg
@[simp] theorem raiseVector_rng (pf v : Nat) (s : State) : (raiseVector pf v s).rng = s.rng :=
  (raiseVector_hostOnly pf v s).rng
@[simp] theorem raiseVector_spr (pf v : Nat) (s : State) : (raiseVector pf v s).spr = s.spr :=
  (raiseVector_hostOnly pf v s).spr
@[simp] theorem raiseVector_mod (pf v : Nat) (s : State) : (raiseVector pf v s).mod = s.mod :=
  (raiseVector_hostOnly pf v s).mod
@[simp] theorem raiseVector_pwr (pf v : Nat) (s : State) : (raiseVector pf v s).pwr = s.pwr :=
  (raiseVector_hostOnly pf v s).pwr
@[simp] theorem raiseVector_mss (pf v : Nat) (s : State) : (raiseVector pf v s).mss = s.mss :=
  (raiseVector_hostOnly pf v s).mss
@[simp] theorem raiseVector_sec (pf v : Nat) (s : State) : (raiseVector pf v s).sec = s.sec :=
  (raiseVector_hostOnly pf v s).sec
@[simp] theorem raiseVector_pnl (pf v : Nat) (s : State) : (raiseVector pf v s).pnl = s.pnl :=
  (raiseVector_hostOnly pf v s).pnl
@[simp] theorem raiseVector_rtc (pf v : Nat) (s : State) : (raiseVector pf v s).rtc = s.rtc :=
  (raiseVector_hostOnly pf v s).rtc
@[simp] theorem raiseVector_other (pf v : Nat) (s : State) : (raiseVector pf v s).other = s.other :=
  (raiseVector_hostOnly pf v s).other

/-! ### `setErr` -/

@[simp] theorem setErr_pending (b : Nat) (s : State) : (setErr b s).pending = s.pending :=
  (setErr_hostOnly b s).pending
@[simp] theorem setErr_now (b : Nat) (s : State) : (setErr b s).now = s.now :=
  (setErr_hostOnly b s).now
@[simp] theorem setErr_fresh (b : Nat) (s : State) : (setErr b s).fresh = s.fresh :=
  (setErr_hostOnly b s).fresh
@[simp] theorem setErr_flows (b : Nat) (s : State) : (setErr b s).flows = s.flows :=
  (setErr_hostOnly b s).flows
@[simp] theorem setErr_cp (b : Nat) (s : State) : (setErr b s).cp = s.cp :=
  (setErr_hostOnly b s).cp
@[simp] theorem setErr_rcd (b : Nat) (s : State) : (setErr b s).rcd = s.rcd :=
  (setErr_hostOnly b s).rcd
@[simp] theorem setErr_ana (b : Nat) (s : State) : (setErr b s).ana = s.ana :=
  (setErr_hostOnly b s).ana
@[simp] theorem setErr_dig (b : Nat) (s : State) : (setErr b s).dig = s.dig :=
  (setErr_hostOnly b s).dig
@[simp] theorem setErr_alm (b : Nat) (s : State) : (setErr b s).alm = s.alm :=
  (setErr_hostOnly b s).alm
@[simp] theorem setErr_prg (b : Nat) (s : State) : (setErr b s).prg = s.prg :=
  (setErr_hostOnly b s).prg
@[simp] theorem setErr_rng (b : Nat) (s : State) : (setErr b s).rng = s.rng :=
  (setErr_hostOnly b s).rng
@[simp] theorem setErr_spr (b : Nat) (s : State) : (setErr b s).spr = s.spr :=
  (setErr_hostOnly b s).spr
@[simp] theorem setErr_mod (b : Nat) (s : State) : (setErr b s).mod = s.mod :=
  (setErr_hostOnly b s).mod
@[simp] theorem setErr_pwr (b : Nat) (s : State) : (setErr b s).pwr = s.pwr :=
  (setErr_hostOnly b s).pwr
@[simp] theorem setErr_mss (b : Nat) (s : State) : (setErr b s).mss = s.mss :=
  (setErr_hostOnly b s).mss
@[simp] theorem setErr_sec (b : Nat) (s : State) : (setErr b s).sec = s.sec :=
  (setErr_hostOnly b s).sec
@[simp] theorem setErr_pnl (b : Nat) (s : State) : (setErr b s).pnl = s.pnl :=
  (setErr_hostOnly b s).pnl
@[simp] theorem setErr_rtc (b : Nat) (s : State) : (setErr b s).rtc = s.rtc :=
  (setErr_hostOnly b s).rtc
@[simp] theorem setErr_other (b : Nat) (s : State) : (setErr b s).other = s.other :=
  (setErr_hostOnly b s).other

/-! ### `setIrq` -/

@[simp] theorem setIrq_pending (b : Nat) (s : State) : (setIrq b s).pending = s.pending :=
  (setIrq_hostOnly b s).pending
@[simp] theorem setIrq_now (b : Nat) (s : State) : (setIrq b s).now = s.now :=
  (setIrq_hostOnly b s).now
@[simp] theorem setIrq_fresh (b : Nat) (s : State) : (setIrq b s).fresh = s.fresh :=
  (setIrq_hostOnly b s).fresh
@[simp] theorem setIrq_flows (b : Nat) (s : State) : (setIrq b s).flows = s.flows :=
  (setIrq_hostOnly b s).flows
@[simp] theorem setIrq_cp (b : Nat) (s : State) : (setIrq b s).cp = s.cp :=
  (setIrq_hostOnly b s).cp
@[simp] theorem setIrq_rcd (b : Nat) (s : State) : (setIrq b s).rcd = s.rcd :=
  (setIrq_hostOnly b s).rcd
@[simp] theorem setIrq_ana (b : Nat) (s : State) : (setIrq b s).ana = s.ana :=
  (setIrq_hostOnly b s).ana
@[simp] theorem setIrq_dig (b : Nat) (s : State) : (setIrq b s).dig = s.dig :=
  (setIrq_hostOnly b s).dig
@[simp] theorem setIrq_alm (b : Nat) (s : State) : (setIrq b s).alm = s.alm :=
  (setIrq_hostOnly b s).alm
@[simp] theorem setIrq_prg (b : Nat) (s : State) : (setIrq b s).prg = s.prg :=
  (setIrq_hostOnly b s).prg
@[simp] theorem setIrq_rng (b : Nat) (s : State) : (setIrq b s).rng = s.rng :=
  (setIrq_hostOnly b s).rng
@[simp] theorem setIrq_spr (b : Nat) (s : State) : (setIrq b s).spr = s.spr :=
  (setIrq_hostOnly b s).spr
@[simp] theorem setIrq_mod (b : Nat) (s : State) : (setIrq b s).mod = s.mod :=
  (setIrq_hostOnly b s).mod
@[simp] theorem setIrq_pwr (b : Nat) (s : State) : (setIrq b s).pwr = s.pwr :=
  (setIrq_hostOnly b s).pwr
@[simp] theorem setIrq_mss (b : Nat) (s : State) : (setIrq b s).mss = s.mss :=
  (setIrq_hostOnly b s).mss
@[simp] theorem setIrq_sec (b : Nat) (s : State) : (setIrq b s).sec = s.sec :=
  (setIrq_hostOnly b s).sec
@[simp] theorem setIrq_pnl (b : Nat) (s : State) : (setIrq b s).pnl = s.pnl :=
  (setIrq_hostOnly b s).pnl
@[simp] theorem setIrq_rtc (b : Nat) (s : State) : (setIrq b s).rtc = s.rtc :=
  (setIrq_hostOnly b s).rtc
@[simp] theorem setIrq_other (b : Nat) (s : State) : (setIrq b s).other = s.other :=
  (setIrq_hostOnly b s).other

/-! ### `badAccess` -/

@[simp] theorem badAccess_pending (s : State) : (badAccess s).pending = s.pending :=
  (badAccess_hostOnly s).pending
@[simp] theorem badAccess_now (s : State) : (badAccess s).now = s.now :=
  (badAccess_hostOnly s).now
@[simp] theorem badAccess_fresh (s : State) : (badAccess s).fresh = s.fresh :=
  (badAccess_hostOnly s).fresh
@[simp] theorem badAccess_flows (s : State) : (badAccess s).flows = s.flows :=
  (badAccess_hostOnly s).flows
@[simp] theorem badAccess_cp (s : State) : (badAccess s).cp = s.cp :=
  (badAccess_hostOnly s).cp
@[simp] theorem badAccess_rcd (s : State) : (badAccess s).rcd = s.rcd :=
  (badAccess_hostOnly s).rcd
@[simp] theorem badAccess_ana (s : State) : (badAccess s).ana = s.ana :=
  (badAccess_hostOnly s).ana
@[simp] theorem badAccess_dig (s : State) : (badAccess s).dig = s.dig :=
  (badAccess_hostOnly s).dig
@[simp] theorem badAccess_alm (s : State) : (badAccess s).alm = s.alm :=
  (badAccess_hostOnly s).alm
@[simp] theorem badAccess_prg (s : State) : (badAccess s).prg = s.prg :=
  (badAccess_hostOnly s).prg
@[simp] theorem badAccess_rng (s : State) : (badAccess s).rng = s.rng :=
  (badAccess_hostOnly s).rng
@[simp] theorem badAccess_spr (s : State) : (badAccess s).spr = s.spr :=
  (badAccess_hostOnly s).spr
@[simp] theorem badAccess_mod (s : State) : (badAccess s).mod = s.mod :=
  (badAccess_hostOnly s).mod
@[simp] theorem badAccess_pwr (s : State) : (badAccess s).pwr = s.pwr :=
  (badAccess_hostOnly s).pwr
@[simp] theorem badAccess_mss (s : State) : (badAccess s).mss = s.mss :=
  (badAccess_hostOnly s).mss
@[simp] theorem badAccess_sec (s : State) : (badAccess s).sec = s.sec :=
  (badAccess_hostOnly s).sec
@[simp] theorem badAccess_pnl (s : State) : (badAccess s).pnl = s.pnl :=
  (badAccess_hostOnly s).pnl
@[simp] theorem badAccess_rtc (s : State) : (badAccess s).rtc = s.rtc :=
  (badAccess_hostOnly s).rtc
@[simp] theorem badAccess_other (s : State) : (badAccess s).other = s.other :=
  (badAccess_hostOnly s).other

/-! ### `answerThrough` -/

@[simp] theorem answerThrough_pending (id a : Nat) (l p : List Byte) (s : State) : (answerThrough id a l p s).2.pending = s.pending :=
  (answerThrough_hostOnly id a l p s).pending
@[simp] theorem answerThrough_now (id a : Nat) (l p : List Byte) (s : State) : (answerThrough id a l p s).2.now = s.now :=
  (answerThrough_hostOnly id a l p s).now
@[simp] theorem answerThrough_fresh (id a : Nat) (l p : List Byte) (s : State) : (answerThrough id a l p s).2.fresh = s.fresh :=
  (answerThrough_hostOnly id a l p s).fresh
@[simp] theorem answerThrough_flows (id a : Nat) (l p : List Byte) (s : State) : (answerThrough id a l p s).2.flows = s.flows :=
  (answerThrough_hostOnly id a l p s).flows
@[simp] theorem answerThrough_cp (id a : Nat) (l p : List Byte) (s : State) : (answerThrough id a l p s).2.cp = s.cp :=
  (answerThrough_hostOnly id a l p s).cp
@[simp] theorem answerThrough_rcd (id a : Nat) (l p : List Byte) (s : State) : (answerThrough id a l p s).2.rcd = s.rcd :=
  (answerThrough_hostOnly id a l p s).rcd
@[simp] theorem answerThrough_ana (id a : Nat) (l p : List Byte) (s : State) : (answerThrough id a l p s).2.ana = s.ana :=
  (answerThrough_hostOnly id a l p s).ana
@[simp] theorem answerThrough_dig (id a : Nat) (l p : List Byte) (s : State) : (answerThrough id a l p s).2.dig = s.dig :=
  (answerThrough_hostOnly id a l p s).dig
@[simp] theorem answerThrough_alm (id a : Nat) (l p : List Byte) (s : State) : (answerThrough id a l p s).2.alm = s.alm :=
  (answerThrough_hostOnly id a l p s).alm
@[simp] theorem answerThrough_prg (id a : Nat) (l p : List Byte) (s : State) : (answerThrough id a l p s).2.prg = s.prg :=
  (answerThrough_hostOnly id a l p s).prg
@[simp] theorem answerThrough_rng (id a : Nat) (l p : List Byte) (s : State) : (answerThrough id a l p s).2.rng = s.rng :=
  (answerThrough_hostOnly id a l p s).rng
@[simp] theorem answerThrough_spr (id a : Nat) (l p : List Byte) (s : State) : (answerThrough id a l p s).2.spr = s.spr :=
  (answerThrough_hostOnly id a l p s).spr
@[simp] theorem answerThrough_mod (id a : Nat) (l p : List Byte) (s : State) : (answerThrough id a l p s).2.mod = s.mod :=
  (answerThrough_hostOnly id a l p s).mod
@[simp] theorem answerThrough_pwr (id a : Nat) (l p : List Byte) (s : State) : (answerThrough id a l p s).2.pwr = s.pwr :=
  (answerThrough_hostOnly id a l p s).pwr
@[simp] theorem answerThrough_mss (id a : Nat) (l p : List Byte) (s : State) : (answerThrough id a l p s).2.mss = s.mss :=
  (answerThrough_hostOnly id a l p s).mss
@[simp] theorem answerThrough_sec (id a : Nat) (l p : List Byte) (s : State) : (answerThrough id a l p s).2.sec = s.sec :=
  (answerThrough_hostOnly id a l p s).sec
@[simp] theorem answerThrough_pnl (id a : Nat) (l p : List Byte) (s : State) : (answerThrough id a l p s).2.pnl = s.pnl :=
  (answerThrough_hostOnly id a l p s).pnl
@[simp] theorem answerThrough_rtc (id a : Nat) (l p : List Byte) (s : State) : (answerThrough id a l p s).2.rtc = s.rtc :=
  (answerThrough_hostOnly id a l p s).rtc
@[simp] theorem answerThrough_other (id a : Nat) (l p : List Byte) (s : State) : (answerThrough id a l p s).2.other = s.other :=
  (answerThrough_hostOnly id a l p s).other

end Sys2Proof.Machine
end

