-- ==== Sys2Proof/Laws/Commands.lean ====
section
/-! SUPPORT. How a command row's answer follows from its meaning. -/

namespace Sys2Proof.Machine

@[simp] theorem State.entered_now (s : State) (op : Opc) (dt : Nat) (c : Cmd) : (s.entered op dt c).now = s.now + dt := rfl
@[simp] theorem State.entered_pending (s : State) (op : Opc) (dt : Nat) (c : Cmd) : (s.entered op dt c).pending = s.pending := rfl
@[simp] theorem State.entered_fresh (s : State) (op : Opc) (dt : Nat) (c : Cmd) : (s.entered op dt c).fresh = s.fresh := rfl
@[simp] theorem State.entered_host (s : State) (op : Opc) (dt : Nat) (c : Cmd) : (s.entered op dt c).host = s.host := rfl
@[simp] theorem State.entered_flows (s : State) (op : Opc) (dt : Nat) (c : Cmd) : (s.entered op dt c).flows = s.flows := rfl
@[simp] theorem State.entered_rcd (s : State) (op : Opc) (dt : Nat) (c : Cmd) : (s.entered op dt c).rcd = s.rcd := rfl
@[simp] theorem State.entered_ana (s : State) (op : Opc) (dt : Nat) (c : Cmd) : (s.entered op dt c).ana = s.ana := rfl
@[simp] theorem State.entered_dig (s : State) (op : Opc) (dt : Nat) (c : Cmd) : (s.entered op dt c).dig = s.dig := rfl
@[simp] theorem State.entered_alm (s : State) (op : Opc) (dt : Nat) (c : Cmd) : (s.entered op dt c).alm = s.alm := rfl
@[simp] theorem State.entered_prg (s : State) (op : Opc) (dt : Nat) (c : Cmd) : (s.entered op dt c).prg = s.prg := rfl
@[simp] theorem State.entered_rng (s : State) (op : Opc) (dt : Nat) (c : Cmd) : (s.entered op dt c).rng = s.rng := rfl
@[simp] theorem State.entered_spr (s : State) (op : Opc) (dt : Nat) (c : Cmd) : (s.entered op dt c).spr = s.spr := rfl
@[simp] theorem State.entered_mod (s : State) (op : Opc) (dt : Nat) (c : Cmd) : (s.entered op dt c).mod = s.mod := rfl
@[simp] theorem State.entered_pwr (s : State) (op : Opc) (dt : Nat) (c : Cmd) : (s.entered op dt c).pwr = s.pwr := rfl
@[simp] theorem State.entered_mss (s : State) (op : Opc) (dt : Nat) (c : Cmd) : (s.entered op dt c).mss = s.mss := rfl
@[simp] theorem State.entered_sec (s : State) (op : Opc) (dt : Nat) (c : Cmd) : (s.entered op dt c).sec = s.sec := rfl
@[simp] theorem State.entered_pnl (s : State) (op : Opc) (dt : Nat) (c : Cmd) : (s.entered op dt c).pnl = s.pnl := rfl
@[simp] theorem State.entered_rtc (s : State) (op : Opc) (dt : Nat) (c : Cmd) : (s.entered op dt c).rtc = s.rtc := rfl
@[simp] theorem State.entered_other (s : State) (op : Opc) (dt : Nat) (c : Cmd) : (s.entered op dt c).other = s.other := rfl
@[simp] theorem State.entryOf_c (s : State) (op : Opc) (dt : Nat) (c : Cmd) : (s.entryOf op dt c).c = c := rfl
@[simp] theorem State.entryOf_id (s : State) (op : Opc) (dt : Nat) (c : Cmd) : (s.entryOf op dt c).id = s.cp.nextId := rfl
@[simp] theorem State.entryOf_op (s : State) (op : Opc) (dt : Nat) (c : Cmd) : (s.entryOf op dt c).op = op := rfl
@[simp] theorem State.entryOf_start (s : State) (op : Opc) (dt : Nat) (c : Cmd) : (s.entryOf op dt c).start = max (s.now + dt) c.notBefore := rfl
@[simp] theorem State.entered_flow (s : State) (op : Opc) (dt : Nat) (c : Cmd) (k : Nat) : (s.entered op dt c).flow k = s.flow k := rfl
@[simp] theorem State.entered_chan (s : State) (op : Opc) (dt : Nat) (c : Cmd) (k : Nat) : (s.entered op dt c).chan k = s.chan k := rfl
@[simp] theorem State.entered_out (s : State) (op : Opc) (dt : Nat) (c : Cmd) (k : Nat) : (s.entered op dt c).out k = s.out k := rfl
@[simp] theorem State.entered_pin (s : State) (op : Opc) (dt : Nat) (c : Cmd) (k : Nat) : (s.entered op dt c).pin k = s.pin k := rfl
@[simp] theorem State.entered_aisl (s : State) (op : Opc) (dt : Nat) (c : Cmd) (k : Nat) : (s.entered op dt c).aisl k = s.aisl k := rfl
@[simp] theorem State.entered_disl (s : State) (op : Opc) (dt : Nat) (c : Cmd) (k : Nat) : (s.entered op dt c).disl k = s.disl k := rfl
@[simp] theorem State.entered_point (s : State) (op : Opc) (dt : Nat) (c : Cmd) (k : Nat) : (s.entered op dt c).point k = s.point k := rfl
@[simp] theorem State.entered_modeWord (s : State) (op : Opc) (dt : Nat) (c : Cmd) : (s.entered op dt c).modeWord = s.modeWord := rfl
@[simp] theorem State.entered_nodeNo (s : State) (op : Opc) (dt : Nat) (c : Cmd) : (s.entered op dt c).nodeNo = s.nodeNo := rfl
@[simp] theorem State.entered_mode (s : State) (op : Opc) (dt : Nat) (c : Cmd) (m : ModeBit) : (s.entered op dt c).mode m = s.mode m := rfl

/-- A command row whose turn it is runs its meaning on the entered state and carries out what it answers. -/
theorem runHere_ready {op : Opc} {dt : Nat} {c : Cmd} {s : State} (h : s.Ready op dt c) (env : Env)
    (f : CmdEntry → Env → State → Rep × State) :
    runHere op dt c env f s =
      .next (finish (s.entryOf op dt c) (f (s.entryOf op dt c) env (s.entered op dt c)).1
        (f (s.entryOf op dt c) env (s.entered op dt c)).2) := if_neg (ne_true_of_eq_false h)

/-- One whose turn it is not waits, whatever its meaning. -/
theorem runHere_behind {op : Opc} {dt : Nat} {c : Cmd} {s : State} (h : ¬ s.Ready op dt c) (env : Env)
    (f : CmdEntry → Env → State → Rep × State) : runHere op dt c env f s = .next (s.behind op dt c) :=
  if_pos (eq_true_of_ne_false h)

theorem answers_of (f : CmdEntry → Env → State → Rep × State) (env : Env) {s : State} {i : Instr} {op : Opc} {dt : Nat} {c : Cmd}
    {st : Nat} {p : List Byte} {u : State} (hi : exec i s = runHere op dt c env f s)
    (hr : s.Ready op dt c) (h : f (s.entryOf op dt c) env (s.entered op dt c) = (.final st p, u)) : Answers s i st p u := by
  unfold Answers
  rw [hi, runHere_ready hr, h]
  rfl

theorem startsJob_of (f : CmdEntry → Env → State → Rep × State) (env : Env) {s : State} {i : Instr} {op : Opc} {dt : Nat} {c : Cmd}
    {w : List Nat} {u : State} (hi : exec i s = runHere op dt c env f s)
    (hr : s.Ready op dt c) (h : f (s.entryOf op dt c) env (s.entered op dt c) = (.job w, u)) : StartsJob s i (s.entryOf op dt c) w u := by
  unfold StartsJob
  rw [hi, runHere_ready hr, h]
  rfl

theorem staysOpen_of (f : CmdEntry → Env → State → Rep × State) (env : Env) {s : State} {i : Instr} {op : Opc} {dt : Nat} {c : Cmd}
    {w : List Nat} {u : State} (hi : exec i s = runHere op dt c env f s)
    (hr : s.Ready op dt c) (h : f (s.entryOf op dt c) env (s.entered op dt c) = (.wait w, u)) : StaysOpen s i (s.entryOf op dt c) w u := by
  unfold StaysOpen
  rw [hi, runHere_ready hr, h]
  rfl

end Sys2Proof.Machine
end

