-- ==== Sys2Proof/Tests/Slice0.lean ====
section
/-! SUPPORT. The modeller's own tests: ill-formed commands are refused, single steps on small states, and for each obligation
states and operands that meet the hypotheses of its clauses. -/

namespace Sys2Proof.Tests

open Sys2Proof.Machine

set_option Elab.async false


/-- Bytes `x` in place of those of `l` from `i` on. -/
def putAt (l : List Byte) (i : Nat) (x : List Byte) : List Byte := l.take i ++ x ++ l.drop (i + x.length)

/-- A packet with inline fields (first byte, length, value) and extended parameters. -/
def pk (fields : List (Nat × Nat × Nat)) (ext : List Byte := []) : Cmd :=
  { inl := fields.foldl (fun l f => putAt l (f.1 - 32) (le f.2.1 f.2.2)) (zeros 32), ext := ext, paramLen := ext.length }

/-- `n` bytes with fields (first byte, length, value) laid over zeros. -/
def ex (n : Nat) (fields : List (Nat × Nat × Nat)) : List Byte :=
  fields.foldl (fun l f => putAt l f.1 (le f.2.1 f.2.2)) (zeros n)

/-- A point with a descriptor. -/
def pt (fields : List (Nat × Nat × Nat)) : Point := { desc := ex 64 fields }

/-- A running node whose host link is trained, at 5 s of Node Time: every mode but SERV and LEAN on, F0 open. -/
def S0 : State :=
  { State.reset with
    now := 5000000000
    host := { ready := true, speed := 3, width := 4, bme := 7, mse := 7 }
    flows := [(0, { state := .opened, qlog2 := 10, burst := 64, rate := 1000, reserve := 256, size := 64, tokens := 64000000000, window := 64000000, qbase := 0x100000 })]
    cp := { nextId := 5 }
    pwr := { p1 := .inRange, p2 := .inRange, phase := .evaluating, powerOn := false, nodeOk := true, holdMv := 3600 }
    mod := { cmd := 0x9FF }
    rcd := { restored := true } }

/-- A queued record and a written one. -/
def itm (n : Nat) (st : Stage) (en : Option Nat) : Item :=
  { seq := n, body := .record { typ := 5 }, deadline := 5000000 + n, journaled := true, backlog := false, late := false, stage := st, entry := en }

/-- An open record flow with replies, a queue of 64 entries, and a full bucket. -/
def F1 : Flow := { state := .opened, cls := 1, admitted := 1, qlog2 := 6, replies := true, burst := 8, rate := 1000, reserve := 8, size := 64
                   qbase := 0x10000, window := 1814000000, tokens := 8000000000, irqCount := 1 }

/-- `S0` with F1 open, sessions ring 0 enabled. -/
def S1 : State := (S0.setFlow 1 F1).setRing 0 { en := true, base := 0x4000, rlog2 := 4, slotLog2 := 9 }

/-- `S1` with one announced slot. -/
def S2 : State := (S0.setFlow 1 F1).setRing 0 { en := true, base := 0x4000, rlog2 := 4, slotLog2 := 9, db := 1 }

/-- `S1` in SEALED. -/
def S3 : State := { S2 with mod := { S0.mod with life := .sealed } }

/-- A halted clock. -/
def SH : State := { S0 with rtc := { cal := { year := 24, month := 2, day := 28, hour := 23, min := 59, sec := 59 }, halted := some (4000000000, 100), staged := { year := 24, month := 2, day := 29 }, sub0 := 100 } }

/-- The same with an impossible date staged. -/
def SHB : State := { SH with rtc := { SH.rtc with staged := { year := 23, month := 2, day := 29 } } }

/-- A sample of channel 63. -/
def smp : Sample := { src := 63, seq := 8, value := 0x41200000, sqw := 0, time := 4999000000, raw := 0x123456 }

/-- Channel 63 measures a voltage on slice 7. -/
def C1 : Chan := { cfg := { kind := 1, range := 2, tp := 3, tn := 4, wave := 1 }, pslice := some 7, conn := [(3, 14), (4, 15)], rangeNow := 2 }

/-- `S0` with that channel and its island powered. -/
def SA : State := (S0.setAisl 7 { linkUp := true, powered := true }).setChan 63 C1

/-- A current output on channel 63, cell 7. -/
def O1 : Output := { okind := 1, tp := 5, tn := 6, cellA := some 7, point := 0x41200000, set := 0x41200000, driven := 0x41200000, changed := 4 }

/-- `S0` with that output. -/
def SO : State := ((S0.setAisl 7 { linkUp := true, powered := true }).setChan 63 { cfg := { kind := 8 } }).setOut 63 O1

/-- `S0` with a swap of the cell of that output. -/
def swp : Swap := { cmd := none, pool := 1, isl := 7, idx := 7, worn := 7, spare := 8, method := 1, cause := 0, phase := 0 }

/-- A limit point of channel 63 in category 2, flow 0. -/
def P1 : Point := pt [(0,1,1),(2,2,63),(11,1,2),(12,1,9),(13,1,15),(15,1,1),(16,4,0x42C80000),(20,4,0x3F800000),(52,4,3600)]

/-- `S0` with point 4,095 in the alarm state AU. -/
def SP : State := S0.setPoint 4095 { P1 with seq := 1, cond := true, raw := true, tU := some 4000000000, value := 0x43000000 }

/-- The descriptor of P1. -/
def D1 : List Byte := P1.desc

/-- A DO pin that the Alarm Engine may take, and a DI pin. -/
def SQ : State := (S0.setPin 159 { cfg := { mode := 5 }, owner := 1 }).setPin 158 { cfg := { mode := 1 }, level := true, accepted := true, last := some { src := 158, value := 0x3F800000, sqw := 0, time := 4 } }

/-- An image of one block: NOT of a forceable variable; variable 65 is a REAL. -/
def img0 : Image :=
  { progId := 7, crc := 9
    vars := ((List.range 64).map fun v => ({ typ := sysType v } : VarDef)) ++ [{ typ := 0, forceable := true }, { typ := 2 }, { typ := 0 }]
    consts := [], binds := [], ntimer := 0, ncount := 0, nedge := 0
    blocks := [⟨0x0104, false, 0xFFFF, 0xFFFF, [64, 0xFFFF, 0xFFFF, 0xFFFF, 0xFFFF, 0xFFFF, 0xFFFF], [66, 0xFFFF, 0xFFFF], 0⟩] }

/-- `S0` running that image since 4.9 s. -/
def SG : State := { S0 with prg := { slot0 := some img0, stateNum := 2, cur := freshWork img0 none, work := freshWork img0 none, lastSnap := some 4900000000 } }

/-- `SG` in a phase of the cycle that began at 5 s. -/
def ph (p : CyclePhase) : State := { SG with prg := { SG.prg with phase := p, lastSnap := some 5000000000 } }

/-- `S0` as master of a ring with N2, both ports up. -/
def SR : State :=
  { S0 with
    mod := { S0.mod with role := .master }
    rng := { node := 1, priority := 5, roleNow := 1, master := 1, members := [1, 2], tState := 2, cut := false, cycle := 9, key0 := some 3
             port0 := { up := true, modAbs := false, blockLock := true, neighbour := 2, len := 100, alive := true }
             port1 := { up := true, modAbs := false, blockLock := true, neighbour := 2, len := 100, alive := true }
             dir := [(2, { id := 7, locked := true, eligible := true, priority := 6, hops0 := 1, hops1 := 1, heard := 4999990000, role := 2 })] } }

/-- `S0` as member N3 of a ring with master N1, a port up. -/
def SM : State :=
  { S0 with
    mod := { S0.mod with role := .member }
    rng := { node := 3, roleNow := 3, master := 1, standby := 2, members := [1, 2, 3], tState := 1, cut := false, cycle := 49, key0 := some 3
             port0 := { up := true, modAbs := false, blockLock := true, neighbour := 2, len := 100, alive := true }
             dir := [(1, { id := 7, locked := true, eligible := true, priority := 6, heard := 4999990000, role := 1 })] } }

/-- A frame of N2 for N1. -/
def frm : RingFrame := ⟨4, 2, 2, 1, 1, 0, 0, 0, true, true, 0, [1, 1, 5, 0], [], true⟩

/-- `S0` with SERV set. -/
def SV : State := { S0 with mod := { S0.mod with cmd := 0xBFF } }

/-- Channel 63 on slice 7 with SERV set. -/
def SVA : State := { SA with mod := { S0.mod with cmd := 0xBFF } }

/-- A slice swap of channel 63. -/
def sws : Swap := { cmd := none, pool := 0, isl := 7, idx := 7, worn := 7, spare := 8, method := 0, cause := 0, phase := 1 }

/-- A reset in force, the islands powered. -/
def SX : State := { S0 with pwr := { S0.pwr with phase := .asserted, islandsKept := true, assertedAt := 4999001000, cause := 3 } }

/-- A command 7 that waits to start. -/
def E0 : CmdEntry :=
  { id := 7, op := .modeRead, c := { pk [] with replyFlow := 1 }, cls := 0, fetched := 4, start := 5000001000, mark := 0, phase := .waiting
    jobEnd := 0, fromMaster := none, work := [] }

/-- `S1` with commands in execution. -/
def SE (l : List CmdEntry) : State := { S1 with cp := { S1.cp with nextId := 8, exec := l } }

/-- An activation whose window opens now. -/
def act : Activation := ⟨7, 4, 1, 4000000000, 0, 5000001000, 6000000000, [0, 1], 0⟩

/-- A WARNING record and an open segment with room for it alone. -/
def rec0 : Stored := ⟨3, false, 0, 9, 5, [1, 2]⟩
def seg0 : Segment := ⟨3, false, false, 7, 262126, [], 4⟩

/-- The modes 0, 1 and 3 of a waveform set of one band, whose sequences are all empty. -/
def wfBody : List Byte :=
  ex 16 [(0, 1, 0), (1, 1, 1), (4, 4, 112)] ++ ex 16 [(0, 1, 1), (1, 1, 1), (4, 4, 112)] ++ ex 16 [(0, 1, 3), (1, 1, 1), (4, 4, 112)] ++ zeros 1024

/-- A set with its CRC. -/
def wfOf (crc : Nat) (body : List Byte) : List Byte :=
  ex 52 [(0, 4, 0x53465744), (4, 2, 1), (6, 1, 3), (7, 1, 1), (8, 2, 12000), (32, 1, 50), (40, 4, 64), (44, 4, 64), (48, 4, 1136)] ++
  le 4 crc ++ zeros 8 ++ body
def wfB : List Byte := wfOf (crc32c wfBody) wfBody

/-- The header and the modes of a set. -/
def wfS : List Byte :=
  ex 112 [(0, 4, 0x53465744), (4, 2, 1), (6, 1, 3), (7, 1, 1), (8, 2, 12000), (32, 1, 50), (40, 4, 64), (64, 1, 0), (65, 1, 1), (80, 1, 1), (81, 1, 1), (96, 1, 3), (97, 1, 1)]

/-- `S0` with a panel of 1,024 by 256 pixels and that set. -/
def SD : State := { S0 with pnl := { width := 1024, height := 256, lineClk := 300, set0 := some wfS } }

/-- A live region of a host update, and that update. -/
def rg : Region := ⟨⟨0, 0, 8, 8⟩, 1, .host 7 0, 0, false, 0, 4, 0, 0, 5, 1, 0, 0, true, false, false⟩
def up : Update := ⟨⟨8, 8, 8, 8⟩, 1, .host 7 0, some 6000000000⟩

/-- A PANEL_CONFIGURE at its bounds. -/
def pcf : Cmd := pk [(32,2,256),(34,2,64),(36,2,1023),(38,2,330),(40,2,0x408B),(42,1,100),(44,2,600)]

/-- `S2` as master of that ring. -/
def SRF : State := { S2 with mod := SR.mod, rng := SR.rng }

/-- A MODE_READ, and its entry in the duplicate window of session 0. -/
def cdp : Cmd := { pk [] with replyFlow := 1, token := 5 }

/-- The entry. -/
def ddp : DupEntry := { token := 5, digest := crc32c (packetBytes 0x0103 cdp), cmd := 3, status := some 0, payload := [], job := false, keep := 9000000000, owed := [], isReset := false }

/-- `SA` with the acquisition off. -/
def SAo : State := { SA with mod := { S0.mod with cmd := 0x9FE } }

/-- An output on channel 63 under calibration. -/
def SOC (k : Cal) : State := { SO with mod := { SO.mod with cals := [(63, k)] } }

/-- Channel 63 under calibration. -/
def SAC (k : Cal) : State := { SA with mod := { SA.mod with cals := [(63, k)] } }

/-- A readback in the limits. -/
def rdb : Readback := ⟨0x41200000, 0x41200000, false, 0x41200000, 0x41200000, 0⟩

/-- `SO` with the readbacks of its island strobed. -/
def SOs : State := SO.setAisl 7 { SO.aisl 7 with strobes := [(7, 4)] }

/-- The DO pin 15 of D5. -/
def P15 : Pin := { cfg := { mode := 5 }, owner := 1 }

/-- `S0` with that pin on a powered island. -/
def SPn (x : Pin) : State := (S0.setDisl 5 { linkUp := true, powered := true, lplus := some 0, volt := 24000 }).setPin 159 x

/-- A driver that is on. -/
def Pon : Pin := { P15 with cmd := true, driven := true }

/-- A rail swap of its driver. -/
def rsw (phase : Nat) : Swap := { swp with pool := 2, isl := 5, idx := 15, worn := 15, spare := 16, method := 3, phase := phase }

/-- The tag of a frame as its neighbour N2 sends it on port `p` of `SR` or `SM` (R383). -/
def tagged (f : RingFrame) : RingFrame :=
  { f with tag := Config.ringTag (some 3) (le 1 2 ++ le 1 f.dir ++ zeros 2 ++ le 4 0 ++ le 4 f.hopSeq) (frameHeader f ++ fitBytes (max 32 f.payload.length) f.payload) }

/-- An image of 2,000 blocks. -/
def imgL : Image := { img0 with blocks := List.replicate 2000 ⟨0x0104, false, 0xFFFF, 0xFFFF, [64, 0xFFFF, 0xFFFF, 0xFFFF, 0xFFFF, 0xFFFF, 0xFFFF], [66, 0xFFFF, 0xFFFF], 0⟩ }

/-- `SR` in a cycle that began at 5 s. -/
def SRp (p : CyclePhase) : State := { SR with prg := { phase := p, lastSnap := some 5000000000 } }

/-- An image with 300 forceable variables. -/
def imgF : Image := { img0 with vars := (List.range 300).map fun _ => { typ := 0, forceable := true } }

/-- A proposal to replace slice 7 of A7. -/
def prop : Proposal := { num := 1, pool := 0, isl := 7, part := 7, idx := 7, expiry := 6000000000 }

/-- `SVA` whose spare slice 8 was checked at `t` with error `p`, its first check. -/
def SVC (p : Nat) (t : Nat) : State := { SVA with spr := { SVA.spr with slices := [(7 * 16 + 7, some { role := 0, ch := 7 }), (7 * 16 + 8, some { role := 1, ch := 0, checked := some t, checkPct := p })] } }

/-- The same in a direct swap. -/
def SVD (p : Nat) (t : Nat) (w : Swap) : State := { SVC p t with spr := { (SVC p t).spr with swaps := [w] } }

/-- A direct swap of channel 63. -/
def swd : Swap := { sws with method := 1 }

/-- A reading of sensor 39. -/
def SS (x : Sensor) : State := { S0 with mss := { sensors := [(39, x)], log := [⟨4, 4, 1, 39, [1]⟩], batch := [⟨4, 5, 1, 39, [1]⟩], hseq := 6 } }

/-- `S0` in holdover since 4 s with hold time `th`. -/
def SHo (th : Nat) (parked sealed : Bool) : State := { S0 with pwr := { S0.pwr with state := .holdover, holdover := some (4000000000, th), parked := parked, sealed := sealed, p1 := .lost, p2 := .lost } }

/-- `S0` in the dormant state. -/
def SDo (mask wakeAt : Nat) : State := { S0 with pwr := { S0.pwr with state := .dormant, wakeMask := mask, wakeAt := wakeAt } }

/-- `SX` in a later phase of the start. -/
def SXp (p : StartPhase) : State := { SX with pwr := { SX.pwr with phase := p } }

/-- `SV` with firmware of KIND 0 staged, and windows. -/
def SKw (w : List (Nat × Nat)) : State := { SV with mss := { SV.mss with kinds := [{ bankB := some { version := 3 }, staged := true }, {}, {}, {}, {}], windows := w } }

/-- A job of command 7 on KIND 0. -/
def SJ : State := { SE [{ E0 with op := .packageStage, phase := .job, jobEnd := 9000000000 }] with mod := SV.mod, mss := { (SKw [(5000001000, 9000000000)]).mss with stage := [⟨7, 0, 1, {}, none⟩] } }

/-- A forwarded packet of token 9, and its entry in the window of the member. -/
def cfw : Cmd := { pk [] with token := 9 }
def dfw (st : Option Nat) (job : Bool) (crc : Nat) : DupEntry := { token := 9, digest := crc, cmd := 3, status := st, payload := [1], job := job, keep := 9000000000, owed := [], isReset := false }

/-- `S1` with that entry. -/
def SFW (d : DupEntry) : State := { S1 with cp := { S1.cp with fwdWindow := [(0, d)] } }

/-- The digest of that packet. -/
def kfw : Nat := crc32c (packetBytes (opRow .programLoad).num cfw)

/-- A command 7 that runs since 1 s. -/
def ER (op : Opc) (c : Cmd) : CmdEntry := { E0 with op := op, c := c, start := 1000000, phase := .running }

/-- A job of command 7 that ends at 5 s. -/
def EJ (op : Opc) : CmdEntry := { E0 with op := op, phase := .job, jobEnd := 5000001000 }

/-- `S0` with one record in the staging ring. -/
def SRd : State := { S0 with rcd := { staging := [rec0], next := 10, restored := true } }

/-- The PAYLOAD of a RECORD_READ of it. -/
def rdP (out : List Stored) (nx old : Nat) (g e : Bool) : List Byte := le 4 out.length ++ le 4 (out.flatMap Stored.bytes).length ++ le 4 nx ++ le 4 old ++ le 1 (bit g 0 + bit e 1)

/-- `SR` with a flow of N2 that leaves no room on the ring. -/
def SRX : State := { SR.setFlow 2 { F1 with rate := 20000000, origin := 2 } with rcd := { restored := true } }

/-- A staging ring with `rec0` alone, and another record. -/
def SRk (u : Recorder) : State := { S0 with rcd := u }

/-- `SD` in which the boost pool is short. -/
def SDs : State := { SD with spr := { SD.spr with short := [(1536, true)] } }

/-- `SD` with a queue and regions of the panel, its rails up. -/
def SDq (q : List Update) (r : List (Nat × Region)) (up : Bool) : State := { SD with pnl := { SD.pnl with queue := q, regions := r, railsUp := up } }

/-- A region that stops at its next frame batch. -/
def rgs (j : Nat) : Region := { rg with frame := j, stop := true }

/-- The state that a step answers with. -/
def nx (o : Host.Outcome State Fault Refusal) : State := match o with | .next t => t | _ => S0

/-! ### Commands that no sender can form are refused -/

/-- A packet, and one that breaks each check of `Cmd.wf`. -/
theorem test_wf_packet :
    Cmd.wf { flagsRsv := 511, target := 63, session := 65535, replyFlow := 255, paramLen := 1, inl := zeros 32, ext := [1], tag := zeros 24 } = true ∧
    ([{ flagsRsv := 512 }, { target := 64 }, { token := 2 ^ 32 }, { session := 65536 }, { replyFlow := 256 }, { cls := 256 }, { paramLen := 2 ^ 32 },
      { cookie := 2 ^ 64 }, { notBefore := 2 ^ 64 }, { inl := zeros 33 }, { ext := [1] }, { counter := 2 ^ 64 }, { tag := zeros 25 }] : List Cmd).all
      (fun c => !c.wf) = true := by decide +kernel

/-- A command of a session ring names one of 64 sessions; a forwarded one need not. -/
theorem test_wf_session :
    Instr.wf (.modeRead 0 { session := 63 } {}) = true ∧ Instr.wf (.modeRead 0 { session := 64 } {}) = false ∧
    Instr.wf (.modeRead 0 { target := 64 } {}) = false ∧ Instr.wf (.commandFetch 0 5 0x0103 { session := 64 } none) = false ∧
    Instr.wf (.forwardedCommandReceive 0 0x0103 { session := 64 } 0) = true ∧
    Instr.wf (.forwardedCommandReceive 0 0x0103 { cls := 256 } 0) = false := by decide +kernel

theorem test_wf_host_port :
    Instr.wf (.forwardAnswerReceive 0 1 0 (zeros 40)) = true ∧ Instr.wf (.forwardAnswerReceive 0 1 0 (zeros 41)) = false ∧
    Instr.wf (.msixVectorUnmask 0 2 7) = true ∧ Instr.wf (.msixVectorUnmask 0 2 8) = false ∧ Instr.wf (.msixVectorUnmask 0 1 256) = false ∧
    Instr.wf (.pcieUncorrectableError 0 0 .internal 0 (zeros 16)) = true ∧ Instr.wf (.pcieUncorrectableError 0 0 .internal 0 (zeros 17)) = false ∧
    Instr.wf (.registerWrite 0 0 0 8 0) = true ∧ Instr.wf (.registerWrite 0 0 0 2 0) = false := by decide +kernel

/-- A ring frame, and one that breaks each check. -/
theorem test_wf_ring_frame :
    Instr.wf (.ringFrameReceive 0 0 frm) = true ∧
    ([{ frm with cls := 8 }, { frm with typ := 32 }, { frm with src := 256 }, { frm with dst := 256 }, { frm with hops := 64 },
      { frm with hopSeq := 2 ^ 32 }, { frm with dir := 2 }, { frm with keySlot := 2 }, { frm with originSeq := 2 ^ 32 },
      { frm with tag := zeros 13 }] : List RingFrame).all (fun f => !(Instr.ringFrameReceive 0 0 f).wf) = true := by decide +kernel

/-- A CYCLE frame of N1. -/
def cyf : CycleFrame := ⟨1, 5, 6, 7, 8, 1, 1, 9, 10, 11, 2⟩

theorem test_wf_cycle_frame :
    Instr.wf (.cycleFrameReceive 0 0 cyf) = true ∧
    ([{ cyf with src := 33 }, { cyf with cycle := 2 ^ 64 }, { cyf with time := 2 ^ 64 }, { cyf with period := 2 ^ 32 }, { cyf with cofs := 2 ^ 32 },
      { cyf with changeAt := 2 ^ 64 }, { cyf with newPeriod := 2 ^ 32 }, { cyf with newCofs := 2 ^ 32 }, { cyf with standby := 33 }]
      : List CycleFrame).all (fun f => !(Instr.cycleFrameReceive 0 0 f).wf) = true := by decide +kernel

theorem test_wf_values :
    Instr.wf (.exportFrameReceive 0 1 0 [⟨255, 0, 0⟩]) = true ∧ Instr.wf (.exportFrameReceive 0 1 0 [⟨256, 0, 0⟩]) = false ∧
    Instr.wf (.outputFrameReceive 0 1 0 [⟨32, 255, 255, 0, 0⟩]) = true ∧
    ([⟨33, 0, 0, 0, 0⟩, ⟨0, 256, 0, 0, 0⟩, ⟨0, 0, 256, 0, 0⟩] : List RemoteValue).all (fun v => !(Instr.outputFrameReceive 0 1 0 [v]).wf) = true ∧
    Instr.wf (.samplesFrame 0 1 [⟨1, 63, 0, 0, 5⟩]) = true ∧
    ([⟨256, 0, 0, 0, 0⟩, ⟨0, 65536, 0, 0, 0⟩, ⟨0, 0, 0, 0, 2 ^ 64⟩] : List PeerSample).all (fun v => !(Instr.samplesFrame 0 1 [v]).wf) = true := by
  decide +kernel

theorem test_wf_records :
    Instr.wf (.recordFrame 0 1 0 0 ⟨1, 2, 3, 4, 5, zeros 40, 6⟩) = true ∧
    ([⟨65536, 2, 3, 4, 5, [], 6⟩, ⟨1, 2 ^ 64, 3, 4, 5, [], 6⟩, ⟨1, 2, 65536, 4, 5, [], 6⟩, ⟨1, 2, 3, 256, 5, [], 6⟩, ⟨1, 2, 3, 4, 2 ^ 32, [], 6⟩,
      ⟨1, 2, 3, 4, 5, zeros 41, 6⟩] : List PeerRecord).all (fun r => !(Instr.recordFrame 0 1 0 0 r).wf) = true ∧
    Instr.wf (.mirrorFrame 0 1 [⟨4, 1, 2, 3, zeros 1008⟩]) = true ∧
    ([⟨8, 1, 2, 3, []⟩, ⟨4, 256, 2, 3, []⟩, ⟨4, 1, 2 ^ 32, 3, []⟩, ⟨4, 1, 2, 2 ^ 64, []⟩, ⟨4, 1, 2, 3, zeros 1009⟩] : List StoredRecord).all
      (fun r => !(Instr.mirrorFrame 0 1 [r]).wf) = true := by decide +kernel

/-! ### One step on a small state -/

/-- The command in front runs, the others wait. -/
theorem test_step_takes_the_front :
    (match step { State.reset with pending := [.checkpointWrite 7, .rtcSecond 5] } with
      | .next t => some (t.now, t.pending) | _ => none) = some (7, [.rtcSecond 5]) := by decide +kernel

/-- An empty queue idles. -/
theorem test_step_idles : step State.reset = .next State.reset := rfl

/-- The table gives no row any bits. -/
theorem test_no_row_has_bits : decodeTableWord 16 0x0101 = none ∧ State.reset.withFetchWord 16 0x0101 = State.reset := ⟨rfl, rfl⟩

/-- 23:59:59 on 28 February of a leap year is followed by 29 February, and in a common year by 1 March (R494). -/
theorem test_rtc_second_at_the_end_of_february :
    ([24, 23].map fun y => match exec (.rtcSecond 0) { S0 with rtc := { cal := { year := y, month := 2, day := 28, hour := 23, min := 59, sec := 59 } } } with
      | .next t => (t.rtc.cal.month, t.rtc.cal.day, t.rtc.cal.hour, t.rtc.cal.sec) | _ => (0, 0, 0, 0)) = [(2, 29, 0, 0), (3, 1, 0, 0)] := by
  decide +kernel

/-- The check value of CRC-32C over the digits 1 to 9, from its published definition. -/
theorem test_crc32c : crc32c [0x31, 0x32, 0x33, 0x34, 0x35, 0x36, 0x37, 0x38, 0x39] = 0xE3069283 := by decide +kernel

/-- REAL32 arithmetic, by hand: 1 + 1 = 2, 3 / 2 = 1.5, 2^24 + 1 rounds to even, and 1 / 0 is infinite. -/
theorem test_real32 :
    f32Add 0x3F800000 0x3F800000 = 0x40000000 ∧ f32Div 0x40400000 0x40000000 = 0x3FC00000 ∧
    f32Add 0x4B800000 0x3F800000 = 0x4B800000 ∧ f32Div 0x3F800000 0 = 0x7F800000 := by decide +kernel

/-- A quota whose sum leaves less than 256 of the 12,288 segments is refused, one that leaves them is taken (R474). -/
theorem test_quota_sum :
    ([11904, 11905].map fun n => match exec (.quotaSet 1000 (pk [(32,2,n),(38,2,64),(40,2,64)]) {}) S0 with
      | .next t => t.rcd.quota.headD 0 | _ => 0) = [11904, 256] := by decide +kernel

/-! ### The statements' hypotheses can be met -/

theorem confirmed_serial : confirmed (pk [(36,4,serialNo)]) = true := by
  have h : leAt (pk [(36,4,serialNo)]).inl 4 4 = serialNo % 2 ^ 32 := by
    show (BitVec.ofNat 8 serialNo).toNat + 256 * ((BitVec.ofNat 8 (serialNo / 256)).toNat + 256 * ((BitVec.ofNat 8 (serialNo / 256 / 256)).toNat +
      256 * ((BitVec.ofNat 8 (serialNo / 256 / 256 / 256)).toNat + 256 * 0))) = serialNo % 2 ^ 32
    simp only [BitVec.toNat_ofNat]; omega
  exact decide_eq_true h

theorem serial_clean : Clean (pk [(36,4,serialNo)]) [(36, 4)] 0 := by
  have h (v : Nat) : (pk [(36,4,v)]).restZero [(36, 4)] = true := by
    simp [Cmd.restZero, List.range, List.range.loop, pk, putAt, le, zeros, byteAt]
  exact ⟨h _, rfl⟩

theorem keyCheck_lt (k : Option Nat) : keyCheck k < 2 ^ 32 := by
  have h (i : Nat) : byteAt (Config.ringTag k (zeros 12) (zeros 16)) i < 256 := BitVec.isLt _
  have h0 := h 0; have h1 := h 1; have h2 := h 2; have h3 := h 3
  simp only [keyCheck, leAt, Nat.reduceAdd] at *; omega

theorem zeros_get (n i : Nat) : ((zeros n)[i]?.getD 0).toNat = 0 := by
  simp only [zeros, List.getElem?_replicate]; split <;> rfl

theorem wfB_tail (i : Nat) (h : 112 ≤ i) : leAt wfB i 4 = 0 := by
  have z (j : Nat) (h : 112 ≤ j) : byteAt wfB j = 0 := by
    have e : wfB = (wfB.take 112) ++ zeros 1024 := by
      conv => lhs; rw [← List.take_append_drop 112 wfB]
      rfl
    have n : (wfB.take 112).length = 112 := rfl
    rw [byteAt, e, List.getD_eq_getElem?_getD, List.getElem?_append_right (by omega)]
    exact zeros_get _ _
  simp only [leAt, z i h, z (i + 1) (by omega), z (i + 2) (by omega), z (i + 3) (by omega)]

theorem wfB_modes (o : Nat) (h : o = 64 ∨ o = 80 ∨ o = 96) : modeBad wfB o = none := by
  have s (i : Nat) (hi : 112 ≤ i) : seqBad wfB o i = false := by
    have q : wfSeq wfB i = (0, 64) := by
      simp [wfSeq, wfB_tail i hi, show wfOfsSeq wfB = 64 by decide +kernel]
    unfold seqBad
    rw [q]
    rcases h with rfl | rfl | rfl <;> decide +kernel
  have f : ((List.range 256).map fun k => 112 + 4 * k).find? (seqBad wfB o) = none := by
    simp only [List.find?_eq_none, List.mem_map]
    rintro _ ⟨k, -, rfl⟩
    simp [s _ (Nat.le_add_right 112 (4 * k))]
  unfold modeBad
  rcases h with rfl | rfl | rfl <;>
  · rw [if_neg (by decide +kernel), if_neg (by decide +kernel), if_neg (by decide +kernel), if_neg (by decide +kernel)]
    exact f

theorem wfB_good : wfBad wfB = none := by
  have e : ((List.range (wfNMode wfB)).map fun k => wfOfsMode wfB + 16 * k).findSome? (modeBad wfB) = none := by
    rw [show ((List.range (wfNMode wfB)).map fun k => wfOfsMode wfB + 16 * k) = [64, 80, 96] by decide +kernel]
    simp [wfB_modes]
  have c : crc32c (wfB.drop 64) = wfCrc wfB := by
    have g (v : Nat) (b : List Byte) : wfCrc (wfOf v b) = v % 2 ^ 32 := by
      show (BitVec.ofNat 8 v).toNat + 256 * ((BitVec.ofNat 8 (v / 256)).toNat + 256 * ((BitVec.ofNat 8 (v / 256 / 256)).toNat +
        256 * ((BitVec.ofNat 8 (v / 256 / 256 / 256)).toNat + 256 * 0))) = v % 2 ^ 32
      simp only [BitVec.toNat_ofNat]; omega
    have d (v : Nat) (b : List Byte) : (wfOf v b).drop 64 = b := rfl
    have l (b : List Byte) : crc32c b < 2 ^ 32 := by unfold crc32c; exact BitVec.isLt _
    have m (b : List Byte) : crc32c ((wfOf (crc32c b) b).drop 64) = wfCrc (wfOf (crc32c b) b) := by
      rw [d, g, Nat.mod_eq_of_lt (l b)]
    exact m wfBody
  unfold wfBad
  dsimp only
  rw [e, c]
  simp only [ne_eq, not_true_eq_false, if_false]
  decide +kernel

theorem wfB_fit : fitBytes 1136 wfB = wfB := by
  have n (v : Nat) (b : List Byte) : (wfOf v b).length = 64 + b.length := by simp [wfOf, ex, putAt, le, zeros]; omega
  have l : wfB.length = 1136 := by
    have q (p : List Byte) : (p ++ zeros 1024).length = p.length + 1024 := by rw [List.length_append, zeros, List.length_replicate]
    rw [wfB, n, wfBody, q]; rfl
  rw [fitBytes, l, List.take_of_length_le (Nat.le_of_eq l)]
  exact List.append_nil _

theorem wfB_load : wfBad (fitBytes ((pk [(40,8,4096),(48,4,1136)]).u32 48) wfB) = none := by
  rw [show (pk [(40,8,4096),(48,4,1136)]).u32 48 = 1136 by decide +kernel, wfB_fit]
  exact wfB_good

/-- What meets the hypotheses of `Obligations.StepRunsTheFrontCommand`, clause by clause. -/
theorem witness_StepRunsTheFrontCommand :
    ∃ (s : State), s.pending = [] :=
  ⟨S0, by decide +kernel⟩

/-- What meets the hypotheses of `Obligations.CommandsLeaveTheQueueAlone`, clause by clause. -/
theorem witness_CommandsLeaveTheQueueAlone :
    ∃ (c : Instr) (s : State) (t : State), exec c s = .next t :=
  ⟨.dupWindowExpiry 1 63 5, S0, S0.advance 1, rfl⟩

/-- What meets the hypotheses of `Obligations.SecurityCountersKeepTheirRanges`, clause by clause. -/
theorem witness_SecurityCountersKeepTheirRanges :
    ∃ (s : State) (t : State), s.sec.ok ∧ step s = .next t :=
  ⟨S0, S0, by unfold Security.ok; decide +kernel, rfl⟩

/-- What meets the hypotheses of `Obligations.PacketsReadBack`, clause by clause. -/
theorem witness_PacketsReadBack :
    ∃ (l : List (Nat × Cmd)), (∀ e, e ∈ l → e.1 < 65536 ∧ e.2.whole) :=
  ⟨[(5, {pk [(32,1,1)] [1,2] with tag := []})], by unfold Cmd.whole; decide +kernel⟩

/-- What meets the hypotheses of `Obligations.DeviceIdentity`, clause by clause. -/
theorem witness_DeviceIdentity :
    ∃ (s : State), s.reaches 0 = true :=
  ⟨S0, by decide +kernel⟩

/-- What meets the hypotheses of `Obligations.SampleInstants`, clause by clause. -/
theorem witness_SampleInstants :
    (∃ (n : Nat) (m : Nat), 0 < n ∧ 0 < m) ∧
    (∃ (n : Nat) (m : Nat), 0 < n ∧ 0 < m) ∧
    (∃ (n : Nat) (m : Nat) (now : Nat) (k : _), 0 < n ∧ 0 < m ∧ k * 1000000000 * m / n ≤ now) :=
  ⟨⟨5, 2, by decide +kernel⟩,
   ⟨5, 2, by decide +kernel⟩,
   ⟨5, 2, 1000000001, 2, by decide +kernel⟩⟩

/-- What meets the hypotheses of `Obligations.RingsAndFunctionControls`, clause by clause. -/
theorem witness_RingsAndFunctionControls :
    (∃ (s : State) (n : Fin 64), s.reaches 0 = true ∧ (s.ring n).en = true ∧ (s.ring n).stopped = false) ∧
    (∃ (s : State) (n : Fin 64), (s.reaches 0 = false ∨ (s.ring n).en = false ∨ (s.ring n).stopped = true)) ∧
    (∃ (s : State) (n : Fin 64) (w : Word), s.reaches 0 = true ∧ (s.ring n).en = false ∧ w.getLsbD 0 = true ∧ 1 ≤ (w.extractLsb' 4 4).toNat ∧ (w.extractLsb' 4 4).toNat ≤ 8 ∧ 7 ≤ (w.extractLsb' 8 4).toNat ∧ (w.extractLsb' 8 4).toNat ≤ 13) ∧
    (∃ (s : State) (n : Fin 64) (w : Word), s.reaches 0 = true ∧ (s.ring n).en = false ∧ w.getLsbD 0 = true ∧ 1 ≤ (w.extractLsb' 4 4).toNat ∧ (w.extractLsb' 4 4).toNat ≤ 8 ∧ 7 ≤ (w.extractLsb' 8 4).toNat ∧ (w.extractLsb' 8 4).toNat ≤ 13) :=
  ⟨⟨S1, 0, by decide +kernel⟩,
   ⟨S0, 63, by decide +kernel⟩,
   ⟨S0, 63, 0x741, by decide +kernel⟩,
   ⟨S0, 5, 0xD81, by decide +kernel⟩⟩

/-- What meets the hypotheses of `Obligations.LinkErrorsAndMessages`, clause by clause. -/
theorem witness_LinkErrorsAndMessages :
    (∃ (speed : Fin 4) (width : Fin 5), speed.val ≠ 0 ∧ width.val ≠ 0 ∧ width.val ≠ 3) ∧
    (∃ (speed : Fin 4) (width : Fin 5), speed.val ≠ 0 ∧ width.val ≠ 0 ∧ width.val ≠ 3) ∧
    (∃ (s : State), s.host.speed ≠ 0) ∧
    (∃ (s : State) (f : Fin 256) (v : Word), s.reachesFlow f = true ∧ (s.flow f).state = .opened ∧ (v.toNat + 2 ^ 32 - (s.flow f).head) % 2 ^ 32 ≤ 2 ^ (s.flow f).qlog2 ∧ ((s.flow f).tail + 2 ^ 32 - v.toNat) % 2 ^ 32 ≤ 2 ^ (s.flow f).qlog2) ∧
    (∃ (s : State) (f : Fin 256) (v : Word), s.reachesFlow f = true ∧ (s.flow f).state = .opened ∧ 2 ^ (s.flow f).qlog2 < (v.toNat + 2 ^ 32 - (s.flow f).head) % 2 ^ 32) ∧
    (∃ (s : State) (f : Fin 256) (v : Word), s.reachesFlow f = true ∧ (s.flow f).state = .held ∧ f.val ≠ 0 ∧ v.getLsbD 0 = true ∧ (s.flow f).items = [] ∧ (s.flow f).head = (s.flow f).dtail) ∧
    (∃ (s : State) (f : Fin 256), s.reachesFlow f = true ∧ (s.flow f).state = .opened) ∧
    (∃ (s : State) (pf : Fin 3) (v : Fin 264), s.reaches pf = true ∧ v.val < vectorsOf pf ∧ s.canIssue pf = true) ∧
    (∃ (s : State) (pf : Fin 3) (v : Fin 264), s.reaches pf = true ∧ v.val < vectorsOf pf ∧ s.canIssue pf = true) ∧
    (∃ (s : State) (dt : Nat) (f : Fin 256) (b : Block) (r : List Block), (s.flow f).filling = b :: r ∧ (s.flow f).stream = true ∧ (r ≠ [] ∨ ((s.flow f).size - 64) / 4 ≤ b.words.length) ∧ s.mode .wave = true ∧ (s.flow f).hasToken (s.now + dt) = true ∧ s.flowBars f (.block b) = false ∧ (s.flow f).state = .opened ∧ (s.flow f).cls = 3 ∧ (s.flow f).lateReset = false) ∧
    (∃ (s : State) (dt : Nat) (f : Fin 256) (b : Block) (r : List Block), (s.flow f).filling = b :: r ∧ (s.flow f).stream = true ∧ (r ≠ [] ∨ ((s.flow f).size - 64) / 4 ≤ b.words.length) ∧ s.mode .wave = true ∧ (s.flow f).hasToken (s.now + dt) = true ∧ s.flowBars f (.block b) = false ∧ (s.flow f).state = .opened ∧ (s.flow f).cls = 3 ∧ (s.flow f).lateReset = false) ∧
    (∃ (s : State) (f : Fin 256) (b : Block), (s.flow f).filling = [b] ∧ (s.flow f).stream = true ∧ ((s.flow f).size - 64) / 4 ≤ b.words.length ∧ s.mode .wave = false) :=
  ⟨⟨3, 4, by decide +kernel⟩,
   ⟨1, 1, by decide +kernel⟩,
   ⟨S0, by decide +kernel⟩,
   ⟨S0.setFlow 1 {F1 with tail := 64}, 1, 64, by decide +kernel⟩,
   ⟨S0.setFlow 1 {F1 with tail := 64}, 1, 65, by decide +kernel⟩,
   ⟨S0.setFlow 1 {F1 with state := .held}, 1, 1, by decide +kernel⟩,
   ⟨S1, 1, by decide +kernel⟩,
   ⟨S0, 2, 7, by decide +kernel⟩,
   ⟨S0, 0, 263, by decide +kernel⟩,
   ⟨S0.setFlow 1 {F1 with stream := true, cls := 3, size := 256, filling := [{ time := 4, words := List.replicate 48 5 }]}, 1000, 1, { time := 4, words := List.replicate 48 5 }, [], by decide +kernel⟩,
   ⟨S0.setFlow 255 {F1 with stream := true, cls := 3, size := 256, filling := [{ time := 4, words := [] }, { time := 9 }]}, 1000, 255, { time := 4, words := [] }, [{ time := 9 }], by decide +kernel⟩,
   ⟨{S0 with mod := {S0.mod with cmd := 0x1FF}}.setFlow 1 {F1 with stream := true, cls := 3, size := 256, filling := [{ time := 4, words := List.replicate 48 5 }]}, 1, { time := 4, words := List.replicate 48 5 }, by decide +kernel⟩⟩

/-- What meets the hypotheses of `Obligations.WritesAndFlushingReads`, clause by clause. -/
theorem witness_WritesAndFlushingReads :
    (∃ (s : State), bestCand (candidates s) = none) ∧
    (∃ (s : State) (c : Cand), bestCand (candidates s) = some c ∧ s.canIssue (s.flow c.flow).pf = true ∧ (s.flow c.flow).state = .opened ∧ c.item.entry = none ∧ 0 < (s.flow c.flow).freeEntries ∧ (s.flow c.flow).reserve ≤ (s.flow c.flow).freeEntries) ∧
    (∃ (s : State) (c : Cand), bestCand (candidates s) = some c ∧ c.item.entry = none ∧ (s.flow c.flow).state = .opened ∧ (s.flow c.flow).closing = none ∧ (s.canIssue (s.flow c.flow).pf = false ∨ (s.flow c.flow).freeEntries = 0)) ∧
    (∃ (s : State) (c : Cand), bestCand (candidates s) = some c ∧ c.item.entry = none ∧ (s.flow c.flow).state = .opened ∧ (s.flow c.flow).closing = none ∧ (s.canIssue (s.flow c.flow).pf = false ∨ (s.flow c.flow).freeEntries = 0)) ∧
    (∃ (s : State), ((s.flows.any fun e => e.2.pf == 0 && e.2.items.any (·.stage = .written)) = true) ∧ s.canIssue 0 = true) ∧
    (∃ (s : State), ((s.flows.any fun e => e.2.pf == 1 && e.2.items.any (·.stage = .written)) = true) ∧ s.canIssue 1 = true) ∧
    (∃ (s : State) (n : Nat) (r : List Nat), s.host.flush0 = n :: r) ∧
    (∃ (s : State) (n : Nat) (r : List Nat), s.host.flush1 = n :: r) ∧
    (∃ (s : State), s.host.flush1 = []) ∧
    (∃ (s : State) (f : Nat), (s.flow f).closing = none) ∧
    (∃ (s : State), s.host.flush0 ≠ []) ∧
    (∃ (s : State), s.host.flush1 ≠ []) :=
  ⟨⟨S1, by decide +kernel⟩,
   ⟨S0.setFlow 1 {F1 with items := [itm 3 .queued none]}, ⟨false, 5000003, 1, 1, itm 3 .queued none⟩, by decide +kernel⟩,
   ⟨{S0 with host := {}}.setFlow 1 {F1 with items := [itm 3 .queued none]}, ⟨false, 5000003, 1, 1, itm 3 .queued none⟩, by decide +kernel⟩,
   ⟨S0.setFlow 1 {F1 with tail := 64, items := [itm 3 .queued none]}, ⟨false, 5000003, 1, 1, itm 3 .queued none⟩, by decide +kernel⟩,
   ⟨S0.setFlow 1 {F1 with tail := 1, items := [itm 3 .written (some 0), itm 4 .queued none]}, by decide +kernel⟩,
   ⟨S0.setFlow 1 {F1 with stream := true, tail := 1, items := [itm 3 .written (some 0), itm 4 .queued none]}, by decide +kernel⟩,
   ⟨{(S0.setFlow 1 {F1 with tail := 2, items := [itm 3 (.flushing 0) (some 0), itm 4 .written (some 1)]}) with host := {S0.host with flush0 := [0, 1], flushNext := 2}}, 0, [1], by decide +kernel⟩,
   ⟨{(S0.setFlow 1 {F1 with stream := true, tail := 2, items := [itm 3 (.flushing 0) (some 0), itm 4 .written (some 1)]}) with host := {S0.host with flush1 := [0, 1], flushNext := 2}}, 0, [1], by decide +kernel⟩,
   ⟨S0, by decide +kernel⟩,
   ⟨S0.setFlow 1 {F1 with tail := 1, items := [itm 3 (.flushing 0) (some 0), itm 4 .queued none]}, 1, by decide +kernel⟩,
   ⟨{S1 with host := {S0.host with flush0 := [0, 1], flushNext := 2}}, by decide +kernel⟩,
   ⟨{S1 with host := {S0.host with flush1 := [0, 1], flushNext := 2}}, by decide +kernel⟩⟩

/-- What meets the hypotheses of `Obligations.WriteOrderIsByDeadline`, clause by clause. -/
theorem witness_WriteOrderIsByDeadline :
    (∃ (l : List Cand) (c : Cand), bestCand l = some c) ∧
    (∃ (l : List Cand) (c : Cand), bestCand l = some c) ∧
    (∃ (l : List Cand), bestCand l = none) :=
  ⟨⟨[⟨false, 7, 1, 1, itm 3 .queued none⟩, ⟨false, 6, 1, 2, itm 3 .queued none⟩], ⟨false, 6, 1, 2, itm 3 .queued none⟩, by decide +kernel⟩,
   ⟨[⟨false, 7, 1, 1, itm 3 .queued none⟩, ⟨false, 6, 1, 2, itm 3 .queued none⟩], ⟨false, 6, 1, 2, itm 3 .queued none⟩, by decide +kernel⟩,
   ⟨[], by decide +kernel⟩⟩

/-- What meets the hypotheses of `Obligations.OpeningFlows`, clause by clause. -/
theorem witness_OpeningFlows :
    (∃ (s : State) (dt : Nat) (c : Cmd), s.Ready .flowOpen dt c ∧ Clean c [(32, 2), (35, 1), (36, 4), (40, 2), (44, 3), (48, 8), (56, 4)] 0 ∧ c.u8 35 ≤ 3 ∧ c.u8 32 ≠ 0 ∧ c.u8 33 ≤ 2 ∧ 0 < c.u32 36 ∧ c.u32 36 ≤ 1000000 ∧ 0 < c.u16 40 ∧ c.u16 40 ≤ 4096 ∧ 0 < c.u16 44 ∧ c.u16 44 ≤ 32768 ∧ 6 ≤ c.u8 46 ∧ c.u8 46 ≤ 16 ∧ (s.flow (c.u8 32)).state = .closed ∧ c.u16 40 ≤ c.u16 44 ∧ c.u16 44 + c.u16 40 ≤ 2 ^ c.u8 46 ∧ c.u64 48 % 4096 = 0 ∧ ((if c.u32 56 = 0 then 0 else (s.entered .flowOpen dt c).originDelay (c.u32 56) (decide (2 ≤ c.u8 35)))) + 8000 ≤ classWindow (c.u8 33) ∧ admissionFailure (s.entered .flowOpen dt c) ({ closedFlow (s.flow (c.u8 32)) with state := .opened, cls := c.u8 33, admitted := c.u8 33, replies := c.u8 35 % 2 = 1, breakSafe := decide (2 ≤ c.u8 35), burst := c.u16 40, rate := c.u32 36, reserve := c.u16 44, size := 64, qlog2 := c.u8 46, qbase := c.u64 48, window := 1000 * (classWindow (c.u8 33) - ((if c.u32 56 = 0 then 0 else (s.entered .flowOpen dt c).originDelay (c.u32 56) (decide (2 ≤ c.u8 35))))), origin := c.u32 56 }) = none) ∧
    (∃ (s : State) (dt : Nat) (c : Cmd), s.Ready .flowOpen dt c ∧ Clean c [(32, 2), (35, 1), (36, 4), (40, 2), (44, 3), (48, 8), (56, 4)] 0 ∧ c.u8 35 ≤ 3 ∧ c.u8 32 ≠ 0 ∧ c.u8 33 ≤ 2 ∧ 0 < c.u32 36 ∧ c.u32 36 ≤ 1000000 ∧ 0 < c.u16 40 ∧ c.u16 40 ≤ 4096 ∧ 0 < c.u16 44 ∧ c.u16 44 ≤ 32768 ∧ 6 ≤ c.u8 46 ∧ c.u8 46 ≤ 16 ∧ (s.flow (c.u8 32)).state = .closed ∧ c.u16 40 ≤ c.u16 44 ∧ c.u16 44 + c.u16 40 ≤ 2 ^ c.u8 46 ∧ c.u64 48 % 4096 = 0 ∧ ((if c.u32 56 = 0 then 0 else (s.entered .flowOpen dt c).originDelay (c.u32 56) (decide (2 ≤ c.u8 35)))) + 8000 ≤ classWindow (c.u8 33) ∧ admissionFailure (s.entered .flowOpen dt c) ({ closedFlow (s.flow (c.u8 32)) with state := .opened, cls := c.u8 33, admitted := c.u8 33, replies := c.u8 35 % 2 = 1, breakSafe := decide (2 ≤ c.u8 35), burst := c.u16 40, rate := c.u32 36, reserve := c.u16 44, size := 64, qlog2 := c.u8 46, qbase := c.u64 48, window := 1000 * (classWindow (c.u8 33) - ((if c.u32 56 = 0 then 0 else (s.entered .flowOpen dt c).originDelay (c.u32 56) (decide (2 ≤ c.u8 35))))), origin := c.u32 56 }) = none) ∧
    (∃ (s : State) (dt : Nat) (c : Cmd), s.Ready .flowOpen dt c ∧ Clean c [(32, 2), (35, 1), (36, 4), (40, 2), (44, 3), (48, 8), (56, 4)] 0 ∧ c.u8 35 ≤ 3 ∧ c.u8 32 ≠ 0 ∧ c.u8 33 ≤ 2 ∧ 0 < c.u32 36 ∧ c.u32 36 ≤ 1000000 ∧ 0 < c.u16 40 ∧ c.u16 40 ≤ 4096 ∧ 0 < c.u16 44 ∧ c.u16 44 ≤ 32768 ∧ 6 ≤ c.u8 46 ∧ c.u8 46 ≤ 16 ∧ (s.flow (c.u8 32)).state = .closed ∧ c.u16 40 ≤ c.u16 44 ∧ c.u16 44 + c.u16 40 ≤ 2 ^ c.u8 46 ∧ c.u64 48 % 4096 = 0 ∧ ((if c.u32 56 = 0 then 0 else (s.entered .flowOpen dt c).originDelay (c.u32 56) (decide (2 ≤ c.u8 35)))) + 8000 ≤ classWindow (c.u8 33) ∧ admissionFailure (s.entered .flowOpen dt c) ({ closedFlow (s.flow (c.u8 32)) with state := .opened, cls := c.u8 33, admitted := c.u8 33, replies := c.u8 35 % 2 = 1, breakSafe := decide (2 ≤ c.u8 35), burst := c.u16 40, rate := c.u32 36, reserve := c.u16 44, size := 64, qlog2 := c.u8 46, qbase := c.u64 48, window := 1000 * (classWindow (c.u8 33) - ((if c.u32 56 = 0 then 0 else (s.entered .flowOpen dt c).originDelay (c.u32 56) (decide (2 ≤ c.u8 35))))), origin := c.u32 56 }) = none) ∧
    (∃ (s : State) (dt : Nat) (c : Cmd) (r : _), s.Ready .flowOpen dt c ∧ Clean c [(32, 2), (35, 1), (36, 4), (40, 2), (44, 3), (48, 8), (56, 4)] 0 ∧ c.u8 35 ≤ 3 ∧ c.u8 32 ≠ 0 ∧ c.u8 33 ≤ 2 ∧ 0 < c.u32 36 ∧ c.u32 36 ≤ 1000000 ∧ 0 < c.u16 40 ∧ c.u16 40 ≤ 4096 ∧ 0 < c.u16 44 ∧ c.u16 44 ≤ 32768 ∧ 6 ≤ c.u8 46 ∧ c.u8 46 ≤ 16 ∧ (s.flow (c.u8 32)).state = .closed ∧ c.u16 40 ≤ c.u16 44 ∧ c.u16 44 + c.u16 40 ≤ 2 ^ c.u8 46 ∧ c.u64 48 % 4096 = 0 ∧ ((if c.u32 56 = 0 then 0 else (s.entered .flowOpen dt c).originDelay (c.u32 56) (decide (2 ≤ c.u8 35)))) + 8000 ≤ classWindow (c.u8 33) ∧ admissionFailure (s.entered .flowOpen dt c) ({ closedFlow (s.flow (c.u8 32)) with state := .opened, cls := c.u8 33, admitted := c.u8 33, replies := c.u8 35 % 2 = 1, breakSafe := decide (2 ≤ c.u8 35), burst := c.u16 40, rate := c.u32 36, reserve := c.u16 44, size := 64, qlog2 := c.u8 46, qbase := c.u64 48, window := 1000 * (classWindow (c.u8 33) - ((if c.u32 56 = 0 then 0 else (s.entered .flowOpen dt c).originDelay (c.u32 56) (decide (2 ≤ c.u8 35))))), origin := c.u32 56 }) = some r) ∧
    (∃ (s : State) (dt : Nat) (c : Cmd), s.Ready .streamOpen dt c ∧ Clean c [(32, 3), (36, 3), (40, 8), (48, 2)] 0 ∧ c.u8 32 ≠ 0 ∧ c.u8 33 ≤ 32 ∧ c.u8 34 ≤ 63 ∧ 256 ≤ c.u16 36 ∧ c.u16 36 ≤ 4096 ∧ c.u16 36 % 64 = 0 ∧ 4 ≤ c.u8 38 ∧ c.u8 38 ≤ 12 ∧ (s.flow (c.u8 32)).state = .closed ∧ 2 ≤ c.u16 48 ∧ c.u16 48 + 2 ≤ 2 ^ c.u8 38 ∧ c.u64 40 % 4096 = 0 ∧ 0 < waveRate (s.waveOf (c.u8 33) (c.u8 34)) ∧ (((if c.u8 33 = 0 ∨ c.u8 33 = s.nodeNo then 0 else (s.entered .streamOpen dt c).originPath (c.u8 33) false + sumNat ((s.hopsFrom (c.u8 33) (s.dirFrom (c.u8 33))).map fun l => 10000 + 5 * l))) + 8000 ≤ classWindow 3) ∧ (admissionFailure (s.entered .streamOpen dt c) ({ closedFlow (s.flow (c.u8 32)) with state := .opened, cls := 3, admitted := 3, stream := true, burst := 2, rate := (waveRate (s.waveOf (c.u8 33) (c.u8 34)) * 4 + (c.u16 36 - 64) - 1) / (c.u16 36 - 64), reserve := c.u16 48, size := c.u16 36, qlog2 := c.u8 38, qbase := c.u64 40, window := 1000 * (classWindow 3 - ((if c.u8 33 = 0 ∨ c.u8 33 = s.nodeNo then 0 else (s.entered .streamOpen dt c).originPath (c.u8 33) false + sumNat ((s.hopsFrom (c.u8 33) (s.dirFrom (c.u8 33))).map fun l => 10000 + 5 * l)))), node := c.u8 33, chan := c.u8 34 }) = none)) ∧
    (∃ (s : State) (dt : Nat) (c : Cmd), s.Ready .streamOpen dt c ∧ Clean c [(32, 3), (36, 3), (40, 8), (48, 2)] 0 ∧ c.u8 32 ≠ 0 ∧ c.u8 33 ≤ 32 ∧ c.u8 34 ≤ 63 ∧ 256 ≤ c.u16 36 ∧ c.u16 36 ≤ 4096 ∧ c.u16 36 % 64 = 0 ∧ 4 ≤ c.u8 38 ∧ c.u8 38 ≤ 12 ∧ (s.flow (c.u8 32)).state = .closed ∧ 2 ≤ c.u16 48 ∧ c.u16 48 + 2 ≤ 2 ^ c.u8 38 ∧ c.u64 40 % 4096 = 0 ∧ 0 < waveRate (s.waveOf (c.u8 33) (c.u8 34)) ∧ (((if c.u8 33 = 0 ∨ c.u8 33 = s.nodeNo then 0 else (s.entered .streamOpen dt c).originPath (c.u8 33) false + sumNat ((s.hopsFrom (c.u8 33) (s.dirFrom (c.u8 33))).map fun l => 10000 + 5 * l))) + 8000 ≤ classWindow 3) ∧ (admissionFailure (s.entered .streamOpen dt c) ({ closedFlow (s.flow (c.u8 32)) with state := .opened, cls := 3, admitted := 3, stream := true, burst := 2, rate := (waveRate (s.waveOf (c.u8 33) (c.u8 34)) * 4 + (c.u16 36 - 64) - 1) / (c.u16 36 - 64), reserve := c.u16 48, size := c.u16 36, qlog2 := c.u8 38, qbase := c.u64 40, window := 1000 * (classWindow 3 - ((if c.u8 33 = 0 ∨ c.u8 33 = s.nodeNo then 0 else (s.entered .streamOpen dt c).originPath (c.u8 33) false + sumNat ((s.hopsFrom (c.u8 33) (s.dirFrom (c.u8 33))).map fun l => 10000 + 5 * l)))), node := c.u8 33, chan := c.u8 34 }) = none)) ∧
    (∃ (s : State) (dt : Nat) (c : Cmd) (r : _), s.Ready .streamOpen dt c ∧ Clean c [(32, 3), (36, 3), (40, 8), (48, 2)] 0 ∧ c.u8 32 ≠ 0 ∧ c.u8 33 ≤ 32 ∧ c.u8 34 ≤ 63 ∧ 256 ≤ c.u16 36 ∧ c.u16 36 ≤ 4096 ∧ c.u16 36 % 64 = 0 ∧ 4 ≤ c.u8 38 ∧ c.u8 38 ≤ 12 ∧ (s.flow (c.u8 32)).state = .closed ∧ 2 ≤ c.u16 48 ∧ c.u16 48 + 2 ≤ 2 ^ c.u8 38 ∧ c.u64 40 % 4096 = 0 ∧ 0 < waveRate (s.waveOf (c.u8 33) (c.u8 34)) ∧ (((if c.u8 33 = 0 ∨ c.u8 33 = s.nodeNo then 0 else (s.entered .streamOpen dt c).originPath (c.u8 33) false + sumNat ((s.hopsFrom (c.u8 33) (s.dirFrom (c.u8 33))).map fun l => 10000 + 5 * l))) + 8000 ≤ classWindow 3) ∧ (admissionFailure (s.entered .streamOpen dt c) ({ closedFlow (s.flow (c.u8 32)) with state := .opened, cls := 3, admitted := 3, stream := true, burst := 2, rate := (waveRate (s.waveOf (c.u8 33) (c.u8 34)) * 4 + (c.u16 36 - 64) - 1) / (c.u16 36 - 64), reserve := c.u16 48, size := c.u16 36, qlog2 := c.u8 38, qbase := c.u64 40, window := 1000 * (classWindow 3 - ((if c.u8 33 = 0 ∨ c.u8 33 = s.nodeNo then 0 else (s.entered .streamOpen dt c).originPath (c.u8 33) false + sumNat ((s.hopsFrom (c.u8 33) (s.dirFrom (c.u8 33))).map fun l => 10000 + 5 * l)))), node := c.u8 33, chan := c.u8 34 }) = some r)) :=
  ⟨⟨S0, 1000, pk [(32,1,7),(33,1,1),(35,1,1),(36,4,1000000),(40,2,4096),(44,2,32768),(46,1,16),(48,8,0x10000)], by unfold Clean; decide +kernel⟩,
   ⟨S0, 1000, pk [(32,1,255),(33,1,0),(35,1,0),(36,4,1),(40,2,1),(44,2,1),(46,1,6),(48,8,0)], by unfold Clean; decide +kernel⟩,
   ⟨S0, 1000, pk [(32,1,7),(33,1,2),(35,1,3),(36,4,1000),(40,2,10),(44,2,20),(46,1,6),(48,8,0x10000)], by unfold Clean; decide +kernel⟩,
   ⟨S0, 1000, pk [(32,1,7),(33,1,0),(35,1,1),(36,4,1000000),(40,2,4096),(44,2,32768),(46,1,16),(48,8,0x10000)], { detail := 82, test := 1, part := 0, window := 64000, demand := 399552, capacity := 32000 }, by unfold Clean; decide +kernel⟩,
   ⟨S0.setChan 63 {cfg := {kind := 1, wave := 3}}, 1000, pk [(32,1,9),(33,1,0),(34,1,63),(36,2,256),(38,1,4),(40,8,0x10000),(48,2,2)], by unfold Clean; decide +kernel⟩,
   ⟨S0.setChan 63 {cfg := {kind := 1, wave := 3}}, 1000, pk [(32,1,9),(33,1,0),(34,1,63),(36,2,4096),(38,1,12),(40,8,0x10000),(48,2,4094)], by unfold Clean; decide +kernel⟩,
   ⟨(S0.setChan 63 {cfg := {kind := 1, wave := 3}}).setFlow 8 {F1 with stream := true, cls := 3, admitted := 3, size := 4096, rate := 1000000, window := 199814000000}, 1000, pk [(32,1,9),(33,1,0),(34,1,63),(36,2,4096),(38,1,12),(40,8,0x10000),(48,2,4094)], { detail := 82, test := 3, part := 1, window := 1000000000, demand := 4132356096, capacity := 2000000000 }, by unfold Clean; decide +kernel⟩⟩

/-- What meets the hypotheses of `Obligations.ClosingAndReadingFlows`, clause by clause. -/
theorem witness_ClosingAndReadingFlows :
    (∃ (s : State) (dt : Nat) (c : Cmd), s.Ready .flowClose dt c ∧ Clean c [(32, 1)] 0 ∧ c.u8 32 ≠ 0 ∧ (s.flow (c.u8 32)).state ≠ .closed ∧ (s.flow (c.u8 32)).stream = false ∧ (s.flow (c.u8 32)).closing = none ∧ ((s.alm.points.any fun p => p.2.flow == c.u8 32) = false) ∧ (s.flow (c.u8 32)).items = []) ∧
    (∃ (s : State) (dt : Nat) (c : Cmd), s.Ready .flowClose dt c ∧ Clean c [(32, 1)] 0 ∧ c.u8 32 ≠ 0 ∧ (s.flow (c.u8 32)).state ≠ .closed ∧ (s.flow (c.u8 32)).stream = false ∧ (s.flow (c.u8 32)).closing = none ∧ ((s.alm.points.any fun p => p.2.flow == c.u8 32) = false) ∧ (s.flow (c.u8 32)).items ≠ [] ∧ (s.flow (c.u8 32)).state = .opened) ∧
    (∃ (s : State) (dt : Nat) (c : Cmd) (i : Item) (j : Item) (r : List Item), s.Ready .flowClose dt c ∧ Clean c [(32, 1)] 0 ∧ c.u8 32 ≠ 0 ∧ ((s.flow (c.u8 32)).state = .stalled ∨ (s.flow (c.u8 32)).state = .draining ∨ (s.flow (c.u8 32)).state = .held) ∧ (s.flow (c.u8 32)).stream = false ∧ (s.flow (c.u8 32)).closing = none ∧ (s.flow (c.u8 32)).items = i :: r ∧ (i :: r).getLast? = some j ∧ ((s.alm.points.any fun p => p.2.flow == c.u8 32) = false)) ∧
    (∃ (s : State) (dt : Nat) (c : Cmd), s.Ready .streamClose dt c ∧ Clean c [(32, 1)] 0 ∧ c.u8 32 ≠ 0 ∧ (s.flow (c.u8 32)).state ≠ .closed ∧ (s.flow (c.u8 32)).stream = true ∧ (s.flow (c.u8 32)).closing = none ∧ (s.flow (c.u8 32)).filling = [] ∧ (s.flow (c.u8 32)).items = []) ∧
    (∃ (s : State) (dt : Nat) (c : Cmd), s.Ready .flowRead dt c ∧ Clean c [(32, 1)] 0) ∧
    (∃ (s : State) (dt : Nat) (c : Cmd), s.Ready .budgetRead dt c ∧ Clean c [(32, 1)] 0 ∧ c.u8 32 ≤ 3) :=
  ⟨⟨S1, 1000, pk [(32,1,1)], by unfold Clean; decide +kernel⟩,
   ⟨S0.setFlow 1 {F1 with items := [itm 3 .queued none]}, 1000, pk [(32,1,1)], by unfold Clean; decide +kernel⟩,
   ⟨S0.setFlow 1 {F1 with state := .stalled, items := [itm 3 .queued none]}, 1000, pk [(32,1,1)], itm 3 .queued none, itm 3 .queued none, [], by unfold Clean; decide +kernel⟩,
   ⟨S0.setFlow 1 {F1 with stream := true}, 1000, pk [(32,1,1)], by unfold Clean; decide +kernel⟩,
   ⟨S1, 1000, pk [(32,1,1)], by unfold Clean; decide +kernel⟩,
   ⟨S0, 1000, pk [(32,1,3)], by unfold Clean; decide +kernel⟩⟩

/-- What meets the hypotheses of `Obligations.FetchAndForwarding`, clause by clause. -/
theorem witness_FetchAndForwarding :
    (∃ (s : State) (n : Fin 64), s.nextRing ≠ some n.val) ∧
    (∃ (s : State) (dt : Nat) (n : Fin 64) (opcode : BitVec 16) (c : Cmd) (d : Cmd) (op : Opc), s.nextRing = some n.val ∧ fetchChecks n opcode.toNat c (s.slotRead dt n) = .accept op d ∧ d.target = 0) ∧
    (∃ (s : State) (dt : Nat) (n : Fin 64) (opcode : BitVec 16) (c : Cmd) (d : Cmd) (op : Opc), s.nextRing = some n.val ∧ fetchChecks n opcode.toNat c (s.slotRead dt n) = .accept op d ∧ d.target ≠ 0 ∧ s.rng.members.contains d.target = true) ∧
    (∃ (s : State) (dt : Nat) (n : Fin 64) (opcode : BitVec 16) (c : Cmd) (d : DupEntry) (st : Nat), s.nextRing = some n.val ∧ fetchChecks n opcode.toNat c (s.slotRead dt n) = .duplicate d ∧ d.status = some st) ∧
    (∃ (s : State) (dt : Nat) (n : Fin 64) (opcode : BitVec 16) (c : Cmd) (st : Nat) (p : List Byte), s.nextRing = some n.val ∧ fetchChecks n opcode.toNat c (s.slotRead dt n) = .refuse st p false ∧ (s.flow c.replyFlow).state ≠ .closed ∧ (s.flow c.replyFlow).replies = true) ∧
    (∃ (s : State) (dt : Nat) (n : Fin 64) (opcode : BitVec 16) (c : Cmd) (st : Nat) (p : List Byte) (onF0 : Bool), s.nextRing = some n.val ∧ fetchChecks n opcode.toNat c (s.slotRead dt n) = .refuse st p onF0 ∧ (onF0 = true ∨ (s.flow c.replyFlow).state = .closed ∨ (s.flow c.replyFlow).replies = false)) ∧
    (∃ (s : State) (dt : Nat) (n : Fin 64) (opcode : BitVec 16) (c : Cmd) (st : Nat) (p : List Byte) (onF0 : Bool), s.nextRing = some n.val ∧ fetchChecks n opcode.toNat c (s.slotRead dt n) = .refuse st p onF0 ∧ (onF0 = true ∨ (s.flow c.replyFlow).state = .closed ∨ (s.flow c.replyFlow).replies = false)) ∧
    (∃ (s : State) (n : Fin 64), s.nextRing = some n.val) ∧
    (∃ (s : State) (n : Nat) (op : Nat) (c : Cmd) (v : Verdict), checkFormat (s.ring n).slotLog2 op c = some v) ∧
    (∃ (s : State) (n : Nat) (op : Nat) (c : Cmd), checkFormat (s.ring n).slotLog2 op c = none ∧ c.session ≠ n) ∧
    (∃ (s : State) (op : Nat) (c : Cmd), checkFormat (s.ring c.session).slotLog2 op c = none ∧ opcOf op = none) ∧
    (∃ (s : State) (op : Nat) (o : Opc) (c : Cmd), checkFormat (s.ring c.session).slotLog2 op c = none ∧ opcOf op = some o ∧ c.target = 0 ∧ s.now + 10000000000 < c.notBefore) ∧
    (∃ (s : State) (op : Nat) (o : Opc) (c : Cmd), checkFormat (s.ring c.session).slotLog2 op c = none ∧ opcOf op = some o ∧ c.target = 0 ∧ c.notBefore = 0 ∧ s.mod.life = .sealed ∧ s.sessionOpen c.session = true ∧ (opRow o).right ≠ 0 ∧ (s.sessionRights c.session).getLsbD ((opRow o).right - 1) = false) ∧
    (∃ (s : State) (op : Nat) (o : Opc) (c : Cmd), checkFormat (s.ring c.session).slotLog2 op c = none ∧ opcOf op = some o ∧ c.target = 0 ∧ c.notBefore = 0 ∧ checkRights o op c s = none ∧ c.token = 0 ∧ lifeAllows o s = false) ∧
    (∃ (s : State) (op : Nat) (o : Opc) (c : Cmd), checkFormat (s.ring c.session).slotLog2 op c = none ∧ opcOf op = some o ∧ c.target = 0 ∧ c.notBefore ≤ s.now + 10000000000 ∧ checkRights o op c s = none ∧ checkDuplicate op c s = none ∧ lifeAllows o s = true ∧ (s.flow c.replyFlow).state ≠ .closed ∧ (s.flow c.replyFlow).replies = true ∧ (s.flow c.replyFlow).hasToken s.now = true ∧ s.inExec c.session < 15 ∧ (s.cp.exec.filter (·.counts)).length < 255 ∧ ((opRow o).job = 0 ∨ s.jobs.length < 4)) ∧
    (∃ (s : State) (id : Nat) (code : Word) (e : CmdEntry), s.cmd id = some e ∧ e.phase = .forwarded ∧ code.toNat ≠ stAccepted) ∧
    (∃ (s : State) (id : Nat) (e : CmdEntry), s.cmd id = some e ∧ e.phase = .forwarded) ∧
    (∃ (s : State) (id : Nat), (∀ e, s.cmd id = some e → e.phase ≠ .forwarded)) ∧
    (∃ (s : State) (dt : Nat) (id : Nat) (e : CmdEntry), s.cmd id = some e ∧ e.phase = .forwarded ∧ e.work ≠ [1] ∧ e.start + cmdBound e.op e.c s + 4000000 ≤ s.now + dt) ∧
    (∃ (s : State) (dt : Nat) (id : Nat) (e : CmdEntry), s.cmd id = some e ∧ e.phase = .forwarded ∧ e.work = [1] ∧ e.jobEnd + 4000000 ≤ s.now + dt) ∧
    (∃ (s : State) (dt : Nat) (id : Nat), (∀ e, s.cmd id = some e → e.phase ≠ .forwarded ∨ s.now + dt < (if e.work = [1] then e.jobEnd else e.start + cmdBound e.op e.c s) + 4000000)) :=
  ⟨⟨S1, 0, by decide +kernel⟩,
   ⟨S2, 1000, 0, 0x0103, {pk [] with replyFlow := 1}, {pk [] with replyFlow := 1}, .modeRead, by decide +kernel⟩,
   ⟨SRF, 1000, 0, 0x0103, {pk [] with replyFlow := 1, target := 2}, {pk [] with replyFlow := 1, target := 2}, .modeRead, by decide +kernel⟩,
   ⟨{S2 with cp := {S2.cp with ses := [(0, {opened := true, window := [ddp]})]}}, 1000, 0, 0x0103, cdp, ddp, 0, by decide +kernel⟩,
   ⟨S2, 1000, 0, 0x0103, {pk [] with replyFlow := 1, session := 1}, stBadParam, le 2 0x67, by decide +kernel⟩,
   ⟨S2, 1000, 0, 0x0103, {pk [] with replyFlow := 2, session := 1}, stBadParam, le 2 0x67, false, by decide +kernel⟩,
   ⟨S2, 1000, 0, 0x0103, {pk [] with replyFlow := 0}, stBadParam, le 2 0x56, true, by decide +kernel⟩,
   ⟨S2, 0, by decide +kernel⟩,
   ⟨S1, 0, 0x103, {pk [] with paramLen := 600}, refuseBad 0x5C, by decide +kernel⟩,
   ⟨S1, 0, 0x103, {pk [] with session := 1}, by decide +kernel⟩,
   ⟨S1, 0, pk [], by decide +kernel⟩,
   ⟨S1, 0x103, .modeRead, {pk [] with notBefore := 15000000001}, by decide +kernel⟩,
   ⟨S3, 0x102, .modeSet, pk [], by decide +kernel⟩,
   ⟨{S2 with mod := {S0.mod with life := .retired}}, 0x102, .modeSet, pk [], by decide +kernel⟩,
   ⟨S2, 0x102, .modeSet, {pk [] with replyFlow := 1}, by decide +kernel⟩,
   ⟨{S1 with cp := {S1.cp with nextId := 8, exec := [{ id := 7, op := .modeRead, c := {pk [] with replyFlow := 1}, cls := 0, fetched := 4, start := 4, mark := 1, phase := .forwarded, jobEnd := 0, fromMaster := none, work := [] }]}}, 7, 0x102, { id := 7, op := .modeRead, c := {pk [] with replyFlow := 1}, cls := 0, fetched := 4, start := 4, mark := 1, phase := .forwarded, jobEnd := 0, fromMaster := none, work := [] }, by decide +kernel⟩,
   ⟨{S1 with cp := {S1.cp with nextId := 8, exec := [{ id := 7, op := .spareSwap, c := {pk [] with replyFlow := 1}, cls := 0, fetched := 4, start := 4, mark := 1, phase := .forwarded, jobEnd := 0, fromMaster := none, work := [] }]}}, 7, { id := 7, op := .spareSwap, c := {pk [] with replyFlow := 1}, cls := 0, fetched := 4, start := 4, mark := 1, phase := .forwarded, jobEnd := 0, fromMaster := none, work := [] }, by decide +kernel⟩,
   ⟨S1, 7, by decide +kernel⟩,
   ⟨{S1 with cp := {S1.cp with nextId := 8, exec := [{ id := 7, op := .modeRead, c := {pk [] with replyFlow := 1}, cls := 0, fetched := 4, start := 4, mark := 1, phase := .forwarded, jobEnd := 0, fromMaster := none, work := [] }]}}, 1000, 7, { id := 7, op := .modeRead, c := {pk [] with replyFlow := 1}, cls := 0, fetched := 4, start := 4, mark := 1, phase := .forwarded, jobEnd := 0, fromMaster := none, work := [] }, by decide +kernel⟩,
   ⟨{S1 with cp := {S1.cp with nextId := 8, exec := [{ id := 7, op := .packageStage, c := {pk [] with replyFlow := 1}, cls := 0, fetched := 4, start := 4, mark := 1, phase := .forwarded, jobEnd := 4996001000, fromMaster := none, work := [1] }]}}, 1000, 7, { id := 7, op := .packageStage, c := {pk [] with replyFlow := 1}, cls := 0, fetched := 4, start := 4, mark := 1, phase := .forwarded, jobEnd := 4996001000, fromMaster := none, work := [1] }, by decide +kernel⟩,
   ⟨{S1 with cp := {S1.cp with nextId := 8, exec := [{ id := 7, op := .modeRead, c := {pk [] with replyFlow := 1}, cls := 0, fetched := 4, start := 4, mark := 1, phase := .running, jobEnd := 0, fromMaster := none, work := [] }]}}, 1000, 7, by decide +kernel⟩⟩

/-- What meets the hypotheses of `Obligations.RegisterAccesses`, clause by clause. -/
theorem witness_RegisterAccesses :
    (∃ (s : State) (pf : Fin 3), s.reaches pf = false) ∧
    (∃ (s : State) (dt : Nat) (pf : Fin 3) (off : Nat), s.reaches pf = true ∧ off % 4 = 0 ∧ (s.advance dt).assigned pf off = true) ∧
    (∃ (s : State) (dt : Nat) (pf : Fin 3) (off : Nat), s.reaches pf = true ∧ off % 8 = 0 ∧ (s.advance dt).assigned pf off = true ∧ (s.advance dt).assigned pf (off + 4) = true) ∧
    (∃ (s : State) (dt : Nat) (pf : Fin 3) (off : Nat) (size : Nat), s.reaches pf = true ∧ ((size ≠ 4 ∧ size ≠ 8) ∨ (s.advance dt).assigned pf off = false ∨ off % 4 ≠ 0)) ∧
    (∃ (s : State) (dt : Nat) (pf : Fin 3) (off : Nat) (size : Nat), s.reaches pf = true ∧ ((size ≠ 4 ∧ size ≠ 8) ∨ (s.advance dt).assigned pf off = false ∨ off % 4 ≠ 0)) ∧
    (∃ (s : State) (dt : Nat) (pf : Fin 3) (off : Nat) (size : Nat), s.reaches pf = true ∧ ((size ≠ 4 ∧ size ≠ 8) ∨ (s.advance dt).assigned pf off = false ∨ off % 4 ≠ 0)) ∧
    (∃ (s : State) (w : Word), w.extractLsb' 0 7 &&& ~~~s.host.irqMask &&& s.host.irq = 0) ∧
    (∃ (s : State), s.rwsOpen = true) ∧
    (∃ (s : State), s.rwsOpen = false) ∧
    (∃ (s : State) (pf : Fin 3), s.reaches pf = false) ∧
    (∃ (s : State) (pf : Fin 3) (off : Nat) (size : Nat), s.reaches pf = true ∧ (¬ (size = 4 ∧ off % 4 = 0)) ∧ (¬ (size = 8 ∧ off % 8 = 0))) ∧
    (∃ (s : State) (pf : Fin 3) (off : Nat) (size : Nat), s.reaches pf = true ∧ (¬ (size = 4 ∧ off % 4 = 0)) ∧ (¬ (size = 8 ∧ off % 8 = 0))) ∧
    (∃ (s : State) (pf : Fin 3) (off : Nat) (size : Nat), s.reaches pf = true ∧ (¬ (size = 4 ∧ off % 4 = 0)) ∧ (¬ (size = 8 ∧ off % 8 = 0))) ∧
    (∃ (s : State) (dt : Nat) (pf : Fin 3) (off : Nat), s.reaches pf = true ∧ off % 4 = 0 ∧ (s.advance dt).regOf pf off = none ∧ (s.advance dt).highHalf pf off = false) ∧
    (∃ (s : State) (dt : Nat) (v : Nat) (pf : Fin 3) (off : Nat), s.reaches pf = true ∧ off % 4 = 0 ∧ pf.val ≠ 0 ∧ (s.advance dt).regOf pf off = some (v, true)) ∧
    (∃ (s : State) (dt : Nat) (v : Nat) (pf : Fin 3) (off : Nat), s.reaches pf = true ∧ off % 8 = 0 ∧ (s.advance dt).assigned pf off = true ∧ (s.advance dt).assigned pf (off + 4) = true ∧ (s.advance dt).regOf pf off = some (v, true)) ∧
    (∃ (s : State) (dt : Nat) (h : Nat) (pf : Fin 3) (off : Nat), s.reaches pf = true ∧ off % 4 = 0 ∧ (s.advance dt).regOf pf off = none ∧ (s.advance dt).highHalf pf off = true ∧ s.host.latch64 = (pf.val * 2 ^ 40 + (off - 4) + 1, h)) ∧
    (∃ (s : State) (g : Fin 64) (m : Sample), s.reaches 0 = true ∧ (s.chan g).last = some m) ∧
    (∃ (s : State) (g : Fin 64), s.reaches 0 = true ∧ (s.chan g).last = none) ∧
    (∃ (s : State), s.reaches 0 = true) ∧
    (∃ (s : State), s.reaches 0 = true) :=
  ⟨⟨State.reset, 0, by decide +kernel⟩,
   ⟨S0, 1000, 0, 0x10, by decide +kernel⟩,
   ⟨S0, 1000, 0, 0x40000, by decide +kernel⟩,
   ⟨S0, 1000, 0, 0x10, 2, by decide +kernel⟩,
   ⟨S0, 1000, 0, 0x11, 4, by decide +kernel⟩,
   ⟨S0, 1000, 0, 0xFFFFC, 4, by decide +kernel⟩,
   ⟨S0, 1, by decide +kernel⟩,
   ⟨S0, by decide +kernel⟩,
   ⟨S3, by decide +kernel⟩,
   ⟨State.reset, 1, by decide +kernel⟩,
   ⟨S0, 1, 2, 4, by decide +kernel⟩,
   ⟨S0, 1, 4, 8, by decide +kernel⟩,
   ⟨S0, 0, 0, 2, by decide +kernel⟩,
   ⟨S0, 1000, 0, 0xFFFFFF0, by decide +kernel⟩,
   ⟨S0, 1000, 0, 1, 0x10, by decide +kernel⟩,
   ⟨S0, 1000, 0, 0, 4416, by decide +kernel⟩,
   ⟨{S0 with host := {S0.host with latch64 := (2 ^ 40 + 0x10 + 1, 7)}}, 1000, 7, 1, 0x14, by decide +kernel⟩,
   ⟨S0.setChan 63 {last := some { src := 63, value := 5, sqw := 3, time := 9, raw := 0x123456 }}, 63, { src := 63, value := 5, sqw := 3, time := 9, raw := 0x123456 }, by decide +kernel⟩,
   ⟨S0.setChan 63 {}, 63, by decide +kernel⟩,
   ⟨S0.setOut 63 {rbi := 5, rbv := 7}, by decide +kernel⟩,
   ⟨S0.setPin 95 {level := true, count := 9}, by decide +kernel⟩⟩

/-- What meets the hypotheses of `Obligations.ClockRegisters`, clause by clause. -/
theorem witness_ClockRegisters :
    (∃ (s : State), s.reaches 0 = true) ∧
    (∃ (s : State), s.reaches 0 = true) ∧
    (∃ (s : State), s.reaches 0 = true ∧ s.rtc.halted = none) ∧
    (∃ (s : State) (t : Nat) (sub : Nat), s.reaches 0 = true ∧ s.rtc.halted = some (t, sub) ∧ s.rtc.staged.impossible = false) ∧
    (∃ (s : State) (t : Nat) (sub : Nat), s.reaches 0 = true ∧ s.rtc.halted = some (t, sub) ∧ s.rtc.staged.impossible = true) ∧
    (∃ (s : State) (t : Nat) (sub : Nat), s.reaches 0 = true ∧ s.rtc.halted = some (t, sub) ∧ s.rtc.staged.impossible = true) ∧
    (∃ (s : State), s.reaches 0 = true) ∧
    (∃ (s : State), s.reaches 0 = true) ∧
    (∃ (s : State), s.reaches 0 = true) ∧
    (∃ (s : State), s.reaches 0 = true) :=
  ⟨⟨S0, by decide +kernel⟩,
   ⟨S0, by decide +kernel⟩,
   ⟨S0, by decide +kernel⟩,
   ⟨SH, 4000000000, 100, by decide +kernel⟩,
   ⟨SHB, 4000000000, 100, by decide +kernel⟩,
   ⟨{SHB with rtc := {SHB.rtc with halted := some (4000000000, 32767)}}, 4000000000, 32767, by decide +kernel⟩,
   ⟨SH, by decide +kernel⟩,
   ⟨S0, by decide +kernel⟩,
   ⟨S0, by decide +kernel⟩,
   ⟨S0, by decide +kernel⟩⟩

/-- What meets the hypotheses of `Obligations.ClockTicksAndCommands`, clause by clause. -/
theorem witness_ClockTicksAndCommands :
    (∃ (s : State), s.rtc.halted = none ∧ s.rtc.step = false ∧ s.rtc.leap = none ∧ s.rtc.shift = none ∧ s.rtc.retryOk = false ∧ s.rtc.alm0.mask = 0 ∧ s.rtc.alm1.mask = 0 ∧ s.rtc.cal.sec ≠ 60) ∧
    (∃ (s : State) (n : Nat) (sub : Bool), s.rtc.halted = none ∧ s.rtc.step = false ∧ s.rtc.leap = none ∧ s.rtc.shift = some (n, sub, none) ∧ s.rtc.retryOk = false ∧ s.rtc.alm0.mask = 0 ∧ s.rtc.alm1.mask = 0 ∧ s.rtc.cal.sec ≠ 60) ∧
    (∃ (s : State) (n : Nat) (sub : Bool), s.rtc.halted = none ∧ s.rtc.step = false ∧ s.rtc.leap = none ∧ s.rtc.shift = some (n, sub, none) ∧ s.rtc.retryOk = false ∧ s.rtc.alm0.mask = 0 ∧ s.rtc.alm1.mask = 0 ∧ s.rtc.cal.sec ≠ 60) ∧
    (∃ (s : State), s.rtc.halted = none ∧ s.rtc.step = false ∧ s.rtc.leap = some (s.rtc.cal.year, s.rtc.cal.month, 1) ∧ s.rtc.shift = none ∧ s.rtc.retryOk = false ∧ s.rtc.alm0.mask = 0 ∧ s.rtc.alm1.mask = 0 ∧ s.rtc.cal.hour = 23 ∧ s.rtc.cal.min = 59 ∧ s.rtc.cal.sec = 59 ∧ s.rtc.cal.day = monthDays s.rtc.cal.year s.rtc.cal.month) ∧
    (∃ (s : State), s.rtc.halted ≠ none) ∧
    (∃ (s : State) (dt : Nat) (t : Nat) (sub : Nat), s.rtc.halted = some (t, sub) ∧ t + 3600000000000 ≤ s.now + dt) ∧
    (∃ (s : State) (dt : Nat) (t : Nat) (sub : Nat), s.rtc.halted = some (t, sub) ∧ s.now + dt < t + 3600000000000) ∧
    (∃ (s : State), 64 ≤ s.rtc.windowSecs ∧ s.pwr.state ≠ .vigil ∧ s.discActive = false) ∧
    (∃ (s : State), 64 ≤ s.rtc.windowSecs ∧ s.pwr.state = .vigil ∧ s.discActive = false ∧ (s.rtc.windows + 1) % 8 ≠ 0) ∧
    (∃ (s : State), 64 ≤ s.rtc.windowSecs ∧ s.pwr.state ≠ .vigil ∧ s.discActive = true ∧ s.rtc.leapSeen = false ∧ s.rtc.eCount ≠ 0 ∧ s.rtc.cal = calOf (s.utcOf (nearestSecond s.rtc.secAt)) ∧ (secondError s.rtc.secAt).natAbs ≤ 61000) ∧
    (∃ (s : State), s.rtc.windowSecs < 64) ∧
    (∃ (s : State), s.rtc.src < 2 ∧ s.coreOn = true) ∧
    (∃ (s : State), s.rtc.src < 2 ∧ s.coreOn = true) ∧
    (∃ (s : State) (t : Nat), s.rtc.retryAt = some t) ∧
    (∃ (s : State) (dt : Nat) (c : Cmd), s.Ready .clockRead dt c ∧ Clean c [] 0) ∧
    (∃ (s : State) (dt : Nat) (c : Cmd), s.Ready .clockShift dt c ∧ Clean c [(32, 2)] 0 ∧ c.u16 32 % 32768 ≠ 0 ∧ c.u16 32 % 32768 ≤ 32735 ∧ s.rtc.halted = none ∧ s.rtc.shift = none ∧ s.discActive = false) ∧
    (∃ (s : State) (dt : Nat) (c : Cmd), s.Ready .clockShift dt c ∧ Clean c [(32, 2)] 0 ∧ c.u16 32 % 32768 ≠ 0 ∧ c.u16 32 % 32768 ≤ 32735 ∧ s.rtc.halted ≠ none) ∧
    (∃ (s : State) (dt : Nat) (c : Cmd), s.Ready .clockAlarmSet dt c ∧ Clean c [(32, 1), (36, 8)] 0 ∧ c.u32 36 < 2 ^ 29 ∧ c.u32 40 < 128 ∧ c.u8 32 ≤ 1) ∧
    (∃ (s : State) (dt : Nat) (c : Cmd), s.Ready .leapSet dt c ∧ Clean c [(32, 5), (40, 2)] 0 ∧ s.rtc.halted = none ∧ c.u8 32 = 1) ∧
    (∃ (s : State) (dt : Nat) (c : Cmd), s.Ready .leapSet dt c ∧ Clean c [(32, 5), (40, 2)] 0 ∧ s.rtc.halted = none ∧ c.u8 32 = 2 ∧ s.rtc.leap = none) ∧
    (∃ (s : State) (dt : Nat) (c : Cmd), s.Ready .leapSet dt c ∧ Clean c [(32, 5), (40, 2)] 0 ∧ s.rtc.halted = none ∧ c.u8 32 = 0 ∧ (c.u8 33 = 1 ∨ c.u8 33 = 255) ∧ 2000 ≤ c.u16 34 ∧ c.u16 34 ≤ 2399 ∧ 1 ≤ c.u8 36 ∧ c.u8 36 ≤ 12 ∧ s.rtc.leap = none ∧ (max (s.now + dt) c.notBefore : Int) + 2000000000 ≤ (((monthEnd (c.u16 34 - 2000) (c.u8 36) : Nat) : Int) + s.rng.leap) * 1000000000) ∧
    (∃ (s : State) (dt : Nat) (c : Cmd), s.Ready .leapSet dt c ∧ Clean c [(32, 5), (40, 2)] 0 ∧ s.rtc.halted = none ∧ c.u8 32 = 0 ∧ (c.u8 33 = 1 ∨ c.u8 33 = 255) ∧ 2000 ≤ c.u16 34 ∧ c.u16 34 ≤ 2399 ∧ 1 ≤ c.u8 36 ∧ c.u8 36 ≤ 12 ∧ s.rtc.leap = none ∧ (max (s.now + dt) c.notBefore : Int) + 2000000000 ≤ (((monthEnd (c.u16 34 - 2000) (c.u8 36) : Nat) : Int) + s.rng.leap) * 1000000000) ∧
    (∃ (s : State) (dt : Nat) (c : Cmd), s.Ready .trimCurveLoad dt c ∧ c.restZero [] = true ∧ c.paramLen = 0) ∧
    (∃ (s : State) (dt : Nat) (c : Cmd), s.Ready .trimCurveLoad dt c ∧ c.restZero [] = true ∧ c.paramLen = 128 ∧ (∀ p ∈ curvePoints c.ext, -550 ≤ p.1 ∧ p.1 ≤ 1250 ∧ -6000 ≤ p.2 ∧ p.2 ≤ 6000) ∧ rising ((curvePoints c.ext).map Prod.fst) = true) ∧
    (∃ (c : Cal7), c.impossible = false) :=
  ⟨⟨{S0 with rtc := {cal := {sec := 59, min := 59, hour := 23, day := 31, month := 12, year := 99}}}, by decide +kernel⟩,
   ⟨{S0 with rtc := {cal := {sec := 59, min := 59, hour := 23, day := 31, month := 12, year := 99}, shift := some (100, true, none)}}, 100, true, by decide +kernel⟩,
   ⟨{S0 with rtc := {shift := some (32735, false, none)}}, 32735, false, by decide +kernel⟩,
   ⟨{S0 with rtc := {cal := {sec := 59, min := 59, hour := 23, day := 30, month := 6, year := 25}, leap := some (25, 6, 1)}}, by decide +kernel⟩,
   ⟨SH, by decide +kernel⟩,
   ⟨SH, 3600000000000, 4000000000, 100, by decide +kernel⟩,
   ⟨SH, 1000, 4000000000, 100, by decide +kernel⟩,
   ⟨{S0 with rtc := {windowSecs := 64}}, by decide +kernel⟩,
   ⟨{S0 with rtc := {windowSecs := 64, windows := 5}, pwr := {S0.pwr with state := .vigil}}, by decide +kernel⟩,
   ⟨{SR with rtc := {windowSecs := 64, secAt := 4999990000, eCount := 60, eSum := -300000, discEn := true, cal := calOf ({SR with rng := {SR.rng with ppsOk := true, leap := 0}}.utcOf 5)}, rng := {SR.rng with ppsOk := true, leap := 0}}, by decide +kernel⟩,
   ⟨S0, by decide +kernel⟩,
   ⟨S0, by decide +kernel⟩,
   ⟨{S0 with rtc := {src := 1}, pwr := {S0.pwr with state := .holdover}}, by decide +kernel⟩,
   ⟨{S0 with rtc := {retryAt := some 4000000000}}, 4000000000, by decide +kernel⟩,
   ⟨S0, 1000, pk [], by unfold Clean; decide +kernel⟩,
   ⟨S0, 1000, pk [(32,2,32735)], by unfold Clean; decide +kernel⟩,
   ⟨SH, 1000, pk [(32,2,0x8001)], by unfold Clean; decide +kernel⟩,
   ⟨S0, 1000, pk [(32,1,1),(36,4,0x1FFFFFFF),(40,4,127)], by unfold Clean; decide +kernel⟩,
   ⟨S0, 1000, pk [(32,1,1)], by unfold Clean; decide +kernel⟩,
   ⟨S0, 1000, pk [(32,1,2)], by unfold Clean; decide +kernel⟩,
   ⟨{S0 with rng := {leap := 0}}, 1000, pk [(32,1,0),(33,1,1),(34,2,2399),(36,1,12)], by unfold Clean; decide +kernel⟩,
   ⟨S0, 1000, pk [(32,1,0),(33,1,1),(34,2,2000),(36,1,1)], by unfold Clean; decide +kernel⟩,
   ⟨S0, 1000, pk [], by decide +kernel⟩,
   ⟨S0, 1000, pk [] (ex 128 ((List.range 32).map fun k => (4*k, 2, (k * 10)))), by decide +kernel⟩,
   ⟨{year := 24, month := 2, day := 29}, by decide +kernel⟩⟩

/-- What meets the hypotheses of `Obligations.Sessions`, clause by clause. -/
theorem witness_Sessions :
    (∃ (s : State) (dt : Nat) (c : Cmd), s.Ready .sessionOpen dt c ∧ Clean c [(32, 1), (40, 8)] 480 ∧ c.paramLen = 480 ∧ zeroAt (fitBytes 480 c.ext) [(97, 31), (131, 1), (156, 4), (257, 31)] = true ∧ c.u64 40 % 64 = 0 ∧ leAt (fitBytes 480 c.ext) 128 2 = 1 ∧ byteAt (fitBytes 480 c.ext) 130 ≤ 15 ∧ (c.u8 32) ≤ 63 ∧ s.sessionOpen (c.u8 32) = false ∧ grantOk (s.entered .sessionOpen dt c) (c.u8 32) (fitBytes 480 c.ext) = false) ∧
    (∃ (s : State) (dt : Nat) (c : Cmd), s.Ready .sessionClose dt c ∧ Clean c [(32, 1)] 0 ∧ c.u8 32 ≤ 63 ∧ c.u8 32 ≠ 0 ∧ s.sessionOpen (c.u8 32) = true ∧ (c.u8 32 = c.session ∨ (s.sessionRights c.session).getLsbD 3 = true)) ∧
    (∃ (s : State) (dt : Nat) (c : Cmd), s.Ready .sessionRead dt c ∧ Clean c [(32, 1)] 0 ∧ c.u8 32 ≤ 63) ∧
    (∃ (s : State) (dt : Nat) (n : Fin 64), n.val ≠ 0 ∧ (s.session n).opened = true ∧ (s.session n).notAfter ≤ s.now + dt) ∧
    (∃ (s : State) (dt : Nat) (n : Fin 64), (n.val = 0 ∨ (s.session n).opened = false ∨ s.now + dt < (s.session n).notAfter)) ∧
    (∃ (s : State) (dt : Nat) (c : Cmd), s.Ready .echo dt c) :=
  ⟨⟨S3, 1000, pk [(32,1,63),(40,8,64)] (ex 480 [(128,2,1)]), by unfold Clean; decide +kernel⟩,
   ⟨{S3 with cp := {S3.cp with ses := [(63, {opened := true, rights := 8})]}}, 1000, {pk [(32,1,63)] with session := 63}, by unfold Clean; decide +kernel⟩,
   ⟨S0, 1000, pk [(32,1,63)], by unfold Clean; decide +kernel⟩,
   ⟨{S3 with cp := {S3.cp with ses := [(63, {opened := true, rights := 8})]}}, 1000, 63, by decide +kernel⟩,
   ⟨S0, 1000, 2, by decide +kernel⟩,
   ⟨S0, 1000, pk [(32,4,5)], by decide +kernel⟩⟩

/-- What meets the hypotheses of `Obligations.ModeWordAndForces`, clause by clause. -/
theorem witness_ModeWordAndForces :
    (∃ (s : State) (dt : Nat) (c : Cmd), s.Ready .modeSet dt c ∧ Clean c [(32, 4)] 0 ∧ c.u16 32 < 4096 ∧ c.u16 34 < 4096 ∧ (s.rng.isMaster = false ∨ ((s.mod.cmd &&& ~~~BitVec.ofNat 12 (c.u16 34)) ||| (BitVec.ofNat 12 (c.u16 32) &&& BitVec.ofNat 12 (c.u16 34))).getLsbD ModeBit.ring.idx = true) ∧ s.pwr.state ≠ .holdover) ∧
    (∃ (s : State) (dt : Nat) (c : Cmd), s.Ready .modeSet dt c ∧ Clean c [(32, 4)] 0 ∧ c.u16 32 < 4096 ∧ c.u16 34 < 4096 ∧ (s.rng.isMaster = false ∨ ((s.mod.cmd &&& ~~~BitVec.ofNat 12 (c.u16 34)) ||| (BitVec.ofNat 12 (c.u16 32) &&& BitVec.ofNat 12 (c.u16 34))).getLsbD ModeBit.ring.idx = true) ∧ s.pwr.state ≠ .holdover) ∧
    (∃ (s : State) (dt : Nat) (c : Cmd), s.Ready .modeRead dt c ∧ Clean c [] 0) ∧
    (∃ (s : State) (dt : Nat) (new : BitVec 12) (t : Nat) (id : Nat) (ses : Nat), s.mod.pending = some (new, t, id, ses) ∧ t ≤ s.now + dt ∧ s.pwr.state ≠ .holdover) ∧
    (∃ (s : State) (dt : Nat) (new : BitVec 12) (t : Nat) (id : Nat) (ses : Nat), s.mod.pending = some (new, t, id, ses) ∧ t ≤ s.now + dt ∧ s.pwr.state = .holdover) ∧
    (∃ (s : State) (dt : Nat) (new : BitVec 12) (t : Nat) (id : Nat) (ses : Nat), (s.mod.pending = none ∨ (s.mod.pending = some (new, t, id, ses) ∧ s.now + dt < t))) ∧
    (∃ (s : State) (dt : Nat) (new : BitVec 12) (t : Nat) (id : Nat) (ses : Nat), (s.mod.pending = none ∨ (s.mod.pending = some (new, t, id, ses) ∧ s.now + dt < t))) ∧
    (∃ (s : State) (dt : Nat) (t : Nat), s.mod.releaseAt = some t ∧ t ≤ s.now + dt ∧ s.mod.forced &&& ~~~(s.forceWant s.mod.cmd) ≠ 0) ∧
    (∃ (s : State) (dt : Nat) (t : Nat), s.mod.releaseAt = some t ∧ t ≤ s.now + dt ∧ s.mod.forced &&& ~~~(s.forceWant s.mod.cmd) = 0) ∧
    (∃ (s : State) (dt : Nat) (c : Cmd), s.Ready .startWordSet dt c ∧ Clean c [(32, 2)] 0 ∧ c.u16 32 < 4096 ∧ (s.mod.life ≠ .sealed ∨ acqAlm (c.u16 32) = true)) ∧
    (∃ (s : State) (dt : Nat) (c : Cmd), s.Ready .startWordSet dt c ∧ Clean c [(32, 2)] 0 ∧ c.u16 32 < 4096 ∧ (s.mod.life ≠ .sealed ∨ acqAlm (c.u16 32) = true)) ∧
    (∃ (s : State) (dt : Nat) (c : Cmd), s.Ready .roleSet dt c ∧ Clean c [(32, 1)] 0 ∧ c.u8 32 ≤ 3 ∧ c.u8 32 ≠ 0 ∧ s.mode .ring = false) ∧
    (∃ (s : State) (dt : Nat) (c : Cmd), s.Ready .roleSet dt c ∧ Clean c [(32, 1)] 0 ∧ c.u8 32 = 0 ∧ s.mode .ring = false) ∧
    (∃ (s : State) (dt : Nat) (c : Cmd), s.Ready .roleSet dt c ∧ Clean c [(32, 1)] 0 ∧ c.u8 32 ≤ 3 ∧ s.mode .ring = true) ∧
    (∃ (s : State) (dt : Nat) (c : Cmd), s.Ready .profileSet dt c ∧ Clean c [(32, 1)] 0 ∧ c.u8 32 ≤ 1) ∧
    (∃ (s : State) (m : ModeBit), s.mod.forced.getLsbD m.idx = true) ∧
    (∃ (s : State), s.mod.life = .retired) ∧
    (∃ (s : State), s.mod.holdSafe ≠ 0) ∧
    (∃ (s : State), s.mod.role = .standalone) ∧
    (∃ (s : State), s.mod.debug = .full ∧ s.mod.life = .sealed) :=
  ⟨⟨S0, 1000, pk [(32,2,0xFFF),(34,2,0xFFF)], by unfold Clean; decide +kernel⟩,
   ⟨{S0 with mod := {S0.mod with pending := some (5, 10, 2, 3)}}, 1000, pk [(32,2,0),(34,2,0)], by unfold Clean; decide +kernel⟩,
   ⟨S0, 1000, pk [], by unfold Clean; decide +kernel⟩,
   ⟨{S0 with mod := {S0.mod with pending := some (5, 5000001000, 2, 3)}}, 1000, 5, 5000001000, 2, 3, by decide +kernel⟩,
   ⟨{S0 with mod := {S0.mod with pending := some (5, 5000001000, 2, 3)}, pwr := {S0.pwr with state := .holdover}}, 1000, 5, 5000001000, 2, 3, by decide +kernel⟩,
   ⟨S0, 1000, 5, 5, 0, 0, by decide +kernel⟩,
   ⟨{S0 with mod := {S0.mod with pending := some (5, 5000001001, 2, 3)}}, 1000, 5, 5000001001, 2, 3, by decide +kernel⟩,
   ⟨{S0 with mod := {S0.mod with releaseAt := some 5000001000, forced := 4}}, 1000, 5000001000, by decide +kernel⟩,
   ⟨{S0 with mod := {S0.mod with releaseAt := some 5000001000, forced := 0}}, 1000, 5000001000, by decide +kernel⟩,
   ⟨S0, 1000, pk [(32,2,0xFFF)], by unfold Clean; decide +kernel⟩,
   ⟨S3, 1000, pk [(32,2,3)], by unfold Clean; decide +kernel⟩,
   ⟨{S0 with mod := {S0.mod with cmd := 0}}, 1000, pk [(32,1,3)], by unfold Clean; decide +kernel⟩,
   ⟨{S0 with mod := {S0.mod with cmd := 0}}, 1000, pk [(32,1,0)], by unfold Clean; decide +kernel⟩,
   ⟨S0, 1000, pk [(32,1,0)], by unfold Clean; decide +kernel⟩,
   ⟨S0, 1000, pk [(32,1,1)], by unfold Clean; decide +kernel⟩,
   ⟨{S0 with mod := {S0.mod with forced := 0x800}}, .wave, by decide +kernel⟩,
   ⟨{S0 with mod := {S0.mod with life := .retired}}, by decide +kernel⟩,
   ⟨{S0 with mod := {S0.mod with holdSafe := 1}}, by decide +kernel⟩,
   ⟨S0, by decide +kernel⟩,
   ⟨{S3 with mod := {S3.mod with debug := .full}}, by decide +kernel⟩⟩

/-- What meets the hypotheses of `Obligations.DebugAndLifecycle`, clause by clause. -/
theorem witness_DebugAndLifecycle :
    (∃ (s : State) (dt : Nat) (c : Cmd) (env : Env), s.Ready .debugOpen dt c ∧ Clean c [(32, 1)] 0 ∧ s.mod.life ≠ .sealed ∧ 1 ≤ c.u8 32 ∧ c.u8 32 ≤ 2 ∧ env.sense = [1] ∧ s.pwr.state ≠ .holdover) ∧
    (∃ (s : State) (dt : Nat) (c : Cmd) (env : Env), s.Ready .debugOpen dt c ∧ Clean c [(32, 1)] 0 ∧ s.mod.life ≠ .sealed ∧ 1 ≤ c.u8 32 ∧ c.u8 32 ≤ 2 ∧ env.sense = [0]) ∧
    (∃ (s : State) (dt : Nat) (c : Cmd), s.Ready .debugClose dt c ∧ Clean c [] 0) ∧
    (∃ (s : State), s.mod.debug ≠ .closed) ∧
    (∃ (s : State) (dt : Nat), s.mod.debug ≠ .closed ∧ s.mod.life ≠ .retired ∧ s.mod.dbgExpiry ≤ s.now + dt) ∧
    (∃ (s : State) (dt : Nat), (s.mod.debug = .closed ∨ s.now + dt < s.mod.dbgExpiry)) ∧
    (∃ (s : State) (dt : Nat), (s.mod.debug = .closed ∨ s.now + dt < s.mod.dbgExpiry)) ∧
    (∃ (s : State) (dt : Nat) (c : Cmd), s.Ready .ownerKeyInstall dt c ∧ Clean c [] 97 ∧ c.paramLen = 97 ∧ byteAt (fitBytes 97 c.ext) 0 = 4 ∧ s.mod.life = .opened) ∧
    (∃ (s : State) (dt : Nat) (c : Cmd) (env : Env), s.Ready .seal dt c ∧ Clean c [(36, 4)] 0 ∧ confirmed c = true ∧ acqAlm s.mod.start.toNat = true ∧ s.debugAlarm = true ∧ s.mod.debug = .closed ∧ env.sense = [0]) ∧
    (∃ (s : State) (dt : Nat) (c : Cmd), s.Ready .retire dt c ∧ Clean c [(36, 4)] 0 ∧ confirmed c = true) :=
  ⟨⟨{S0 with mod := {S0.mod with life := .commission}}, 1000, pk [(32,1,2)], {sense := [1]}, by unfold Clean; decide +kernel⟩,
   ⟨{S0 with mod := {S0.mod with life := .commission}}, 1000, pk [(32,1,2)], {sense := [0]}, by unfold Clean; decide +kernel⟩,
   ⟨S0, 1000, pk [], by unfold Clean; decide +kernel⟩,
   ⟨{S0 with mod := {S0.mod with debug := .full}}, by decide +kernel⟩,
   ⟨{S0 with mod := {S0.mod with debug := .full}}, 1000, by decide +kernel⟩,
   ⟨S0, 1000, by decide +kernel⟩,
   ⟨{S0 with rcd := {reclaiming := true, reclaimAt := 4990001001}}, 1000, by decide +kernel⟩,
   ⟨S0, 1000, pk [] (ex 97 [(0,1,4)]), by unfold Clean; decide +kernel⟩,
   ⟨{S0.setPoint 5 (pt [(0,1,6),(1,1,5),(2,2,176)]) with mod := {S0.mod with life := .sealed, start := 3}}, 1000, pk [(36,4,serialNo)], {sense := [0]}, by decide +kernel, serial_clean, confirmed_serial, by decide +kernel⟩,
   ⟨{S0 with mod := {S0.mod with life := .sealed, start := 3}}, 1000, pk [(36,4,serialNo)], by decide +kernel, serial_clean, confirmed_serial⟩⟩

/-- What meets the hypotheses of `Obligations.SimulationAndCalibration`, clause by clause. -/
theorem witness_SimulationAndCalibration :
    (∃ (s : State) (dt : Nat) (c : Cmd), s.Ready .channelSimulate dt c ∧ Clean c [(32, 3), (36, 4), (40, 3), (44, 2)] 0 ∧ c.u8 32 ≤ 7 ∧ c.u8 33 ≤ 7 ∧ c.u8 34 = 0 ∧ (s.chan (chanOf c)).cfg.kind ≠ 8 ∧ qbitsBad (BitVec.ofNat 16 (c.u16 44)) = false ∧ s.mode .sim = true ∧ ((s.mod.cals.any fun e => e.1 == chanOf c) = false)) ∧
    (∃ (s : State) (dt : Nat) (c : Cmd), s.Ready .pinSimulate dt c ∧ Clean c [(32, 3), (36, 4), (44, 2)] 0 ∧ c.u8 32 ≤ 5 ∧ c.u8 33 ≤ 15 ∧ c.u8 34 ≤ 1 ∧ qbitsBad (BitVec.ofNat 16 (c.u16 44)) = false ∧ s.mode .sim = false) ∧
    (∃ (s : State) (dt : Nat) (c : Cmd), s.Ready .pinSimulate dt c ∧ Clean c [(32, 3), (36, 4), (44, 2)] 0 ∧ c.u8 32 ≤ 5 ∧ c.u8 33 ≤ 15 ∧ c.u8 34 = 0 ∧ qbitsBad (BitVec.ofNat 16 (c.u16 44)) = false ∧ s.mode .sim = true ∧ ((s.mod.cals.any fun e => e.1 == (64 + c.u8 32 * 16 + c.u8 33)) = false)) ∧
    (∃ (s : State) (dt : Nat) (c : Cmd), s.Ready .channelCalibrate dt c ∧ Clean c [(32, 3), (36, 8)] 0 ∧ c.u8 32 ≤ 7 ∧ c.u8 33 ≤ 7 ∧ c.u8 34 = 0 ∧ s.mode .cal = true ∧ s.mode .acq = true ∧ s.cal (chanOf c) = none ∧ (s.chan (chanOf c)).cfg.kind ≠ 0 ∧ (s.simOf (chanOf c)).isSome = false ∧ s.swapHolds 0 (chanOf c / 8) (chanOf c % 8) = false ∧ s.swapHolds 1 (chanOf c / 8) (chanOf c % 8) = false) ∧
    (∃ (s : State) (dt : Nat) (c : Cmd) (y : Sim), s.Ready .channelSimulate dt c ∧ Clean c [(32, 3), (36, 4), (40, 3), (44, 2)] 0 ∧ c.u8 32 ≤ 7 ∧ c.u8 33 ≤ 7 ∧ c.u8 34 = 1 ∧ (s.chan (chanOf c)).cfg.kind ≠ 8 ∧ qbitsBad (BitVec.ofNat 16 (c.u16 44)) = false ∧ s.mode .sim = true ∧ ((s.mod.cals.any fun e => e.1 == chanOf c) = false) ∧ s.simOf (chanOf c) = some y) ∧
    (∃ (s : State) (dt : Nat) (c : Cmd), s.Ready .channelSimulate dt c ∧ Clean c [(32, 3), (36, 4), (40, 3), (44, 2)] 0 ∧ c.u8 32 ≤ 7 ∧ c.u8 33 ≤ 7 ∧ c.u8 34 ≤ 1 ∧ qbitsBad (BitVec.ofNat 16 (c.u16 44)) = false ∧ s.mode .sim = false) ∧
    (∃ (s : State) (dt : Nat) (c : Cmd) (k : Cal), s.Ready .channelCalibrate dt c ∧ Clean c [(32, 3), (36, 8)] 0 ∧ c.u8 32 ≤ 7 ∧ c.u8 33 ≤ 7 ∧ c.u8 34 = 1 ∧ f32Finite (c.w32 36) = true ∧ s.mode .cal = true ∧ s.mode .acq = true ∧ s.cal (chanOf c) = some k ∧ k.points.length < 2 ∧ k.capture = none ∧ (s.chan (chanOf c)).cfg.kind ≠ 8) ∧
    (∃ (s : State) (dt : Nat) (c : Cmd) (k : Cal) (g : Word) (o : Word), s.Ready .channelCalibrate dt c ∧ Clean c [(32, 3), (36, 8)] 0 ∧ c.u8 32 ≤ 7 ∧ c.u8 33 ≤ 7 ∧ c.u8 34 = 2 ∧ s.mode .cal = true ∧ s.mode .acq = true ∧ s.cal (chanOf c) = some k ∧ k.points ≠ [] ∧ calTrim (s.fullScale (chanOf c)) k.points = some (g, o)) ∧
    (∃ (s : State) (dt : Nat) (c : Cmd) (k : Cal), s.Ready .channelCalibrate dt c ∧ Clean c [(32, 3), (36, 8)] 0 ∧ c.u8 32 ≤ 7 ∧ c.u8 33 ≤ 7 ∧ c.u8 34 = 3 ∧ s.mode .cal = true ∧ s.mode .acq = true ∧ s.cal (chanOf c) = some k) ∧
    (∃ (s : State) (dt : Nat) (c : Cmd) (k : Cal), s.Ready .channelCalibrate dt c ∧ Clean c [(32, 3), (36, 8)] 0 ∧ c.u8 32 ≤ 7 ∧ c.u8 33 ≤ 7 ∧ c.u8 34 = 3 ∧ s.mode .cal = true ∧ s.mode .acq = true ∧ s.cal (chanOf c) = some k) ∧
    (∃ (s : State) (dt : Nat) (c : Cmd) (k : Cal) (v : Word), s.Ready .channelCalibrate dt c ∧ Clean c [(32, 3), (36, 8)] 0 ∧ c.u8 32 ≤ 7 ∧ c.u8 33 ≤ 7 ∧ c.u8 34 = 1 ∧ f32Finite (c.w32 36) = true ∧ s.mode .cal = true ∧ s.mode .acq = true ∧ s.cal (chanOf c) = some k ∧ k.points.length < 2 ∧ k.capture = none ∧ (s.chan (chanOf c)).cfg.kind = 8 ∧ k.set = some v) ∧
    (∃ (s : State) (dt : Nat) (c : Cmd) (k : Cal), s.Ready .channelCalibrate dt c ∧ Clean c [(32, 3), (36, 8)] 0 ∧ c.u8 32 ≤ 7 ∧ c.u8 33 ≤ 7 ∧ c.u8 34 = 5 ∧ f32Finite (c.w32 40) = true ∧ s.mode .cal = true ∧ s.mode .acq = true ∧ s.cal (chanOf c) = some k ∧ (s.chan (chanOf c)).cfg.kind = 8 ∧ outInRange (s.out (chanOf c)).okind (c.w32 40) = true ∧ s.mode .drv = true ∧ s.outOwned (chanOf c) = false) ∧
    (∃ (s : State) (dt : Nat) (c : Cmd) (k : Cal), s.Ready .channelCalibrate dt c ∧ Clean c [(32, 3), (36, 8)] 0 ∧ c.u8 32 ≤ 7 ∧ c.u8 33 ≤ 7 ∧ c.u8 34 = 4 ∧ s.mode .cal = true ∧ s.mode .acq = true ∧ s.cal (chanOf c) = some k) ∧
    (∃ (s : State) (dt : Nat) (c : Cmd), s.Ready .channelCalibrate dt c ∧ Clean c [(32, 3), (36, 8)] 0 ∧ c.u8 32 ≤ 7 ∧ c.u8 33 ≤ 7 ∧ (c.u8 34 = 2 ∨ c.u8 34 = 3) ∧ s.mode .cal = false) ∧
    (∃ (s : State) (dt : Nat) (id : Nat) (ref : Word) (s0 : Nat) (v : Word) (vs : List Word) (g : Fin 64) (k : Cal), s.cal g = some k ∧ k.capture = some (id, ref, s0, v :: vs) ∧ s0 + 400000000 ≤ s.now + dt) ∧
    (∃ (s : State) (dt : Nat) (id : Nat) (ref : Word) (s0 : Nat) (g : Fin 64) (k : Cal), s.cal g = some k ∧ k.capture = some (id, ref, s0, []) ∧ s0 + 480000000 ≤ s.now + dt) ∧
    (∃ (s : State) (dt : Nat) (id : Nat) (ref : Word) (s0 : Nat) (vs : List Word) (g : Fin 64) (k : Cal), s.cal g = some k ∧ k.capture = some (id, ref, s0, vs) ∧ s.now + dt < s0 + 400000000) :=
  ⟨⟨S0, 1000, pk [(32,1,7),(33,1,7),(36,4,0x42000000),(40,3,0x123456),(44,2,3)], by unfold Clean; decide +kernel⟩,
   ⟨{S0 with mod := {S0.mod with cmd := 0x97F}}, 1000, pk [(32,1,5),(33,1,15),(34,1,1)], by unfold Clean; decide +kernel⟩,
   ⟨S0, 1000, pk [(32,1,5),(33,1,15),(36,4,1),(44,2,3)], by unfold Clean; decide +kernel⟩,
   ⟨S0.setChan 63 {cfg := {kind := 1, tp := 3}}, 1000, pk [(32,1,7),(33,1,7)], by unfold Clean; decide +kernel⟩,
   ⟨{S0 with mod := {S0.mod with sims := [(63, {value := 5, raw := 7, qbits := 3})]}}, 1000, pk [(32,1,7),(33,1,7),(34,1,1),(36,4,0x42000000),(40,3,0x123456),(44,2,3)], {value := 5, raw := 7, qbits := 3}, by unfold Clean; decide +kernel⟩,
   ⟨{S0 with mod := {S0.mod with cmd := 0x97F}}, 1000, pk [(32,1,5),(33,1,7),(34,1,1)], by unfold Clean; decide +kernel⟩,
   ⟨SAC {}, 1000, pk [(32,1,7),(33,1,7),(34,1,1),(36,4,0x3F800000)], {}, by unfold Clean; decide +kernel⟩,
   ⟨SAC {points := [(0x40000000,0x40000001)]}, 1000, pk [(32,1,7),(33,1,7),(34,1,2)], {points := [(0x40000000,0x40000001)]}, (((calTrim ((SAC {}).fullScale 63) [(0x40000000,0x40000001)])).getD (0,0)).1, (((calTrim ((SAC {}).fullScale 63) [(0x40000000,0x40000001)])).getD (0,0)).2, by unfold Clean; decide +kernel⟩,
   ⟨SAC {}, 1000, pk [(32,1,7),(33,1,7),(34,1,3)], {}, by unfold Clean; decide +kernel⟩,
   ⟨SOC {set := some 0x41200000}, 1000, pk [(32,1,7),(33,1,7),(34,1,3)], {set := some 0x41200000}, by unfold Clean; decide +kernel⟩,
   ⟨SOC {set := some 0x41200000}, 1000, pk [(32,1,7),(33,1,7),(34,1,1),(36,4,0x41200000)], {set := some 0x41200000}, 0x41200000, by unfold Clean; decide +kernel⟩,
   ⟨SOC {}, 1000, pk [(32,1,7),(33,1,7),(34,1,5),(40,4,0x41400000)], {}, by unfold Clean; decide +kernel⟩,
   ⟨SAC {}, 1000, pk [(32,1,7),(33,1,7),(34,1,4)], {}, by unfold Clean; decide +kernel⟩,
   ⟨{S0 with mod := {S0.mod with cmd := 0x8FF}}, 1000, pk [(32,1,7),(33,1,7),(34,1,2)], by unfold Clean; decide +kernel⟩,
   ⟨{S0 with mod := {S0.mod with cals := [(63, {capture := some (2, 5, 4600001000, [1, 2])})]}}, 1000, 2, 5, 4600001000, 1, [2], 63, {capture := some (2, 5, 4600001000, [1, 2])}, by decide +kernel⟩,
   ⟨{S0 with mod := {S0.mod with cals := [(63, {capture := some (2, 5, 4520001000, [])})]}}, 1000, 2, 5, 4520001000, 63, {capture := some (2, 5, 4520001000, [])}, by decide +kernel⟩,
   ⟨{S0 with mod := {S0.mod with cals := [(63, {capture := some (2, 5, 4600001001, [1])})]}}, 1000, 2, 5, 4600001001, [1], 63, {capture := some (2, 5, 4600001001, [1])}, by decide +kernel⟩⟩

/-- What meets the hypotheses of `Obligations.ChannelConfiguration`, clause by clause. -/
theorem witness_ChannelConfiguration :
    (∃ (s : State) (dt : Nat) (c : Cmd), s.Ready .channelConfigure dt c ∧ chanRangesOk c (chanCfgOf c) = false) ∧
    (∃ (s : State) (dt : Nat) (c : Cmd) (st : Nat) (p : List Byte), s.Ready .channelConfigure dt c ∧ chanRangesOk c (chanCfgOf c) = true ∧ chanRefusal (c.u8 32) (chanOf c) (chanCfgOf c) ((if (chanCfgOf c).usesSlice then (s.entered .channelConfigure dt c).pickSlice (c.u8 32) (chanOf c) else none)) ((if (chanCfgOf c).usesCell then (s.entered .channelConfigure dt c).pickCell (c.u8 32) (chanOf c) else none)) (s.entered .channelConfigure dt c) = some (.final st p)) ∧
    (∃ (s : State) (dt : Nat) (c : Cmd), s.Ready .channelConfigure dt c ∧ chanRangesOk c (chanCfgOf c) = true ∧ chanRefusal (c.u8 32) (chanOf c) (chanCfgOf c) ((if (chanCfgOf c).usesSlice then (s.entered .channelConfigure dt c).pickSlice (c.u8 32) (chanOf c) else none)) ((if (chanCfgOf c).usesCell then (s.entered .channelConfigure dt c).pickCell (c.u8 32) (chanOf c) else none)) (s.entered .channelConfigure dt c) = none ∧ (chanCfgOf c) = ((s.chan (chanOf c)).cfg)) ∧
    (∃ (s : State) (dt : Nat) (c : Cmd), s.Ready .channelConfigure dt c ∧ chanRangesOk c (chanCfgOf c) = true ∧ chanRefusal (c.u8 32) (chanOf c) (chanCfgOf c) ((if (chanCfgOf c).usesSlice then (s.entered .channelConfigure dt c).pickSlice (c.u8 32) (chanOf c) else none)) ((if (chanCfgOf c).usesCell then (s.entered .channelConfigure dt c).pickCell (c.u8 32) (chanOf c) else none)) (s.entered .channelConfigure dt c) = none ∧ (chanCfgOf c).kind ≠ ((s.chan (chanOf c)).cfg).kind ∧ (s.entered .channelConfigure dt c).anyShorted (c.u8 32) (((s.entered .channelConfigure dt c).heldSwitches (chanOf c)).filter (fun j => !((chanCfgOf c).switches (((if (chanCfgOf c).usesSlice then (s.entered .channelConfigure dt c).pickSlice (c.u8 32) (chanOf c) else none)).getD 60) (((if (chanCfgOf c).usesCell then (s.entered .channelConfigure dt c).pickCell (c.u8 32) (chanOf c) else none)).getD 60)).contains j)) = true) ∧
    (∃ (s : State) (dt : Nat) (c : Cmd) (env : Env), s.Ready .channelConfigure dt c ∧ chanRangesOk c (chanCfgOf c) = true ∧ chanRefusal (c.u8 32) (chanOf c) (chanCfgOf c) ((if (chanCfgOf c).usesSlice then (s.entered .channelConfigure dt c).pickSlice (c.u8 32) (chanOf c) else none)) ((if (chanCfgOf c).usesCell then (s.entered .channelConfigure dt c).pickCell (c.u8 32) (chanOf c) else none)) (s.entered .channelConfigure dt c) = none ∧ (chanCfgOf c).kind ≠ ((s.chan (chanOf c)).cfg).kind ∧ (s.entered .channelConfigure dt c).anyShorted (c.u8 32) (((s.entered .channelConfigure dt c).heldSwitches (chanOf c)).filter (fun j => !((chanCfgOf c).switches (((if (chanCfgOf c).usesSlice then (s.entered .channelConfigure dt c).pickSlice (c.u8 32) (chanOf c) else none)).getD 60) (((if (chanCfgOf c).usesCell then (s.entered .channelConfigure dt c).pickCell (c.u8 32) (chanOf c) else none)).getD 60)).contains j)) = false ∧ env.fails = []) ∧
    (∃ (s : State) (dt : Nat) (c : Cmd) (env : Env), s.Ready .channelConfigure dt c ∧ chanRangesOk c (chanCfgOf c) = true ∧ chanRefusal (c.u8 32) (chanOf c) (chanCfgOf c) ((if (chanCfgOf c).usesSlice then (s.entered .channelConfigure dt c).pickSlice (c.u8 32) (chanOf c) else none)) ((if (chanCfgOf c).usesCell then (s.entered .channelConfigure dt c).pickCell (c.u8 32) (chanOf c) else none)) (s.entered .channelConfigure dt c) = none ∧ (chanCfgOf c).kind ≠ ((s.chan (chanOf c)).cfg).kind ∧ (s.entered .channelConfigure dt c).anyShorted (c.u8 32) (((s.entered .channelConfigure dt c).heldSwitches (chanOf c)).filter (fun j => !((chanCfgOf c).switches (((if (chanCfgOf c).usesSlice then (s.entered .channelConfigure dt c).pickSlice (c.u8 32) (chanOf c) else none)).getD 60) (((if (chanCfgOf c).usesCell then (s.entered .channelConfigure dt c).pickCell (c.u8 32) (chanOf c) else none)).getD 60)).contains j)) = false ∧ env.fails = []) ∧
    (∃ (s : State) (dt : Nat) (c : Cmd), s.Ready .channelConfigure dt c ∧ chanRangesOk c (chanCfgOf c) = true ∧ chanRefusal (c.u8 32) (chanOf c) (chanCfgOf c) ((if (chanCfgOf c).usesSlice then (s.entered .channelConfigure dt c).pickSlice (c.u8 32) (chanOf c) else none)) ((if (chanCfgOf c).usesCell then (s.entered .channelConfigure dt c).pickCell (c.u8 32) (chanOf c) else none)) (s.entered .channelConfigure dt c) = none ∧ (chanCfgOf c) ≠ ((s.chan (chanOf c)).cfg) ∧ (((chanCfgOf c).switches (((if (chanCfgOf c).usesSlice then (s.entered .channelConfigure dt c).pickSlice (c.u8 32) (chanOf c) else none)).getD 60) (((if (chanCfgOf c).usesCell then (s.entered .channelConfigure dt c).pickCell (c.u8 32) (chanOf c) else none)).getD 60)).filter (fun j => !((s.entered .channelConfigure dt c).heldSwitches (chanOf c)).contains j)) = [] ∧ (((s.entered .channelConfigure dt c).heldSwitches (chanOf c)).filter (fun j => !((chanCfgOf c).switches (((if (chanCfgOf c).usesSlice then (s.entered .channelConfigure dt c).pickSlice (c.u8 32) (chanOf c) else none)).getD 60) (((if (chanCfgOf c).usesCell then (s.entered .channelConfigure dt c).pickCell (c.u8 32) (chanOf c) else none)).getD 60)).contains j)) = [] ∧ (c.u8 38).testBit 1 = false ∧ { (chanCfgOf c) with emode := ((s.chan (chanOf c)).cfg).emode, level := ((s.chan (chanOf c)).cfg).level, ilim := ((s.chan (chanOf c)).cfg).ilim, lead := ((s.chan (chanOf c)).cfg).lead, wave := ((s.chan (chanOf c)).cfg).wave, owTest := ((s.chan (chanOf c)).cfg).owTest } = ((s.chan (chanOf c)).cfg)) ∧
    (∃ (s : State) (dt : Nat) (g : Fin 64) (c : Change), (s.chan g).change = some c ∧ c.opened + 20000 ≤ s.now + dt ∧ (c.force = true ∨ (s.advance dt).boundarySince g (c.opened + 20000) = true)) ∧
    (∃ (s : State) (dt : Nat) (g : Fin 64), (∀ c, (s.chan g).change = some c → s.now + dt < c.opened + 20000 ∨ (c.force = false ∧ (s.advance dt).boundarySince g (c.opened + 20000) = false))) ∧
    (∃ (s : State) (dt : Nat) (g : Fin 64) (r : Retune), (s.chan g).retune = some r ∧ (if (s.chan g).cfg.pulsed then (s.chan g).srcOn.isNone else (s.advance dt).boundarySince g r.asked) = true ∧ s.cellSwap g = none) ∧
    (∃ (s : State) (dt : Nat) (g : Fin 64) (r : Retune), (s.chan g).retune = some r ∧ (if (s.chan g).cfg.pulsed then (s.chan g).srcOn.isNone else (s.advance dt).boundarySince g r.asked) = false) ∧
    (∃ (s : State) (dt : Nat) (c : Cmd), s.Ready .channelRead dt c ∧ Clean c [(32, 2)] 0 ∧ c.u8 32 ≤ 7 ∧ c.u8 33 ≤ 7) :=
  ⟨⟨S0, 1000, pk [(32,1,8)], by decide +kernel⟩,
   ⟨S0, 1000, pk [(32,1,7),(33,1,7),(34,1,1),(35,1,5),(36,1,9),(37,1,6),(46,1,31),(47,1,31),(48,1,255),(49,1,255)], stBadParam, le 2 12, by decide +kernel⟩,
   ⟨S0.setChan 63 {cfg := {kind := 1, range := 5, tp := 31, tn := 30, tx := 255, tr := 255, prec := 9, wave := 6}}, 1000, pk [(32,1,7),(33,1,7),(34,1,1),(35,1,5),(36,1,9),(37,1,6),(46,1,31),(47,1,30),(48,1,255),(49,1,255)], by decide +kernel⟩,
   ⟨SA.setAisl 7 {SA.aisl 7 with shorted := [(110, true)]}, 1000, pk [(32,1,7),(33,1,7),(46,1,255),(47,1,255),(48,1,255),(49,1,255)], by decide +kernel⟩,
   ⟨S0, 1000, pk [(32,1,7),(33,1,7),(34,1,1),(35,1,5),(36,1,9),(37,1,6),(46,1,31),(47,1,30),(48,1,255),(49,1,255)], {}, by decide +kernel⟩,
   ⟨S0, 1000, pk [(32,1,0),(33,1,0),(34,1,2),(35,1,6),(36,1,0),(37,1,0),(40,1,3),(46,1,0),(47,1,255),(48,1,1),(49,1,255)], {}, by decide +kernel⟩,
   ⟨SA, 1000, pk [(32,1,7),(33,1,7),(34,1,1),(35,1,2),(36,1,2),(37,1,2),(42,1,50),(43,1,4),(46,1,3),(47,1,4),(48,1,255),(49,1,255)], by decide +kernel⟩,
   ⟨S0.setChan 63 {cfg := {kind := 0}, change := some {cfg := {kind := 1, tp := 3}, opened := 4999981000, cmd := 2, conn := [(3, 14)], slice := some 7, cell := none}}, 1000, 63, {cfg := {kind := 1, tp := 3}, opened := 4999981000, cmd := 2, conn := [(3, 14)], slice := some 7, cell := none}, by decide +kernel⟩,
   ⟨S0.setChan 63 {cfg := {kind := 0}, change := some {cfg := {kind := 1, tp := 3}, opened := 4999981001, cmd := 2, conn := [(3, 14)], slice := some 7, cell := none}}, 1000, 63, by decide +kernel⟩,
   ⟨SA.setChan 63 {C1 with retune := some {cfg := {C1.cfg with wave := 2}, cmd := 2, asked := 4900000000}}, 1000, 63, {cfg := {C1.cfg with wave := 2}, cmd := 2, asked := 4900000000}, by decide +kernel⟩,
   ⟨SA.setChan 63 {C1 with retune := some {cfg := {C1.cfg with wave := 2}, cmd := 2, asked := 5000000999}}, 1000, 63, {cfg := {C1.cfg with wave := 2}, cmd := 2, asked := 5000000999}, by decide +kernel⟩,
   ⟨S0.setChan 63 {last := some {src := 63, value := 5, sqw := 3, time := 9, raw := 0x123456}}, 1000, pk [(32,1,7),(33,1,7)], by unfold Clean; decide +kernel⟩⟩

/-- What meets the hypotheses of `Obligations.SamplingAndBlanking`, clause by clause. -/
theorem witness_SamplingAndBlanking :
    (∃ (s : State) (dt : Nat) (c : Cmd), s.Ready .crosspointTest dt c ∧ Clean c [(32, 1), (36, 4)] 0 ∧ c.u8 32 ≤ 7) ∧
    (∃ (s : State) (i : Fin 8), (s.aisl i).linkUp = true) ∧
    (∃ (s : State) (g : Fin 64), (s.chan g).cfg.pulsed = true ∧ (s.chan g).srcOn = none ∧ (s.chan g).change = none ∧ s.mode .acq = true ∧ (s.aisl (g.val / 8)).powered = true) ∧
    (∃ (s : State) (dt : Nat) (t : Nat) (g : Fin 64), (s.chan g).srcOn = some t ∧ t + 20000 * (s.chan g).cfg.lead ≤ s.now + dt) ∧
    (∃ (s : State) (dt : Nat) (g : Fin 64), (∀ t, (s.chan g).srcOn = some t → s.now + dt < t + 20000 * (s.chan g).cfg.lead)) ∧
    (∃ (s : State) (i : Fin 8) (d : Vector Int 3), refAgree d[0] d[1] = true ∧ refAgree d[0] d[2] = true ∧ refAgree d[1] d[2] = true ∧ (s.aisl i).refFault = false ∧ (s.aisl i).refDegraded = false) ∧
    (∃ (s : State) (i : Fin 8) (d : Vector Int 3), refAgree d[0] d[1] = true ∧ refAgree d[0] d[2] = false ∧ refAgree d[1] d[2] = false ∧ (s.aisl i).refFault = false ∧ (s.aisl i).refDegraded = false) ∧
    (∃ (s : State) (i : Fin 8) (d : Vector Int 3), refAgree d[0] d[1] = false ∧ refAgree d[0] d[2] = false ∧ refAgree d[1] d[2] = false ∧ (s.aisl i).refFault = false) ∧
    (∃ (x : Fin 11), x.val ∉ [0, 4, 5, 6]) ∧
    (∃ (x : Fin 11), x.val ∉ [0, 4, 5, 6]) ∧
    (∃ (s : State) (x : Fin 11) (i : Fin 14), (x.val = 4 ∨ x.val = 6) ∧ (s.port (i.val % 2)).up = true) ∧
    (∃ (s : State) (x : Fin 11) (i : Fin 14), (x.val = 4 ∨ x.val = 6) ∧ (s.port (i.val % 2)).up = true) ∧
    (∃ (s : State) (dt : Nat) (c : Cmd), s.Ready .blankConfigure dt c ∧ Clean c [(32, 1), (36, 4)] 0 ∧ c.u8 32 ≤ 7 ∧ (c.w32 36).extractLsb' 9 7 = 0 ∧ 2 ≤ ((c.w32 36).extractLsb' 24 8).toNat ∧ (s.aisl (c.u8 32)).blank ≠ none) ∧
    (∃ (s : State) (dt : Nat) (c : Cmd), s.Ready .blankConfigure dt c ∧ Clean c [(32, 1), (36, 4)] 0 ∧ c.u8 32 ≤ 7 ∧ (c.w32 36).extractLsb' 9 7 = 0 ∧ 2 ≤ ((c.w32 36).extractLsb' 24 8).toNat ∧ (s.aisl (c.u8 32)).blank = none ∧ (s.aisl (c.u8 32)).clampLive = 0 ∧ (s.aisl (c.u8 32)).doUntil ≤ s.now + dt ∧ (s.aisl (c.u8 32)).extActive (c.w32 36) = false) ∧
    (∃ (s : State) (dt : Nat) (c : Cmd), s.Ready .blankConfigure dt c ∧ Clean c [(32, 1), (36, 4)] 0 ∧ c.u8 32 ≤ 7 ∧ (c.w32 36).extractLsb' 9 7 = 0 ∧ 2 ≤ ((c.w32 36).extractLsb' 24 8).toNat ∧ (s.aisl (c.u8 32)).blank = none ∧ (s.aisl (c.u8 32)).clampLive = 0 ∧ (s.aisl (c.u8 32)).doUntil ≤ s.now + dt ∧ (s.aisl (c.u8 32)).extActive (c.w32 36) = false) ∧
    (∃ (s : State) (dt : Nat) (c : Cmd), s.Ready .blankConfigure dt c ∧ Clean c [(32, 1), (36, 4)] 0 ∧ c.u8 32 ≤ 7 ∧ (c.w32 36).extractLsb' 9 7 = 0 ∧ 2 ≤ ((c.w32 36).extractLsb' 24 8).toNat ∧ (s.aisl (c.u8 32)).blank = none ∧ (s.aisl (c.u8 32)).clampLive = 0 ∧ (s.aisl (c.u8 32)).doUntil ≤ s.now + dt ∧ (s.aisl (c.u8 32)).extActive (c.w32 36) = true) ∧
    (∃ (s : State) (i : Fin 8), blankExtEn (s.aisl i).blankCfg = true ∧ (s.aisl i).blank = none) ∧
    (∃ (s : State) (i : Fin 8) (b : Blank), blankExtEn (s.aisl i).blankCfg = true ∧ (s.aisl i).blank = some b ∧ b.cfg = (s.aisl i).blankCfg) ∧
    (∃ (s : State) (i : Fin 8), blankExtEn (s.aisl i).blankCfg = false ∧ (s.aisl i).blank = none) ∧
    (∃ (s : State) (i : Fin 8) (b : Blank), (s.aisl i).blank = some b ∧ b.cfg = (s.aisl i).blankCfg ∧ b.src = 1 ∧ b.ended = none) ∧
    (∃ (s : State) (dt : Nat) (t : Nat) (i : Fin 8) (b : Blank), (s.aisl i).blank = some b ∧ b.src = 0 ∧ b.long = false ∧ b.ended = some t ∧ b.doEnd ≤ t ∧ t + 40000 * blankHold b.cfg ≤ s.now + dt ∧ (s.aisl i).extActive (s.aisl i).blankCfg = false ∧ (s.aisl i).clampLive = 0 ∧ (s.aisl i).doUntil ≤ s.now + dt) ∧
    (∃ (s : State) (dt : Nat) (i : Fin 8) (b : Blank), (s.aisl i).blank = some b ∧ b.src.getLsbD 1 = false ∧ (∀ e, b.over = some e → s.now + dt < e)) ∧
    (∃ (s : State) (dt : Nat) (i : Fin 8) (b : Blank), (s.aisl i).blank = some b ∧ b.src.getLsbD 1 = false ∧ (∀ e, b.over = some e → s.now + dt < e)) ∧
    (∃ (s : State) (dt : Nat) (i : Fin 8) (b : Blank), (s.aisl i).blank = some b ∧ b.src.getLsbD 1 = false ∧ b.long = false ∧ b.start + 1000000000 ≤ s.now + dt) ∧
    (∃ (s : State) (dt : Nat) (i : Fin 8) (b : Blank), (s.aisl i).blank = some b ∧ b.src.getLsbD 1 = false ∧ (b.long = true ∨ s.now + dt < b.start + 1000000000)) :=
  ⟨⟨SA, 1000, pk [(32,1,7),(36,4,0xFFFFFFFF)], by unfold Clean; decide +kernel⟩,
   ⟨S0.setAisl 7 {linkUp := true}, 7, by decide +kernel⟩,
   ⟨(S0.setAisl 7 {powered := true}).setChan 63 {cfg := {kind := 5, pulsed := true}}, 63, by decide +kernel⟩,
   ⟨S0.setChan 63 {cfg := {kind := 5, pulsed := true}, srcOn := some 4}, 1000, 4, 63, by decide +kernel⟩,
   ⟨S0.setChan 63 {cfg := {kind := 0}, change := some {cfg := {kind := 1, tp := 3}, opened := 4999981001, cmd := 2, conn := [(3, 14)], slice := some 7, cell := none}}, 1000, 63, by decide +kernel⟩,
   ⟨S0, 7, #v[0, 200, 0], by decide +kernel⟩,
   ⟨S0, 7, #v[0, 200, 401], by decide +kernel⟩,
   ⟨S0, 7, #v[0, 1000000, 2000000], by decide +kernel⟩,
   ⟨10, by decide +kernel⟩,
   ⟨1, by decide +kernel⟩,
   ⟨SR, 4, 1, by decide +kernel⟩,
   ⟨SR, 6, 0, by decide +kernel⟩,
   ⟨S0.setAisl 7 {blank := some {start := 4, src := 1, ended := none, cfg := 0x02000001, long := false, doEnd := 0}}, 1000, pk [(32,1,7),(36,4,0xFF0101FF)], by unfold Clean; decide +kernel⟩,
   ⟨S0, 1000, pk [(32,1,7),(36,4,0x02000000)], by unfold Clean; decide +kernel⟩,
   ⟨S0, 1000, pk [(32,1,7),(36,4,0xFF0101FD)], by unfold Clean; decide +kernel⟩,
   ⟨S0, 1000, pk [(32,1,7),(36,4,0xFF0101FF)], by unfold Clean; decide +kernel⟩,
   ⟨S0.setAisl 7 {blankCfg := 0x02000001}, 7, by decide +kernel⟩,
   ⟨S0.setAisl 7 {blankCfg := 0x02000001, blank := some {start := 4, src := 2, ended := none, cfg := 0x02000001, long := false, doEnd := 9}}, 7, {start := 4, src := 2, ended := none, cfg := 0x02000001, long := false, doEnd := 9}, by decide +kernel⟩,
   ⟨S0, 7, by decide +kernel⟩,
   ⟨S0.setAisl 7 {blankCfg := 0x02000001, blank := some {start := 4, src := 1, ended := none, cfg := 0x02000001, long := false, doEnd := 0}}, 7, {start := 4, src := 1, ended := none, cfg := 0x02000001, long := false, doEnd := 0}, by decide +kernel⟩,
   ⟨S0.setAisl 7 {blankCfg := 0x02000000, blank := some {start := 4, src := 0, ended := some 4999921000, cfg := 0x02020001, long := false, doEnd := 0}}, 1000, 4999921000, 7, {start := 4, src := 0, ended := some 4999921000, cfg := 0x02020001, long := false, doEnd := 0}, by decide +kernel⟩,
   ⟨S0.setAisl 7 {blank := some {start := 4, src := 0, ended := some 4999921001, cfg := 0x02020001, long := false, doEnd := 0}}, 1000, 7, {start := 4, src := 0, ended := some 4999921001, cfg := 0x02020001, long := false, doEnd := 0}, by decide +kernel⟩,
   ⟨S0.setAisl 7 {blank := some {start := 4, src := 1, ended := none, cfg := 0x02020001, long := false, doEnd := 0}}, 1000, 7, {start := 4, src := 1, ended := none, cfg := 0x02020001, long := false, doEnd := 0}, by decide +kernel⟩,
   ⟨S0.setAisl 7 {blank := some {start := 4000001000, src := 1, ended := none, cfg := 1, long := false, doEnd := 0}}, 1000, 7, {start := 4000001000, src := 1, ended := none, cfg := 1, long := false, doEnd := 0}, by decide +kernel⟩,
   ⟨S0.setAisl 7 {blank := some {start := 4000001001, src := 1, ended := none, cfg := 1, long := false, doEnd := 0}}, 1000, 7, {start := 4000001001, src := 1, ended := none, cfg := 1, long := false, doEnd := 0}, by decide +kernel⟩⟩

/-- What meets the hypotheses of `Obligations.ClampsAndTheRideThroughBuffer`, clause by clause. -/
theorem witness_ClampsAndTheRideThroughBuffer :
    (∃ (s : State) (i : Fin 8) (t : Fin 32), (s.aisl i).clampLive.getLsbD t = true) ∧
    (∃ (s : State) (i : Fin 8) (t : Fin 32), (s.aisl i).clampLive.getLsbD t = false) ∧
    (∃ (s : State) (i : Fin 8) (t : Fin 32), (s.aisl i).clampLive.getLsbD t = true) ∧
    (∃ (s : State) (dt : Nat) (q : Nat) (i : Fin 8) (t : Fin 32), (tget {} (s.aisl i).clamps t).quiet = some q ∧ q + 1000000 ≤ s.now + dt ∧ (s.aisl i).clampLive.getLsbD t = false) ∧
    (∃ (s : State) (i : Fin 8), (s.aisl i).linkUp = true ∧ s.pwr.phase ≠ .asserted) ∧
    (∃ (s : State) (i : Fin 8), (s.aisl i).linkUp = true ∧ s.pwr.phase ≠ .asserted) ∧
    (∃ (s : State) (i : Fin 8), (s.aisl i).linkUp = false) ∧
    (∃ (s : State) (m : Sample), (s.chan m.src).seen = none) ∧
    (∃ (s : State) (m : Sample) (n : Nat), (s.chan m.src).seen = some n ∧ (m.seq + 65536 - n) % 65536 < 32768) ∧
    (∃ (s : State) (m : Sample) (n : Nat), (s.chan m.src).seen = some n ∧ 32768 ≤ (m.seq + 65536 - n) % 65536) :=
  ⟨⟨S0.setAisl 7 {clampLive := 0x80000000}, 7, 31, by decide +kernel⟩,
   ⟨S0, 7, 31, by decide +kernel⟩,
   ⟨S0.setAisl 7 {clampLive := 0x80000000}, 7, 31, by decide +kernel⟩,
   ⟨S0.setAisl 7 {clamps := [(31, {quiet := some 4999001000})]}, 1000, 4999001000, 7, 31, by decide +kernel⟩,
   ⟨S0.setAisl 7 {linkUp := true, rtb := [{src := 63, value := 5, sqw := 3, time := 9}, {src := 62, seq := 3, value := 5, sqw := 3, time := 9}]}, 7, by decide +kernel⟩,
   ⟨S0.setAisl 7 {linkUp := true, rtb := [{src := 63, value := 5, sqw := 3, time := 9}, {src := 62, seq := 3, value := 5, sqw := 3, time := 9}]}, 7, by decide +kernel⟩,
   ⟨S0, 7, by decide +kernel⟩,
   ⟨S0, {src := 63, value := 5, sqw := 3, time := 9}, by decide +kernel⟩,
   ⟨S0.setChan 63 {seen := some 65535}, {src := 63, value := 5, sqw := 3, time := 9}, 65535, by decide +kernel⟩,
   ⟨S0.setChan 63 {seen := some 9}, {src := 63, seq := 8, value := 5, sqw := 3, time := 9}, 9, by decide +kernel⟩⟩

/-- What meets the hypotheses of `Obligations.ConditioningAndSamples`, clause by clause. -/
theorem witness_ConditioningAndSamples :
    (∃ (s : State) (dt : Nat) (c : Cmd), s.Ready .conditionConfigure dt c ∧ Clean c [(32, 9), (44, 16)] 0 ∧ c.u8 32 ≤ 7 ∧ c.u8 33 ≤ 7 ∧ (condOf c).cjsrc ≤ 5 ∧ (condOf c).cjch ≤ 7 ∧ c.u8 37 ≤ 3 ∧ (condOf c).cutoff ≤ 15 ∧ (condOf c).rangeLo ≤ 11 ∧ (condOf c).rangeHi ≤ 11 ∧ curveExists (condOf c).curve = true ∧ ((condOf c).curve ≠ 0x20 → c.u32 56 = 0 ∧ ((condOf c).cjsrc ≠ 5 → c.u32 52 = 0)) ∧ curveKindOk (condOf c).curve (s.chan (chanOf c)).cfg.kind = true ∧ ((condOf c).curve = 0x20 → f32Eq (condOf c).arg0 (condOf c).arg1 = false) ∧ autorangeOk (s.chan (chanOf c)).cfg.kind (condOf c) = true ∧ (∀ n f, curveSlot (condOf c).curve = some (n, f) → ∃ t, s.slot n = some t ∧ t.format = f) ∧ ((condOf c).cjsrc = 4 → (condOf c).cjch ≠ chanOf c % 8 ∧ cjCurve (s.chan (chanOf c / 8 * 8 + (condOf c).cjch)).condSet.curve = true) ∧ (s.cjServes (chanOf c) = true → cjCurve (condOf c).curve = true) ∧ ((s.chan (chanOf c)).cfg.usesSlice = false ∨ s.mode .acq = false)) ∧
    (∃ (s : State) (dt : Nat) (c : Cmd), s.Ready .conditionConfigure dt c ∧ Clean c [(32, 9), (44, 16)] 0 ∧ c.u8 32 ≤ 7 ∧ c.u8 33 ≤ 7 ∧ (condOf c).cjsrc ≤ 5 ∧ (condOf c).cjch ≤ 7 ∧ c.u8 37 ≤ 3 ∧ (condOf c).cutoff ≤ 15 ∧ (condOf c).rangeLo ≤ 11 ∧ (condOf c).rangeHi ≤ 11 ∧ curveExists (condOf c).curve = true ∧ ((condOf c).curve ≠ 0x20 → c.u32 56 = 0 ∧ ((condOf c).cjsrc ≠ 5 → c.u32 52 = 0)) ∧ curveKindOk (condOf c).curve (s.chan (chanOf c)).cfg.kind = true ∧ ((condOf c).curve = 0x20 → f32Eq (condOf c).arg0 (condOf c).arg1 = false) ∧ autorangeOk (s.chan (chanOf c)).cfg.kind (condOf c) = true ∧ (∀ n f, curveSlot (condOf c).curve = some (n, f) → ∃ t, s.slot n = some t ∧ t.format = f) ∧ ((condOf c).cjsrc = 4 → (condOf c).cjch ≠ chanOf c % 8 ∧ cjCurve (s.chan (chanOf c / 8 * 8 + (condOf c).cjch)).condSet.curve = true) ∧ (s.cjServes (chanOf c) = true → cjCurve (condOf c).curve = true) ∧ ((s.chan (chanOf c)).cfg.usesSlice = false ∨ s.mode .acq = false)) ∧
    (∃ (s : State) (dt : Nat) (c : Cmd), s.Ready .conditionConfigure dt c ∧ Clean c [(32, 9), (44, 16)] 0 ∧ c.u8 32 ≤ 7 ∧ c.u8 33 ≤ 7 ∧ (condOf c).cjsrc ≤ 5 ∧ (condOf c).cjch ≤ 7 ∧ c.u8 37 ≤ 3 ∧ (condOf c).cutoff ≤ 15 ∧ (condOf c).rangeLo ≤ 11 ∧ (condOf c).rangeHi ≤ 11 ∧ curveExists (condOf c).curve = true ∧ ((condOf c).curve ≠ 0x20 → c.u32 56 = 0 ∧ ((condOf c).cjsrc ≠ 5 → c.u32 52 = 0)) ∧ curveKindOk (condOf c).curve (s.chan (chanOf c)).cfg.kind = true ∧ ((condOf c).curve = 0x20 → f32Eq (condOf c).arg0 (condOf c).arg1 = false) ∧ autorangeOk (s.chan (chanOf c)).cfg.kind (condOf c) = true ∧ (∀ n f, curveSlot (condOf c).curve = some (n, f) → ∃ t, s.slot n = some t ∧ t.format = f) ∧ ((condOf c).cjsrc = 4 → (condOf c).cjch ≠ chanOf c % 8 ∧ cjCurve (s.chan (chanOf c / 8 * 8 + (condOf c).cjch)).condSet.curve = true) ∧ (s.cjServes (chanOf c) = true → cjCurve (condOf c).curve = true) ∧ ((s.chan (chanOf c)).cfg.usesSlice = false ∨ s.mode .acq = false)) ∧
    (∃ (s : State) (dt : Nat) (c : Cmd), s.Ready .conditionConfigure dt c ∧ Clean c [(32, 9), (44, 16)] 0 ∧ c.u8 32 ≤ 7 ∧ c.u8 33 ≤ 7 ∧ (condOf c).cjsrc ≤ 5 ∧ (condOf c).cjch ≤ 7 ∧ c.u8 37 ≤ 3 ∧ (condOf c).cutoff ≤ 15 ∧ (condOf c).rangeLo ≤ 11 ∧ (condOf c).rangeHi ≤ 11 ∧ curveExists (condOf c).curve = true ∧ ((condOf c).curve ≠ 0x20 → c.u32 56 = 0 ∧ ((condOf c).cjsrc ≠ 5 → c.u32 52 = 0)) ∧ curveKindOk (condOf c).curve (s.chan (chanOf c)).cfg.kind = true ∧ ((condOf c).curve = 0x20 → f32Eq (condOf c).arg0 (condOf c).arg1 = false) ∧ autorangeOk (s.chan (chanOf c)).cfg.kind (condOf c) = true ∧ (∀ n f, curveSlot (condOf c).curve = some (n, f) → ∃ t, s.slot n = some t ∧ t.format = f) ∧ ((condOf c).cjsrc = 4 → (condOf c).cjch ≠ chanOf c % 8 ∧ cjCurve (s.chan (chanOf c / 8 * 8 + (condOf c).cjch)).condSet.curve = true) ∧ (s.cjServes (chanOf c) = true → cjCurve (condOf c).curve = true) ∧ (s.chan (chanOf c)).cfg.usesSlice = true ∧ s.mode .acq = true) ∧
    (∃ (s : State) (dt : Nat) (c : Cmd), s.Ready .conditionConfigure dt c ∧ Clean c [(32, 9), (44, 16)] 0 ∧ c.u8 32 ≤ 7 ∧ c.u8 33 ≤ 7 ∧ (condOf c).cjsrc ≤ 5 ∧ (condOf c).cjch ≤ 7 ∧ c.u8 37 ≤ 3 ∧ (condOf c).cutoff ≤ 15 ∧ (condOf c).rangeLo ≤ 11 ∧ (condOf c).rangeHi ≤ 11 ∧ curveExists (condOf c).curve = true ∧ ((condOf c).curve ≠ 0x20 → c.u32 56 = 0 ∧ ((condOf c).cjsrc ≠ 5 → c.u32 52 = 0)) ∧ curveKindOk (condOf c).curve (s.chan (chanOf c)).cfg.kind = true ∧ ((condOf c).curve = 0x20 → f32Eq (condOf c).arg0 (condOf c).arg1 = false) ∧ autorangeOk (s.chan (chanOf c)).cfg.kind (condOf c) = true ∧ (∀ n f, curveSlot (condOf c).curve = some (n, f) → ∃ t, s.slot n = some t ∧ t.format = f) ∧ ((condOf c).cjsrc = 4 → (condOf c).cjch ≠ chanOf c % 8 ∧ cjCurve (s.chan (chanOf c / 8 * 8 + (condOf c).cjch)).condSet.curve = true) ∧ (s.cjServes (chanOf c) = true → cjCurve (condOf c).curve = true) ∧ (s.chan (chanOf c)).cfg.usesSlice = true ∧ s.mode .acq = true) ∧
    (∃ (s : State) (dt : Nat) (c : Cmd), s.Ready .conditionConfigure dt c ∧ Clean c [(32, 9), (44, 16)] 0 ∧ c.u8 32 ≤ 7 ∧ c.u8 33 ≤ 7 ∧ (condOf c).cjsrc ≤ 5 ∧ (condOf c).cjch ≤ 7 ∧ c.u8 37 ≤ 3 ∧ (condOf c).cutoff ≤ 15 ∧ (condOf c).rangeLo ≤ 11 ∧ (condOf c).rangeHi ≤ 11 ∧ curveExists (condOf c).curve = true ∧ ((condOf c).curve ≠ 0x20 → c.u32 56 = 0 ∧ ((condOf c).cjsrc ≠ 5 → c.u32 52 = 0)) ∧ curveKindOk (condOf c).curve (s.chan (chanOf c)).cfg.kind = true ∧ ((condOf c).curve = 0x20 → f32Eq (condOf c).arg0 (condOf c).arg1 = false) ∧ autorangeOk (s.chan (chanOf c)).cfg.kind (condOf c) = true ∧ (∀ n f, curveSlot (condOf c).curve = some (n, f) → ∃ t, s.slot n = some t ∧ t.format = f) ∧ ((condOf c).cjsrc = 4 → (condOf c).cjch ≠ chanOf c % 8 ∧ cjCurve (s.chan (chanOf c / 8 * 8 + (condOf c).cjch)).condSet.curve = true) ∧ (s.cjServes (chanOf c) = true → cjCurve (condOf c).curve = true) ∧ (s.chan (chanOf c)).cfg.usesSlice = true ∧ s.mode .acq = true) ∧
    (∃ (d : CondCfg), d.autorange = false) ∧
    (∃ (d : CondCfg), d.autorange = true) ∧
    (∃ (s : State) (g : Nat) (t : Nat) (id : Nat) (n : CondNext), (s.chan g).condNext = some n ∧ n.cmd = some id ∧ n.since < t) ∧
    (∃ (s : State) (g : Nat) (t : Nat) (id : Nat) (n : CondNext), (s.chan g).condNext = some n ∧ n.cmd = some id ∧ t ≤ n.since) ∧
    (∃ (s : State) (dt : Nat) (c : Cmd), s.Ready .conditionConfigure dt c ∧ Clean c [(32, 9), (44, 16)] 0 ∧ c.u8 32 ≤ 7 ∧ c.u8 33 ≤ 7 ∧ c.u8 35 ≤ 5 ∧ c.u8 36 ≤ 7 ∧ c.u8 37 ≤ 3 ∧ c.u8 40 ≤ 15 ∧ c.u8 38 ≤ 11 ∧ c.u8 39 ≤ 11 ∧ curveExists (c.u8 34) = true ∧ c.u32 52 = 0 ∧ c.u32 56 = 0 ∧ curveKindOk (c.u8 34) (s.chan (chanOf c)).cfg.kind = false) ∧
    (∃ (s : State) (dt : Nat) (c : Cmd), s.Ready .tableLoad dt c ∧ Clean c [(32, 4)] c.paramLen ∧ c.u8 32 ≤ 15 ∧ ((c.u8 33 = 0 ∧ c.paramLen = c.u16 34 * 8 ∧ 2 ≤ c.u16 34 ∧ c.u16 34 ≤ 64 ∧ (wordsOf (c.paramLen / 4) c.ext).all f32Finite = true ∧ risingX (wordsOf (c.paramLen / 4) c.ext) = true) ∨ (c.u8 33 = 1 ∧ c.paramLen = 20 ∧ c.u16 34 = 0 ∧ f32Lt ((wordsOf (c.paramLen / 4) c.ext).getD 3 0) ((wordsOf (c.paramLen / 4) c.ext).getD 4 0) = true ∧ f32Le 0xC25C0000 ((wordsOf (c.paramLen / 4) c.ext).getD 3 0) = true ∧ f32Le ((wordsOf (c.paramLen / 4) c.ext).getD 4 0) 0x43480000 = true))) ∧
    (∃ (s : State) (dt : Nat) (c : Cmd), s.Ready .tableLoad dt c ∧ Clean c [(32, 4)] c.paramLen ∧ c.u8 32 ≤ 15 ∧ c.u8 33 = 0 ∧ (risingX (wordsOf (c.paramLen / 4) c.ext) = false ∨ c.u16 34 < 2 ∨ 64 < c.u16 34)) ∧
    (∃ (s : State) (dt : Nat) (c : Cmd), s.Ready .tableRead dt c ∧ Clean c [(32, 2)] 0 ∧ c.u8 32 ≤ 15 ∧ s.slot (c.u8 32) = none) ∧
    (∃ (s : State) (dt : Nat) (c : Cmd) (t : Slot), s.Ready .tableRead dt c ∧ Clean c [(32, 2)] 0 ∧ c.u8 32 ≤ 15 ∧ s.slot (c.u8 32) = some t ∧ t.format = 0) ∧
    (∃ (s : State) (dt : Nat) (c : Cmd) (t : Slot), s.Ready .tableRead dt c ∧ Clean c [(32, 2)] 0 ∧ c.u8 32 ≤ 15 ∧ s.slot (c.u8 32) = some t ∧ t.format = 1) ∧
    (∃ (s : State) (ch : Fin 64), (s.chan ch).cfg.usesSlice = false) ∧
    (∃ (s : State) (dt : Nat) (u : Nat) (ch : Fin 64), (s.chan ch).lastAt = some u ∧ gridFloor (s.chan ch).rate (s.now + dt) ≤ u) ∧
    (∃ (s : State) (dt : Nat) (ch : Fin 64), s.canSample ch = true ∧ (∀ u, (s.chan ch).lastAt = some u → u < (gridFloor (s.chan ch).rate (s.now + dt))) ∧ s.mode .acq = true ∧ (s.aisl (ch.val / 8)).onGrid (s.chan ch).rateCode (gridFloor (s.chan ch).rate (s.now + dt)) = true ∧ (s.chan ch).windowDone (gridFloor (s.chan ch).rate (s.now + dt)) = true ∧ (s.aisl (ch.val / 8)).blanked (gridFloor (s.chan ch).rate (s.now + dt)) = true) ∧
    (∃ (s : State) (dt : Nat) (ch : Fin 64) (r : Reading), s.canSample ch = true ∧ (∀ u, (s.chan ch).lastAt = some u → u < (gridFloor (s.chan ch).rate (s.now + dt))) ∧ s.mode .acq = true ∧ (s.aisl (ch.val / 8)).onGrid (s.chan ch).rateCode (gridFloor (s.chan ch).rate (s.now + dt)) = true ∧ (s.chan ch).windowDone (gridFloor (s.chan ch).rate (s.now + dt)) = true ∧ (s.aisl (ch.val / 8)).blanked (gridFloor (s.chan ch).rate (s.now + dt)) = false ∧ (condDue ch (gridFloor (s.chan ch).rate (s.now + dt)) (cjRead (ch / 8) (gridFloor (s.chan ch).rate (s.now + dt)) r.cj (s.advance dt))).sliceSwap ch = none ∧ handover ch (condition (condDue ch (gridFloor (s.chan ch).rate (s.now + dt)) (cjRead (ch / 8) (gridFloor (s.chan ch).rate (s.now + dt)) r.cj (s.advance dt))) ch (((condDue ch (gridFloor (s.chan ch).rate (s.now + dt)) (cjRead (ch / 8) (gridFloor (s.chan ch).rate (s.now + dt)) r.cj (s.advance dt))).chan ch).pslice.getD 0) ((condDue ch (gridFloor (s.chan ch).rate (s.now + dt)) (cjRead (ch / 8) (gridFloor (s.chan ch).rate (s.now + dt)) r.cj (s.advance dt))).chan ch).rangeNow (gridFloor (s.chan ch).rate (s.now + dt)) (readingCode r ((condDue ch t (cjRead (ch / 8) t r.cj (s.advance dt))).chan ch).cfg.kind) r.readback (bit (decide (0 < ((condDue ch (gridFloor (s.chan ch).rate (s.now + dt)) (cjRead (ch / 8) (gridFloor (s.chan ch).rate (s.now + dt)) r.cj (s.advance dt))).chan ch).changeLeft)) 3 + bit ((condDue ch (gridFloor (s.chan ch).rate (s.now + dt)) (cjRead (ch / 8) (gridFloor (s.chan ch).rate (s.now + dt)) r.cj (s.advance dt))).chan ch).glideNext 4)).p (codeSat (readingCode r ((condDue ch (gridFloor (s.chan ch).rate (s.now + dt)) (cjRead (ch / 8) (gridFloor (s.chan ch).rate (s.now + dt)) r.cj (s.advance dt))).chan ch).cfg.kind)) r (condDue ch (gridFloor (s.chan ch).rate (s.now + dt)) (cjRead (ch / 8) (gridFloor (s.chan ch).rate (s.now + dt)) r.cj (s.advance dt))) = none) ∧
    (∃ (s : State) (dt : Nat) (ch : Fin 64) (r : Reading) (sp : Nat) (range : Nat) (k : BitVec 24), s.canSample ch = true ∧ (∀ u, (s.chan ch).lastAt = some u → u < (gridFloor (s.chan ch).rate (s.now + dt))) ∧ s.mode .acq = true ∧ (s.aisl (ch.val / 8)).onGrid (s.chan ch).rateCode (gridFloor (s.chan ch).rate (s.now + dt)) = true ∧ (s.chan ch).windowDone (gridFloor (s.chan ch).rate (s.now + dt)) = true ∧ (s.aisl (ch.val / 8)).blanked (gridFloor (s.chan ch).rate (s.now + dt)) = false ∧ (condDue ch (gridFloor (s.chan ch).rate (s.now + dt)) (cjRead (ch / 8) (gridFloor (s.chan ch).rate (s.now + dt)) r.cj (s.advance dt))).sliceSwap ch = none ∧ handover ch (condition (condDue ch (gridFloor (s.chan ch).rate (s.now + dt)) (cjRead (ch / 8) (gridFloor (s.chan ch).rate (s.now + dt)) r.cj (s.advance dt))) ch (((condDue ch (gridFloor (s.chan ch).rate (s.now + dt)) (cjRead (ch / 8) (gridFloor (s.chan ch).rate (s.now + dt)) r.cj (s.advance dt))).chan ch).pslice.getD 0) ((condDue ch (gridFloor (s.chan ch).rate (s.now + dt)) (cjRead (ch / 8) (gridFloor (s.chan ch).rate (s.now + dt)) r.cj (s.advance dt))).chan ch).rangeNow (gridFloor (s.chan ch).rate (s.now + dt)) (readingCode r ((condDue ch t (cjRead (ch / 8) t r.cj (s.advance dt))).chan ch).cfg.kind) r.readback (bit (decide (0 < ((condDue ch (gridFloor (s.chan ch).rate (s.now + dt)) (cjRead (ch / 8) (gridFloor (s.chan ch).rate (s.now + dt)) r.cj (s.advance dt))).chan ch).changeLeft)) 3 + bit ((condDue ch (gridFloor (s.chan ch).rate (s.now + dt)) (cjRead (ch / 8) (gridFloor (s.chan ch).rate (s.now + dt)) r.cj (s.advance dt))).chan ch).glideNext 4)).p (codeSat (readingCode r ((condDue ch (gridFloor (s.chan ch).rate (s.now + dt)) (cjRead (ch / 8) (gridFloor (s.chan ch).rate (s.now + dt)) r.cj (s.advance dt))).chan ch).cfg.kind)) r (condDue ch (gridFloor (s.chan ch).rate (s.now + dt)) (cjRead (ch / 8) (gridFloor (s.chan ch).rate (s.now + dt)) r.cj (s.advance dt))) = some (sp, range, k)) ∧
    (∃ (s : State) (ch : Fin 64), waveRate (s.chan ch).cfg.wave = 0) ∧
    (∃ (s : State) (dt : Nat) (ch : Fin 64), waveRate (s.chan ch).cfg.wave ≠ 0 ∧ s.canSample ch = true ∧ s.mode .acq = true ∧ s.sliceSwap ch = none ∧ (s.chan ch).waveFrom ≤ (gridFloor (waveRate (s.chan ch).cfg.wave, 1) (s.now + dt)) ∧ (∀ u, (s.chan ch).lastWave = some u → u < (gridFloor (waveRate (s.chan ch).cfg.wave, 1) (s.now + dt))) ∧ (s.aisl (ch.val / 8)).blanked (gridFloor (waveRate (s.chan ch).cfg.wave, 1) (s.now + dt)) = false ∧ (s.aisl (ch.val / 8)).onGrid (10 + (s.chan ch).cfg.wave) (gridFloor (waveRate (s.chan ch).cfg.wave, 1) (s.now + dt)) = true) :=
  ⟨⟨SAo, 1000, pk [(32,1,7),(33,1,7),(44,4,0x3F800000)], by unfold Clean; and_intros <;> first | decide +kernel | (intro n f h; exact nomatch (show (none : Option (Nat × Nat)) = some (n, f) from h))⟩,
   ⟨SAo.setChan 63 {C1 with cfg := {C1.cfg with kind := 7, tr := 5, range := 1}}, 1000, pk [(32,1,7),(33,1,7),(34,1,8),(35,1,2),(44,4,0x3F800000)], by unfold Clean; and_intros <;> first | decide +kernel | (intro n f h; exact nomatch (show (none : Option (Nat × Nat)) = some (n, f) from h))⟩,
   ⟨{SAo with ana := {SA.ana with slots := [(15, some {format := 0, vals := [0, 0, 5, 5], crc := 7})]}}, 1000, pk [(32,1,7),(33,1,7),(34,1,0x4F),(38,1,0),(39,1,5),(37,1,3),(40,1,15),(44,4,0x3F800000)], by unfold Clean; and_intros <;> first | decide +kernel | (intro n f h; cases (show some (15, 0) = some (n, f) from h); exact ⟨_, rfl, rfl⟩)⟩,
   ⟨SA, 1000, pk [(32,1,7),(33,1,7),(44,4,0x3F800000)], by unfold Clean; and_intros <;> first | decide +kernel | (intro n f h; exact nomatch (show (none : Option (Nat × Nat)) = some (n, f) from h))⟩,
   ⟨SA.setChan 63 {C1 with cfg := {C1.cfg with kind := 7, tr := 5, range := 1}}, 1000, pk [(32,1,7),(33,1,7),(34,1,8),(35,1,2),(44,4,0x3F800000)], by unfold Clean; and_intros <;> first | decide +kernel | (intro n f h; exact nomatch (show (none : Option (Nat × Nat)) = some (n, f) from h))⟩,
   ⟨{SA with ana := {SA.ana with slots := [(15, some {format := 0, vals := [0, 0, 5, 5], crc := 7})]}}, 1000, pk [(32,1,7),(33,1,7),(34,1,0x4F),(38,1,0),(39,1,5),(37,1,3),(40,1,15),(44,4,0x3F800000)], by unfold Clean; and_intros <;> first | decide +kernel | (intro n f h; cases (show some (15, 0) = some (n, f) from h); exact ⟨_, rfl, rfl⟩)⟩,
   ⟨{curve := 3}, by decide +kernel⟩,
   ⟨{autorange := true, rangeLo := 3, rangeHi := 5}, by decide +kernel⟩,
   ⟨SA.setChan 63 {C1 with condNext := some {cond := {}, since := 4, cmd := some 2}}, 63, 5, 2, {cond := {}, since := 4, cmd := some 2}, by decide +kernel⟩,
   ⟨SA.setChan 63 {C1 with condNext := some {cond := {}, since := 5, cmd := some 2}}, 63, 5, 2, {cond := {}, since := 5, cmd := some 2}, by decide +kernel⟩,
   ⟨SA, 1000, pk [(32,1,7),(33,1,7),(34,1,1),(44,4,0x3F800000)], by unfold Clean; decide +kernel⟩,
   ⟨S0, 1000, pk [(32,1,15),(34,2,2)] (ex 16 [(0,4,0),(4,4,0),(8,4,0x3F800000),(12,4,0x3F800000)]), by unfold Clean; decide +kernel⟩,
   ⟨S0, 1000, pk [(32,1,15),(34,2,2)] (ex 16 [(0,4,0x3F800000),(4,4,0),(8,4,0x3F800000),(12,4,0x3F800000)]), by unfold Clean; decide +kernel⟩,
   ⟨S0, 1000, pk [(32,1,15)], by unfold Clean; decide +kernel⟩,
   ⟨{SA with ana := {SA.ana with slots := [(15, some {format := 0, vals := [0, 0, 5, 5], crc := 7})]}}, 1000, pk [(32,1,15)], {format := 0, vals := [0, 0, 5, 5], crc := 7}, by unfold Clean; decide +kernel⟩,
   ⟨{SA with ana := {SA.ana with slots := [(15, some {format := 1, vals := [0, 0, 5], crc := 7})]}}, 1000, pk [(32,1,15)], {format := 1, vals := [0, 0, 5], crc := 7}, by unfold Clean; decide +kernel⟩,
   ⟨S0, 63, by decide +kernel⟩,
   ⟨SA.setChan 63 {C1 with lastAt := some 5000000000}, 1000, 5000000000, 63, by decide +kernel⟩,
   ⟨(SA.setAisl 7 {SA.aisl 7 with strobes := [(2, 4)], blank := some {start := 4, src := 1, ended := none, cfg := 1, long := false, doEnd := 0}}).setChan 63 C1, 1000, 63, by decide +kernel⟩,
   ⟨(SA.setAisl 7 {SA.aisl 7 with strobes := [(2, 4)]}), 1000, 63, ⟨5, 0, none, none, 0, []⟩, by and_intros <;> first | decide +kernel | rfl | (intro u h; cases h)⟩,
   ⟨(SA.setAisl 7 {SA.aisl 7 with strobes := [(2, 4)]}).setChan 63 {C1 with cond := {autorange := true, rangeLo := 0, rangeHi := 5}, spare := some 8, armCount := 20, hdir := 0}, 1000, 63, ⟨0x7FFFFF, 0, some 5, none, 0, []⟩, 8, 3, 5, by and_intros <;> first | decide +kernel | rfl | (intro u h; cases h)⟩,
   ⟨S0, 63, by decide +kernel⟩,
   ⟨(SA.setAisl 7 {SA.aisl 7 with strobes := [(11, 4)]}), 1000, 63, by decide +kernel⟩⟩

/-- What meets the hypotheses of `Obligations.OutputConfiguration`, clause by clause. -/
theorem witness_OutputConfiguration :
    (∃ (s : State) (dt : Nat) (c : Cmd), s.Ready .outputConfigure dt c ∧ Clean c [(32, 7), (40, 4)] 0 ∧ c.u8 32 ≤ 7 ∧ c.u8 33 ≤ 7 ∧ c.u8 34 = 255 ∧ c.u8 35 ≤ 3 ∧ c.u8 36 ≤ 4 ∧ c.u8 37 ≤ 31 ∧ c.u8 38 ≤ 31 ∧ s.anyShorted (c.u8 32) (s.heldSwitches (chanOf c)) = false) ∧
    (∃ (s : State) (dt : Nat) (c : Cmd), s.Ready .outputConfigure dt c ∧ Clean c [(32, 7), (40, 4)] 0 ∧ c.u8 32 ≤ 7 ∧ c.u8 33 ≤ 7 ∧ c.u8 34 ≤ 2 ∧ c.u8 35 ≤ 3 ∧ c.u8 36 = 1 ∧ c.u8 37 ≤ 31 ∧ c.u8 38 ≤ 31 ∧ (c.u8 34 = 0 → (c.u8 35).testBit 0 = false) ∧ outInRange (c.u8 34) (c.w32 40) = false) ∧
    (∃ (s : State) (dt : Nat) (c : Cmd), s.Ready .outputConfigure dt c ∧ Clean c [(32, 7), (40, 4)] 0 ∧ c.u8 32 ≤ 7 ∧ c.u8 33 ≤ 7 ∧ c.u8 34 ≤ 2 ∧ c.u8 35 ≤ 3 ∧ c.u8 36 ≤ 4 ∧ c.u8 37 ≤ 31 ∧ c.u8 38 ≤ 31 ∧ (c.u8 34 = 0 → (c.u8 35).testBit 0 = false ∧ c.u8 36 ≠ 2 ∧ c.u8 36 ≠ 3) ∧ (c.u8 36 = 1 → outInRange (c.u8 34) (c.w32 40) = true) ∧ (s.chan (chanOf c)).cfg.kind = 8 ∧ (s.out (chanOf c)).okind = c.u8 34 ∧ (s.out (chanOf c)).tp = c.u8 37 ∧ (s.out (chanOf c)).tn = c.u8 38 ∧ (s.out (chanOf c)).safeNow = false) ∧
    (∃ (s : State) (dt : Nat) (c : Cmd), s.Ready .outputConfigure dt c ∧ Clean c [(32, 7), (40, 4)] 0 ∧ c.u8 32 ≤ 7 ∧ c.u8 33 ≤ 7 ∧ c.u8 34 ≤ 2 ∧ c.u8 35 ≤ 3 ∧ c.u8 36 ≤ 4 ∧ c.u8 37 ≤ 31 ∧ c.u8 38 ≤ 31 ∧ (c.u8 34 = 0 → (c.u8 35).testBit 0 = false ∧ c.u8 36 ≠ 2 ∧ c.u8 36 ≠ 3) ∧ (c.u8 36 = 1 → outInRange (c.u8 34) (c.w32 40) = true) ∧ (s.chan (chanOf c)).cfg.kind = 8 ∧ (s.out (chanOf c)).okind = c.u8 34 ∧ (s.out (chanOf c)).tp = c.u8 37 ∧ (s.out (chanOf c)).tn = c.u8 38 ∧ (s.out (chanOf c)).safeNow = true) ∧
    (∃ (s : State) (dt : Nat) (n : Nat) (c : Cmd) (env : Env), s.Ready .outputConfigure dt c ∧ Clean c [(32, 7), (40, 4)] 0 ∧ c.u8 32 ≤ 7 ∧ c.u8 33 ≤ 7 ∧ c.u8 34 ≤ 2 ∧ c.u8 35 ≤ 3 ∧ c.u8 36 ≤ 3 ∧ c.u8 37 ≤ 31 ∧ c.u8 38 ≤ 31 ∧ (c.u8 34 = 0 → (c.u8 35).testBit 0 = false ∧ c.u8 36 ≠ 2 ∧ c.u8 36 ≠ 3) ∧ (c.u8 36 = 1 → outInRange (c.u8 34) (c.w32 40) = true) ∧ (s.chan (chanOf c)).cfg.kind ≠ 8 ∧ (s.entered .outputConfigure dt c).pickCell (c.u8 32) (chanOf c) = some n ∧ outConflict (c.u8 32) (chanOf c) (c.u8 37) (c.u8 38) (c.u8 34 = 1) false (s.entered .outputConfigure dt c) = none ∧ (s.entered .outputConfigure dt c).anyShorted (c.u8 32) ((s.entered .outputConfigure dt c).heldSwitches (chanOf c)) = false ∧ env.fails = []) ∧
    (∃ (s : State) (dt : Nat) (n : Nat) (c : Cmd) (env : Env), s.Ready .outputConfigure dt c ∧ Clean c [(32, 7), (40, 4)] 0 ∧ c.u8 32 ≤ 7 ∧ c.u8 33 ≤ 7 ∧ c.u8 34 ≤ 2 ∧ c.u8 35 ≤ 3 ∧ c.u8 36 ≤ 3 ∧ c.u8 37 ≤ 31 ∧ c.u8 38 ≤ 31 ∧ (c.u8 34 = 0 → (c.u8 35).testBit 0 = false ∧ c.u8 36 ≠ 2 ∧ c.u8 36 ≠ 3) ∧ (c.u8 36 = 1 → outInRange (c.u8 34) (c.w32 40) = true) ∧ (s.chan (chanOf c)).cfg.kind ≠ 8 ∧ (s.entered .outputConfigure dt c).pickCell (c.u8 32) (chanOf c) = some n ∧ outConflict (c.u8 32) (chanOf c) (c.u8 37) (c.u8 38) (c.u8 34 = 1) false (s.entered .outputConfigure dt c) = none ∧ (s.entered .outputConfigure dt c).anyShorted (c.u8 32) ((s.entered .outputConfigure dt c).heldSwitches (chanOf c)) = false ∧ env.fails = []) ∧
    (∃ (s : State) (dt : Nat) (c : Cmd), s.Ready .outputFaultClear dt c ∧ Clean c [(32, 2)] 0 ∧ c.u8 32 ≤ 7 ∧ c.u8 33 ≤ 7 ∧ (s.chan (chanOf c)).cfg.kind = 8) ∧
    (∃ (s : State) (dt : Nat) (c : Cmd), s.Ready .outputHoldSet dt c ∧ Clean c [(32, 2)] 0 ∧ c.u8 32 ≤ 7 ∧ c.u8 33 ≤ 250) :=
  ⟨⟨SO, 1000, pk [(32,1,7),(33,1,7),(34,1,255)], by unfold Clean; decide +kernel⟩,
   ⟨SO, 1000, pk [(32,1,7),(33,1,7),(34,1,1),(36,1,1),(40,4,0x41C80000)], by unfold Clean; decide +kernel⟩,
   ⟨SO, 1000, pk [(32,1,7),(33,1,7),(34,1,1),(35,1,3),(36,1,1),(37,1,5),(38,1,6),(40,4,0x41C00000)], by unfold Clean; decide +kernel⟩,
   ⟨SO.setOut 63 {O1 with safeNow := true}, 1000, pk [(32,1,7),(33,1,7),(34,1,1),(35,1,3),(36,1,1),(37,1,5),(38,1,6),(40,4,0x41C00000)], by unfold Clean; decide +kernel⟩,
   ⟨SA, 1000, 7, pk [(32,1,7),(33,1,7),(34,1,1),(35,1,3),(36,1,1),(37,1,5),(38,1,6),(40,4,0x41C00000)], {}, by unfold Clean; decide +kernel⟩,
   ⟨S0.setAisl 0 { linkUp := true, powered := true }, 1000, 0, pk [(32,1,0),(33,1,0),(34,1,2),(35,1,0),(36,1,0),(37,1,0),(38,1,31)], {}, by unfold Clean; decide +kernel⟩,
   ⟨SO, 1000, pk [(32,1,7),(33,1,7)], by unfold Clean; decide +kernel⟩,
   ⟨SO, 1000, pk [(32,1,7),(33,1,250)], by unfold Clean; decide +kernel⟩⟩

/-- What meets the hypotheses of `Obligations.SetPoints`, clause by clause. -/
theorem witness_SetPoints :
    (∃ (s : State) (dt : Nat) (c : Cmd), s.Ready .outputWrite dt c ∧ Clean c [(32, 2), (36, 4)] 0 ∧ c.u8 32 ≤ 7 ∧ c.u8 33 ≤ 7 ∧ (s.chan (chanOf c)).cfg.kind = 8 ∧ outInRange (s.out (chanOf c)).okind (c.w32 36) = true ∧ s.mode .drv = false) ∧
    (∃ (s : State) (dt : Nat) (c : Cmd), s.Ready .outputWrite dt c ∧ Clean c [(32, 2), (36, 4)] 0 ∧ c.u8 32 ≤ 7 ∧ c.u8 33 ≤ 7 ∧ (s.chan (chanOf c)).cfg.kind = 8 ∧ outInRange (s.out (chanOf c)).okind (c.w32 36) = false) ∧
    (∃ (s : State) (dt : Nat) (c : Cmd), s.Ready .outputWrite dt c ∧ Clean c [(32, 2), (36, 4)] 0 ∧ c.u8 32 ≤ 7 ∧ c.u8 33 ≤ 7 ∧ (s.chan (chanOf c)).cfg.kind = 8 ∧ outInRange (s.out (chanOf c)).okind (c.w32 36) = true ∧ s.mode .drv = true ∧ s.outOwned (chanOf c) = false) ∧
    (∃ (s : State) (dt : Nat) (t : Nat) (id : Nat) (ch : Fin 64) (v : Word) (lim : Bool), (s.out ch).staged = some (v, t, some id, lim) ∧ t ≤ s.now + dt ∧ s.linkReaches ch = true ∧ lim = false) ∧
    (∃ (s : State) (dt : Nat) (t : Nat) (id : Nat) (ch : Fin 64) (v : Word) (lim : Bool), (s.out ch).staged = some (v, t, some id, lim) ∧ t ≤ s.now + dt ∧ s.linkReaches ch = true ∧ lim = true) ∧
    (∃ (s : State) (g : Nat), s.mode .drv = true ∧ s.islandDead (g / 8) = false) ∧
    (∃ (s : State) (g : Nat), s.mode .drv = true ∧ s.islandDead (g / 8) = false) ∧
    (∃ (s : State) (g : Nat), s.mode .drv = true ∧ s.islandDead (g / 8) = false) ∧
    (∃ (s : State) (g : Nat), s.mode .drv = true ∧ s.islandDead (g / 8) = false ∧ (s.out g).failLatch = false) ∧
    (∃ (s : State) (g : Nat), s.mode .drv = true ∧ s.islandDead (g / 8) = false ∧ (s.out g).failLatch = false) ∧
    (∃ (s : State) (dt : Nat) (t : Nat) (ch : Fin 64) (v : Word) (id : Option Nat) (lim : Bool), (s.out ch).staged = some (v, t, id, lim) ∧ (s.now + dt < t ∨ s.linkReaches ch = false)) ∧
    (∃ (s : State) (dt : Nat) (n : Nat) (c : Cmd) (env : Env), s.Ready .outputParallel dt c ∧ Clean c [(32, 4)] 0 ∧ c.u8 32 ≤ 7 ∧ c.u8 33 ≤ 7 ∧ c.u8 34 = 0 ∧ c.u8 35 ≤ 16 ∧ (s.chan (chanOf c)).cfg.kind = 8 ∧ (s.out (chanOf c)).okind ≠ 0 ∧ (s.entered .outputParallel dt c).outPlaceFree (chanOf c) = true ∧ (s.entered .outputParallel dt c).pickPart 1 (c.u8 32) 8 = some n ∧ (s.out (chanOf c)).cellB = none ∧ (s.out (chanOf c)).target = none ∧ env.fails = []) ∧
    (∃ (s : State) (dt : Nat) (n : Nat) (c : Cmd) (env : Env), s.Ready .outputParallel dt c ∧ Clean c [(32, 4)] 0 ∧ c.u8 32 ≤ 7 ∧ c.u8 33 ≤ 7 ∧ c.u8 34 = 0 ∧ c.u8 35 ≤ 16 ∧ (s.chan (chanOf c)).cfg.kind = 8 ∧ (s.out (chanOf c)).okind ≠ 0 ∧ (s.entered .outputParallel dt c).outPlaceFree (chanOf c) = true ∧ (s.entered .outputParallel dt c).pickPart 1 (c.u8 32) 8 = some n ∧ (s.out (chanOf c)).cellB = none ∧ (s.out (chanOf c)).target = none ∧ env.fails = []) ∧
    (∃ (s : State) (dt : Nat) (c : Cmd), s.Ready .outputParallel dt c ∧ Clean c [(32, 4)] 0 ∧ c.u8 32 ≤ 7 ∧ c.u8 33 ≤ 7 ∧ c.u8 35 ≤ 16 ∧ (s.chan (chanOf c)).cfg.kind = 8 ∧ (s.out (chanOf c)).okind ≠ 0 ∧ (s.out (chanOf c)).cellB ≠ none ∧ (s.out (chanOf c)).target = none ∧ c.u8 34 = 1) ∧
    (∃ (s : State) (dt : Nat) (c : Cmd), s.Ready .outputParallel dt c ∧ Clean c [(32, 4)] 0 ∧ c.u8 32 ≤ 7 ∧ c.u8 33 ≤ 7 ∧ c.u8 35 ≤ 16 ∧ (s.chan (chanOf c)).cfg.kind = 8 ∧ (s.out (chanOf c)).okind ≠ 0 ∧ (s.out (chanOf c)).cellB ≠ none ∧ (s.out (chanOf c)).target = none ∧ c.u8 34 = 2 ∧ s.anyShorted (c.u8 32) [((s.out (chanOf c)).tp, 20 + (s.out (chanOf c)).cellA.getD 0)] = false) ∧
    (∃ (s : State) (dt : Nat) (c : Cmd), s.Ready .outputParallel dt c ∧ Clean c [(32, 4)] 0 ∧ c.u8 32 ≤ 7 ∧ c.u8 33 ≤ 7 ∧ c.u8 35 ≤ 16 ∧ (s.chan (chanOf c)).cfg.kind = 8 ∧ (s.out (chanOf c)).okind ≠ 0 ∧ (s.out (chanOf c)).cellB ≠ none ∧ (s.out (chanOf c)).target = none ∧ c.u8 34 = 3 ∧ s.anyShorted (c.u8 32) [((s.out (chanOf c)).tp, 20 + (s.out (chanOf c)).cellB.getD 0)] = false) ∧
    (∃ (s : State) (dt : Nat) (c : Cmd), s.Ready .outputParallel dt c ∧ Clean c [(32, 4)] 0 ∧ c.u8 32 ≤ 7 ∧ c.u8 33 ≤ 7 ∧ c.u8 34 ≤ 3 ∧ c.u8 35 ≤ 16 ∧ (s.chan (chanOf c)).cfg.kind = 8 ∧ (s.out (chanOf c)).okind = 0) :=
  ⟨⟨{SO with mod := {S0.mod with cmd := 0x9F7}}, 1000, pk [(32,1,7),(33,1,7),(36,4,0x41C00000)], by unfold Clean; decide +kernel⟩,
   ⟨SO, 1000, pk [(32,1,7),(33,1,7),(36,4,0xBF800000)], by unfold Clean; decide +kernel⟩,
   ⟨SO, 1000, pk [(32,1,7),(33,1,7),(36,4,0x41C00000)], by unfold Clean; decide +kernel⟩,
   ⟨{SO.setOut 63 {O1 with staged := some (0x41C00000, 5000001000, some 3, false)} with cp := {S0.cp with exec := [{ id := 3, op := .outputWrite, c := {pk [] with replyFlow := 0}, cls := 0, fetched := 4, start := 4, mark := 1, phase := .running, jobEnd := 0, fromMaster := none, work := [] }]}}, 1000, 5000001000, 3, 63, 0x41C00000, false, by decide +kernel⟩,
   ⟨{SO.setOut 63 {O1 with staged := some (0x41C00000, 5000001000, some 3, true)} with cp := {S0.cp with exec := [{ id := 3, op := .outputWrite, c := {pk [] with replyFlow := 0}, cls := 0, fetched := 4, start := 4, mark := 1, phase := .running, jobEnd := 0, fromMaster := none, work := [] }]}}, 1000, 5000001000, 3, 63, 0x41C00000, true, by decide +kernel⟩,
   ⟨SO, 63, by decide +kernel⟩,
   ⟨SO, 63, by decide +kernel⟩,
   ⟨SO, 63, by decide +kernel⟩,
   ⟨SO, 63, by decide +kernel⟩,
   ⟨SO.setOut 63 {O1 with ne43 := true}, 63, by decide +kernel⟩,
   ⟨SO.setOut 63 {O1 with staged := some (0x41C00000, 5000001001, some 3, true)}, 1000, 5000001001, 63, 0x41C00000, some 3, true, by decide +kernel⟩,
   ⟨SO, 1000, 8, pk [(32,1,7),(33,1,7),(34,1,0),(35,1,16)], {}, by unfold Clean; decide +kernel⟩,
   ⟨SO, 1000, 8, pk [(32,1,7),(33,1,7),(34,1,0),(35,1,0)], {}, by unfold Clean; decide +kernel⟩,
   ⟨SO.setOut 63 {O1 with cellB := some 6}, 1000, pk [(32,1,7),(33,1,7),(34,1,1),(35,1,16)], by unfold Clean; decide +kernel⟩,
   ⟨SO.setOut 63 {O1 with cellB := some 6}, 1000, pk [(32,1,7),(33,1,7),(34,1,2),(35,1,16)], by unfold Clean; decide +kernel⟩,
   ⟨SO.setOut 63 {O1 with cellB := some 6}, 1000, pk [(32,1,7),(33,1,7),(34,1,3),(35,1,16)], by unfold Clean; decide +kernel⟩,
   ⟨SO.setOut 63 {O1 with okind := 0}, 1000, pk [(32,1,7),(33,1,7),(34,1,3),(35,1,16)], by unfold Clean; decide +kernel⟩⟩

/-- What meets the hypotheses of `Obligations.OutputEvents`, clause by clause. -/
theorem witness_OutputEvents :
    (∃ (s : State) (ch : Fin 64), (s.chan ch).cfg.kind ≠ 8) ∧
    (∃ (s : State) (dt : Nat) (ch : Fin 64) (r : Readback), (s.chan ch).cfg.kind = 8 ∧ (s.out ch).cellA ≠ none ∧ (s.out ch).cellB = none ∧ (s.out ch).target = none ∧ (s.out ch).giveBack = false ∧ (s.out ch).pairBad = none ∧ (s.out ch).changed ≠ 0 ∧ (gridFloor (1200, 1) (s.now + dt)) < (s.out ch).changed + 1000000 ∧ senseFails (s.out ch) r = false ∧ (s.out ch).failLow = false ∧ (s.aisl (ch.val / 8)).powered = true ∧ (s.aisl (ch.val / 8)).onGrid 7 (gridFloor (1200, 1) (s.now + dt)) = true ∧ (∀ u, (s.chan ch).lastAt = some u → u < (gridFloor (1200, 1) (s.now + dt))) ∧ s.mode .acq = true) ∧
    (∃ (s : State) (dt : Nat) (ch : Fin 64) (r : Readback), (s.chan ch).cfg.kind = 8 ∧ (s.out ch).cellA ≠ none ∧ (s.out ch).cellB = none ∧ (s.out ch).target = none ∧ (s.out ch).giveBack = false ∧ (s.out ch).pairBad = none ∧ (s.out ch).changed ≠ 0 ∧ (gridFloor (1200, 1) (s.now + dt)) < (s.out ch).changed + 1000000 ∧ senseFails (s.out ch) r = false ∧ (s.out ch).failLow = false ∧ (s.aisl (ch.val / 8)).powered = true ∧ (s.aisl (ch.val / 8)).onGrid 7 (gridFloor (1200, 1) (s.now + dt)) = true ∧ (∀ u, (s.chan ch).lastAt = some u → u < (gridFloor (1200, 1) (s.now + dt))) ∧ s.mode .acq = false) ∧
    (∃ (s : State) (g : Nat) (r : Readback), outFails (s.out g) r = true ∧ (s.out g).compliance = false ∧ (s.out g).fails = 3) ∧
    (∃ (s : State) (g : Nat) (r : Readback), outFails (s.out g) r = true ∧ (s.out g).compliance = false ∧ (s.out g).fails < 3) ∧
    (∃ (i : Fin 14), i.val < 8) ∧
    (∃ (i : Fin 14), 8 ≤ i.val) ∧
    (∃ (s : State) (i : Fin 14), i.val < 8 ∧ (s.aisl i).quiet = false) ∧
    (∃ (s : State) (i : Fin 14), 8 ≤ i.val ∧ (s.disl (i.val - 8)).quiet = false) ∧
    (∃ (s : State) (i : Fin 14), i.val < 8 ∧ (s.aisl i).powered = true) ∧
    (∃ (s : State) (i : Fin 14), 8 ≤ i.val ∧ (s.disl (i - 8)).powered = true) ∧
    (∃ (s : State) (dt : Nat) (t : Nat) (i : Fin 8), (s.aisl i).silent = some t ∧ t + 20000000 * (s.aisl i).hold ≤ s.now + dt) ∧
    (∃ (s : State) (dt : Nat) (t : Nat) (i : Fin 8), (s.aisl i).silent = some t ∧ s.now + dt < t + 20000000 * (s.aisl i).hold) ∧
    (∃ (s : State) (mv : Nat) (level : Nat) (ch : Fin 64) (w : Swap), s.cellSwap ch = some w ∧ w.method = 1 ∧ ((s.chan ch).cfg.kind = 8 ∨ (s.chan ch).cfg.emode = 3) ∧ 10000 + level < 1000 * mv) ∧
    (∃ (s : State) (mv : Nat) (level : Nat) (ch : Fin 64) (env : Env) (w : Swap), s.cellSwap ch = some w ∧ w.method = 1 ∧ ((s.chan ch).cfg.kind = 8 ∨ (s.chan ch).cfg.emode = 3) ∧ env.fails = [] ∧ 1000 * mv ≤ 10000 + level ∧ (s.chan ch).cfg.kind = 8) ∧
    (∃ (s : State) (mv : Nat) (level : Nat) (ch : Fin 64) (env : Env) (w : Swap), s.cellSwap ch = some w ∧ w.method = 1 ∧ ((s.chan ch).cfg.kind = 8 ∨ (s.chan ch).cfg.emode = 3) ∧ env.fails = [] ∧ 1000 * mv ≤ 10000 + level ∧ (s.chan ch).cfg.kind ≠ 8) :=
  ⟨⟨S0, 63, by decide +kernel⟩,
   ⟨SOs.setOut 63 {O1 with changed := 4999900000}, 1000, 63, rdb, by decide +kernel⟩,
   ⟨{SOs.setOut 63 {O1 with changed := 4999900000} with mod := SAo.mod}, 1000, 63, rdb, by decide +kernel⟩,
   ⟨SO.setOut 63 {O1 with fails := 3}, 63, {rdb with rbi := 0, cellA := 0}, by decide +kernel⟩,
   ⟨SO.setOut 63 {O1 with fails := 2}, 63, {rdb with rbi := 0, cellA := 0}, by decide +kernel⟩,
   ⟨7, by decide +kernel⟩,
   ⟨13, by decide +kernel⟩,
   ⟨SO, 7, by decide +kernel⟩,
   ⟨S0.setPin 159 P15, 13, by decide +kernel⟩,
   ⟨SO, 7, by decide +kernel⟩,
   ⟨S0.setDisl 5 {powered := true}, 13, by decide +kernel⟩,
   ⟨SO.setAisl 7 {silent := some 4980001000, hold := 1, powered := true}, 1000, 4980001000, 7, by decide +kernel⟩,
   ⟨SO.setAisl 7 {silent := some 4980001001, hold := 1, powered := true}, 1000, 4980001001, 7, by decide +kernel⟩,
   ⟨{SO with spr := {swaps := [swp]}}, 11, 999, 63, swp, by decide +kernel⟩,
   ⟨{SO with spr := {swaps := [swp]}}, 11, 1000, 63, {}, swp, by decide +kernel⟩,
   ⟨{SA.setChan 63 {C1 with cfg := {C1.cfg with kind := 2, emode := 3}} with spr := {swaps := [swp]}}, 11, 1000, 63, {}, swp, by decide +kernel⟩⟩

/-- What meets the hypotheses of `Obligations.DigitalPinCommands`, clause by clause. -/
theorem witness_DigitalPinCommands :
    (∃ (s : State) (dt : Nat) (c : Cmd), s.Ready .pinConfigure dt c ∧ Clean c [(32, 8)] 0 ∧ c.u8 32 ≤ 5 ∧ c.u8 33 ≤ 15 ∧ (pinCfgOf c).mode ≤ 5 ∧ c.u8 35 ≤ 63 ∧ (pinCfgOf c).edge ≤ 2 ∧ (pinCfgOf c).gate ≤ 3 ∧ (pinCfgOf c).safeMode ≤ 2 ∧ ((pinCfgOf c).filter < 1 ∨ 400 < (pinCfgOf c).filter)) ∧
    (∃ (s : State) (dt : Nat) (c : Cmd), s.Ready .pinConfigure dt c ∧ Clean c [(32, 8)] 0 ∧ c.u8 32 ≤ 5 ∧ c.u8 33 ≤ 15 ∧ (pinCfgOf c).mode ≤ 5 ∧ c.u8 35 ≤ 63 ∧ (pinCfgOf c).edge ≤ 2 ∧ (pinCfgOf c).gate ≤ 3 ∧ (pinCfgOf c).safeMode ≤ 2 ∧ ((pinCfgOf c).filter < 1 ∨ 400 < (pinCfgOf c).filter)) ∧
    (∃ (s : State) (dt : Nat) (c : Cmd), s.Ready .pinConfigure dt c ∧ Clean c [(32, 8)] 0 ∧ c.u8 32 ≤ 5 ∧ c.u8 33 ≤ 15 ∧ (pinCfgOf c).mode ≤ 5 ∧ c.u8 35 ≤ 63 ∧ (pinCfgOf c).edge ≤ 2 ∧ (pinCfgOf c).gate ≤ 3 ∧ (pinCfgOf c).safeMode ≤ 2 ∧ 1 ≤ (pinCfgOf c).filter ∧ (pinCfgOf c).filter ≤ 400 ∧ (pinCfgOf c).mode ≠ ((startMode (64 + c.u8 32 * 16 + c.u8 33) (s.entered .pinConfigure dt c)).pin (64 + c.u8 32 * 16 + c.u8 33)).cfg.mode ∧ (startMode (64 + c.u8 32 * 16 + c.u8 33) (s.entered .pinConfigure dt c)).gmode (64 + c.u8 32 * 16 + c.u8 33) ≠ 0) ∧
    (∃ (s : State) (dt : Nat) (c : Cmd), s.Ready .pinConfigure dt c ∧ Clean c [(32, 8)] 0 ∧ c.u8 32 ≤ 5 ∧ c.u8 33 ≤ 15 ∧ (pinCfgOf c).mode ≤ 5 ∧ c.u8 35 ≤ 63 ∧ (pinCfgOf c).edge ≤ 2 ∧ (pinCfgOf c).gate ≤ 3 ∧ (pinCfgOf c).safeMode ≤ 2 ∧ 1 ≤ (pinCfgOf c).filter ∧ (pinCfgOf c).filter ≤ 400 ∧ ((pinCfgOf c).mode = ((startMode (64 + c.u8 32 * 16 + c.u8 33) (s.entered .pinConfigure dt c)).pin (64 + c.u8 32 * 16 + c.u8 33)).cfg.mode ∨ (startMode (64 + c.u8 32 * 16 + c.u8 33) (s.entered .pinConfigure dt c)).gmode (64 + c.u8 32 * 16 + c.u8 33) = 0) ∧ (pinCfgOf c).fieldsOk = false) ∧
    (∃ (s : State) (dt : Nat) (c : Cmd), s.Ready .pinConfigure dt c ∧ Clean c [(32, 8)] 0 ∧ c.u8 32 ≤ 5 ∧ c.u8 33 ≤ 15 ∧ (pinCfgOf c).mode ≤ 5 ∧ c.u8 35 ≤ 63 ∧ (pinCfgOf c).edge ≤ 2 ∧ (pinCfgOf c).gate ≤ 3 ∧ (pinCfgOf c).safeMode ≤ 2 ∧ 1 ≤ (pinCfgOf c).filter ∧ (pinCfgOf c).filter ≤ 400 ∧ (pinCfgOf c).fieldsOk = true ∧ (pinCfgOf c).mode = ((startMode (64 + c.u8 32 * 16 + c.u8 33) (s.entered .pinConfigure dt c)).pin (64 + c.u8 32 * 16 + c.u8 33)).cfg.mode ∧ ((startMode (64 + c.u8 32 * 16 + c.u8 33) (s.entered .pinConfigure dt c)).pin (64 + c.u8 32 * 16 + c.u8 33)).safeNow = false) ∧
    (∃ (s : State) (dt : Nat) (c : Cmd), s.Ready .pinConfigure dt c ∧ Clean c [(32, 8)] 0 ∧ c.u8 32 ≤ 5 ∧ c.u8 33 ≤ 15 ∧ (pinCfgOf c).mode ≤ 5 ∧ c.u8 35 ≤ 63 ∧ (pinCfgOf c).edge ≤ 2 ∧ (pinCfgOf c).gate ≤ 3 ∧ (pinCfgOf c).safeMode ≤ 2 ∧ 1 ≤ (pinCfgOf c).filter ∧ (pinCfgOf c).filter ≤ 400 ∧ (pinCfgOf c).fieldsOk = true ∧ (pinCfgOf c).mode = ((startMode (64 + c.u8 32 * 16 + c.u8 33) (s.entered .pinConfigure dt c)).pin (64 + c.u8 32 * 16 + c.u8 33)).cfg.mode ∧ ((startMode (64 + c.u8 32 * 16 + c.u8 33) (s.entered .pinConfigure dt c)).pin (64 + c.u8 32 * 16 + c.u8 33)).safeNow = false) ∧
    (∃ (s : State) (dt : Nat) (c : Cmd), s.Ready .pinConfigure dt c ∧ Clean c [(32, 8)] 0 ∧ c.u8 32 ≤ 5 ∧ c.u8 33 ≤ 15 ∧ (pinCfgOf c).mode ≤ 5 ∧ c.u8 35 ≤ 63 ∧ (pinCfgOf c).edge ≤ 2 ∧ (pinCfgOf c).gate ≤ 3 ∧ (pinCfgOf c).safeMode ≤ 2 ∧ 1 ≤ (pinCfgOf c).filter ∧ (pinCfgOf c).filter ≤ 400 ∧ (pinCfgOf c).fieldsOk = true ∧ (pinCfgOf c).mode = ((startMode (64 + c.u8 32 * 16 + c.u8 33) (s.entered .pinConfigure dt c)).pin (64 + c.u8 32 * 16 + c.u8 33)).cfg.mode ∧ ((startMode (64 + c.u8 32 * 16 + c.u8 33) (s.entered .pinConfigure dt c)).pin (64 + c.u8 32 * 16 + c.u8 33)).safeNow = true) ∧
    (∃ (s : State) (dt : Nat) (c : Cmd), s.Ready .pinConfigure dt c ∧ Clean c [(32, 8)] 0 ∧ c.u8 32 ≤ 5 ∧ c.u8 33 ≤ 15 ∧ (pinCfgOf c).mode ≤ 5 ∧ c.u8 35 ≤ 63 ∧ (pinCfgOf c).edge ≤ 2 ∧ (pinCfgOf c).gate ≤ 3 ∧ (pinCfgOf c).safeMode ≤ 2 ∧ 1 ≤ (pinCfgOf c).filter ∧ (pinCfgOf c).filter ≤ 400 ∧ (pinCfgOf c).fieldsOk = true ∧ (pinCfgOf c).mode ≠ ((startMode (64 + c.u8 32 * 16 + c.u8 33) (s.entered .pinConfigure dt c)).pin (64 + c.u8 32 * 16 + c.u8 33)).cfg.mode ∧ (startMode (64 + c.u8 32 * 16 + c.u8 33) (s.entered .pinConfigure dt c)).gmode (64 + c.u8 32 * 16 + c.u8 33) = 0) ∧
    (∃ (s : State) (g : Nat) (n : ModeNext), (s.pin g).modeNext = some n ∧ s.now < n.due) ∧
    (∃ (s : State) (g : Nat) (n : ModeNext), (s.pin g).modeNext = some n ∧ n.due ≤ s.now ∧ n.cfg.mode ≠ 5) ∧
    (∃ (s : State) (g : Nat) (n : ModeNext), (s.pin g).modeNext = some n ∧ n.due ≤ s.now ∧ n.cfg.mode = 5 ∧ s.gmode g = 0 ∧ s.mode .drv = true) ∧
    (∃ (s : State) (dt : Nat) (c : Cmd), s.Ready .pinRead dt c ∧ Clean c [(32, 2)] 0 ∧ c.u8 32 ≤ 5 ∧ c.u8 33 ≤ 15) ∧
    (∃ (s : State) (dt : Nat) (c : Cmd), s.Ready .counterReset dt c ∧ Clean c [(32, 1), (34, 2)] 0 ∧ c.u8 32 ≤ 5) ∧
    (∃ (s : State) (dt : Nat) (c : Cmd), s.Ready .groupConfigure dt c ∧ Clean c [(32, 3)] 0 ∧ c.u8 32 ≤ 5 ∧ c.u8 33 ≤ 3 ∧ c.u8 34 ≤ 2 ∧ (c.u8 34 ≠ 0 ∧ ∃ k, k < 4 ∧ (s.pin (64 + c.u8 32 * 16 + c.u8 33 * 4 + k)).cfg.mode ≠ 5)) ∧
    (∃ (s : State) (dt : Nat) (o : Nat) (c : Cmd), s.Ready .groupConfigure dt c ∧ Clean c [(32, 3)] 0 ∧ c.u8 32 ≤ 5 ∧ c.u8 33 ≤ 3 ∧ c.u8 34 ≤ 2 ∧ (c.u8 34 ≠ 0 → ∀ k, k < 4 → (s.pin (64 + c.u8 32 * 16 + c.u8 33 * 4 + k)).cfg.mode = 5 ∧ (s.pin (64 + c.u8 32 * 16 + c.u8 33 * 4 + k)).owner = o) ∧ (s.disl (c.u8 32)).gmode.getD (c.u8 33) 0 = c.u8 34) ∧
    (∃ (s : State) (dt : Nat) (o : Nat) (c : Cmd), s.Ready .groupConfigure dt c ∧ Clean c [(32, 3)] 0 ∧ c.u8 32 ≤ 5 ∧ c.u8 33 ≤ 3 ∧ c.u8 34 ≤ 2 ∧ (c.u8 34 ≠ 0 → ∀ k, k < 4 → (s.pin (64 + c.u8 32 * 16 + c.u8 33 * 4 + k)).cfg.mode = 5 ∧ (s.pin (64 + c.u8 32 * 16 + c.u8 33 * 4 + k)).owner = o) ∧ (s.disl (c.u8 32)).gmode.getD (c.u8 33) 0 ≠ c.u8 34 ∧ (∃ k, k < 4 ∧ (s.pin (64 + c.u8 32 * 16 + c.u8 33 * 4 + k)).driven = true)) ∧
    (∃ (s : State) (dt : Nat) (o : Nat) (c : Cmd), s.Ready .groupConfigure dt c ∧ Clean c [(32, 3)] 0 ∧ c.u8 32 ≤ 5 ∧ c.u8 33 ≤ 3 ∧ c.u8 34 ≤ 2 ∧ (c.u8 34 ≠ 0 → ∀ k, k < 4 → (s.pin (64 + c.u8 32 * 16 + c.u8 33 * 4 + k)).cfg.mode = 5 ∧ (s.pin (64 + c.u8 32 * 16 + c.u8 33 * 4 + k)).owner = o) ∧ (s.disl (c.u8 32)).gmode.getD (c.u8 33) 0 ≠ c.u8 34 ∧ (∀ k, k < 4 → (s.pin (64 + c.u8 32 * 16 + c.u8 33 * 4 + k)).driven = false) ∧ c.u8 33 < (s.disl (c.u8 32)).gmode.length) ∧
    (∃ (s : State) (dt : Nat) (o : Nat) (c : Cmd), s.Ready .groupConfigure dt c ∧ Clean c [(32, 3)] 0 ∧ c.u8 32 ≤ 5 ∧ c.u8 33 ≤ 3 ∧ c.u8 34 ≤ 2 ∧ (c.u8 34 ≠ 0 → ∀ k, k < 4 → (s.pin (64 + c.u8 32 * 16 + c.u8 33 * 4 + k)).cfg.mode = 5 ∧ (s.pin (64 + c.u8 32 * 16 + c.u8 33 * 4 + k)).owner = o) ∧ (s.disl (c.u8 32)).gmode.getD (c.u8 33) 0 ≠ c.u8 34 ∧ (∀ k, k < 4 → (s.pin (64 + c.u8 32 * 16 + c.u8 33 * 4 + k)).driven = false) ∧ c.u8 33 < (s.disl (c.u8 32)).gmode.length) ∧
    (∃ (s : State) (dt : Nat) (c : Cmd), s.Ready .digitalFaultClear dt c ∧ Clean c [(32, 1), (34, 2)] 0 ∧ c.u8 32 ≤ 5) ∧
    (∃ (s : State) (dt : Nat) (c : Cmd), s.Ready .digitalHoldSet dt c ∧ Clean c [(32, 2)] 0 ∧ c.u8 32 ≤ 5 ∧ c.u8 33 ≤ 250) :=
  ⟨⟨S0, 1000, pk [(32,1,5),(33,1,15),(36,2,401)], by unfold Clean; decide +kernel⟩,
   ⟨S0, 1000, pk [(32,1,5),(33,1,15),(36,2,0)], by unfold Clean; decide +kernel⟩,
   ⟨(S0.setDisl 5 {gmode := [0,0,0,2]}).setPin 159 P15, 1000, pk [(32,1,5),(33,1,15),(36,2,1)], by unfold Clean; decide +kernel⟩,
   ⟨S0, 1000, pk [(32,1,5),(33,1,15),(34,1,3),(36,2,1),(38,1,2),(39,1,2)], by unfold Clean; decide +kernel⟩,
   ⟨S0, 1000, pk [(32,1,5),(33,1,15),(36,2,400)], by unfold Clean; decide +kernel⟩,
   ⟨S0.setPin 159 {cfg := {mode := 5}, driven := true}, 1000, pk [(32,1,5),(33,1,15),(34,1,5),(35,1,10),(36,2,1),(39,1,2)], by unfold Clean; decide +kernel⟩,
   ⟨S0.setPin 159 {P15 with safeNow := true, held := true}, 1000, pk [(32,1,5),(33,1,15),(34,1,5),(35,1,10),(36,2,1),(39,1,2)], by unfold Clean; decide +kernel⟩,
   ⟨S0.setPin 159 {cfg := {mode := 5}, owner := 3}, 1000, pk [(32,1,5),(33,1,15),(36,2,1)], by unfold Clean; decide +kernel⟩,
   ⟨S0.setPin 159 {modeNext := some {cfg := {mode := 5}, old := {}, due := 5000000001, cmd := 3}}, 159, {cfg := {mode := 5}, old := {}, due := 5000000001, cmd := 3}, by decide +kernel⟩,
   ⟨S0.setPin 159 {modeNext := some {cfg := {mode := 4}, old := {}, due := 5000000000, cmd := 3}}, 159, {cfg := {mode := 4}, old := {}, due := 5000000000, cmd := 3}, by decide +kernel⟩,
   ⟨S0.setPin 159 {modeNext := some {cfg := {mode := 5}, old := {}, due := 5000000000, cmd := 3}}, 159, {cfg := {mode := 5}, old := {}, due := 5000000000, cmd := 3}, by decide +kernel⟩,
   ⟨S0.setPin 159 {cfg := {mode := 5}, level := true}, 1000, pk [(32,1,5),(33,1,15)], by unfold Clean; decide +kernel⟩,
   ⟨S0.setPin 159 {cfg := {mode := 5}, latched := true}, 1000, pk [(32,1,5),(34,2,0xFFFF)], by unfold Clean; decide +kernel⟩,
   ⟨S0, 1000, pk [(32,1,5),(33,1,3),(34,1,2)], by unfold Clean; decide +kernel⟩,
   ⟨S0.setDisl 5 {gmode := [0,0,0,0]}, 1000, 0, pk [(32,1,5),(33,1,3),(34,1,0)], by unfold Clean; decide +kernel⟩,
   ⟨(S0.setDisl 5 {gmode := [0,0,0,2]}).setPin 159 {P15 with driven := true}, 1000, 0, pk [(32,1,5),(33,1,3),(34,1,0)], by unfold Clean; decide +kernel⟩,
   ⟨(((S0.setPin 156 P15).setPin 157 P15).setPin 158 P15).setPin 159 P15, 1000, 1, pk [(32,1,5),(33,1,3),(34,1,2)], by unfold Clean; decide +kernel⟩,
   ⟨S0.setDisl 0 {gmode := [2,0,0,0]}, 1000, 0, pk [(32,1,0),(33,1,0),(34,1,0)], by unfold Clean; decide +kernel⟩,
   ⟨S0.setPin 159 {cfg := {mode := 3}, count := 9}, 1000, pk [(32,1,5),(34,2,0xFFFF)], by unfold Clean; decide +kernel⟩,
   ⟨S0, 1000, pk [(32,1,5),(33,1,250)], by unfold Clean; decide +kernel⟩⟩

/-- What meets the hypotheses of `Obligations.DigitalWritesAndSamples`, clause by clause. -/
theorem witness_DigitalWritesAndSamples :
    (∃ (s : State) (dt : Nat) (c : Cmd), s.Ready .digitalWrite dt c ∧ Clean c [(32, 1), (34, 4)] 0 ∧ c.u8 32 ≤ 5 ∧ s.mode .drv = false) ∧
    (∃ (s : State) (dt : Nat) (c : Cmd), s.Ready .digitalWrite dt c ∧ Clean c [(32, 1), (34, 4)] 0 ∧ c.u8 32 ≤ 5 ∧ s.mode .drv = true ∧ (s.mode .ctl = true ∨ ∃ g, g ∈ (maskPins (c.u8 32) (c.u16 34)) ∧ (s.pin (s.groupBase g)).owner ≠ 1)) ∧
    (∃ (s : State) (dt : Nat) (c : Cmd), s.Ready .digitalWrite dt c ∧ Clean c [(32, 1), (34, 4)] 0 ∧ c.u8 32 ≤ 5 ∧ s.mode .drv = true ∧ s.mode .ctl = false ∧ (∀ g, g ∈ (maskPins (c.u8 32) (c.u16 34)) → (s.pin (s.groupBase g)).owner = 1) ∧ (∃ g, g ∈ (maskPins (c.u8 32) (c.u16 34)) ∧ s.groupBase g ≠ g)) ∧
    (∃ (s : State) (dt : Nat) (c : Cmd), s.Ready .digitalWrite dt c ∧ Clean c [(32, 1), (34, 4)] 0 ∧ c.u8 32 ≤ 5 ∧ s.mode .drv = true ∧ s.mode .ctl = false ∧ (maskPins (c.u8 32) (c.u16 34)) = []) ∧
    (∃ (s : State) (dt : Nat) (c : Cmd), s.Ready .digitalWrite dt c ∧ Clean c [(32, 1), (34, 4)] 0 ∧ c.u8 32 ≤ 5 ∧ s.mode .drv = true ∧ s.mode .ctl = false ∧ (∀ g, g ∈ (maskPins (c.u8 32) (c.u16 34)) → (s.pin g).owner = 1 ∧ s.groupBase g = g) ∧ (maskPins (c.u8 32) (c.u16 34)) ≠ []) ∧
    (∃ (s : State) (dt : Nat) (t : Nat) (p : Fin 96) (v : Bool) (id : Option Nat), (s.pin (64 + p.val)).staged = some (v, t, id) ∧ (s.pin (64 + p.val)).modeNext = none ∧ (s.pin (64 + p.val)).moveAt = none ∧ (s.pin (s.groupBase (64 + p.val))).moveAt = none ∧ (s.now + dt < t ∨ s.dislReached (pinIsl (64 + p.val)) = false)) ∧
    (∃ (s : State) (dt : Nat) (t : Nat) (p : Fin 96) (v : Bool) (id : Option Nat), (s.pin (64 + p.val)).staged = some (v, t, id) ∧ (s.pin (64 + p.val)).modeNext = none ∧ (s.pin (64 + p.val)).moveAt = none ∧ (s.pin (s.groupBase (64 + p.val))).moveAt = none ∧ t ≤ s.now + dt ∧ s.dislReached (pinIsl (64 + p.val)) = true ∧ s.preOf (pinIsl (64 + p.val)) = 0 ∧ id = none) ∧
    (∃ (s : State) (dt : Nat) (t : Nat) (p : Fin 96) (v : Bool) (id : Option Nat) (k : _), (s.pin (64 + p.val)).staged = some (v, t, id) ∧ (s.pin (64 + p.val)).modeNext = none ∧ (s.pin (64 + p.val)).moveAt = none ∧ (s.pin (s.groupBase (64 + p.val))).moveAt = none ∧ t ≤ s.now + dt ∧ s.dislReached (pinIsl (64 + p.val)) = true ∧ s.preOf (pinIsl (64 + p.val)) = 0 ∧ id = some k) ∧
    (∃ (s : State) (dt : Nat) (t : Nat) (p : Fin 96) (v : Bool) (id : Option Nat) (k : _), (s.pin (64 + p.val)).staged = some (v, t, id) ∧ (s.pin (64 + p.val)).modeNext = none ∧ (s.pin (64 + p.val)).moveAt = none ∧ (s.pin (s.groupBase (64 + p.val))).moveAt = none ∧ id = some k ∧ t ≤ s.now + dt ∧ s.dislReached (pinIsl (64 + p.val)) = true ∧ s.preOf (pinIsl (64 + p.val)) ≠ 0 ∧ s.gmode (64 + p.val) = 0 ∧ s.mode .drv = true ∧ s.islandDead (8 + pinIsl (64 + p.val)) = false ∧ (s.pin (64 + p.val)).cfg.mode = 5 ∧ (s.pin (64 + p.val)).protectedOff = false ∧ (s.pin (64 + p.val)).latched = false ∧ (s.pin (64 + p.val)).driven ≠ v) ∧
    (∃ (s : State) (g : Nat), s.dislReached (pinIsl g) = true ∧ s.preOf (pinIsl g) = 0 ∧ s.gmode g = 0 ∧ s.mode .drv = true ∧ s.islandDead (8 + pinIsl g) = false ∧ (s.pin g).cfg.mode = 5 ∧ (s.pin g).protectedOff = false ∧ (s.pin g).latched = false) ∧
    (∃ (s : State) (g : Nat) (t : Nat) (id : Nat), (s.pin (s.groupBase g)).moveAt = some t ∧ (s.pin (s.groupBase g)).moveCmd = some id ∧ t ≤ s.now) ∧
    (∃ (s : State) (g : Nat) (t : Nat) (id : Nat), (s.pin (s.groupBase g)).moveAt = some t ∧ (s.pin (s.groupBase g)).moveCmd = some id ∧ s.now < t) ∧
    (∃ (s : State) (dt : Nat) (since : Nat) (p : Fin 96), since < 50000 * ((startMode (64 + p.val) (s.advance dt)).pin (64 + p.val)).cfg.filter) ∧
    (∃ (s : State) (dt : Nat) (since : Nat) (p : Fin 96) (v : Bool), (((startMode (64 + p.val) (s.advance dt)).pin (64 + p.val)).cfg.mode = 1 ∨ ((startMode (64 + p.val) (s.advance dt)).pin (64 + p.val)).cfg.mode = 2 ∨ ((startMode (64 + p.val) (s.advance dt)).pin (64 + p.val)).cfg.mode = 5) ∧ ((startMode (64 + p.val) (s.advance dt)).pin (64 + p.val)).accepted ≠ v ∧ 50000 * ((startMode (64 + p.val) (s.advance dt)).pin (64 + p.val)).cfg.filter ≤ since ∧ ((startMode (64 + p.val) (s.advance dt)).disl (pinIsl (64 + p.val))).powered = true) ∧
    (∃ (s : State) (dt : Nat) (p : Fin 96), (((startMode (64 + p.val) (s.advance dt)).pin (64 + p.val)).cfg.mode = 1 ∨ ((startMode (64 + p.val) (s.advance dt)).pin (64 + p.val)).cfg.mode = 2 ∨ ((startMode (64 + p.val) (s.advance dt)).pin (64 + p.val)).cfg.mode = 5) ∧ ((startMode (64 + p.val) (s.advance dt)).disl (pinIsl (64 + p.val))).powered = true ∧ (∀ t, ((startMode (64 + p.val) (s.advance dt)).pin (64 + p.val)).lastAt = some t → t + 100000000 ≤ (startMode (64 + p.val) (s.advance dt)).now)) ∧
    (∃ (s : State) (dt : Nat) (p : Fin 96) (t : _), (((startMode (64 + p.val) (s.advance dt)).pin (64 + p.val)).cfg.mode = 1 ∨ ((startMode (64 + p.val) (s.advance dt)).pin (64 + p.val)).cfg.mode = 2 ∨ ((startMode (64 + p.val) (s.advance dt)).pin (64 + p.val)).cfg.mode = 5) ∧ ((startMode (64 + p.val) (s.advance dt)).disl (pinIsl (64 + p.val))).powered = true ∧ ((startMode (64 + p.val) (s.advance dt)).pin (64 + p.val)).lastAt = some t ∧ (startMode (64 + p.val) (s.advance dt)).now < t + 100000000) ∧
    (∃ (s : State) (dt : Nat) (p : Fin 96) (r : Bool), ((startMode (64 + p.val) (s.advance dt)).disl (pinIsl (64 + p.val))).powered = true ∧ ((startMode (64 + p.val) (s.advance dt)).pin (64 + p.val)).cfg.mode = 3 ∧ ((((startMode (64 + p.val) (s.advance dt)).pin (64 + p.val)).cfg.edge = 0 ∧ r = true) ∨ (((startMode (64 + p.val) (s.advance dt)).pin (64 + p.val)).cfg.edge = 1 ∧ r = false) ∨ 2 ≤ ((startMode (64 + p.val) (s.advance dt)).pin (64 + p.val)).cfg.edge)) ∧
    (∃ (s : State) (dt : Nat) (p : Fin 96) (r : Bool), ((startMode (64 + p.val) (s.advance dt)).disl (pinIsl (64 + p.val))).powered = true ∧ ((startMode (64 + p.val) (s.advance dt)).pin (64 + p.val)).cfg.mode = 3 ∧ ((((startMode (64 + p.val) (s.advance dt)).pin (64 + p.val)).cfg.edge = 0 ∧ r = false) ∨ (((startMode (64 + p.val) (s.advance dt)).pin (64 + p.val)).cfg.edge = 1 ∧ r = true))) ∧
    (∃ (s : State) (dt : Nat) (p : Fin 96) (r : Bool) (a : _) (b : _), ((startMode (64 + p.val) (s.advance dt)).disl (pinIsl (64 + p.val))).powered = true ∧ ((startMode (64 + p.val) (s.advance dt)).pin (64 + p.val)).cfg.mode = 4 ∧ r = true ∧ ((startMode (64 + p.val) (s.advance dt)).pin (64 + p.val)).gateEdges = (0, a, b)) ∧
    (∃ (s : State) (dt : Nat) (p : Fin 96) (r : Bool) (n : _) (a : _) (b : _), ((startMode (64 + p.val) (s.advance dt)).disl (pinIsl (64 + p.val))).powered = true ∧ ((startMode (64 + p.val) (s.advance dt)).pin (64 + p.val)).cfg.mode = 4 ∧ r = true ∧ ((startMode (64 + p.val) (s.advance dt)).pin (64 + p.val)).gateEdges = (n + 1, a, b)) ∧
    (∃ (s : State) (dt : Nat) (p : Fin 96), ((startMode (64 + p.val) (s.advance dt)).pin (64 + p.val)).cfg.mode = 3 ∧ ((startMode (64 + p.val) (s.advance dt)).disl (pinIsl (64 + p.val))).powered = true ∧ (∀ t, ((startMode (64 + p.val) (s.advance dt)).pin (64 + p.val)).lastAt = some t → t + 10000000 ≤ (startMode (64 + p.val) (s.advance dt)).now)) ∧
    (∃ (s : State) (dt : Nat) (p : Fin 96) (t : _), ((startMode (64 + p.val) (s.advance dt)).pin (64 + p.val)).cfg.mode = 3 ∧ ((startMode (64 + p.val) (s.advance dt)).disl (pinIsl (64 + p.val))).powered = true ∧ ((startMode (64 + p.val) (s.advance dt)).pin (64 + p.val)).lastAt = some t ∧ (startMode (64 + p.val) (s.advance dt)).now < t + 10000000) ∧
    (∃ (s : State) (dt : Nat) (n : Nat) (a : Nat) (b : Nat) (p : Fin 96), ((startMode (64 + p.val) (s.advance dt)).pin (64 + p.val)).cfg.mode = 4 ∧ ((startMode (64 + p.val) (s.advance dt)).pin (64 + p.val)).gateEdges = (n, a, b) ∧ ((startMode (64 + p.val) (s.advance dt)).disl (pinIsl (64 + p.val))).powered = true ∧ (startMode (64 + p.val) (s.advance dt)).now < ((startMode (64 + p.val) (s.advance dt)).pin (64 + p.val)).gateStart + gateTime ((startMode (64 + p.val) (s.advance dt)).pin (64 + p.val)).cfg.gate) ∧
    (∃ (s : State) (dt : Nat) (n : Nat) (a : Nat) (b : Nat) (p : Fin 96), ((startMode (64 + p.val) (s.advance dt)).pin (64 + p.val)).cfg.mode = 4 ∧ ((startMode (64 + p.val) (s.advance dt)).pin (64 + p.val)).gateEdges = (n, a, b) ∧ ((startMode (64 + p.val) (s.advance dt)).disl (pinIsl (64 + p.val))).powered = true ∧ ((startMode (64 + p.val) (s.advance dt)).pin (64 + p.val)).gateStart + gateTime ((startMode (64 + p.val) (s.advance dt)).pin (64 + p.val)).cfg.gate ≤ (startMode (64 + p.val) (s.advance dt)).now ∧ n < 2) ∧
    (∃ (s : State) (dt : Nat) (n : Nat) (a : Nat) (b : Nat) (p : Fin 96), ((startMode (64 + p.val) (s.advance dt)).pin (64 + p.val)).cfg.mode = 4 ∧ ((startMode (64 + p.val) (s.advance dt)).pin (64 + p.val)).gateEdges = (n, a, b) ∧ ((startMode (64 + p.val) (s.advance dt)).disl (pinIsl (64 + p.val))).powered = true ∧ ((startMode (64 + p.val) (s.advance dt)).pin (64 + p.val)).gateStart + gateTime ((startMode (64 + p.val) (s.advance dt)).pin (64 + p.val)).cfg.gate ≤ (startMode (64 + p.val) (s.advance dt)).now ∧ 2 ≤ n ∧ a < b) :=
  ⟨⟨{S0 with mod := {S0.mod with cmd := 0x9F7}}, 1000, pk [(32,1,5),(34,2,0xFFFF),(36,2,1)], by unfold Clean; decide +kernel⟩,
   ⟨S0, 1000, pk [(32,1,5),(34,2,0x8000),(36,2,1)], by unfold Clean; decide +kernel⟩,
   ⟨{(S0.setDisl 5 {gmode := [0,0,0,2]}).setPin 156 P15 with mod := {S0.mod with cmd := 0x9FB}}, 1000, pk [(32,1,5),(34,2,0x8000),(36,2,1)], by unfold Clean; decide +kernel⟩,
   ⟨{S0 with mod := {S0.mod with cmd := 0x9FB}}, 1000, pk [(32,1,5)], by unfold Clean; decide +kernel⟩,
   ⟨{S0.setPin 159 P15 with mod := {S0.mod with cmd := 0x9FB}}, 1000, pk [(32,1,5),(34,2,0x8000),(36,2,0x8000)], by unfold Clean; decide +kernel⟩,
   ⟨S0.setPin 159 {cfg := {mode := 5}, owner := 1, staged := some (true, 5000001001, some 3)}, 1000, 5000001001, 95, true, some 3, by decide +kernel⟩,
   ⟨SPn {P15 with staged := some (true, 5000001000, none)}, 1000, 5000001000, 95, true, none, by decide +kernel⟩,
   ⟨{SPn {P15 with staged := some (true, 5000001000, some 3)} with cp := {S0.cp with exec := [{ id := 3, op := .digitalWrite, c := {pk [] with replyFlow := 0}, cls := 0, fetched := 4, start := 4, mark := 1, phase := .running, jobEnd := 0, fromMaster := none, work := [] }]}}, 1000, 5000001000, 95, true, some 3, 3, by decide +kernel⟩,
   ⟨(SPn {P15 with staged := some (true, 5000001000, some 3)}).setAisl 7 {powered := true, blankCfg := 0xFF000080}, 1000, 5000001000, 95, true, some 3, 3, by decide +kernel⟩,
   ⟨SPn P15, 159, by decide +kernel⟩,
   ⟨SPn {P15 with cmd := true, moveAt := some 5000000000, moveCmd := some 3}, 159, 5000000000, 3, by decide +kernel⟩,
   ⟨SPn {P15 with cmd := true, moveAt := some 5000000001, moveCmd := some 3}, 159, 5000000001, 3, by decide +kernel⟩,
   ⟨S0, 1000, 2999999, 95, by decide +kernel⟩,
   ⟨(S0.setDisl 5 {powered := true}).setPin 159 {cfg := {mode := 1}}, 1000, 3000000, 95, true, by decide +kernel⟩,
   ⟨SPn {cfg := {mode := 1}, lastAt := some 4900001000}, 1000, 95, by decide +kernel⟩,
   ⟨SPn {cfg := {mode := 2}, lastAt := some 4900001001}, 1000, 95, 4900001001, by decide +kernel⟩,
   ⟨SPn {cfg := {mode := 3, edge := 2}, count := 4294967295}, 1000, 95, false, by decide +kernel⟩,
   ⟨SPn {cfg := {mode := 3, edge := 1}, count := 4294967295}, 1000, 95, true, by decide +kernel⟩,
   ⟨SPn {cfg := {mode := 4}}, 1000, 95, true, 0, 0, by decide +kernel⟩,
   ⟨SPn {cfg := {mode := 4}, gateEdges := (1, 5, 5)}, 1000, 95, true, 0, 5, 5, by decide +kernel⟩,
   ⟨(S0.setDisl 5 {powered := true}).setPin 159 {cfg := {mode := 3}, lastAt := some 4900000000, count := 7}, 1000, 95, by decide +kernel⟩,
   ⟨SPn {cfg := {mode := 3}, lastAt := some 4990001001}, 1000, 95, 4990001001, by decide +kernel⟩,
   ⟨SPn {cfg := {mode := 4}, gateStart := 4999900000, gateEdges := (3, 4900000000, 4910000000)}, 1000, 3, 4900000000, 4910000000, 95, by decide +kernel⟩,
   ⟨SPn {cfg := {mode := 4}, gateStart := 4900000000, gateEdges := (1, 4900000000, 4900000000)}, 1000, 1, 4900000000, 4900000000, 95, by decide +kernel⟩,
   ⟨SPn {cfg := {mode := 4}, gateStart := 4900000000, gateEdges := (3, 4900000000, 4910000000)}, 1000, 3, 4900000000, 4910000000, 95, by decide +kernel⟩⟩

/-- What meets the hypotheses of `Obligations.DigitalDiagnostics`, clause by clause. -/
theorem witness_DigitalDiagnostics :
    (∃ (s : State) (p : Fin 96), (s.pin (64 + p.val)).cfg.mode = 5 ∧ (s.pin (64 + p.val)).driven = true ∧ s.diagnoses (64 + p.val) = true ∧ (s.pin (64 + p.val)).short = false) ∧
    (∃ (s : State) (p : Fin 96), (s.pin (64 + p.val)).cfg.mode = 5 ∧ (s.pin (64 + p.val)).driven = true ∧ s.diagnoses (64 + p.val) = true ∧ (s.pin (64 + p.val)).short = true) ∧
    (∃ (s : State) (dt : Nat) (t : Nat) (p : Fin 96), (s.pin (64 + p.val)).limitSince = some t ∧ (s.pin (64 + p.val)).cfg.mode = 5 ∧ s.diagnoses (64 + p.val) = true ∧ s.now + dt < t + 2000000) ∧
    (∃ (s : State) (dt : Nat) (t : Nat) (p : Fin 96), (s.pin (64 + p.val)).limitSince = some t ∧ (s.pin (64 + p.val)).cfg.mode = 5 ∧ s.diagnoses (64 + p.val) = true ∧ t + 2000000 ≤ s.now + dt ∧ s.retries (64 + p.val) = true ∧ (s.pin (64 + p.val)).retries < 3) ∧
    (∃ (s : State) (dt : Nat) (t : Nat) (p : Fin 96), (s.pin (64 + p.val)).limitSince = some t ∧ (s.pin (64 + p.val)).cfg.mode = 5 ∧ s.diagnoses (64 + p.val) = true ∧ t + 2000000 ≤ s.now + dt ∧ (s.retries (64 + p.val) = false ∨ 3 ≤ (s.pin (64 + p.val)).retries)) ∧
    (∃ (s : State) (dt : Nat) (t : Nat) (p : Fin 96), (s.pin (64 + p.val)).limitSince = some t ∧ (s.pin (64 + p.val)).cfg.mode = 5 ∧ s.diagnoses (64 + p.val) = true ∧ t + 2000000 ≤ s.now + dt ∧ (s.pin (64 + p.val)).short = true) ∧
    (∃ (s : State) (dt : Nat) (t : Nat) (p : Fin 96), (s.pin (64 + p.val)).limitSince = some t ∧ (s.pin (64 + p.val)).cfg.mode = 5 ∧ s.diagnoses (64 + p.val) = true ∧ t + 2000000 ≤ s.now + dt ∧ (s.pin (64 + p.val)).short = false) ∧
    (∃ (s : State) (dt : Nat) (t : Nat) (p : Fin 96), (s.pin (64 + p.val)).retryAt = some t ∧ (s.pin (64 + p.val)).latched = false ∧ (s.pin (64 + p.val)).cfg.mode = 5 ∧ s.diagnoses (64 + p.val) = true ∧ t ≤ s.now + dt) ∧
    (∃ (s : State) (p : Fin 96), (s.pin (64 + p.val)).cfg.mode = 5 ∧ (s.pin (64 + p.val)).thermal = false ∧ s.diagnoses (64 + p.val) = true) ∧
    (∃ (s : State) (p : Fin 96), (s.pin (64 + p.val)).thermal = true ∧ (s.pin (64 + p.val)).hot = true ∧ (s.pin (64 + p.val)).latched = false ∧ s.diagnoses (64 + p.val) = true ∧ (s.pin (64 + p.val)).retries ≤ 1 ∧ s.retries (64 + p.val) = true) ∧
    (∃ (s : State) (p : Fin 96), (s.pin (64 + p.val)).thermal = true ∧ (s.pin (64 + p.val)).hot = true ∧ (s.pin (64 + p.val)).latched = false ∧ s.diagnoses (64 + p.val) = true ∧ (2 ≤ (s.pin (64 + p.val)).retries ∨ s.retries (64 + p.val) = false)) ∧
    (∃ (s : State) (ma : Nat) (p : Fin 96), (s.pin (64 + p.val)).cfg.mode = 5 ∧ s.diagnoses (64 + p.val) = true ∧ (s.pin (64 + p.val)).openOn = false ∧ (s.pin (64 + p.val)).driven = true ∧ ma < 5 * (s.groupOf (64 + p.val)).length) ∧
    (∃ (s : State) (ma : Nat) (p : Fin 96), (s.pin (64 + p.val)).cfg.mode = 5 ∧ s.diagnoses (64 + p.val) = true ∧ (s.pin (64 + p.val)).openOn = true ∧ 10 * (s.groupOf (64 + p.val)).length ≤ ma) ∧
    (∃ (s : State) (on : Nat) (off : Nat) (ua : Nat) (p : Fin 96), (s.pin (64 + p.val)).cfg.mode = 5 ∧ (s.pin (64 + p.val)).driven = false ∧ s.diagnoses (64 + p.val) = true ∧ ua < 5000 ∧ (s.pin (s.groupBase (64 + p.val))).cfg.olOff = true ∧ (s.pin (64 + p.val)).openOff = false ∧ (s.pin (64 + p.val)).extSupply = false ∧ 8000 < on ∧ off < 2000) ∧
    (∃ (s : State) (on : Nat) (off : Nat) (ua : Nat) (p : Fin 96), (s.pin (64 + p.val)).cfg.mode = 5 ∧ (s.pin (64 + p.val)).driven = false ∧ s.diagnoses (64 + p.val) = true ∧ ua < 5000 ∧ on ≤ 8000 ∧ off ≤ 8000 ∧ (s.pin (64 + p.val)).openOff = false ∧ (s.pin (64 + p.val)).extSupply = false) ∧
    (∃ (s : State) (ua : Nat) (p : Fin 96), (s.pin (64 + p.val)).cfg.wbEn = true ∧ ((s.pin (64 + p.val)).cfg.mode = 1 ∨ (s.pin (64 + p.val)).cfg.mode = 2) ∧ (s.disl (pinIsl (64 + p.val))).powered = true ∧ (s.pin (64 + p.val)).wireBreak = false ∧ ua < 150) ∧
    (∃ (s : State) (ua : Nat) (p : Fin 96), (s.pin (64 + p.val)).cfg.wbEn = true ∧ ((s.pin (64 + p.val)).cfg.mode = 1 ∨ (s.pin (64 + p.val)).cfg.mode = 2) ∧ (s.disl (pinIsl (64 + p.val))).powered = true ∧ (s.pin (64 + p.val)).wireBreak = true ∧ 250 ≤ ua) ∧
    (∃ (s : State) (ua : Nat) (p : Fin 96), (s.pin (64 + p.val)).cfg.wbEn = true ∧ ((s.pin (64 + p.val)).cfg.mode = 1 ∨ (s.pin (64 + p.val)).cfg.mode = 2) ∧ (s.disl (pinIsl (64 + p.val))).powered = true ∧ 150 ≤ ua ∧ ua < 250) ∧
    (∃ (s : State) (ma : Nat) (p : Fin 96), (s.pin (64 + p.val)).cfg.mode = 5 ∧ (s.pin (64 + p.val)).driven = true ∧ s.diagnoses (64 + p.val) = true ∧ 100 ≤ ma) ∧
    (∃ (s : State) (ma : Nat) (p : Fin 96), (s.pin (64 + p.val)).cfg.mode = 5 ∧ (s.pin (64 + p.val)).driven = true ∧ s.diagnoses (64 + p.val) = true ∧ 100 ≤ ma) ∧
    (∃ (s : State) (ma : Nat) (p : Fin 96), (s.pin (64 + p.val)).cfg.mode = 5 ∧ (s.pin (64 + p.val)).driven = true ∧ s.diagnoses (64 + p.val) = true ∧ ma < 100 ∧ (s.pin (64 + p.val)).missed ≤ 1) ∧
    (∃ (s : State) (mv : Nat) (old : Nat) (new : Nat) (d : Fin 6), (s.disl d).lplus = some old ∧ ((18000 ≤ mv ∧ new = 0) ∨ (15000 ≤ mv ∧ mv < 18000 ∧ new = 1) ∨ (mv < 15000 ∧ new = 2)) ∧ old = new) ∧
    (∃ (s : State) (mv : Nat) (old : Nat) (new : Nat) (d : Fin 6), (s.disl d).lplus = some old ∧ ((18000 ≤ mv ∧ new = 0) ∨ (15000 ≤ mv ∧ mv < 18000 ∧ new = 1) ∨ (mv < 15000 ∧ new = 2)) ∧ old ≠ new) ∧
    (∃ (s : State) (mv : Nat) (old : Nat) (new : Nat) (d : Fin 6), (s.disl d).lplus = some old ∧ ((18000 ≤ mv ∧ new = 0) ∨ (15000 ≤ mv ∧ mv < 18000 ∧ new = 1) ∨ (mv < 15000 ∧ new = 2)) ∧ old ≠ new) ∧
    (∃ (s : State) (mv : Nat) (old : Nat) (new : Nat) (d : Fin 6), (s.disl d).lplus = some old ∧ ((18000 ≤ mv ∧ new = 0) ∨ (15000 ≤ mv ∧ mv < 18000 ∧ new = 1) ∨ (mv < 15000 ∧ new = 2)) ∧ old ≠ new) ∧
    (∃ (s : State) (b : Nat) (d : Fin 6) (q : Fin 4) (cur : Vector Nat 4), b = 64 + d.val * 16 + q.val * 4 ∧ s.diagnoses b = true ∧ (s.gmode b = 0 ∨ ∀ j k, j < 4 → k < 4 → cur.toList.getD j 0 = cur.toList.getD k 0)) ∧
    (∃ (s : State) (cur : Nat → Nat) (mean : Nat) (g : Nat), mean < (if cur g < mean then mean - cur g else cur g - mean) * 4 ∧ 1 ≤ (s.pin g).deviates) ∧
    (∃ (s : State) (d : Fin 6), (∀ w, w ∈ s.spr.swaps → w.pool = 2 → w.isl ≠ d)) ∧
    (∃ (s : State) (g : Nat) (d : Fin 6) (w : Swap), ((s.spr.swaps.find? fun w => w.pool == 2 && w.isl == d.val) = some w) ∧ g = 64 + d.val * 16 + w.idx ∧ ((s.pin g).driven = false ∨ 3 ≤ w.phase)) ∧
    (∃ (s : State) (g : Nat) (d : Fin 6) (w : Swap), ((s.spr.swaps.find? fun w => w.pool == 2 && w.isl == d.val) = some w) ∧ g = 64 + d.val * 16 + w.idx ∧ ((s.pin g).driven = false ∨ 3 ≤ w.phase)) ∧
    (∃ (s : State) (g : Nat) (d : Fin 6) (w : Swap), ((s.spr.swaps.find? fun w => w.pool == 2 && w.isl == d.val) = some w) ∧ g = 64 + d.val * 16 + w.idx ∧ (s.pin g).driven = true ∧ w.phase = 0) ∧
    (∃ (s : State) (mv : Nat) (g : Nat) (d : Fin 6) (w : Swap), ((s.spr.swaps.find? fun w => w.pool == 2 && w.isl == d.val) = some w) ∧ g = 64 + d.val * 16 + w.idx ∧ (s.pin g).driven = true ∧ w.phase = 1 ∧ railReads (s.disl d).volt mv = true) ∧
    (∃ (s : State) (g : Nat) (d : Fin 6) (w : Swap), ((s.spr.swaps.find? fun w => w.pool == 2 && w.isl == d.val) = some w) ∧ g = 64 + d.val * 16 + w.idx ∧ (s.pin g).driven = true ∧ w.phase = 2) ∧
    (∃ (w : Swap), w.idx < 16) ∧
    (∃ (s : State) (dt : Nat) (t : Nat) (d : Fin 6), (s.disl d).silent = some t ∧ s.now + dt < t + 20000000 * (s.disl d).hold) ∧
    (∃ (s : State) (dt : Nat) (t : Nat) (d : Fin 6), (s.disl d).silent = some t ∧ t + 20000000 * (s.disl d).hold ≤ s.now + dt) :=
  ⟨⟨SPn Pon, 95, by decide +kernel⟩,
   ⟨SPn {Pon with short := true}, 95, by decide +kernel⟩,
   ⟨SPn {Pon with limitSince := some 4998001001}, 1000, 4998001001, 95, by decide +kernel⟩,
   ⟨SPn {Pon with cfg := {mode := 5, retry := true}, limitSince := some 4998001000}, 1000, 4998001000, 95, by decide +kernel⟩,
   ⟨SPn {Pon with limitSince := some 4998001000}, 1000, 4998001000, 95, by decide +kernel⟩,
   ⟨SPn {Pon with limitSince := some 4998001000, short := true}, 1000, 4998001000, 95, by decide +kernel⟩,
   ⟨SPn {Pon with limitSince := some 4998001000}, 1000, 4998001000, 95, by decide +kernel⟩,
   ⟨SPn {P15 with cfg := {mode := 5, retry := true}, cmd := true, short := true, retries := 1, retryAt := some 4998001000}, 1000, 4998001000, 95, by decide +kernel⟩,
   ⟨SPn Pon, 95, by decide +kernel⟩,
   ⟨SPn {P15 with cfg := {mode := 5, retry := true}, thermal := true, hot := true, cmd := true, retries := 1}, 95, by decide +kernel⟩,
   ⟨SPn {P15 with cfg := {mode := 5, retry := true}, thermal := true, hot := true, cmd := true, retries := 2}, 95, by decide +kernel⟩,
   ⟨SPn Pon, 4, 95, by decide +kernel⟩,
   ⟨SPn {Pon with openOn := true}, 10, 95, by decide +kernel⟩,
   ⟨SPn {P15 with cfg := {mode := 5, olOff := true}}, 8001, 1999, 4999, 95, by decide +kernel⟩,
   ⟨SPn {P15 with cfg := {mode := 5, olOff := true}}, 8000, 8000, 4999, 95, by decide +kernel⟩,
   ⟨SPn {cfg := {mode := 1, wbEn := true}}, 149, 95, by decide +kernel⟩,
   ⟨SPn {cfg := {mode := 1, wbEn := true}, wireBreak := true}, 250, 95, by decide +kernel⟩,
   ⟨SPn {cfg := {mode := 2, wbEn := true}}, 150, 95, by decide +kernel⟩,
   ⟨SPn Pon, 100, 95, by decide +kernel⟩,
   ⟨SPn Pon, 100, 95, by decide +kernel⟩,
   ⟨SPn {Pon with missed := 1}, 99, 95, by decide +kernel⟩,
   ⟨S0.setDisl 5 {lplus := some 0}, 18000, 0, 0, 5, by decide +kernel⟩,
   ⟨S0.setDisl 5 {lplus := some 0}, 15000, 0, 1, 5, by decide +kernel⟩,
   ⟨S0.setDisl 5 {lplus := some 1}, 14999, 1, 2, 5, by decide +kernel⟩,
   ⟨S0.setDisl 5 {lplus := some 2}, 18000, 2, 0, 5, by decide +kernel⟩,
   ⟨SPn Pon, 156, 5, 3, #v[200,200,200,200], by and_intros <;> first | decide +kernel | exact .inl (by decide +kernel)⟩,
   ⟨SPn {Pon with deviates := 1}, fun _ => 126, 100, 159, by decide +kernel⟩,
   ⟨S0, 5, by decide +kernel⟩,
   ⟨{SPn P15 with spr := {swaps := [rsw 0]}}, 159, 5, rsw 0, by decide +kernel⟩,
   ⟨{SPn Pon with spr := {swaps := [rsw 3]}}, 159, 5, rsw 3, by decide +kernel⟩,
   ⟨{SPn Pon with spr := {swaps := [rsw 0]}}, 159, 5, rsw 0, by decide +kernel⟩,
   ⟨{SPn Pon with spr := {swaps := [rsw 1]}}, 24000, 159, 5, rsw 1, by decide +kernel⟩,
   ⟨{SPn Pon with spr := {swaps := [rsw 2]}}, 159, 5, rsw 2, by decide +kernel⟩,
   ⟨rsw 2, by decide +kernel⟩,
   ⟨S0.setDisl 5 {silent := some 4980001001, hold := 1, powered := true}, 1000, 4980001001, 5, by decide +kernel⟩,
   ⟨S0.setDisl 5 {silent := some 4980001000, hold := 1, powered := true}, 1000, 4980001000, 5, by decide +kernel⟩⟩

/-- What meets the hypotheses of `Obligations.AlarmSequenceCommands`, clause by clause. -/
theorem witness_AlarmSequenceCommands :
    (∃ (s : State) (dt : Nat) (p : Nat) (c : Cmd), s.Ready .alarmAck dt c ∧ Clean c [(32, 1), (34, 2)] 0 ∧ c.u8 32 = 0 ∧ p = c.u16 34 ∧ p < 4096 ∧ s.mode .alm = true ∧ ((s.point p).state = 1 ∨ (s.point p).state = 4)) ∧
    (∃ (s : State) (dt : Nat) (p : Nat) (c : Cmd), s.Ready .alarmAck dt c ∧ Clean c [(32, 1), (34, 2)] 0 ∧ c.u8 32 = 0 ∧ p = c.u16 34 ∧ p < 4096 ∧ s.mode .alm = true ∧ (s.point p).state = 3) ∧
    (∃ (s : State) (dt : Nat) (p : Nat) (c : Cmd), s.Ready .alarmAck dt c ∧ Clean c [(32, 1), (34, 2)] 0 ∧ c.u8 32 = 0 ∧ p = c.u16 34 ∧ p < 4096 ∧ s.mode .alm = true ∧ (s.point p).unack = false) ∧
    (∃ (s : State) (dt : Nat) (n : Nat) (c : Cmd) (u : State), s.Ready .alarmAck dt c ∧ Clean c [(32, 1), (34, 2)] 0 ∧ 1 ≤ c.u8 32 ∧ scopeOk (c.u8 32) (c.u16 34) = true ∧ s.mode .alm = true ∧ overPoints (fun p v => ackPoint p c.session v) (s.scope (c.u8 32) (c.u16 34)) (s.entered .alarmAck dt c) = (n, u)) ∧
    (∃ (s : State) (dt : Nat) (n : Nat) (c : Cmd) (u : State), s.Ready .alarmSilence dt c ∧ Clean c [(32, 1), (34, 2)] 0 ∧ scopeOk (c.u8 32) (c.u16 34) = true ∧ s.mode .alm = true ∧ overPoints silencePoint (s.scope (c.u8 32) (c.u16 34)) (s.entered .alarmSilence dt c) = (n, u)) ∧
    (∃ (s : State) (dt : Nat) (c : Cmd), Clean c [(32, 1), (34, 2)] 0 ∧ scopeOk (c.u8 32) (c.u16 34) = true ∧ s.mode .alm = false ∧ s.Ready .alarmAck dt c) ∧
    (∃ (s : State) (dt : Nat) (c : Cmd), Clean c [(32, 1), (34, 2)] 0 ∧ scopeOk (c.u8 32) (c.u16 34) = true ∧ s.mode .alm = false ∧ s.Ready .alarmSilence dt c) ∧
    (∃ (s : State) (dt : Nat) (p : Nat) (c : Cmd), s.Ready .alarmSilence dt c ∧ Clean c [(32, 1), (34, 2)] 0 ∧ c.u8 32 = 0 ∧ p = c.u16 34 ∧ p < 4096 ∧ s.mode .alm = true ∧ ((s.point p).state = 1 ∨ (s.point p).state = 4)) ∧
    (∃ (s : State) (dt : Nat) (t : Nat) (p : Fin 4096), s.evalOn = true ∧ (s.point p).state = 4 ∧ (s.point p).silUntil = some t ∧ t ≤ s.now + dt) ∧
    (∃ (s : State) (dt : Nat) (t : Nat) (p : Fin 4096), s.evalOn = true ∧ (s.point p).state = 4 ∧ (s.point p).silUntil = some t ∧ s.now + dt < t) ∧
    (∃ (s : State) (dt : Nat) (p : Nat) (c : Cmd), s.Ready .alarmShelve dt c ∧ Clean c [(34, 6)] 0 ∧ p = c.u16 34 ∧ p < 4096 ∧ c.u32 36 ≠ 0 ∧ ((s.point p).state = 7 ∨ (s.point p).shelveMax < c.u32 36)) ∧
    (∃ (s : State) (dt : Nat) (p : Nat) (c : Cmd), s.Ready .alarmShelve dt c ∧ Clean c [(34, 6)] 0 ∧ p = c.u16 34 ∧ p < 4096 ∧ c.u32 36 ≠ 0 ∧ (s.point p).state ≠ 7 ∧ c.u32 36 ≤ (s.point p).shelveMax ∧ (s.point p).suppressed = false) ∧
    (∃ (s : State) (dt : Nat) (p : Nat) (c : Cmd), s.Ready .alarmShelve dt c ∧ Clean c [(34, 6)] 0 ∧ p = c.u16 34 ∧ p < 4096 ∧ c.u32 36 ≠ 0 ∧ (s.point p).state ≠ 7 ∧ c.u32 36 ≤ (s.point p).shelveMax ∧ (s.point p).suppressed = true) ∧
    (∃ (s : State) (dt : Nat) (p : Nat) (c : Cmd), s.Ready .alarmShelve dt c ∧ Clean c [(34, 6)] 0 ∧ p = c.u16 34 ∧ p < 4096 ∧ c.u32 36 = 0 ∧ (s.point p).shelf = none) ∧
    (∃ (s : State) (dt : Nat) (p : Nat) (c : Cmd), s.Ready .alarmShelve dt c ∧ Clean c [(34, 6)] 0 ∧ p = c.u16 34 ∧ p < 4096 ∧ c.u32 36 = 0 ∧ (s.point p).state = 5 ∧ (s.point p).suppressed = false) ∧
    (∃ (s : State) (dt : Nat) (t : Nat) (p : Fin 4096), s.evalOn = true ∧ (s.point p).shelf = some t ∧ t ≤ s.now + dt) ∧
    (∃ (s : State) (dt : Nat) (t : Nat) (p : Fin 4096), s.evalOn = true ∧ (s.point p).shelf = some t ∧ s.now + dt < t) ∧
    (∃ (s : State) (dt : Nat) (p : Nat) (c : Cmd), s.Ready .pointService dt c ∧ Clean c [(34, 3)] 0 ∧ p = c.u16 34 ∧ p < 4096 ∧ c.u8 36 ≤ 1 ∧ (s.point p).srcKind = 0) ∧
    (∃ (s : State) (dt : Nat) (p : Nat) (c : Cmd), s.Ready .pointService dt c ∧ Clean c [(34, 3)] 0 ∧ p = c.u16 34 ∧ p < 4096 ∧ c.u8 36 ≤ 1 ∧ (s.point p).srcKind ≠ 0 ∧ c.u8 36 = 0) ∧
    (∃ (s : State) (dt : Nat) (p : Nat) (c : Cmd), s.Ready .pointService dt c ∧ Clean c [(34, 3)] 0 ∧ p = c.u16 34 ∧ p < 4096 ∧ c.u8 36 ≤ 1 ∧ (s.point p).srcKind ≠ 0 ∧ c.u8 36 = 1 ∧ (s.point p).oosCmd = true ∧ (s.point p).suppressed = false ∧ (s.point p).shelf = none) :=
  ⟨⟨SP, 1000, 4095, pk [(34,2,4095)], by unfold Clean; decide +kernel⟩,
   ⟨S0.setPoint 4095 {P1 with seq := 3, tU := some 4000000000}, 1000, 4095, pk [(34,2,4095)], by unfold Clean; decide +kernel⟩,
   ⟨S0.setPoint 4095 P1, 1000, 4095, pk [(34,2,4095)], by unfold Clean; decide +kernel⟩,
   ⟨SP, 1000, (overPoints (fun p v => ackPoint p (pk [(32,1,3),(34,2,0xFFFF)] : Cmd).session v) ((SP : State).scope ((pk [(32,1,3),(34,2,0xFFFF)] : Cmd).u8 32) ((pk [(32,1,3),(34,2,0xFFFF)] : Cmd).u16 34)) ((SP : State).entered .alarmAck (1000 : Nat) (pk [(32,1,3),(34,2,0xFFFF)] : Cmd))).1, pk [(32,1,3),(34,2,0xFFFF)], (overPoints (fun p v => ackPoint p (pk [(32,1,3),(34,2,0xFFFF)] : Cmd).session v) ((SP : State).scope ((pk [(32,1,3),(34,2,0xFFFF)] : Cmd).u8 32) ((pk [(32,1,3),(34,2,0xFFFF)] : Cmd).u16 34)) ((SP : State).entered .alarmAck (1000 : Nat) (pk [(32,1,3),(34,2,0xFFFF)] : Cmd))).2, by unfold Clean; decide +kernel⟩,
   ⟨SP, 1000, (overPoints silencePoint ((SP : State).scope ((pk [(32,1,0),(34,2,4095)] : Cmd).u8 32) ((pk [(32,1,0),(34,2,4095)] : Cmd).u16 34)) ((SP : State).entered .alarmSilence (1000 : Nat) (pk [(32,1,0),(34,2,4095)] : Cmd))).1, pk [(32,1,0),(34,2,4095)], (overPoints silencePoint ((SP : State).scope ((pk [(32,1,0),(34,2,4095)] : Cmd).u8 32) ((pk [(32,1,0),(34,2,4095)] : Cmd).u16 34)) ((SP : State).entered .alarmSilence (1000 : Nat) (pk [(32,1,0),(34,2,4095)] : Cmd))).2, by unfold Clean; decide +kernel⟩,
   ⟨{SP with mod := {S0.mod with cmd := 0x9FD}}, 1000, pk [(32,1,3),(34,2,0xFFFF)], by unfold Clean; decide +kernel⟩,
   ⟨{SP with mod := {S0.mod with cmd := 0x9FD}}, 1000, pk [(32,1,3),(34,2,0xFFFF)], by unfold Clean; decide +kernel⟩,
   ⟨SP, 1000, 4095, pk [(34,2,4095)], by unfold Clean; decide +kernel⟩,
   ⟨S0.setPoint 4095 {P1 with seq := 4, cond := true, silUntil := some 5000001000, tU := some 4000000000}, 1000, 5000001000, 4095, by decide +kernel⟩,
   ⟨S0.setPoint 4095 {P1 with seq := 4, cond := true, silUntil := some 5000001001, tU := some 4000000000}, 1000, 5000001001, 4095, by decide +kernel⟩,
   ⟨SP, 1000, 4095, pk [(34,2,4095),(36,4,3601)], by unfold Clean; decide +kernel⟩,
   ⟨SP, 1000, 4095, pk [(34,2,4095),(36,4,3600)], by unfold Clean; decide +kernel⟩,
   ⟨S0.setPoint 4095 {P1 with seq := 1, cond := true, tU := some 4000000000, supCond := true}, 1000, 4095, pk [(34,2,4095),(36,4,3600)], by unfold Clean; decide +kernel⟩,
   ⟨SP, 1000, 4095, pk [(34,2,4095)], by unfold Clean; decide +kernel⟩,
   ⟨S0.setPoint 4095 {P1 with seq := 2, cond := true, shelf := some 5000001000}, 1000, 4095, pk [(34,2,4095)], by unfold Clean; decide +kernel⟩,
   ⟨S0.setPoint 4095 {P1 with shelf := some 5000001000}, 1000, 5000001000, 4095, by decide +kernel⟩,
   ⟨S0.setPoint 4095 {P1 with seq := 1, cond := true, shelf := some 5000001001}, 1000, 5000001001, 4095, by decide +kernel⟩,
   ⟨SP, 1000, 4094, pk [(34,2,4094)], by unfold Clean; decide +kernel⟩,
   ⟨SP, 1000, 4095, pk [(34,2,4095)], by unfold Clean; decide +kernel⟩,
   ⟨S0.setPoint 4095 {P1 with oosCmd := true}, 1000, 4095, pk [(34,2,4095),(36,1,1)], by unfold Clean; decide +kernel⟩⟩

/-- What meets the hypotheses of `Obligations.PointConfiguration`, clause by clause. -/
theorem witness_PointConfiguration :
    (∃ (s : State) (dt : Nat) (p : Nat) (c : Cmd), s.Ready .pointConfigure dt c ∧ p = c.u16 34 ∧ p ≤ 4095 ∧ c.restZero [(34, 2)] = true ∧ c.paramLen = 64 ∧ c.ext.length = 64 ∧ descIndexBad ({ (s.point p) with desc := fitBytes 64 c.ext }) = true) ∧
    (∃ (s : State) (dt : Nat) (p : Nat) (c : Cmd), s.Ready .pointConfigure dt c ∧ p = c.u16 34 ∧ p ≤ 4095 ∧ c.restZero [(34, 2)] = true ∧ c.paramLen = 64 ∧ c.ext.length = 64 ∧ descIndexBad ({ (s.point p) with desc := fitBytes 64 c.ext }) = false ∧ descKindBad ({ (s.point p) with desc := fitBytes 64 c.ext }) s = true) ∧
    (∃ (s : State) (dt : Nat) (p : Nat) (c : Cmd), s.Ready .pointConfigure dt c ∧ p = c.u16 34 ∧ p ≤ 4095 ∧ c.restZero [(34, 2)] = true ∧ c.paramLen = 64 ∧ c.ext.length = 64 ∧ descIndexBad ({ (s.point p) with desc := fitBytes 64 c.ext }) = false ∧ descKindBad ({ (s.point p) with desc := fitBytes 64 c.ext }) s = false ∧ descValueBad ({ (s.point p) with desc := fitBytes 64 c.ext }) = true) ∧
    (∃ (s : State) (dt : Nat) (p : Nat) (c : Cmd), s.Ready .pointConfigure dt c ∧ p = c.u16 34 ∧ p ≤ 4095 ∧ c.restZero [(34, 2)] = true ∧ c.paramLen = 64 ∧ c.ext.length = 64 ∧ descIndexBad ({ (s.point p) with desc := fitBytes 64 c.ext }) = false ∧ descKindBad ({ (s.point p) with desc := fitBytes 64 c.ext }) s = false ∧ descValueBad ({ (s.point p) with desc := fitBytes 64 c.ext }) = false ∧ (({ (s.point p) with desc := fitBytes 64 c.ext }).srcA ≠ (s.point p).srcA ∨ ({ (s.point p) with desc := fitBytes 64 c.ext }).srcB ≠ (s.point p).srcB ∨ ({ (s.point p) with desc := fitBytes 64 c.ext }).b 5 ≠ (s.point p).b 5 ∨ ({ (s.point p) with desc := fitBytes 64 c.ext }).ctype ≠ (s.point p).ctype ∨ ({ (s.point p) with desc := fitBytes 64 c.ext }).vote ≠ (s.point p).vote) ∧ (s.point p).state ≠ 7) ∧
    (∃ (s : State) (dt : Nat) (p : Nat) (c : Cmd), s.Ready .pointConfigure dt c ∧ p = c.u16 34 ∧ p ≤ 4095 ∧ c.restZero [(34, 2)] = true ∧ c.paramLen = 64 ∧ c.ext.length = 64 ∧ descIndexBad ({ (s.point p) with desc := fitBytes 64 c.ext }) = false ∧ descKindBad ({ (s.point p) with desc := fitBytes 64 c.ext }) s = false ∧ descValueBad ({ (s.point p) with desc := fitBytes 64 c.ext }) = false ∧ ((({ (s.point p) with desc := fitBytes 64 c.ext }).srcA = (s.point p).srcA ∧ ({ (s.point p) with desc := fitBytes 64 c.ext }).srcB = (s.point p).srcB ∧ ({ (s.point p) with desc := fitBytes 64 c.ext }).b 5 = (s.point p).b 5 ∧ ({ (s.point p) with desc := fitBytes 64 c.ext }).ctype = (s.point p).ctype ∧ ({ (s.point p) with desc := fitBytes 64 c.ext }).vote = (s.point p).vote) ∨ (s.point p).state = 7) ∧ (∃ k, k ∈ ({ (s.point p) with desc := fitBytes 64 c.ext }).sources ∧ 64 ≤ s.fanout p k)) ∧
    (∃ (s : State) (dt : Nat) (p : Nat) (c : Cmd), s.Ready .pointConfigure dt c ∧ p = c.u16 34 ∧ p ≤ 4095 ∧ c.restZero [(34, 2)] = true ∧ c.paramLen = 64 ∧ c.ext.length = 64 ∧ descIndexBad ({ (s.point p) with desc := fitBytes 64 c.ext }) = false ∧ descKindBad ({ (s.point p) with desc := fitBytes 64 c.ext }) s = false ∧ descValueBad ({ (s.point p) with desc := fitBytes 64 c.ext }) = false ∧ ((({ (s.point p) with desc := fitBytes 64 c.ext }).srcA = (s.point p).srcA ∧ ({ (s.point p) with desc := fitBytes 64 c.ext }).srcB = (s.point p).srcB ∧ ({ (s.point p) with desc := fitBytes 64 c.ext }).b 5 = (s.point p).b 5 ∧ ({ (s.point p) with desc := fitBytes 64 c.ext }).ctype = (s.point p).ctype ∧ ({ (s.point p) with desc := fitBytes 64 c.ext }).vote = (s.point p).vote) ∨ (s.point p).state = 7) ∧ (∀ k, k ∈ ({ (s.point p) with desc := fitBytes 64 c.ext }).sources → s.fanout p k < 64) ∧ ({ (s.point p) with desc := fitBytes 64 c.ext }).srcKind ≠ 0 ∧ s.rng.roleNow < 2 ∧ ((s.flow ({ (s.point p) with desc := fitBytes 64 c.ext }).flow).state = .closed ∨ (s.flow ({ (s.point p) with desc := fitBytes 64 c.ext }).flow).stream = true)) ∧
    (∃ (s : State) (dt : Nat) (p : Nat) (c : Cmd), s.Ready .pointConfigure dt c ∧ p = c.u16 34 ∧ p ≤ 4095 ∧ c.restZero [(34, 2)] = true ∧ c.paramLen = 64 ∧ c.ext.length = 64 ∧ descIndexBad ({ (s.point p) with desc := fitBytes 64 c.ext }) = false ∧ descKindBad ({ (s.point p) with desc := fitBytes 64 c.ext }) s = false ∧ descValueBad ({ (s.point p) with desc := fitBytes 64 c.ext }) = false ∧ ((({ (s.point p) with desc := fitBytes 64 c.ext }).srcA = (s.point p).srcA ∧ ({ (s.point p) with desc := fitBytes 64 c.ext }).srcB = (s.point p).srcB ∧ ({ (s.point p) with desc := fitBytes 64 c.ext }).b 5 = (s.point p).b 5 ∧ ({ (s.point p) with desc := fitBytes 64 c.ext }).ctype = (s.point p).ctype ∧ ({ (s.point p) with desc := fitBytes 64 c.ext }).vote = (s.point p).vote) ∨ (s.point p).state = 7) ∧ (∀ k, k ∈ ({ (s.point p) with desc := fitBytes 64 c.ext }).sources → s.fanout p k < 64) ∧ (({ (s.point p) with desc := fitBytes 64 c.ext }).srcKind = 0 ∨ 2 ≤ s.rng.roleNow ∨ ((s.flow ({ (s.point p) with desc := fitBytes 64 c.ext }).flow).state ≠ .closed ∧ (s.flow ({ (s.point p) with desc := fitBytes 64 c.ext }).flow).stream = false)) ∧ subscriptionsFail (s.entered .pointConfigure dt c) (s.newSubs ({ (s.point p) with desc := fitBytes 64 c.ext }).sources) = none) ∧
    (∃ (s : State) (dt : Nat) (p : Nat) (c : Cmd), s.Ready .pointRead dt c ∧ Clean c [(34, 3)] 0 ∧ p = c.u16 34 ∧ p < 4096 ∧ c.u8 36 = 0) ∧
    (∃ (s : State) (dt : Nat) (p : Nat) (c : Cmd), s.Ready .pointRead dt c ∧ Clean c [(34, 3)] 0 ∧ p = c.u16 34 ∧ p < 4096 ∧ c.u8 36 = 1) ∧
    (∃ (s : State) (dt : Nat) (p : Nat) (c : Cmd), s.Ready .pointRead dt c ∧ Clean c [(34, 3)] 0 ∧ p = c.u16 34 ∧ p < 4096 ∧ c.u8 36 = 2) ∧
    (∃ (s : State) (dt : Nat) (c : Cmd), s.Ready .derivedConfigure dt c ∧ Clean c [(33, 3 + 4 * min (c.u8 35) 4)] 0 ∧ c.u8 34 ≤ 6 ∧ 2 ≤ c.u8 35 ∧ c.u8 35 ≤ 4 ∧ (((operandsOf c).all fun o => sourceOk o.1 o.2.1 o.2.2) = true) ∧ ((c.u8 34 = 4 ∨ c.u8 34 = 6) → c.u8 35 = 2) ∧ (∃ o, o ∈ operandsOf c ∧ (3 < o.1 ∨ (o.1 = 3 ∧ s.varType o.2.2 = some 3)))) ∧
    (∃ (s : State) (dt : Nat) (c : Cmd), s.Ready .derivedConfigure dt c ∧ Clean c [(33, 3 + 4 * min (c.u8 35) 4)] 0 ∧ c.u8 34 ≤ 6 ∧ 2 ≤ c.u8 35 ∧ c.u8 35 ≤ 4 ∧ (((operandsOf c).all fun o => sourceOk o.1 o.2.1 o.2.2) = true) ∧ ((c.u8 34 = 4 ∨ c.u8 34 = 6) → c.u8 35 = 2) ∧ (∃ o, o ∈ operandsOf c ∧ (3 < o.1 ∨ (o.1 = 3 ∧ s.varType o.2.2 = some 3)))) ∧
    (∃ (s : State) (dt : Nat) (c : Cmd), s.Ready .derivedConfigure dt c ∧ Clean c [(33, 3 + 4 * min (c.u8 35) 4)] 0 ∧ c.u8 34 ≤ 6 ∧ 2 ≤ c.u8 35 ∧ c.u8 35 ≤ 4 ∧ (((operandsOf c).all fun o => sourceOk o.1 o.2.1 o.2.2) = true) ∧ ((c.u8 34 = 4 ∨ c.u8 34 = 6) → c.u8 35 = 2) ∧ (∀ o, o ∈ operandsOf c → o.1 ≤ 3 ∧ (o.1 = 3 → s.varType o.2.2 ≠ some 3)) ∧ subscriptionsFail (s.entered .derivedConfigure dt c) (s.newSubs (operandsOf c)) = none) ∧
    (∃ (s : State) (dt : Nat) (c : Cmd), s.Ready .derivedConfigure dt c ∧ Clean c [(33, 3 + 4 * min (c.u8 35) 4)] 0 ∧ c.u8 34 ≤ 6 ∧ 2 ≤ c.u8 35 ∧ c.u8 35 ≤ 4 ∧ (((operandsOf c).all fun o => sourceOk o.1 o.2.1 o.2.2) = true) ∧ ((c.u8 34 = 4 ∨ c.u8 34 = 6) → c.u8 35 = 2) ∧ (∀ o, o ∈ operandsOf c → o.1 ≤ 3 ∧ (o.1 = 3 → s.varType o.2.2 ≠ some 3)) ∧ subscriptionsFail (s.entered .derivedConfigure dt c) (s.newSubs (operandsOf c)) = none) :=
  ⟨⟨S0, 1000, 4095, pk [(34,2,4095)] (putAt D1 2 [64]), by decide +kernel⟩,
   ⟨S0, 1000, 4095, pk [(34,2,4095)] (putAt D1 1 [3]), by decide +kernel⟩,
   ⟨S0, 1000, 4095, pk [(34,2,4095)] (putAt D1 20 (le 4 0xBF800000)), by decide +kernel⟩,
   ⟨SP, 1000, 4095, pk [(34,2,4095)] (putAt (putAt D1 1 [4]) 48 [1]), by decide +kernel⟩,
   ⟨{S0 with alm := {points := (List.range 64).map fun k => (k, P1)}}, 1000, 4095, pk [(34,2,4095)] D1, by decide +kernel⟩,
   ⟨S0, 1000, 4095, pk [(34,2,4095)] (putAt D1 14 [9]), by decide +kernel⟩,
   ⟨S0, 1000, 4095, pk [(34,2,4095)] D1, by decide +kernel⟩,
   ⟨SP, 1000, 4095, pk [(34,2,4095)], by unfold Clean; decide +kernel⟩,
   ⟨SP, 1000, 4095, pk [(34,2,4095),(36,1,1)], by unfold Clean; decide +kernel⟩,
   ⟨SP, 1000, 4095, pk [(34,2,4095),(36,1,2)], by unfold Clean; decide +kernel⟩,
   ⟨{S0 with prg := {SG.prg with slot0 := some {img0 with vars := [{ typ := 3 }]}}}, 1000, pk [(33,1,255),(34,1,5),(35,1,2),(36,1,1),(38,2,63),(40,1,3),(42,2,0)], by unfold Clean; decide +kernel⟩,
   ⟨S0, 1000, pk [(33,1,255),(34,1,6),(35,1,2),(36,1,4),(38,2,63),(40,1,2),(42,2,159)], by unfold Clean; decide +kernel⟩,
   ⟨S0, 1000, pk [(33,1,255),(34,1,6),(35,1,2),(36,1,1),(38,2,63),(40,1,2),(42,2,159)], by unfold Clean; decide +kernel⟩,
   ⟨S0, 1000, pk [(33,1,255),(34,1,5),(35,1,4),(36,1,1),(38,2,63),(40,1,2),(42,2,159),(44,1,1),(46,2,1),(48,1,1),(50,2,2)], by unfold Clean; decide +kernel⟩⟩

/-- What meets the hypotheses of `Obligations.AlarmGroupsAndCalls`, clause by clause. -/
theorem witness_AlarmGroupsAndCalls :
    (∃ (s : State) (dt : Nat) (c : Cmd), s.Ready .alarmGroupConfigure dt c ∧ Clean c [(33, 5)] 0 ∧ pinFieldOk (c.u16 34) = true ∧ c.u8 36 < 8 ∧ 1 ≤ c.u8 37 ∧ c.u8 37 ≤ 100 ∧ s.canTake (c.u16 34) = false) ∧
    (∃ (s : State) (dt : Nat) (c : Cmd), s.Ready .alarmGroupConfigure dt c ∧ Clean c [(33, 5)] 0 ∧ pinFieldOk (c.u16 34) = true ∧ c.u8 36 < 8 ∧ 1 ≤ c.u8 37 ∧ c.u8 37 ≤ 100 ∧ s.canTake (c.u16 34) = true) ∧
    (∃ (s : State) (dt : Nat) (c : Cmd), s.Ready .chainConfigure dt c ∧ Clean c [(33, 2), (36, 12)] 0 ∧ c.u8 33 ≤ 15 ∧ 1 ≤ c.u8 34 ∧ c.u8 34 ≤ 4 ∧ pinFieldOk (c.u16 40) = true ∧ pinFieldOk (c.u16 42) = true ∧ pinFieldOk (c.u16 44) = true ∧ pinFieldOk (c.u16 46) = true ∧ (c.u16 36 = 0 ∨ (10 ≤ c.u16 36 ∧ c.u16 36 ≤ 3600)) ∧ c.u16 38 ≤ 7200 ∧ c.u16 36 ≠ 0 ∧ c.u16 38 < c.u16 36 + 10) ∧
    (∃ (s : State) (dt : Nat) (c : Cmd), s.Ready .chainConfigure dt c ∧ Clean c [(33, 2), (36, 12)] 0 ∧ c.u8 33 ≤ 15 ∧ 1 ≤ c.u8 34 ∧ c.u8 34 ≤ 4 ∧ pinFieldOk (c.u16 40) = true ∧ pinFieldOk (c.u16 42) = true ∧ pinFieldOk (c.u16 44) = true ∧ pinFieldOk (c.u16 46) = true ∧ (c.u16 36 = 0 ∨ (10 ≤ c.u16 36 ∧ c.u16 36 ≤ 3600)) ∧ c.u16 38 ≤ 7200 ∧ (c.u16 36 = 0 ∨ c.u16 36 + 10 ≤ c.u16 38) ∧ (s.canTake (c.u16 40) = false ∨ s.canTake (c.u16 42) = false ∨ s.isInput (c.u16 44) = false ∨ s.isInput (c.u16 46) = false)) ∧
    (∃ (s : State) (dt : Nat) (c : Cmd), s.Ready .chainConfigure dt c ∧ Clean c [(33, 2), (36, 12)] 0 ∧ c.u8 33 ≤ 15 ∧ 1 ≤ c.u8 34 ∧ c.u8 34 ≤ 4 ∧ pinFieldOk (c.u16 40) = true ∧ pinFieldOk (c.u16 42) = true ∧ pinFieldOk (c.u16 44) = true ∧ pinFieldOk (c.u16 46) = true ∧ (c.u16 36 = 0 ∨ (10 ≤ c.u16 36 ∧ c.u16 36 ≤ 3600)) ∧ c.u16 38 ≤ 7200 ∧ (c.u16 36 = 0 ∨ c.u16 36 + 10 ≤ c.u16 38) ∧ s.canTake (c.u16 40) = true ∧ s.canTake (c.u16 42) = true ∧ s.isInput (c.u16 44) = true ∧ s.isInput (c.u16 46) = true) ∧
    (∃ (s : State) (dt : Nat) (c : Cmd), s.Ready .chainConfigure dt c ∧ Clean c [(33, 2), (36, 12)] 0 ∧ c.u8 33 ≤ 15 ∧ 1 ≤ c.u8 34 ∧ c.u8 34 ≤ 4 ∧ pinFieldOk (c.u16 40) = true ∧ pinFieldOk (c.u16 42) = true ∧ pinFieldOk (c.u16 44) = true ∧ pinFieldOk (c.u16 46) = true ∧ (c.u16 36 = 0 ∨ (10 ≤ c.u16 36 ∧ c.u16 36 ≤ 3600)) ∧ c.u16 38 ≤ 7200 ∧ (c.u16 36 = 0 ∨ c.u16 36 + 10 ≤ c.u16 38) ∧ s.canTake (c.u16 40) = true ∧ s.canTake (c.u16 42) = true ∧ s.isInput (c.u16 44) = true ∧ s.isInput (c.u16 46) = true) ∧
    (∃ (s : State) (dt : Nat) (c : Cmd), s.Ready .callConfigure dt c ∧ Clean c [(33, 2), (36, 2)] 0 ∧ c.u8 33 ≤ 12 ∧ pinFieldOk (c.u16 36) = true ∧ c.u8 34 = 0 ∧ s.canTake (c.u16 36) = false) ∧
    (∃ (s : State) (dt : Nat) (c : Cmd), s.Ready .callConfigure dt c ∧ Clean c [(33, 2), (36, 2)] 0 ∧ c.u8 33 ≤ 12 ∧ pinFieldOk (c.u16 36) = true ∧ c.u8 34 = 0 ∧ s.canTake (c.u16 36) = true) ∧
    (∃ (s : State) (dt : Nat) (c : Cmd), s.Ready .callConfigure dt c ∧ Clean c [(33, 2), (36, 2)] 0 ∧ c.u8 33 = 0x80 ∧ pinFieldOk (c.u16 36) = true ∧ c.u8 34 = 0) ∧
    (∃ (s : State) (dt : Nat) (k : Nat) (c : Cmd), s.Ready .callConfigure dt c ∧ Clean c [(33, 2), (36, 2)] 0 ∧ c.u8 33 = 0x80 ∧ pinFieldOk (c.u16 36) = true ∧ ((c.u8 34 = 1 ∧ k = 4) ∨ (c.u8 34 = 2 ∧ k = 12)) ∧ c.u16 36 + k ≤ 160 ∧ pinIsl (c.u16 36) = pinIsl (c.u16 36 + k - 1) ∧ (∀ j, j < k → s.isInput (c.u16 36 + j) = true)) ∧
    (∃ (s : State) (dt : Nat) (c : Cmd), s.Ready .dutySet dt c ∧ Clean c [(33, 1)] 0 ∧ c.u8 33 ≤ 11 ∧ s.alm.dsrc ≠ 0) ∧
    (∃ (s : State) (dt : Nat) (c : Cmd), s.Ready .dutySet dt c ∧ Clean c [(33, 1)] 0 ∧ c.u8 33 ≤ 11 ∧ s.alm.dsrc = 0) ∧
    (∃ (s : State) (dt : Nat) (c : Cmd), s.Ready .firstoutReset dt c ∧ Clean c [(33, 1)] 0 ∧ c.u8 33 ≠ 255) ∧
    (∃ (s : State) (dt : Nat) (c : Cmd), s.Ready .firstoutReset dt c ∧ Clean c [(33, 1)] 0 ∧ c.u8 33 = 255) ∧
    (∃ (s : State) (dt : Nat) (c : Cmd), s.Ready .tileBind dt c ∧ Clean c [(34, 3), (38, 2)] 0 ∧ c.u16 34 ≤ 511 ∧ c.u8 36 ≤ 2 ∧ (c.u8 36 = 1 → c.u16 38 ≤ 4095) ∧ (c.u8 36 = 2 → c.u16 38 ≤ 255)) ∧
    (∃ (s : State) (dt : Nat) (c : Cmd), s.Ready .tileBind dt c ∧ Clean c [(34, 3), (38, 2)] 0 ∧ c.u16 34 ≤ 511 ∧ c.u8 36 ≤ 2 ∧ (c.u8 36 = 1 → c.u16 38 ≤ 4095) ∧ (c.u8 36 = 2 → c.u16 38 ≤ 255)) ∧
    (∃ (s : State) (dt : Nat) (d : Nat), s.evalOn = true ∧ s.selReading = some d ∧ s.selMoved + 1000000000 ≤ s.now + dt ∧ (s.alm.cabin ≠ some d ∨ s.alm.selInvalid = true)) ∧
    (∃ (s : State) (dt : Nat) (d : Nat), s.evalOn = true ∧ s.selReading = some d ∧ s.now + dt < s.selMoved + 1000000000) ∧
    (∃ (s : State) (dt : Nat), s.evalOn = true ∧ s.alm.dsrc ≠ 0 ∧ s.selReading = none ∧ s.alm.selInvalid = false ∧ s.selMoved + 1000000000 ≤ s.now + dt) ∧
    (∃ (s : State) (dt : Nat), s.evalOn = true ∧ s.alm.dsrc ≠ 0 ∧ s.selReading = none ∧ s.alm.selInvalid = false ∧ s.now + dt < s.selMoved + 1000000000) ∧
    (∃ (s : State) (dt : Nat) (g : Fin 256), s.evalOn = true ∧ (s.group g).provisional = true ∧ (s.group g).key + 1000000 * (s.group g).foWin < s.now + dt ∧ s.quiet g = false) ∧
    (∃ (s : State) (dt : Nat) (g : Fin 256), s.evalOn = true ∧ (s.group g).provisional = true ∧ (s.group g).key + 1000000 * (s.group g).foWin < s.now + dt ∧ s.quiet g = true) ∧
    (∃ (s : State) (dt : Nat) (g : Fin 256), s.evalOn = true ∧ (s.group g).provisional = true ∧ s.now + dt ≤ (s.group g).key + 1000000 * (s.group g).foWin) ∧
    (∃ (s : State) (dt : Nat) (t : Nat) (g : Fin 256), (s.group g).flashEnd = some t ∧ t ≤ s.now + dt) ∧
    (∃ (s : State) (dt : Nat) (t : Nat) (g : Fin 256), (s.group g).flashEnd = some t ∧ s.now + dt < t) :=
  ⟨⟨SQ, 1000, pk [(33,1,255),(34,2,158),(36,1,7),(37,1,100)], by unfold Clean; decide +kernel⟩,
   ⟨SQ, 1000, pk [(33,1,255),(34,2,159),(36,1,7),(37,1,1)], by unfold Clean; decide +kernel⟩,
   ⟨SQ, 1000, pk [(33,1,15),(34,1,4),(36,2,10),(38,2,19),(40,2,0xFFFF),(42,2,0xFFFF),(44,2,0xFFFF),(46,2,0xFFFF)], by unfold Clean; decide +kernel⟩,
   ⟨SQ, 1000, pk [(33,1,15),(34,1,4),(36,2,10),(38,2,20),(40,2,158),(42,2,0xFFFF),(44,2,0xFFFF),(46,2,0xFFFF)], by unfold Clean; decide +kernel⟩,
   ⟨SQ, 1000, pk [(33,1,15),(34,1,4),(36,2,3600),(38,2,7200),(40,2,159),(42,2,0xFFFF),(44,2,158),(46,2,0xFFFF)], by unfold Clean; decide +kernel⟩,
   ⟨SQ, 1000, pk [(33,1,15),(34,1,1),(36,2,10),(38,2,20),(40,2,0xFFFF),(42,2,0xFFFF),(44,2,0xFFFF),(46,2,158)], by unfold Clean; decide +kernel⟩,
   ⟨SQ, 1000, pk [(33,1,12),(36,2,158)], by unfold Clean; decide +kernel⟩,
   ⟨SQ, 1000, pk [(33,1,12),(36,2,159)], by unfold Clean; decide +kernel⟩,
   ⟨{SQ with alm := {dsrc := 2, firstPin := some 148, cabin := some 3}}, 1000, pk [(33,1,0x80),(36,2,0xFFFF)], by unfold Clean; decide +kernel⟩,
   ⟨(((S0.setPin 156 {cfg := {mode := 1}}).setPin 157 {cfg := {mode := 1}}).setPin 158 {cfg := {mode := 2}}).setPin 159 {cfg := {mode := 1}}, 1000, 4, pk [(33,1,0x80),(34,1,1),(36,2,156)], by unfold Clean; decide +kernel⟩,
   ⟨{S0 with alm := {dsrc := 2}}, 1000, pk [(33,1,11)], by unfold Clean; decide +kernel⟩,
   ⟨S0, 1000, pk [(33,1,11)], by unfold Clean; decide +kernel⟩,
   ⟨S0, 1000, pk [(33,1,9)], by unfold Clean; decide +kernel⟩,
   ⟨S0.setGroup 9 {armed := false}, 1000, pk [(33,1,255)], by unfold Clean; decide +kernel⟩,
   ⟨S0, 1000, pk [(34,2,511),(36,1,1),(38,2,4095)], by unfold Clean; decide +kernel⟩,
   ⟨S0, 1000, pk [(34,2,511),(36,1,2),(38,2,255)], by unfold Clean; decide +kernel⟩,
   ⟨{((((SQ.setPin 158 {(SQ.pin 158) with transAt := 4000001000}).setPin 155 {(SQ.pin 158) with level := false, accepted := false, transAt := 4}).setPin 156 {(SQ.pin 158) with level := false, accepted := false, transAt := 4}).setPin 157 {(SQ.pin 158) with level := false, accepted := false, transAt := 4}) with alm := {dsrc := 1, firstPin := some 155, cabin := some 3}}, 1000, 7, by decide +kernel⟩,
   ⟨{(((S0.setPin 156 {cfg := {mode := 1}, level := true, accepted := true, last := some smp}).setPin 157 {cfg := {mode := 1}, last := some smp}).setPin 158 {cfg := {mode := 2}, last := some smp}).setPin 159 {cfg := {mode := 1}, last := some smp} with alm := {dsrc := 1, firstPin := some 156, selAt := 4000001001}}, 1000, 0, by decide +kernel⟩,
   ⟨{SQ with alm := {dsrc := 1, firstPin := some 155, cabin := some 3}}, 1000, by decide +kernel⟩,
   ⟨{SQ with alm := {dsrc := 1, firstPin := some 155, cabin := some 3, selAt := 4000001001}}, 1000, by decide +kernel⟩,
   ⟨SP.setGroup 9 {provisional := true, foPoint := 4095, key := 4998000999, armed := false}, 1000, 9, by decide +kernel⟩,
   ⟨S0.setGroup 9 {provisional := true, foPoint := 4095, key := 4998000999, armed := false}, 1000, 9, by decide +kernel⟩,
   ⟨SP.setGroup 9 {provisional := true, foPoint := 4095, key := 4998001000, armed := false}, 1000, 9, by decide +kernel⟩,
   ⟨SP.setGroup 9 {flashEnd := some 4998000999}, 1000, 4998000999, 9, by decide +kernel⟩,
   ⟨S0.setGroup 9 {flashEnd := some 5000001001}, 1000, 5000001001, 9, by decide +kernel⟩⟩

/-- What meets the hypotheses of `Obligations.AlarmEvents`, clause by clause. -/
theorem witness_AlarmEvents :
    (∃ (s : State) (dt : Nat), s.evalOn = true ∧ (repeatPoints (s.advance dt)).alm.inbox = []) ∧
    (∃ (s : State) (dt : Nat) (k : _) (n : _) (m : _) (r : _), s.evalOn = true ∧ (repeatPoints (s.advance dt)).alm.inbox = (k, n, m) :: r) ∧
    (∃ (s : State), s.evalOn = false ∧ s.alm.inbox = []) ∧
    (∃ (s : State), s.evalOn = false ∧ s.mode .alm = true) ∧
    (∃ (s : State) (h : _) (r : _), s.evalOn = false ∧ s.mode .alm = false ∧ s.alm.inbox = h :: r) ∧
    (∃ (s : State) (p : Fin 4096), s.evalOn = true ∧ ((s.point p).stale = false ∨ (s.point p).ctype = 4)) ∧
    (∃ (s : State) (g : Nat) (now : Nat) (t : Nat), (s.point g).run = some t ∧ now < t + (s.point g).runOff + (s.point g).delay) ∧
    (∃ (s : State) (g : Nat) (now : Nat) (t : Nat), (s.point g).run = some t ∧ t + (s.point g).runOff + (s.point g).delay ≤ now) ∧
    (∃ (s : State), s.evalOn = false) ∧
    (∃ (s : State) (dt : Nat) (p : Fin 4096), s.evalOn = true ∧ (s.point p).stale = false ∧ (s.advance dt).canStale (s.point p) = true ∧ (s.point p).seen + s.staleAfter (s.point p) ≤ s.now + dt ∧ (s.point p).ctype ≠ 4) ∧
    (∃ (s : State) (dt : Nat) (p : Fin 4096), s.evalOn = true ∧ (s.point p).stale = false ∧ s.now + dt < (s.point p).seen + s.staleAfter (s.point p)) ∧
    (∃ (s : State) (dt : Nat) (t : Nat) (p : Fin 4096), s.evalOn = true ∧ (s.point p).supSeen = some t ∧ (s.point p).supCond = true ∧ t + autoTimeout (s.period (s.point p).srcS) ≤ s.now + dt ∧ (s.point p).b 40 ≠ 5) ∧
    (∃ (s : State) (dt : Nat) (p : Fin 4096) (h : Nat × Nat × Sample), s.evalOn = true ∧ (s.point p).halves = [h] ∧ h.2.1 + 2000000 ≤ s.now + dt) ∧
    (∃ (s : State) (dt : Nat) (p : Fin 4096) (h : Nat × Nat × Sample), s.evalOn = true ∧ (s.point p).halves = [h] ∧ s.now + dt < h.2.1 + 2000000) ∧
    (∃ (s : State) (dt : Nat) (t : Nat) (p : Fin 4096), s.evalOn = true ∧ (s.point p).supLeft = some t ∧ t + (s.point p).supRelease ≤ s.now + dt) ∧
    (∃ (s : State) (dt : Nat) (t : Nat) (p : Fin 4096), s.evalOn = true ∧ (s.point p).supLeft = some t ∧ s.now + dt < t + (s.point p).supRelease) ∧
    (∃ (s : State) (dt : Nat) (t : Nat) (p : Fin 4096), s.evalOn = true ∧ (s.point p).unack = true ∧ (s.point p).tU = some t ∧ (s.point p).chain ≤ 15 ∧ (s.chain (s.point p).chain).t1 ≠ 0 ∧ (s.chain (s.point p).chain).callMin ≤ (s.point p).category ∧ (s.point p).caution = false ∧ ((s.point p).sim = false ∨ s.alm.simCalls = true) ∧ (s.point p).step = 1 ∧ t + (s.point p).escOff + 1000000000 * (s.chain (s.point p).chain).t1 ≤ s.now + dt) ∧
    (∃ (s : State) (dt : Nat) (t : Nat) (p : Fin 4096), s.evalOn = true ∧ (s.point p).unack = true ∧ (s.point p).tU = some t ∧ (s.point p).chain ≤ 15 ∧ (s.chain (s.point p).chain).t1 ≠ 0 ∧ (s.chain (s.point p).chain).callMin ≤ (s.point p).category ∧ (s.point p).caution = false ∧ ((s.point p).sim = false ∨ s.alm.simCalls = true) ∧ (s.point p).step = 2 ∧ t + (s.point p).escOff + 1000000000 * (s.chain (s.point p).chain).t2 ≤ s.now + dt) ∧
    (∃ (s : State) (dt : Nat) (t : Nat) (p : Fin 4096), s.evalOn = true ∧ (s.point p).unack = true ∧ (s.point p).tU = some t ∧ (s.point p).chain ≤ 15 ∧ (s.chain (s.point p).chain).t1 ≠ 0 ∧ (s.chain (s.point p).chain).callMin ≤ (s.point p).category ∧ (s.point p).caution = false ∧ ((s.point p).sim = false ∨ s.alm.simCalls = true) ∧ (s.point p).step = 1 ∧ s.now + dt < t + (s.point p).escOff + 1000000000 * (s.chain (s.point p).chain).t1) ∧
    (∃ (s : State) (n : Fin 16), s.evalOn = true ∧ s.pinHigh (s.chain n).ack = true) ∧
    (∃ (s : State) (n : Fin 16), s.evalOn = true ∧ s.pinHigh (s.chain n).silence = true) ∧
    (∃ (s : State) (n : Fin 16), s.pinHigh (s.chain n).ack = false) ∧
    (∃ (s : State) (n : Fin 16), s.pinHigh (s.chain n).silence = false) :=
  ⟨⟨S0, 1000, by decide +kernel⟩,
   ⟨{S0.setPoint 4095 P1 with alm := {(S0.setPoint 4095 P1).alm with inbox := [(1, 0, { smp with value := 0x43480000 })]}}, 1000, 1, 0, { smp with value := 0x43480000 }, [], by decide +kernel⟩,
   ⟨{S0 with pwr := {S0.pwr with state := .holdover}}, by decide +kernel⟩,
   ⟨{S0 with pwr := {S0.pwr with state := .holdover}}, by decide +kernel⟩,
   ⟨{S0 with mod := {S0.mod with cmd := 0x9FD}, alm := {inbox := [(1, 0, smp)]}}, (1, 0, smp), [], by decide +kernel⟩,
   ⟨SP, 4095, by decide +kernel⟩,
   ⟨S0.setPoint 4095 {P1 with run := some 5}, 4095, 4, 5, by decide +kernel⟩,
   ⟨S0.setPoint 4095 {P1 with run := some 5}, 4095, 5, 5, by decide +kernel⟩,
   ⟨{SP with mod := {S0.mod with cmd := 0x9FD}}, by decide +kernel⟩,
   ⟨SP, 1000, 4095, by decide +kernel⟩,
   ⟨S0.setPoint 4095 {P1 with seen := 5000000000}, 1000, 4095, by decide +kernel⟩,
   ⟨S0.setPoint 4095 {pt [(0,1,1),(2,2,63),(11,1,2),(12,1,9),(13,1,15),(15,1,1),(16,4,0x42C80000),(20,4,0x3F800000),(40,1,1),(42,2,62)] with supCond := true, supSeen := some 4000000000}, 1000, 4000000000, 4095, by decide +kernel⟩,
   ⟨S0.setPoint 4095 {P1 with halves := [(0, 4998001000, smp)]}, 1000, 4095, (0, 4998001000, smp), by decide +kernel⟩,
   ⟨S0.setPoint 4095 {P1 with halves := [(0, 4998001001, smp)]}, 1000, 4095, (0, 4998001001, smp), by decide +kernel⟩,
   ⟨S0.setPoint 4095 {P1 with supCond := true, supLeft := some 5000001000}, 1000, 5000001000, 4095, by decide +kernel⟩,
   ⟨S0.setPoint 4095 {P1 with supCond := true, supLeft := some 5000001001}, 1000, 5000001001, 4095, by decide +kernel⟩,
   ⟨(S0.setPoint 4095 {P1 with seq := 1, cond := true, tU := some 5000001000, step := 1}).setChain 15 {t1 := 10, t2 := 20, callMin := 2}, 10000001000, 5000001000, 4095, by decide +kernel⟩,
   ⟨(S0.setPoint 4095 {P1 with seq := 1, cond := true, tU := some 5000001000, step := 2}).setChain 15 {t1 := 10, t2 := 20, callMin := 2}, 20000001000, 5000001000, 4095, by decide +kernel⟩,
   ⟨(S0.setPoint 4095 {P1 with seq := 1, cond := true, tU := some 5000001000, step := 1}).setChain 15 {t1 := 10, t2 := 20, callMin := 2}, 10000000999, 5000001000, 4095, by decide +kernel⟩,
   ⟨(SP.setPin 158 (SQ.pin 158)).setChain 15 {ack := some 158}, 15, by decide +kernel⟩,
   ⟨(SP.setPin 158 (SQ.pin 158)).setChain 15 {silence := some 158}, 15, by decide +kernel⟩,
   ⟨S0, 15, by decide +kernel⟩,
   ⟨S0, 15, by decide +kernel⟩⟩

/-- What meets the hypotheses of `Obligations.ProgramAndCycleCommands`, clause by clause. -/
theorem witness_ProgramAndCycleCommands :
    (∃ (s : State) (dt : Nat) (c : Cmd), s.Ready .programLoad dt c ∧ Clean c [(32, 1), (40, 12)] 0 ∧ c.u8 32 ≤ 1 ∧ (c.u64 40 % 4096 ≠ 0 ∨ c.u32 48 = 0 ∨ 2097152 < c.u32 48)) ∧
    (∃ (s : State) (dt : Nat) (c : Cmd), s.Ready .programLoad dt c ∧ Clean c [(32, 1), (40, 12)] 0 ∧ c.u8 32 ≤ 1 ∧ (c.u64 40 % 4096 ≠ 0 ∨ c.u32 48 = 0 ∨ 2097152 < c.u32 48)) ∧
    (∃ (s : State) (dt : Nat) (c : Cmd), s.Ready .programLoad dt c ∧ Clean c [(32, 1), (40, 12)] 0 ∧ c.u8 32 ≤ 1 ∧ (c.u64 40 % 4096 ≠ 0 ∨ c.u32 48 = 0 ∨ 2097152 < c.u32 48)) ∧
    (∃ (s : State) (dt : Nat) (c : Cmd), s.Ready .programLoad dt c ∧ Clean c [(32, 1), (40, 12)] 0 ∧ c.u8 32 ≤ 1 ∧ c.u64 40 % 4096 = 0 ∧ c.u32 48 ≠ 0 ∧ c.u32 48 ≤ 2097152 ∧ (s.prg.stateNum = 2 ∨ s.prg.stateNum = 3) ∧ s.prg.slot = c.u8 32) ∧
    (∃ (s : State) (dt : Nat) (c : Cmd), s.Ready .programStart dt c ∧ Clean c [(32, 2)] 0 ∧ c.u8 32 ≤ 1 ∧ c.u8 33 ≤ 1 ∧ s.slotImage (c.u8 32) = none) ∧
    (∃ (s : State) (dt : Nat) (c : Cmd) (i : _), s.Ready .programStart dt c ∧ Clean c [(32, 2)] 0 ∧ c.u8 32 ≤ 1 ∧ c.u8 33 ≤ 1 ∧ s.slotImage (c.u8 32) = some i ∧ s.prg.period < (timingOf (some i) (s.entered .programStart dt c)).pmin) ∧
    (∃ (s : State) (dt : Nat) (c : Cmd) (i : _), s.Ready .programStart dt c ∧ Clean c [(32, 2)] 0 ∧ c.u8 32 ≤ 1 ∧ c.u8 33 ≤ 1 ∧ s.slotImage (c.u8 32) = some i ∧ (timingOf (some i) (s.entered .programStart dt c)).pmin ≤ s.prg.period ∧ s.mode .ctl = false) ∧
    (∃ (s : State) (dt : Nat) (c : Cmd) (i : _) (b : _), s.Ready .programStart dt c ∧ Clean c [(32, 2)] 0 ∧ c.u8 32 ≤ 1 ∧ c.u8 33 ≤ 1 ∧ s.slotImage (c.u8 32) = some i ∧ (timingOf (some i) (s.entered .programStart dt c)).pmin ≤ s.prg.period ∧ s.mode .ctl = true ∧ bindsBad i (s.entered .programStart dt c) = some b) ∧
    (∃ (s : State) (dt : Nat) (c : Cmd) (i : _), s.Ready .programStart dt c ∧ Clean c [(32, 2)] 0 ∧ c.u8 32 ≤ 1 ∧ c.u8 33 ≤ 1 ∧ s.slotImage (c.u8 32) = some i ∧ (timingOf (some i) (s.entered .programStart dt c)).pmin ≤ s.prg.period ∧ s.mode .ctl = true ∧ bindsBad i (s.entered .programStart dt c) = none) ∧
    (∃ (s : State) (dt : Nat) (c : Cmd), s.Ready .programStop dt c ∧ Clean c [] 0) ∧
    (∃ (s : State) (dt : Nat) (c : Cmd), s.Ready .programStop dt c ∧ Clean c [] 0) ∧
    (∃ (s : State) (dt : Nat) (c : Cmd), s.Ready .programStatus dt c ∧ Clean c [] 0) ∧
    (∃ (s : State) (dt : Nat) (c : Cmd), s.Ready .variableRead dt c ∧ Clean c [(34, 3)] 0 ∧ ((c.u8 36) = 0 ∨ 3 < (c.u8 36) ∨ s.image = none)) ∧
    (∃ (s : State) (dt : Nat) (c : Cmd), s.Ready .variableRead dt c ∧ Clean c [(34, 3)] 0 ∧ ((c.u8 36) = 0 ∨ 3 < (c.u8 36) ∨ s.image = none)) ∧
    (∃ (s : State) (dt : Nat) (c : Cmd) (i : _), s.Ready .variableRead dt c ∧ Clean c [(34, 3)] 0 ∧ 1 ≤ (c.u8 36) ∧ (c.u8 36) ≤ 3 ∧ s.image = some i ∧ i.vars.length < (c.u16 34) + (c.u8 36)) ∧
    (∃ (s : State) (dt : Nat) (c : Cmd) (i : _), s.Ready .variableRead dt c ∧ Clean c [(34, 3)] 0 ∧ 1 ≤ (c.u8 36) ∧ (c.u8 36) ≤ 3 ∧ s.image = some i ∧ (c.u16 34) + (c.u8 36) ≤ i.vars.length) ∧
    (∃ (s : State) (dt : Nat) (c : Cmd) (i : Image), s.Ready .variableForce dt c ∧ Clean c [(34, 3), (40, 10)] 0 ∧ c.u8 36 ≤ 2 ∧ s.image = some i ∧ (c.u8 36 = 2 ∨ (c.u16 34) < i.vars.length) ∧ s.mode .sim = false) ∧
    (∃ (s : State) (dt : Nat) (c : Cmd) (i : Image), s.Ready .variableForce dt c ∧ Clean c [(34, 3), (40, 10)] 0 ∧ c.u8 36 ≤ 2 ∧ s.image = some i ∧ (c.u8 36 = 2 ∨ (c.u16 34) < i.vars.length) ∧ s.mode .sim = true ∧ c.u8 36 = 0 ∧ (i.vars.getD (c.u16 34) {}).forceable = false) ∧
    (∃ (s : State) (dt : Nat) (c : Cmd) (i : Image), s.Ready .variableForce dt c ∧ Clean c [(34, 3), (40, 10)] 0 ∧ c.u8 36 ≤ 2 ∧ s.image = some i ∧ (c.u8 36 = 2 ∨ (c.u16 34) < i.vars.length) ∧ s.mode .sim = true ∧ c.u8 36 = 0 ∧ (i.vars.getD (c.u16 34) {}).forceable = true ∧ s.prg.forces.any (·.1 == (c.u16 34)) = false ∧ 256 ≤ s.prg.forces.length + (s.prg.forceReq.filter (·.2.2.1 == 0)).length) ∧
    (∃ (s : State) (dt : Nat) (c : Cmd) (i : Image), s.Ready .variableForce dt c ∧ Clean c [(34, 3), (40, 10)] 0 ∧ c.u8 36 ≤ 2 ∧ s.image = some i ∧ (c.u8 36 = 2 ∨ (c.u16 34) < i.vars.length) ∧ s.mode .sim = true ∧ (c.u8 36 = 0 → (i.vars.getD (c.u16 34) {}).forceable = true ∧ valueFits (i.typ (c.u16 34)) (c.u64 40) = true ∧ (s.prg.forces.any (·.1 == (c.u16 34)) = true ∨ s.prg.forces.length + (s.prg.forceReq.filter (·.2.2.1 == 0)).length < 256))) ∧
    (∃ (s : State) (dt : Nat) (c : Cmd), s.Ready .cycleConfigure dt c ∧ Clean c [(33, 1), (36, 4)] 0 ∧ c.u8 33 ≠ 0 ∧ (c.u32 36 < 25 ∨ 1000000 < c.u32 36)) ∧
    (∃ (s : State) (dt : Nat) (c : Cmd), s.Ready .cycleConfigure dt c ∧ Clean c [(33, 1), (36, 4)] 0 ∧ c.u8 33 ≠ 0 ∧ (c.u32 36 < 25 ∨ 1000000 < c.u32 36)) ∧
    (∃ (s : State) (dt : Nat) (c : Cmd), s.Ready .cycleConfigure dt c ∧ Clean c [(33, 1), (36, 4)] 0 ∧ c.u8 33 ≠ 0 ∧ 25 ≤ c.u32 36 ∧ c.u32 36 ≤ 1000000 ∧ s.mode .ring = true ∧ s.rng.roleNow ≠ 0 ∧ s.rng.isMaster = false) ∧
    (∃ (s : State) (dt : Nat) (c : Cmd), s.Ready .cycleConfigure dt c ∧ Clean c [(33, 1), (36, 4)] 0 ∧ c.u8 33 ≠ 0 ∧ 25 ≤ c.u32 36 ∧ c.u32 36 ≤ 1000000 ∧ (s.mode .ring = false ∨ s.rng.roleNow = 0 ∨ s.rng.isMaster = true) ∧ (10000 * c.u32 36) < (s.entered .cycleConfigure dt c).cycleTiming.pmin) ∧
    (∃ (s : State) (dt : Nat) (c : Cmd), s.Ready .cycleConfigure dt c ∧ Clean c [(33, 1), (36, 4)] 0 ∧ c.u8 33 ≠ 0 ∧ 25 ≤ c.u32 36 ∧ c.u32 36 ≤ 1000000 ∧ (s.mode .ring = false ∨ s.rng.roleNow = 0 ∨ s.rng.isMaster = true) ∧ (s.entered .cycleConfigure dt c).cycleTiming.pmin ≤ (10000 * c.u32 36) ∧ s.leadsRing = false) ∧
    (∃ (s : State) (dt : Nat) (c : Cmd), s.Ready .cycleConfigure dt c ∧ Clean c [(33, 1), (36, 4)] 0 ∧ c.u8 33 ≠ 0 ∧ 25 ≤ c.u32 36 ∧ c.u32 36 ≤ 1000000 ∧ (s.mode .ring = false ∨ s.rng.roleNow = 0 ∨ s.rng.isMaster = true) ∧ (s.entered .cycleConfigure dt c).cycleTiming.pmin ≤ (10000 * c.u32 36) ∧ s.leadsRing = false) ∧
    (∃ (s : State) (dt : Nat) (c : Cmd), s.Ready .cycleConfigure dt c ∧ Clean c [(33, 1), (36, 4)] 0 ∧ c.u8 33 ≠ 0 ∧ 25 ≤ c.u32 36 ∧ c.u32 36 ≤ 1000000 ∧ (s.mode .ring = false ∨ s.rng.roleNow = 0 ∨ s.rng.isMaster = true) ∧ (s.entered .cycleConfigure dt c).cycleTiming.pmin ≤ (10000 * c.u32 36) ∧ s.leadsRing = true) ∧
    (∃ (s : State) (dt : Nat) (c : Cmd), s.Ready .setConfigure dt c ∧ Clean c [(33, 2), (36, 4)] 0 ∧ c.u8 33 ≤ 15 ∧ c.u8 34 ≤ 1 ∧ c.w32 36 ≠ 0 ∧ (s.nodeNo = 0 ∨ (c.w32 36).getLsbD (s.nodeNo - 1) = false)) ∧
    (∃ (s : State) (dt : Nat) (c : Cmd), s.Ready .setConfigure dt c ∧ Clean c [(33, 2), (36, 4)] 0 ∧ c.u8 33 ≤ 15 ∧ c.u8 34 ≤ 1 ∧ (c.w32 36 = 0 ∨ (s.nodeNo ≠ 0 ∧ (c.w32 36).getLsbD (s.nodeNo - 1) = true))) ∧
    (∃ (s : State) (dt : Nat) (c : Cmd), s.Ready .setConfigure dt c ∧ Clean c [(33, 2), (36, 4)] 0 ∧ c.u8 33 ≤ 15 ∧ c.u8 34 ≤ 1 ∧ (c.w32 36 = 0 ∨ (s.nodeNo ≠ 0 ∧ (c.w32 36).getLsbD (s.nodeNo - 1) = true))) :=
  ⟨⟨S0, 1000, pk [(32,1,1),(40,8,0x1001),(48,4,64)], by unfold Clean; decide +kernel⟩,
   ⟨S0, 1000, pk [(32,1,1),(40,8,0x1000),(48,4,2097153)], by unfold Clean; decide +kernel⟩,
   ⟨S0, 1000, pk [(32,1,1),(40,8,0x1000)], by unfold Clean; decide +kernel⟩,
   ⟨SG, 1000, pk [(32,1,0),(40,8,0x1000),(48,4,2097152)], by unfold Clean; decide +kernel⟩,
   ⟨SG, 1000, pk [(32,1,1),(33,1,1)], by unfold Clean; decide +kernel⟩,
   ⟨{SG with prg := {SG.prg with period := 249999, stateNum := 1}}, 1000, pk [(33,1,1)], img0, by unfold Clean; decide +kernel⟩,
   ⟨{SG with mod := {S0.mod with cmd := 0x9FB}}, 1000, pk [(33,1,1)], img0, by unfold Clean; decide +kernel⟩,
   ⟨{SG with prg := {SG.prg with slot0 := some {img0 with binds := [⟨12, 0, 0, 0, 66, 5⟩]}, stateNum := 1}}, 1000, pk [(33,1,1)], {img0 with binds := [⟨12, 0, 0, 0, 66, 5⟩]}, (9, 0, 0), by unfold Clean; decide +kernel⟩,
   ⟨SG, 1000, pk [(33,1,1)], img0, by unfold Clean; decide +kernel⟩,
   ⟨SG, 1000, pk [], by unfold Clean; decide +kernel⟩,
   ⟨S0, 1000, pk [], by unfold Clean; decide +kernel⟩,
   ⟨SG, 1000, pk [], by unfold Clean; decide +kernel⟩,
   ⟨SG, 1000, pk [(34,2,66),(36,1,4)], by unfold Clean; decide +kernel⟩,
   ⟨S0, 1000, pk [(34,2,66),(36,1,1)], by unfold Clean; decide +kernel⟩,
   ⟨SG, 1000, pk [(34,2,66),(36,1,3)], img0, by unfold Clean; decide +kernel⟩,
   ⟨SG, 1000, pk [(34,2,66),(36,1,1)], img0, by unfold Clean; decide +kernel⟩,
   ⟨{SG with mod := {S0.mod with cmd := 0x97F}}, 1000, pk [(34,2,66),(40,2,1)], img0, by unfold Clean; decide +kernel⟩,
   ⟨SG, 1000, pk [(34,2,66),(40,2,1)], img0, by unfold Clean; decide +kernel⟩,
   ⟨{SG with prg := {SG.prg with slot0 := some imgF, forces := (List.range 256).map fun k => (k, (0, 0))}}, 1000, pk [(34,2,299),(40,2,1)], imgF, by unfold Clean; decide +kernel⟩,
   ⟨{SG with prg := {SG.prg with forces := [(64, (1, 0))]}}, 1000, pk [(34,2,64),(40,8,1),(48,2,3)], img0, by unfold Clean; decide +kernel⟩,
   ⟨S0, 1000, pk [(33,1,3),(36,4,24)], by unfold Clean; decide +kernel⟩,
   ⟨S0, 1000, pk [(33,1,3),(36,4,1000001)], by unfold Clean; decide +kernel⟩,
   ⟨SM, 1000, pk [(33,1,3),(36,4,25)], by unfold Clean; decide +kernel⟩,
   ⟨{SR with rng := {SR.rng with dir := [(2, { id := 7, locked := true, eligible := true, priority := 6, hops0 := 1, hops1 := 1, heard := 4999990000, role := 2, prog := some (300000, 0, 0) })]}}, 1000, pk [(33,1,3),(36,4,25)], by unfold Clean; decide +kernel⟩,
   ⟨SG, 1000, pk [(33,1,3),(36,4,25)], by unfold Clean; decide +kernel⟩,
   ⟨S0, 1000, pk [(33,1,255),(36,4,1000000)], by unfold Clean; decide +kernel⟩,
   ⟨SR, 1000, pk [(33,1,3),(36,4,25)], by unfold Clean; decide +kernel⟩,
   ⟨S0, 1000, pk [(33,1,15),(34,1,1),(36,4,1)], by unfold Clean; decide +kernel⟩,
   ⟨SM, 1000, pk [(33,1,15),(34,1,1),(36,4,5)], by unfold Clean; decide +kernel⟩,
   ⟨S0, 1000, pk [(33,1,15),(34,1,1)], by unfold Clean; decide +kernel⟩⟩

/-- What meets the hypotheses of `Obligations.CyclePhases`, clause by clause. -/
theorem witness_CyclePhases :
    (∃ (s : State) (dt : Nat) (u : Nat), s.prg.lastSnap = some u ∧ s.prg.period ≠ 0 ∧ (s.now + dt) / s.prg.period * s.prg.period ≤ u) ∧
    (∃ (s : State) (dt : Nat), s.prg.period ≠ 0 ∧ (∀ v, s.prg.lastSnap = some v → v < (((s.now + dt) / s.prg.period) * s.prg.period)) ∧ s.prg.phase = .idle ∧ s.pwr.state = .run ∧ s.pwr.phase ≠ .asserted ∧ ((judgeFeasible (masterSnap ((((s.now + dt) / s.prg.period) * s.prg.period) / s.prg.period) (((s.now + dt) / s.prg.period) * s.prg.period) (boundaryRequests (((s.now + dt) / s.prg.period) * s.prg.period) { s.advance dt with prg := { s.prg with lastSnap := some (((s.now + dt) / s.prg.period) * s.prg.period) } }))).image = none ∨ (judgeFeasible (masterSnap ((((s.now + dt) / s.prg.period) * s.prg.period) / s.prg.period) (((s.now + dt) / s.prg.period) * s.prg.period) (boundaryRequests (((s.now + dt) / s.prg.period) * s.prg.period) { s.advance dt with prg := { s.prg with lastSnap := some (((s.now + dt) / s.prg.period) * s.prg.period) } }))).prg.stateNum ≠ 2 ∨ (((s.now + dt) / s.prg.period) * s.prg.period) < (judgeFeasible (masterSnap ((((s.now + dt) / s.prg.period) * s.prg.period) / s.prg.period) (((s.now + dt) / s.prg.period) * s.prg.period) (boundaryRequests (((s.now + dt) / s.prg.period) * s.prg.period) { s.advance dt with prg := { s.prg with lastSnap := some (((s.now + dt) / s.prg.period) * s.prg.period) } }))).prg.notBefore)) ∧
    (∃ (s : State) (dt : Nat) (i : _), s.prg.period ≠ 0 ∧ (∀ v, s.prg.lastSnap = some v → v < (((s.now + dt) / s.prg.period) * s.prg.period)) ∧ s.prg.phase = .idle ∧ s.pwr.state = .run ∧ s.pwr.phase ≠ .asserted ∧ (judgeFeasible (masterSnap ((((s.now + dt) / s.prg.period) * s.prg.period) / s.prg.period) (((s.now + dt) / s.prg.period) * s.prg.period) (boundaryRequests (((s.now + dt) / s.prg.period) * s.prg.period) { s.advance dt with prg := { s.prg with lastSnap := some (((s.now + dt) / s.prg.period) * s.prg.period) } }))).image = some i ∧ (judgeFeasible (masterSnap ((((s.now + dt) / s.prg.period) * s.prg.period) / s.prg.period) (((s.now + dt) / s.prg.period) * s.prg.period) (boundaryRequests (((s.now + dt) / s.prg.period) * s.prg.period) { s.advance dt with prg := { s.prg with lastSnap := some (((s.now + dt) / s.prg.period) * s.prg.period) } }))).prg.stateNum = 2 ∧ (judgeFeasible (masterSnap ((((s.now + dt) / s.prg.period) * s.prg.period) / s.prg.period) (((s.now + dt) / s.prg.period) * s.prg.period) (boundaryRequests (((s.now + dt) / s.prg.period) * s.prg.period) { s.advance dt with prg := { s.prg with lastSnap := some (((s.now + dt) / s.prg.period) * s.prg.period) } }))).prg.notBefore ≤ (((s.now + dt) / s.prg.period) * s.prg.period)) ∧
    (∃ (s : State) (dt : Nat) (i : Image), s.image = some i ∧ s.prg.phase = .snapped ∧ (timingOf s.image s).gather ≤ fifths (s.now + dt - s.prg.lastSnap.getD 0)) ∧
    (∃ (s : State) (dt : Nat) (i : Image), s.image = some i ∧ s.prg.phase = .snapped ∧ fifths (s.now + dt - s.prg.lastSnap.getD 0) < (timingOf s.image s).gather) ∧
    (∃ (s : State), s.prg.phase ≠ .snapped) ∧
    (∃ (s : State) (dt : Nat) (i : Image), s.image = some i ∧ (s.prg.phase = .gathered ∨ (s.prg.phase = .snapped ∧ ∀ b, b ∈ i.binds → b.kind ≠ 3)) ∧ (timingOf s.image s).gather ≤ fifths (s.now + dt - s.prg.lastSnap.getD 0) ∧ fifths (s.now + dt - s.prg.lastSnap.getD 0) ≤ (timingOf s.image s).deadline) ∧
    (∃ (s : State) (dt : Nat) (i : Image), s.image = some i ∧ (timingOf s.image s).deadline < fifths (s.now + dt - s.prg.lastSnap.getD 0)) ∧
    (∃ (s : State) (dt : Nat), (s.prg.phase = .snapped ∨ s.prg.phase = .gathered) ∧ (timingOf s.image s).deadline < fifths (s.now + dt - s.prg.lastSnap.getD 0)) ∧
    (∃ (s : State), s.leadsRing = false ∧ (s.prg.phase = .idle ∨ s.prg.phase = .snapped ∨ s.prg.phase = .gathered)) ∧
    (∃ (s : State) (dt : Nat), s.leadsRing = false ∧ s.prg.phase = .solved ∧ (s.now + dt - s.prg.lastSnap.getD 0) < readyAfter s ∧ (s.now + dt - s.prg.lastSnap.getD 0) < s.cofs - 5000) ∧
    (∃ (s : State) (dt : Nat), s.leadsRing = false ∧ s.prg.phase = .solved ∧ readyAfter s ≤ (s.now + dt - s.prg.lastSnap.getD 0) ∧ (s.now + dt - s.prg.lastSnap.getD 0) < s.cofs - 5000) ∧
    (∃ (s : State) (dt : Nat), s.leadsRing = false ∧ s.prg.phase = .overrun ∧ s.cofs - 5000 ≤ (s.now + dt - s.prg.lastSnap.getD 0)) ∧
    (∃ (s : State) (dt : Nat), s.leadsRing = true ∧ s.prg.phase = .idle ∧ s.prg.lastSnap.isSome = true ∧ decideAfter s ≤ s.now + dt - s.prg.lastSnap.getD 0 ∧ (∀ n, n < 16 → (s.set n).go = none ∨ (s.set n).members = 0)) ∧
    (∃ (s : State) (dt : Nat) (i : Image), s.image = some i ∧ s.cofs ≤ s.now + dt - s.prg.lastSnap.getD 0 ∧ s.prg.phase = .solved) ∧
    (∃ (s : State) (dt : Nat) (i : Image), s.image = some i ∧ s.cofs ≤ s.now + dt - s.prg.lastSnap.getD 0 ∧ s.prg.phase = .overrun ∧ s.prg.ovrConsec < s.prg.ovrLimit) ∧
    (∃ (s : State) (dt : Nat) (i : Image), s.image = some i ∧ s.cofs ≤ s.now + dt - s.prg.lastSnap.getD 0 ∧ s.prg.phase = .overrun ∧ s.prg.ovrLimit ≤ s.prg.ovrConsec) ∧
    (∃ (s : State) (dt : Nat), (s.prg.phase = .snapped ∨ s.now + dt - s.prg.lastSnap.getD 0 < s.cofs)) ∧
    (∃ (s : State) (dt : Nat), s.prg.wasRunning = true ∧ s.prg.autostart = true ∧ s.mode .ctl = true ∧ (s.pwr.phase = .acquiring ∨ s.pwr.phase = .evaluating) ∧ s.prg.notBefore ≤ s.now + dt) ∧
    (∃ (s : State) (slot : Nat) (i : Image), s.slotImage slot = some i) ∧
    (∃ (s : State), s.prg.wasRunning = false) :=
  ⟨⟨ph .idle, 1000, 5000000000, by decide +kernel⟩,
   ⟨{S0 with prg := {lastSnap := some 4900000000}}, 1000, by decide +kernel⟩,
   ⟨SG, 1000, img0, by decide +kernel⟩,
   ⟨ph .snapped, 25000, img0, by decide +kernel⟩,
   ⟨ph .snapped, 24999, img0, by decide +kernel⟩,
   ⟨ph .idle, by decide +kernel⟩,
   ⟨ph .gathered, 26000, img0, by decide +kernel⟩,
   ⟨ph .gathered, 30000, img0, by decide +kernel⟩,
   ⟨ph .snapped, 30000, by decide +kernel⟩,
   ⟨ph .idle, by decide +kernel⟩,
   ⟨ph .solved, 35000, by decide +kernel⟩,
   ⟨{SM with prg := {phase := .solved, lastSnap := some 5000000000, sets := [(15, { configured := true, members := 4 })]}}, 75000, by decide +kernel⟩,
   ⟨{SM with prg := {phase := .overrun, lastSnap := some 5000000000}}, 100000, by decide +kernel⟩,
   ⟨SRp .idle, 90000, by decide +kernel⟩,
   ⟨ph .solved, 50000, img0, by decide +kernel⟩,
   ⟨ph .overrun, 50000, img0, by decide +kernel⟩,
   ⟨{ph .overrun with prg := {(ph .overrun).prg with ovrConsec := 3}}, 50000, img0, by decide +kernel⟩,
   ⟨ph .snapped, 1000, by decide +kernel⟩,
   ⟨{SG with prg := {SG.prg with wasRunning := true, autostart := true, stateNum := 1}}, 1000, by decide +kernel⟩,
   ⟨SG, 0, img0, by decide +kernel⟩,
   ⟨SG, by decide +kernel⟩⟩

/-- What meets the hypotheses of `Obligations.RingCommands`, clause by clause. -/
theorem witness_RingCommands :
    (∃ (s : State) (dt : Nat) (c : Cmd), s.Ready .ringConfigure dt c ∧ Clean c [(32, 3)] 0 ∧ c.u8 34 ≤ 3 ∧ 32 < c.u8 32) ∧
    (∃ (s : State) (dt : Nat) (c : Cmd), s.Ready .ringConfigure dt c ∧ Clean c [(32, 3)] 0 ∧ c.u8 34 ≤ 3 ∧ c.u8 32 ≤ 32 ∧ s.mode .ring = true) ∧
    (∃ (s : State) (dt : Nat) (c : Cmd), s.Ready .ringConfigure dt c ∧ Clean c [(32, 3)] 0 ∧ c.u8 34 ≤ 3 ∧ c.u8 32 ≤ 32 ∧ s.mode .ring = false ∧ c.u8 34 = 3) ∧
    (∃ (s : State) (dt : Nat) (c : Cmd), s.Ready .ringConfigure dt c ∧ Clean c [(32, 3)] 0 ∧ c.u8 34 ≤ 3 ∧ c.u8 32 ≤ 32 ∧ s.mode .ring = false) ∧
    (∃ (s : State) (dt : Nat) (c : Cmd), s.Ready .ringStatus dt c ∧ c.u8 32 = 0 ∧ Clean c [(32, 1)] 0) ∧
    (∃ (s : State) (dt : Nat) (c : Cmd), s.Ready .ringStatus dt c ∧ (c.u8 32 = 1 ∨ c.u8 32 = 2) ∧ Clean c [(32, 1)] 0) ∧
    (∃ (s : State) (dt : Nat) (c : Cmd), s.Ready .ringStatus dt c ∧ c.u8 32 = 3 ∧ Clean c [(32, 2)] 0 ∧ 1 ≤ c.u8 33 ∧ c.u8 33 ≤ 32) ∧
    (∃ (s : State) (dt : Nat) (c : Cmd), s.Ready .ringStatus dt c ∧ c.u8 32 = 3 ∧ Clean c [(32, 2)] 0 ∧ (c.u8 33 = 0 ∨ 32 < c.u8 33)) ∧
    (∃ (s : State) (dt : Nat) (c : Cmd), s.Ready .ringKeySet dt c ∧ c.u8 32 ≤ 1 ∧ c.u8 33 = 1 ∧ Clean c [(32, 2)] 0 ∧ c.paramLen = 0 ∧ s.rng.isMaster = false) ∧
    (∃ (s : State) (dt : Nat) (c : Cmd), s.Ready .ringKeySet dt c ∧ c.u8 32 ≤ 1 ∧ c.u8 33 = 1 ∧ Clean c [(32, 2)] 0 ∧ c.paramLen = 0 ∧ s.rng.isMaster = true ∧ (c.u8 32 = s.rng.keySlot ∨ (s.entered .ringKeySet dt c).keysAgree (c.u8 32) = false)) ∧
    (∃ (s : State) (dt : Nat) (c : Cmd), s.Ready .ringKeySet dt c ∧ c.u8 32 ≤ 1 ∧ c.u8 33 = 1 ∧ Clean c [(32, 2)] 0 ∧ c.paramLen = 0 ∧ s.rng.isMaster = true ∧ c.u8 32 ≠ s.rng.keySlot ∧ (s.entered .ringKeySet dt c).keysAgree (c.u8 32) = true) ∧
    (∃ (s : State) (dt : Nat) (c : Cmd), s.Ready .ringKeySet dt c ∧ c.u8 32 ≤ 1 ∧ c.u8 33 = 2 ∧ Clean c [(32, 2)] 0 ∧ c.paramLen = 0 ∧ c.u8 32 = s.rng.keySlot) ∧
    (∃ (s : State) (dt : Nat) (c : Cmd), s.Ready .ringKeySet dt c ∧ c.u8 32 ≤ 1 ∧ c.u8 33 = 2 ∧ Clean c [(32, 2)] 0 ∧ c.paramLen = 0 ∧ c.u8 32 ≠ s.rng.keySlot) ∧
    (∃ (s : State) (dt : Nat) (c : Cmd), s.Ready .ringKeySet dt c ∧ c.u8 32 ≤ 1 ∧ c.u8 33 = 0 ∧ Clean c [(32, 2)] 40 ∧ c.paramLen = 40 ∧ c.u8 32 ≠ s.rng.keySlot ∧ ((((s.session c.session).key) = none ∧ s.nullKeyOk = false) ∨ Config.unwrapKey ((s.session c.session).key) (fitBytes 40 c.ext) = none)) ∧
    (∃ (s : State) (dt : Nat) (c : Cmd), s.Ready .timeConfigure dt c ∧ Clean c [(32, 2), (36, 12)] 0 ∧ c.u8 32 = 0 ∧ c.u8 33 ≤ 7 ∧ -8388608 ≤ leInt c.inl 4 4 ∧ leInt c.inl 4 4 ≤ 8388607) ∧
    (∃ (s : State) (dt : Nat) (c : Cmd), s.Ready .timeConfigure dt c ∧ Clean c [(32, 2), (36, 12)] 0 ∧ c.u8 32 = 0 ∧ c.u8 33 ≤ 7 ∧ -8388608 ≤ leInt c.inl 4 4 ∧ leInt c.inl 4 4 ≤ 8388607) ∧
    (∃ (s : State) (dt : Nat) (c : Cmd), s.Ready .timeConfigure dt c ∧ Clean c [(32, 2), (36, 12)] 0 ∧ c.u8 32 = 1 ∧ 2 ≤ s.rng.roleNow) ∧
    (∃ (s : State) (dt : Nat) (c : Cmd), s.Ready .timeConfigure dt c ∧ Clean c [(32, 2), (36, 12)] 0 ∧ c.u8 32 = 1 ∧ s.rng.roleNow < 2 ∧ s.mode .acq = true) ∧
    (∃ (s : State) (dt : Nat) (c : Cmd), s.Ready .timeConfigure dt c ∧ Clean c [(32, 2), (36, 12)] 0 ∧ c.u8 32 = 1 ∧ s.rng.roleNow < 2 ∧ s.mode .acq = false) ∧
    (∃ (s : State) (dt : Nat) (c : Cmd), s.Ready .pairConfigure dt c ∧ Clean c [(32, 5)] 0 ∧ c.u8 32 ≤ 31 ∧ c.u8 33 = 1) ∧
    (∃ (s : State) (dt : Nat) (c : Cmd), s.Ready .pairConfigure dt c ∧ Clean c [(32, 5)] 0 ∧ c.u8 32 ≤ 31 ∧ c.u8 33 = 0 ∧ c.u8 34 ≤ 63 ∧ c.u8 36 ≤ 63 ∧ (c.u8 35 = 0 ∨ 32 < c.u8 35 ∨ c.u8 35 = s.rng.node)) ∧
    (∃ (s : State) (dt : Nat) (n : Nat) (tj : Nat) (c : Cmd), s.Ready .masterHandover dt c ∧ Clean c [(32, 1)] 0 ∧ n = c.u8 32 ∧ (s.prg.period = 0 → tj = s.now + dt + 1000000) ∧ (s.prg.period ≠ 0 → tj = upTo s.prg.period (s.now + dt + 1000000)) ∧ (n = 0 ∨ 32 < n)) ∧
    (∃ (s : State) (dt : Nat) (n : Nat) (tj : Nat) (c : Cmd), s.Ready .masterHandover dt c ∧ Clean c [(32, 1)] 0 ∧ n = c.u8 32 ∧ (s.prg.period = 0 → tj = s.now + dt + 1000000) ∧ (s.prg.period ≠ 0 → tj = upTo s.prg.period (s.now + dt + 1000000)) ∧ (n = 0 ∨ 32 < n)) ∧
    (∃ (s : State) (dt : Nat) (n : Nat) (tj : Nat) (c : Cmd), s.Ready .masterHandover dt c ∧ Clean c [(32, 1)] 0 ∧ n = c.u8 32 ∧ (s.prg.period = 0 → tj = s.now + dt + 1000000) ∧ (s.prg.period ≠ 0 → tj = upTo s.prg.period (s.now + dt + 1000000)) ∧ 1 ≤ n ∧ n ≤ 32 ∧ s.rng.isMaster = false) ∧
    (∃ (s : State) (dt : Nat) (n : Nat) (tj : Nat) (c : Cmd), s.Ready .masterHandover dt c ∧ Clean c [(32, 1)] 0 ∧ n = c.u8 32 ∧ (s.prg.period = 0 → tj = s.now + dt + 1000000) ∧ (s.prg.period ≠ 0 → tj = upTo s.prg.period (s.now + dt + 1000000)) ∧ 1 ≤ n ∧ n ≤ 32 ∧ s.rng.isMaster = true ∧ (n = s.nodeNo ∨ s.rng.members.contains n = false ∨ (s.dirEntry n).eligible = false ∨ (s.dirEntry n).locked = false)) ∧
    (∃ (s : State) (dt : Nat) (n : Nat) (tj : Nat) (c : Cmd), s.Ready .masterHandover dt c ∧ Clean c [(32, 1)] 0 ∧ n = c.u8 32 ∧ (s.prg.period = 0 → tj = s.now + dt + 1000000) ∧ (s.prg.period ≠ 0 → tj = upTo s.prg.period (s.now + dt + 1000000)) ∧ 1 ≤ n ∧ n ≤ 32 ∧ s.rng.isMaster = true ∧ (n = s.nodeNo ∨ s.rng.members.contains n = false ∨ (s.dirEntry n).eligible = false ∨ (s.dirEntry n).locked = false)) ∧
    (∃ (s : State) (dt : Nat) (n : Nat) (tj : Nat) (c : Cmd), s.Ready .masterHandover dt c ∧ Clean c [(32, 1)] 0 ∧ n = c.u8 32 ∧ (s.prg.period = 0 → tj = s.now + dt + 1000000) ∧ (s.prg.period ≠ 0 → tj = upTo s.prg.period (s.now + dt + 1000000)) ∧ 1 ≤ n ∧ n ≤ 32 ∧ s.rng.isMaster = true ∧ n ≠ s.nodeNo ∧ (s.dirEntry n).eligible = true ∧ (s.dirEntry n).locked = true ∧ s.rng.members.contains n = true) :=
  ⟨⟨S0, 1000, pk [(32,1,33),(33,1,5),(34,1,3)], by unfold Clean; decide +kernel⟩,
   ⟨S0, 1000, pk [(32,1,32),(33,1,5),(34,1,3)], by unfold Clean; decide +kernel⟩,
   ⟨{S0 with mod := {S0.mod with cmd := 0x9EF}}, 1000, pk [(32,1,32),(33,1,255),(34,1,3)], by unfold Clean; decide +kernel⟩,
   ⟨{S0 with mod := {S0.mod with cmd := 0x9EF}}, 1000, pk [(32,1,32),(33,1,255),(34,1,2)], by unfold Clean; decide +kernel⟩,
   ⟨SM, 1000, pk [], by unfold Clean; decide +kernel⟩,
   ⟨SM, 1000, pk [(32,1,2)], by unfold Clean; decide +kernel⟩,
   ⟨S0, 1000, pk [(32,1,3),(33,1,32)], by unfold Clean; decide +kernel⟩,
   ⟨S0, 1000, pk [(32,1,3),(33,1,33)], by unfold Clean; decide +kernel⟩,
   ⟨SM, 1000, pk [(32,1,1),(33,1,1)], by unfold Clean; decide +kernel⟩,
   ⟨SR, 1000, pk [(33,1,1)], by unfold Clean; decide +kernel⟩,
   ⟨{SR with rng := {SR.rng with members := [1], key1 := some 4}}, 1000, pk [(32,1,1),(33,1,1)], by unfold Clean; decide +kernel⟩,
   ⟨SR, 1000, pk [(33,1,2)], by unfold Clean; decide +kernel⟩,
   ⟨SR, 1000, pk [(32,1,1),(33,1,2)], by unfold Clean; decide +kernel⟩,
   ⟨{SR with mod := {SR.mod with life := .sealed}}, 1000, pk [(32,1,1)] (ex 40 []), by unfold Clean; decide +kernel⟩,
   ⟨S0, 1000, pk [(33,1,7),(36,4,0xFF800000)], by unfold Clean; decide +kernel⟩,
   ⟨S0, 1000, pk [(33,1,7),(36,4,0x7FFFFF),(40,8,0)], by unfold Clean; decide +kernel⟩,
   ⟨SM, 1000, pk [(32,1,1),(40,8,77)], by unfold Clean; decide +kernel⟩,
   ⟨SR, 1000, pk [(32,1,1),(40,8,77)], by unfold Clean; decide +kernel⟩,
   ⟨{SR with mod := {SR.mod with cmd := 0x9FE}}, 1000, pk [(32,1,1),(40,8,77000000000)], by unfold Clean; decide +kernel⟩,
   ⟨{SR with rng := {SR.rng with pairs := [(31, some ⟨5, 2, 6⟩)]}}, 1000, pk [(32,1,31),(33,1,1)], by unfold Clean; decide +kernel⟩,
   ⟨SR, 1000, pk [(32,1,31),(34,1,63),(35,1,1),(36,1,63)], by unfold Clean; decide +kernel⟩,
   ⟨SR, 1000, 33, upTo 100000000 5001001000, pk [(32,1,33)], by unfold Clean; decide +kernel⟩,
   ⟨{SR with prg := {SR.prg with period := 0}}, 1000, 0, 5001001000, pk [], by unfold Clean; decide +kernel⟩,
   ⟨SM, 1000, 32, upTo 100000000 5001001000, pk [(32,1,32)], by unfold Clean; decide +kernel⟩,
   ⟨SR, 1000, 1, upTo 100000000 5001001000, pk [(32,1,1)], by unfold Clean; decide +kernel⟩,
   ⟨SR, 1000, 32, upTo 100000000 5001001000, pk [(32,1,32)], by unfold Clean; decide +kernel⟩,
   ⟨SR, 1000, 2, upTo 100000000 5001001000, pk [(32,1,2)], by unfold Clean; decide +kernel⟩⟩

/-- What meets the hypotheses of `Obligations.RingMembership`, clause by clause. -/
theorem witness_RingMembership :
    (∃ (s : State), (s.mod.role = .standalone ∨ s.nodeNo = 0 ∨ s.pwr.state ≠ .run)) ∧
    (∃ (s : State) (dt : Nat), s.mod.role ≠ .standalone ∧ s.nodeNo ≠ 0 ∧ s.pwr.state = .run ∧ s.pwr.phase ≠ .asserted ∧ (∀ t, s.rng.announceAt = some t → t + 1000000 ≤ s.now + dt) ∧ s.rng.master = 0 ∧ s.rng.election = none) ∧
    (∃ (s : State) (dt : Nat), s.mod.role ≠ .standalone ∧ s.nodeNo ≠ 0 ∧ s.pwr.state = .run ∧ s.pwr.phase ≠ .asserted ∧ (∀ t, s.rng.announceAt = some t → t + 1000000 ≤ s.now + dt) ∧ (s.rng.master ≠ 0 ∨ s.rng.election ≠ none)) ∧
    (∃ (s : State) (dt : Nat) (t : Nat), s.rng.election = some t ∧ s.now + dt < t + 10000000) ∧
    (∃ (s : State) (dt : Nat) (t : Nat), s.rng.election = some t ∧ t + 10000000 ≤ s.now + dt ∧ s.rng.master ≠ 0) ∧
    (∃ (s : State) (dt : Nat) (t : Nat) (n : _), s.rng.election = some t ∧ t + 10000000 ≤ s.now + dt ∧ s.rng.master = 0 ∧ ((((s.advance dt).present.filter (· ≠ s.nodeNo)).find? fun n => (s.dirEntry n).role = 1) = some n)) ∧
    (∃ (s : State) (dt : Nat) (t : Nat) (p : _), s.rng.election = some t ∧ t + 10000000 ≤ s.now + dt ∧ s.rng.master = 0 ∧ ((((s.advance dt).present.filter (· ≠ s.nodeNo)).find? fun n => (s.dirEntry n).role = 1) = none) ∧ (((s.advance dt).present.filter (· ≠ s.nodeNo)) ≠ [] ∨ s.mod.role = .master) ∧ best ((if ({ s.advance dt with rng := { s.rng with election := none } }).eligible then [(s.rng.priority, s.nodeNo)] else []) ++ ({ s.advance dt with rng := { s.rng with election := none } }).candidates ((s.advance dt).present.filter (· ≠ s.nodeNo))) = some (p, s.nodeNo)) ∧
    (∃ (s : State) (dt : Nat) (t : Nat), s.rng.cycleAt = some t ∧ s.rng.roleNow = 3 ∧ s.rng.cut = false ∧ t + 2 * s.prg.period + s.ringH + 6000 ≤ s.now + dt) ∧
    (∃ (s : State) (dt : Nat) (t : Nat), s.rng.cycleAt = some t ∧ s.now + dt < t + 2 * s.prg.period + s.ringH + 6000) ∧
    (∃ (s : State) (dt : Nat) (t : Nat), s.rng.cycleAt = some t ∧ s.rng.roleNow = 2 ∧ s.mode .ring = true ∧ t + 2 * s.prg.period + s.ringH + 6000 ≤ s.now + dt) ∧
    (∃ (s : State) (n : Nat) (p : Nat), s.rng.rival = some (n, p) ∧ s.rng.isMaster = true ∧ before (s.rng.priority, s.nodeNo) (p, n) = true) ∧
    (∃ (s : State) (n : Nat) (p : Nat), s.rng.rival = some (n, p) ∧ s.rng.isMaster = true ∧ before (s.rng.priority, s.nodeNo) (p, n) = false) ∧
    (∃ (s : State) (dt : Nat) (n : Nat) (tj : Nat) (id : Nat), s.rng.handover = some (n, tj, id) ∧ s.now + dt < tj) ∧
    (∃ (s : State) (dt : Nat) (n : Nat) (tj : Nat) (id : Nat), s.rng.handover = some (n, tj, id) ∧ tj ≤ s.now + dt ∧ n = s.nodeNo ∧ s.prg.period ≠ 0 ∧ s.prg.lastSnap ≠ some tj) ∧
    (∃ (s : State) (dt : Nat) (n : Nat) (tj : Nat) (id : Nat), s.rng.handover = some (n, tj, id) ∧ tj ≤ s.now + dt ∧ n = s.nodeNo ∧ s.prg.period ≠ 0 ∧ s.prg.lastSnap = some tj) ∧
    (∃ (s : State) (dt : Nat) (n : Nat) (tj : Nat) (id : Nat), s.rng.handover = some (n, tj, id) ∧ tj ≤ s.now + dt ∧ n ≠ s.nodeNo ∧ s.rng.isMaster = true) ∧
    (∃ (s : State) (dt : Nat) (n : Fin 33), s.rng.isMaster = true ∧ s.mode .ring = true ∧ n.val ≠ 0 ∧ n.val ≠ s.nodeNo ∧ s.rng.members.contains n.val = false ∧ (s.dirEntry n).locked = true ∧ (s.advance dt).present.contains n.val = true ∧ s.rng.standby = 0 ∧ (s.dirEntry n).eligible = true) ∧
    (∃ (s : State) (dt : Nat) (n : Fin 33), s.rng.isMaster = true ∧ s.mode .ring = true ∧ n.val ≠ 0 ∧ n.val ≠ s.nodeNo ∧ s.rng.members.contains n.val = false ∧ (s.dirEntry n).locked = true ∧ (s.advance dt).present.contains n.val = true ∧ (s.rng.standby ≠ 0 ∨ (s.dirEntry n).eligible = false)) ∧
    (∃ (s : State) (n : Fin 33), (s.rng.isMaster = false ∨ (s.dirEntry n).locked = false)) ∧
    (∃ (s : State) (n : Fin 33), s.rng.isMaster = true ∧ n.val ≠ 0 ∧ n.val ≠ s.nodeNo ∧ s.rng.members.contains n.val = true ∧ 2 ≤ (s.dirEntry n).missed) ∧
    (∃ (s : State) (dt : Nat) (n : Fin 33), s.rng.isMaster = true ∧ n.val ≠ 0 ∧ n.val ≠ s.nodeNo ∧ s.rng.members.contains n.val = true ∧ (s.dirEntry n).missed = 1 ∧ s.rng.present.getLsbD (n.val - 1) = false ∧ s.ringH + 6000 ≤ s.now + dt - s.prg.lastSnap.getD 0) ∧
    (∃ (s : State) (n : Fin 33), (s.dirEntry n).missed = 0) :=
  ⟨⟨S0, by decide +kernel⟩,
   ⟨{SM with rng := {SM.rng with master := 0}}, 1000, by decide +kernel⟩,
   ⟨SM, 1000, by decide +kernel⟩,
   ⟨{SM with rng := {SM.rng with election := some 4990001001}}, 1000, 4990001001, by decide +kernel⟩,
   ⟨{SM with rng := {SM.rng with election := some 4990001000}}, 1000, 4990001000, by decide +kernel⟩,
   ⟨{SM with rng := {SM.rng with election := some 4990001000, master := 0, roleNow := 0}}, 1000, 4990001000, 1, by decide +kernel⟩,
   ⟨{SR with rng := {SR.rng with election := some 4990001000, master := 0, roleNow := 0, dir := []}}, 1000, 4990001000, 5, by decide +kernel⟩,
   ⟨{SM with rng := {SM.rng with port0 := {}, port1 := {}, cycleAt := some 4000000000}}, 1000, 4000000000, by decide +kernel⟩,
   ⟨{SM with rng := {SM.rng with port0 := {}, port1 := {}, cycleAt := some 4999000000}}, 1000, 4999000000, by decide +kernel⟩,
   ⟨{SM with rng := {SM.rng with port0 := {}, port1 := {}, cycleAt := some 4000000000, roleNow := 2, standby := 3}, mod := {SM.mod with role := .standbyMaster}}, 1000, 4000000000, by decide +kernel⟩,
   ⟨{SR with rng := {SR.rng with rival := some (2, 6)}}, 2, 6, by decide +kernel⟩,
   ⟨{SR with rng := {SR.rng with rival := some (2, 4)}}, 2, 4, by decide +kernel⟩,
   ⟨{SR with rng := {SR.rng with handover := some (2, 5000001001, 3)}}, 1000, 2, 5000001001, 3, by decide +kernel⟩,
   ⟨{SM with rng := {SM.rng with handover := some (3, 5000001000, 0)}}, 1000, 3, 5000001000, 0, by decide +kernel⟩,
   ⟨{SM with rng := {SM.rng with handover := some (3, 5000000000, 0)}, prg := {lastSnap := some 5000000000}}, 1000, 3, 5000000000, 0, by decide +kernel⟩,
   ⟨{SR with rng := {SR.rng with handover := some (2, 5000001000, 3)}}, 1000, 2, 5000001000, 3, by decide +kernel⟩,
   ⟨{SR with rng := {SR.rng with members := [1]}}, 1000, 2, by decide +kernel⟩,
   ⟨{SR with rng := {SR.rng with members := [1], standby := 4}}, 1000, 2, by decide +kernel⟩,
   ⟨SM, 32, by decide +kernel⟩,
   ⟨{SR with rng := {SR.rng with dir := [(2, { id := 7, locked := true, missed := 2, heard := 4999990000 })]}}, 2, by decide +kernel⟩,
   ⟨{SR with rng := {SR.rng with dir := [(2, { id := 7, locked := true, missed := 1, heard := 4999990000 })]}}, 1000, 2, by decide +kernel⟩,
   ⟨SR, 2, by decide +kernel⟩⟩

/-- What meets the hypotheses of `Obligations.RingFrames`, clause by clause. -/
theorem witness_RingFrames :
    (∃ (s : State) (p : Fin 2), (s.port p).up = false) ∧
    (∃ (s : State) (p : Fin 2) (f : RingFrame), (s.port p).up = true ∧ (f.crcOk && tagOk p f s) = false) ∧
    (∃ (s : State) (p : Fin 2) (f : RingFrame), (s.port p).up = true ∧ f.crcOk = true ∧ tagOk p f s = true ∧ (f.hopSeq ≠ (s.port p).rxSeq ∨ 4 < f.cls)) ∧
    (∃ (s : State) (p : Fin 2) (f : RingFrame), (s.port p).up = true ∧ f.crcOk = true ∧ tagOk p f s = true ∧ f.cls ≤ 4 ∧ f.hopSeq = (s.port p).rxSeq) ∧
    (∃ (s : State) (p : Fin 2) (f : RingFrame), (s.port p).up = true ∧ f.crcOk = true ∧ tagOk p f s = true ∧ f.cls = 0 ∧ f.typ = 3 ∧ f.hopSeq = (s.port p).rxSeq ∧ f.src ≠ 0 ∧ f.src ≠ s.nodeNo ∧ f.dst = 0 ∧ (f.src, f.cls, f.originSeq) ∉ s.rng.heard) ∧
    (∃ (s : State) (p : Fin 2), (s.port p).up = false) ∧
    (∃ (s : State) (p : Fin 2) (f : CycleFrame), (s.port p).up = true ∧ f.src ≠ 0 ∧ f.src = s.nodeNo ∧ s.rng.isMaster = true ∧ f.cycle = s.rng.cycle) ∧
    (∃ (s : State) (p : Fin 2) (f : CycleFrame), (s.port p).up = true ∧ f.src ≠ 0 ∧ f.src ≠ s.nodeNo ∧ s.rng.isMaster = true) ∧
    (∃ (s : State) (p : Fin 2) (f : CycleFrame), (s.port p).up = true ∧ f.src ≠ 0 ∧ f.src ≠ s.nodeNo ∧ s.rng.isMaster = false ∧ (s.rng.master ≠ f.src ∨ s.rng.cycle ≠ f.cycle ∨ s.rng.cycleAt ≠ some f.time)) ∧
    (∃ (s : State) (p : Fin 2) (f : CycleFrame), (s.port p).up = true ∧ f.src ≠ 0 ∧ f.src ≠ s.nodeNo ∧ s.rng.isMaster = false ∧ s.rng.master = f.src ∧ s.rng.cycle = f.cycle ∧ s.rng.cycleAt = some f.time ∧ s.rng.lapsBack = 1) ∧
    (∃ (s : State) (n : Fin 33) (v : ExportValue) (i : Image), n.val ≠ 0 ∧ n.val ≠ s.nodeNo ∧ s.image = some i ∧ ((i.binds.any fun b => b.kind = 3 && b.node = n.val && b.index = v.slot) = true)) ∧
    (∃ (s : State) (n : Fin 33) (v : ExportValue) (i : Image), n.val ≠ 0 ∧ n.val ≠ s.nodeNo ∧ s.image = some i ∧ ((i.binds.any fun b => b.kind = 3 && b.node = n.val && b.index = v.slot) = false)) ∧
    (∃ (s : State) (dt : Nat) (cyc : Nat) (n : Fin 33) (v : ExportValue) (t : State), n.val ≠ 0 ∧ n.val ≠ s.nodeNo ∧ exec (.exportFrameReceive dt n cyc [v]) s = .next t) ∧
    (∃ (s : State) (n : Fin 33) (v : RemoteValue) (i : Image) (b : Bind), n.val ≠ 0 ∧ n.val ≠ s.nodeNo ∧ s.image = some i ∧ v.node = s.nodeNo ∧ ((i.binds.find? fun b => b.kind = 7 && b.node = n.val && b.index = v.index) = some b) ∧ b.set = v.set) ∧
    (∃ (s : State) (n : Fin 33) (v : RemoteValue) (i : Image) (b : Bind), n.val ≠ 0 ∧ n.val ≠ s.nodeNo ∧ s.image = some i ∧ v.node = s.nodeNo ∧ ((i.binds.find? fun b => b.kind = 7 && b.node = n.val && b.index = v.index) = some b) ∧ b.set ≠ v.set) ∧
    (∃ (s : State) (dt : Nat) (cyc : Nat) (n : Fin 33) (v : RemoteValue) (t : State), n.val ≠ 0 ∧ n.val ≠ s.nodeNo ∧ exec (.outputFrameReceive dt n cyc [v]) s = .next t) ∧
    (∃ (s : State) (cyc : Nat) (n : Fin 33) (k : Fin 16) (r : Bool), s.rng.isMaster = true ∧ n.val ≠ 0 ∧ cyc = s.cycleNo ∧ (((s.set k).ready.any fun r => r.1 == n.val && r.2.1 == cyc) = false)) ∧
    (∃ (s : State), s.rng.isMaster = false) ∧
    (∃ (s : State) (cyc : Nat) (n : Fin 33), n.val = s.rng.master ∧ n.val ≠ 0 ∧ s.rng.isMaster = false ∧ s.rng.cut = false ∧ s.mode .ring = true ∧ cyc = s.cycleNo) ∧
    (∃ (s : State) (n : Fin 33), n.val ≠ 0 ∧ n.val ≠ s.nodeNo) ∧
    (∃ (s : State) (n : Fin 33), n.val ≠ 0 ∧ n.val ≠ s.nodeNo ∧ n.val = s.rng.master) ∧
    (∃ (s : State) (n : Fin 33), n.val ≠ 0 ∧ n.val ≠ s.nodeNo ∧ n.val = s.rng.master) ∧
    (∃ (s : State) (ix : Nat) (n : Fin 33) (d : Fin 33), n.val ≠ 0 ∧ n.val ≠ s.nodeNo ∧ ix ≤ 65535 ∧ d.val = s.nodeNo) ∧
    (∃ (s : State) (ix : Nat) (n : Fin 33) (d : Fin 33), n.val ≠ 0 ∧ n.val ≠ s.nodeNo ∧ ix ≤ 65535 ∧ d.val = s.nodeNo) ∧
    (∃ (s : State) (ix : Nat) (n : Fin 33) (d : Fin 33), n.val ≠ 0 ∧ n.val ≠ s.nodeNo ∧ ix ≤ 65535 ∧ d.val ≠ s.nodeNo ∧ s.rng.isMaster = true) ∧
    (∃ (s : State) (ix : Nat) (n : Fin 33) (d : Fin 33), n.val ≠ 0 ∧ n.val ≠ s.nodeNo ∧ ix ≤ 65535 ∧ d.val ≠ s.nodeNo ∧ s.rng.isMaster = true) ∧
    (∃ (s : State) (n : Fin 33) (m : PeerSample), n.val ≠ 0 ∧ n.val ≠ s.nodeNo ∧ s.rng.cut = false ∧ s.rng.subs.contains (m.kind, n.val, m.index) = true ∧ s.feeds (m.kind, n.val, m.index) = true) ∧
    (∃ (s : State) (n : Fin 33) (m : PeerSample), n.val ≠ 0 ∧ n.val ≠ s.nodeNo ∧ s.rng.cut = false ∧ s.rng.subs.contains (m.kind, n.val, m.index) = false) ∧
    (∃ (s : State) (dt : Nat) (n : Fin 33) (m : PeerSample) (t : State), n.val ≠ 0 ∧ n.val ≠ s.nodeNo ∧ s.rng.cut = false ∧ exec (.samplesFrame dt n [m]) s = .next t) ∧
    (∃ (s : State) (n : Fin 33) (f : Fin 256), s.rng.isMaster = true ∧ n.val ≠ 0 ∧ ((s.flow f).state = .closed ∨ (s.flow f).stream = true ∨ (s.flow f).origin / 2 ^ (n.val - 1) % 2 = 0)) ∧
    (∃ (s : State) (n : Fin 33) (f : Fin 256), s.rng.isMaster = true ∧ n.val ≠ 0 ∧ (s.flow f).state ≠ .closed ∧ (s.flow f).stream = false ∧ (s.flow f).origin / 2 ^ (n.val - 1) % 2 = 1) ∧
    (∃ (s : State), s.rng.isMaster = false) :=
  ⟨⟨S0, 0, by decide +kernel⟩,
   ⟨SR, 1, {frm with crcOk := false}, by decide +kernel⟩,
   ⟨SR, 1, tagged {frm with hopSeq := 7}, by decide +kernel, by decide +kernel, by simp only [tagOk, Bool.and_eq_true, decide_eq_true_eq]; exact ⟨by decide +kernel, rfl⟩, by decide +kernel⟩,
   ⟨SR, 1, tagged frm, by decide +kernel, by decide +kernel, by simp only [tagOk, Bool.and_eq_true, decide_eq_true_eq]; exact ⟨by decide +kernel, rfl⟩, by decide +kernel⟩,
   ⟨SR, 0, tagged {frm with cls := 0, typ := 3, src := 2, dst := 0}, by decide +kernel, by decide +kernel, by simp only [tagOk, Bool.and_eq_true, decide_eq_true_eq]; exact ⟨by decide +kernel, rfl⟩, by decide +kernel⟩,
   ⟨S0, 0, by decide +kernel⟩,
   ⟨SR, 0, ⟨1, 9, 4, 100000000, 41000, 3, 3, 0, 0, 0, 2⟩, by decide +kernel⟩,
   ⟨SR, 0, ⟨2, 9, 4, 100000000, 41000, 3, 3, 0, 0, 0, 2⟩, by decide +kernel⟩,
   ⟨SM, 0, ⟨1, 50, 4, 100000000, 41000, 7, 7, 0, 0, 0, 2⟩, by decide +kernel⟩,
   ⟨{SM with rng := {SM.rng with cycle := 9, cycleAt := some 4, lapsBack := 1}}, 0, ⟨1, 9, 4, 100000000, 41000, 3, 3, 0, 0, 0, 2⟩, by decide +kernel⟩,
   ⟨{SM with prg := {SG.prg with slot0 := some {img0 with binds := [⟨3, 255, 2, 0, 66, 5⟩]}}}, 2, ⟨5, 3, 1⟩, {img0 with binds := [⟨3, 255, 2, 0, 66, 5⟩]}, by decide +kernel⟩,
   ⟨{SM with prg := {SG.prg with slot0 := some img0}}, 2, ⟨5, 3, 1⟩, img0, by decide +kernel⟩,
   ⟨SM, 1000, 50, 2, ⟨5, 3, 1⟩, SM.advance 1000, by decide +kernel, by decide +kernel, rfl⟩,
   ⟨{SM with prg := {SG.prg with slot0 := some {img0 with binds := [⟨7, 255, 2, 0, 0xFFFF, 159⟩]}}}, 2, ⟨3, 159, 255, 3, 1⟩, {img0 with binds := [⟨7, 255, 2, 0, 0xFFFF, 159⟩]}, ⟨7, 255, 2, 0, 0xFFFF, 159⟩, by decide +kernel⟩,
   ⟨{SM with prg := {SG.prg with slot0 := some {img0 with binds := [⟨7, 5, 2, 0, 0xFFFF, 159⟩]}}}, 2, ⟨3, 159, 255, 3, 1⟩, {img0 with binds := [⟨7, 5, 2, 0, 0xFFFF, 159⟩]}, ⟨7, 5, 2, 0, 0xFFFF, 159⟩, by decide +kernel⟩,
   ⟨SM, 1000, 50, 2, ⟨3, 159, 255, 3, 1⟩, SM.advance 1000, by decide +kernel, by decide +kernel, rfl⟩,
   ⟨SR, (SR.cycleNo), 32, 15, true, by decide +kernel⟩,
   ⟨SM, by decide +kernel⟩,
   ⟨SM, (SM.cycleNo), 1, by decide +kernel⟩,
   ⟨SM, 2, by decide +kernel⟩,
   ⟨SM, 1, by decide +kernel⟩,
   ⟨SM, 1, by decide +kernel⟩,
   ⟨SM, 65535, 32, 3, by decide +kernel⟩,
   ⟨SM, 65535, 32, 3, by decide +kernel⟩,
   ⟨SR, 65535, 32, 3, by decide +kernel⟩,
   ⟨{SR with rng := {SR.rng with peerSubs := [(32, 3, 1, 5)]}}, 5, 32, 3, by decide +kernel⟩,
   ⟨{SM.setPoint 9 (pt [(0,1,1),(2,2,63),(4,1,2)]) with rng := {SM.rng with subs := [(1, 2, 63)]}}, 2, ⟨1, 63, 5, 3, 4999000000⟩, by decide +kernel⟩,
   ⟨SM, 2, ⟨1, 63, 5, 3, 4999000000⟩, by decide +kernel⟩,
   ⟨SM, 1000, 2, ⟨1, 63, 5, 3, 4999000000⟩, SM.advance 1000, by decide +kernel, by decide +kernel, by decide +kernel, rfl⟩,
   ⟨SR, 2, 255, by decide +kernel⟩,
   ⟨SR.setFlow 1 {F1 with origin := 2}, 2, 1, by decide +kernel⟩,
   ⟨SM, by decide +kernel⟩⟩

/-- What meets the hypotheses of `Obligations.RingPortsAndLinks`, clause by clause. -/
theorem witness_RingPortsAndLinks :
    (∃ (s : State) (p : Fin 2) (c : Fin 9), (c.val = 1 ∨ c.val = 2 ∨ c.val = 3) ∧ (s.port p).up = true) ∧
    (∃ (s : State) (p : Fin 2) (c : Fin 9), (c.val = 1 ∨ c.val = 2 ∨ c.val = 3) ∧ (s.port p).up = true) ∧
    (∃ (s : State) (p : Fin 2) (c : Fin 9), c.val = 8 ∧ (s.port p).en = true) ∧
    (∃ (s : State) (p : Fin 2) (c : Fin 9), c.val = 8 ∧ (s.port p).en = false) ∧
    (∃ (c : Fin 9), (c.val = 0 ∨ (4 ≤ c.val ∧ c.val ≤ 7))) ∧
    (∃ (s : State) (dt : Nat) (p : Fin 2), (s.port p).up = true ∧ (s.port p).wordAt + 10000 ≤ s.now + dt) ∧
    (∃ (s : State) (dt : Nat) (p : Fin 2), (s.port p).up = true ∧ s.now + dt < (s.port p).wordAt + 10000) ∧
    (∃ (s : State) (p : Fin 2), s.txDisable p = false ∧ (s.port p).los = false ∧ (s.port p).up = false ∧ s.pwr.phase ≠ .asserted ∧ s.rng.txLost = false) ∧
    (∃ (s : State) (p : Fin 2), s.txDisable p = false ∧ (s.port p).los = false ∧ (s.port p).up = false ∧ s.pwr.phase ≠ .asserted ∧ s.rng.txLost = true) ∧
    (∃ (s : State) (p : Fin 2), s.txDisable p = true) ∧
    (∃ (s : State) (p : Fin 2) (n : Fin 33) (d : Bool), s.txDisable p = false ∧ (s.port p).los = false ∧ (s.port p).blockLock = true ∧ (s.port p).hiBer = false ∧ s.pwr.phase ≠ .asserted ∧ (d = true ∨ n.val = s.nodeNo)) ∧
    (∃ (s : State) (p : Fin 2) (n : Fin 33) (kcv : Word) (d : Bool), s.txDisable p = false ∧ (s.port p).los = false ∧ (s.port p).blockLock = true ∧ (s.port p).hiBer = false ∧ s.pwr.phase ≠ .asserted ∧ d = false ∧ n.val ≠ s.nodeNo ∧ (kcv.toNat ≠ keyCheck (s.rng.key s.rng.keySlot) ∨ (s.rng.key s.rng.keySlot = none ∧ s.nullKeyOk = false))) ∧
    (∃ (s : State) (p : Fin 2) (n : Fin 33) (kcv : Word) (d : Bool), s.txDisable p = false ∧ (s.port p).los = false ∧ (s.port p).blockLock = true ∧ (s.port p).hiBer = false ∧ s.pwr.phase ≠ .asserted ∧ d = false ∧ n.val ≠ s.nodeNo ∧ kcv.toNat = keyCheck (s.rng.key s.rng.keySlot) ∧ (s.rng.key s.rng.keySlot ≠ none ∨ s.nullKeyOk = true)) ∧
    (∃ (s : State) (p : Fin 2), (s.port p).up = true ∧ 2 ^ 31 - 2 ^ 20 ≤ (s.port p).rxSeq) ∧
    (∃ (s : State) (p : Fin 2), (s.port p).up = true ∧ (s.port p).rxSeq < 2 ^ 31 - 2 ^ 20) ∧
    (∃ (s : State) (p : Fin 2), (s.port p).up = false) ∧
    (∃ (s : State) (dt : Nat) (p : Fin 2), s.canSend p = true ∧ ((s.port p).nak = true ∨ (∀ t, (s.port p).txWordAt = some t → t + 1000 ≤ s.now + dt))) ∧
    (∃ (w : BitVec 56), linkCheck (w.toNat % 2 ^ 48) ≠ w.toNat / 2 ^ 48) ∧
    (∃ (s : State) (p : Fin 2) (w : BitVec 56), (s.port p).up = true ∧ linkCheck (w.toNat % 2 ^ 48) = w.toNat / 2 ^ 48 ∧ w.toNat / 65536 % 2 = 0) ∧
    (∃ (s : State) (k : Nat) (q : Nat) (c : Nat) (u : Nat) (n : Nat) (r : List (Nat × Nat × Nat × Nat)), (s.port k).sent = (q, c, u, n) :: r ∧ 2 ≤ n) ∧
    (∃ (s : State) (k : Nat) (q : Nat) (c : Nat) (u : Nat) (n : Nat) (r : List (Nat × Nat × Nat × Nat)), (s.port k).sent = (q, c, u, n) :: r ∧ n < 2) ∧
    (∃ (s : State) (p : Fin 2), (s.port p).modAbs = false) ∧
    (∃ (s : State) (p : Fin 2), (s.port p).modAbs = true) ∧
    (∃ (s : State) (dt : Nat) (p : Fin 2), (s.port p).up = true ∧ ((s.port p).delays = [] ∨ (s.port p).delayAt + 10000000 ≤ s.now + dt)) ∧
    (∃ (s : State) (dt : Nat) (p : Fin 2), (s.port p).up = true ∧ (s.port p).delays ≠ [] ∧ s.now + dt < (s.port p).delayAt + 10000000) :=
  ⟨⟨SR, 1, 3, by decide +kernel⟩,
   ⟨SR, 0, 1, by decide +kernel⟩,
   ⟨SR, 0, 8, by decide +kernel⟩,
   ⟨{SR with rng := {SR.rng with port0 := {SR.rng.port0 with en := false}}}, 0, 8, by decide +kernel⟩,
   ⟨7, by decide +kernel⟩,
   ⟨SR, 1000, 1, by decide +kernel⟩,
   ⟨{SR with rng := {SR.rng with port0 := {SR.rng.port0 with wordAt := 4999991001}}}, 1000, 0, by decide +kernel⟩,
   ⟨{SR with rng := {SR.rng with port1 := {SR.rng.port1 with up := false, blockLock := false}}}, 1, by decide +kernel⟩,
   ⟨{SR with rng := {SR.rng with txLost := true, port1 := {SR.rng.port1 with up := false, blockLock := false}}}, 1, by decide +kernel⟩,
   ⟨S0, 1, by decide +kernel⟩,
   ⟨{SR with rng := {SR.rng with port1 := {SR.rng.port1 with up := false}}}, 1, 1, false, by decide +kernel⟩,
   ⟨{SR with rng := {SR.rng with port1 := {SR.rng.port1 with up := false}}}, 1, 2, BitVec.ofNat 32 (keyCheck (some 3) + 1), false, by decide +kernel, by decide +kernel, by decide +kernel, by decide +kernel, by decide +kernel, by decide +kernel, by decide +kernel, .inl (by show (BitVec.ofNat 32 (keyCheck (some 3) + 1)).toNat ≠ keyCheck (some 3); have := keyCheck_lt (some 3); rw [BitVec.toNat_ofNat]; omega)⟩,
   ⟨{SR with rng := {SR.rng with port1 := {SR.rng.port1 with up := false}}}, 1, 2, BitVec.ofNat 32 (keyCheck (some 3)), false, by decide +kernel, by decide +kernel, by decide +kernel, by decide +kernel, by decide +kernel, by decide +kernel, by decide +kernel, Nat.mod_eq_of_lt (keyCheck_lt (some 3)), .inl (by decide +kernel)⟩,
   ⟨{SR with rng := {SR.rng with port1 := {SR.rng.port1 with rxSeq := 2147483648}}}, 1, by decide +kernel⟩,
   ⟨{SR with rng := {SR.rng with port0 := {SR.rng.port0 with rxSeq := 2146435071}}}, 0, by decide +kernel⟩,
   ⟨S0, 1, by decide +kernel⟩,
   ⟨SR, 1000, 1, by decide +kernel⟩,
   ⟨0x01000000000000, by decide +kernel⟩,
   ⟨SR, 1, 0, by decide +kernel⟩,
   ⟨{SR with rng := {SR.rng with port0 := {SR.rng.port0 with sent := [(1, 2, 3, 2)]}}}, 0, 1, 2, 3, 2, [], by decide +kernel⟩,
   ⟨{SR with rng := {SR.rng with port0 := {SR.rng.port0 with sent := [(1, 2, 3, 1), (2, 2, 3, 0)]}}}, 0, 1, 2, 3, 1, [(2, 2, 3, 0)], by decide +kernel⟩,
   ⟨SR, 1, by decide +kernel⟩,
   ⟨S0, 0, by decide +kernel⟩,
   ⟨SR, 1000, 1, by decide +kernel⟩,
   ⟨{SR with rng := {SR.rng with port0 := {SR.rng.port0 with delays := [500], delayAt := 4990001001}}}, 1000, 0, by decide +kernel⟩⟩

/-- What meets the hypotheses of `Obligations.RingTimeAndKeys`, clause by clause. -/
theorem witness_RingTimeAndKeys :
    (∃ (s : State), s.rng.isMaster = false) ∧
    (∃ (s : State) (dt : Nat), s.rng.isMaster = true ∧ (∀ t, s.rng.syncSent = some t → t + 1000000 ≤ s.now + dt)) ∧
    (∃ (s : State) (dt : Nat) (t : _), s.rng.isMaster = true ∧ s.rng.syncSent = some t ∧ s.now + dt < t + 1000000) ∧
    (∃ (s : State) (n : Fin 33), (s.rng.isMaster = true ∨ n.val ≠ s.rng.master)) ∧
    (∃ (s : State) (o : Nat) (d : Fin 2) (n : Fin 33) (h : Fin 32), s.rng.isMaster = false ∧ n.val ≠ 0 ∧ n.val = s.rng.master ∧ (d.val = 0 → o = (s.dirEntry n).hops0) ∧ (d.val = 1 → o = (s.dirEntry n).hops1) ∧ o ≠ 0 ∧ (o < h.val + 1 ∨ (o = h.val + 1 ∧ d.val = 1))) ∧
    (∃ (s : State) (dt : Nat) (t : Nat) (o : Nat) (d : Fin 2) (n : Fin 33) (h : Fin 32), s.rng.isMaster = false ∧ n.val ≠ 0 ∧ n.val = s.rng.master ∧ (d.val = 0 → o = (s.dirEntry n).hops0) ∧ (d.val = 1 → o = (s.dirEntry n).hops1) ∧ (o = 0 ∨ h.val + 1 < o ∨ (o = h.val + 1 ∧ d.val = 0)) ∧ s.rng.tState ≠ 2 ∧ 1000 < ((t : Int) - (s.now + dt : Nat)).natAbs) ∧
    (∃ (s : State) (dt : Nat) (t : Nat) (o : Nat) (d : Fin 2) (n : Fin 33) (h : Fin 32), s.rng.isMaster = false ∧ n.val ≠ 0 ∧ n.val = s.rng.master ∧ (d.val = 0 → o = (s.dirEntry n).hops0) ∧ (d.val = 1 → o = (s.dirEntry n).hops1) ∧ (o = 0 ∨ h.val + 1 < o ∨ (o = h.val + 1 ∧ d.val = 0)) ∧ ((t : Int) - (s.now + dt : Nat)).natAbs ≤ 50 ∧ (s.rng.tState = 2 ∨ 15 ≤ s.rng.goodSyncs)) ∧
    (∃ (s : State) (dt : Nat) (t : Nat) (o : Nat) (d : Fin 2) (n : Fin 33) (h : Fin 32), s.rng.isMaster = false ∧ n.val ≠ 0 ∧ n.val = s.rng.master ∧ (d.val = 0 → o = (s.dirEntry n).hops0) ∧ (d.val = 1 → o = (s.dirEntry n).hops1) ∧ (o = 0 ∨ h.val + 1 < o ∨ (o = h.val + 1 ∧ d.val = 0)) ∧ ((t : Int) - (s.now + dt : Nat)).natAbs ≤ 50 ∧ s.rng.tState ≠ 2 ∧ s.rng.goodSyncs < 15) ∧
    (∃ (s : State) (dt : Nat) (t : Nat) (o : Nat) (d : Fin 2) (n : Fin 33) (h : Fin 32), s.rng.isMaster = false ∧ n.val ≠ 0 ∧ n.val = s.rng.master ∧ (d.val = 0 → o = (s.dirEntry n).hops0) ∧ (d.val = 1 → o = (s.dirEntry n).hops1) ∧ (o = 0 ∨ h.val + 1 < o ∨ (o = h.val + 1 ∧ d.val = 0)) ∧ 50 < ((t : Int) - (s.now + dt : Nat)).natAbs ∧ ((t : Int) - (s.now + dt : Nat)).natAbs ≤ 1000) ∧
    (∃ (s : State) (dt : Nat) (t : Nat) (o : Nat) (d : Fin 2) (n : Fin 33) (h : Fin 32), s.rng.isMaster = false ∧ n.val ≠ 0 ∧ n.val = s.rng.master ∧ (d.val = 0 → o = (s.dirEntry n).hops0) ∧ (d.val = 1 → o = (s.dirEntry n).hops1) ∧ (o = 0 ∨ h.val + 1 < o ∨ (o = h.val + 1 ∧ d.val = 0)) ∧ 50 < ((t : Int) - (s.now + dt : Nat)).natAbs ∧ ((t : Int) - (s.now + dt : Nat)).natAbs ≤ 1000) ∧
    (∃ (s : State) (dt : Nat) (t : Nat), s.rng.syncAt = some t ∧ s.rng.isMaster = false ∧ s.rng.tState = 2 ∧ t + 4000000 ≤ s.now + dt) ∧
    (∃ (s : State) (dt : Nat) (t : Nat), s.rng.syncAt = some t ∧ s.rng.isMaster = false ∧ s.rng.tState = 2 ∧ s.now + dt < t + 4000000) ∧
    (∃ (s : State) (dt : Nat), s.rng.isMaster = false ∧ ((s.rng.tState = 3 ∧ s.rng.holdAt + 10000000000 ≤ s.now + dt) ∨ (s.rng.tState ≠ 0 ∧ s.rng.master = 0))) ∧
    (∃ (s : State) (dt : Nat), s.rng.isMaster = false ∧ s.rng.tState = 3 ∧ s.rng.master ≠ 0 ∧ s.now + dt < s.rng.holdAt + 10000000000) ∧
    (∃ (s : State), s.rng.tState = 0) ∧
    (∃ (s : State) (b : Bool), (s.rng.ppsInEn = false ∨ b ≠ s.rng.ppsPol)) ∧
    (∃ (s : State), s.rng.ppsInEn = true ∧ s.rng.isMaster = false) ∧
    (∃ (s : State), s.rng.ppsInEn = true ∧ s.rng.isMaster = true) ∧
    (∃ (s : State) (dt : Nat), s.rng.ppsOk = true ∧ s.rng.ppsLast + 1500000000 ≤ s.now + dt) ∧
    (∃ (s : State) (dt : Nat), s.rng.ppsOk = true ∧ s.now + dt < s.rng.ppsLast + 1500000000) ∧
    (∃ (s : State) (dt : Nat), s.rng.ppsOutEn = true ∧ s.rng.ppsOutAt < (1000000000 * ((s.now + dt) / 1000000000))) ∧
    (∃ (s : State) (dt : Nat) (t : Nat), t = 1000000000 * ((s.now + dt) / 1000000000) ∧ (s.rng.ppsOutEn = false ∨ t ≤ s.rng.ppsOutAt)) ∧
    (∃ (s : State) (k : Nat) (c : Nat), s.rng.keySwitch = some (k, c) ∧ c ≤ s.cycleNo) ∧
    (∃ (s : State) (k : Nat) (c : Nat), s.rng.keySwitch = some (k, c) ∧ s.cycleNo < c) ∧
    (∃ (s : State) (c : Nat), s.rng.keyGrace = some c ∧ c ≤ s.cycleNo) ∧
    (∃ (s : State) (c : Nat), s.rng.keyGrace = some c ∧ s.cycleNo < c) :=
  ⟨⟨SM, by decide +kernel⟩,
   ⟨SR, 1000, by decide +kernel⟩,
   ⟨{SR with rng := {SR.rng with syncSent := some 4999001001}}, 1000, 4999001001, by decide +kernel⟩,
   ⟨SM, 2, by decide +kernel⟩,
   ⟨{SM with rng := {SM.rng with dir := [(1, { id := 7, hops0 := 1 })]}}, 1, 0, 1, 1, by decide +kernel⟩,
   ⟨SM, 1000, 5000002001, 0, 0, 1, 1, by decide +kernel⟩,
   ⟨{SM with rng := {SM.rng with tState := 2}}, 1000, 5000001050, 0, 0, 1, 1, by decide +kernel⟩,
   ⟨{SM with rng := {SM.rng with goodSyncs := 14}}, 1000, 5000000950, 0, 0, 1, 1, by decide +kernel⟩,
   ⟨SM, 1000, 5000002000, 0, 0, 1, 1, by decide +kernel⟩,
   ⟨SM, 1, 4999999100, 0, 1, 1, 1, by decide +kernel⟩,
   ⟨{SM with rng := {SM.rng with tState := 2, syncAt := some 4000000000}}, 1000, 4000000000, by decide +kernel⟩,
   ⟨{SM with rng := {SM.rng with tState := 2, syncAt := some 4996001001}}, 1000, 4996001001, by decide +kernel⟩,
   ⟨{SM with rng := {SM.rng with tState := 3, holdAt := 1000}}, 5000001000, by decide +kernel⟩,
   ⟨{SM with rng := {SM.rng with tState := 3, holdAt := 1000}}, 5000000999, by decide +kernel⟩,
   ⟨S0, by decide +kernel⟩,
   ⟨S0, true, by decide +kernel⟩,
   ⟨{SM with rng := {SM.rng with ppsInEn := true}}, by decide +kernel⟩,
   ⟨{SR with rng := {SR.rng with ppsInEn := true}}, by decide +kernel⟩,
   ⟨{SR with rng := {SR.rng with ppsOk := true, ppsInEn := true}}, 1000, by decide +kernel⟩,
   ⟨{SM with rng := {SM.rng with ppsOk := true, ppsLast := 3500001001}}, 1000, by decide +kernel⟩,
   ⟨{SR with rng := {SR.rng with ppsOutEn := true}}, 1000, by decide +kernel⟩,
   ⟨SR, 1000, 5000000000, by decide +kernel⟩,
   ⟨{SR with rng := {SR.rng with keySwitch := some (1, SR.cycleNo)}}, 1, SR.cycleNo, by decide +kernel⟩,
   ⟨{SR with rng := {SR.rng with keySwitch := some (1, 10)}}, 1, 10, by decide +kernel⟩,
   ⟨{SR with rng := {SR.rng with keyGrace := some 0}}, 0, by decide +kernel⟩,
   ⟨{SR with rng := {SR.rng with keyGrace := some 10}}, 10, by decide +kernel⟩⟩

/-- What meets the hypotheses of `Obligations.SpareCommands`, clause by clause. -/
theorem witness_SpareCommands :
    (∃ (s : State) (dt : Nat) (c : Cmd), s.Ready .spareStatus dt c ∧ Clean c [(32, 2)] 0 ∧ c.u8 32 ≤ 6 ∧ c.u8 33 < poolInsts (c.u8 32)) ∧
    (∃ (s : State) (dt : Nat) (c : Cmd), s.Ready .spareStatus dt c ∧ Clean c [(32, 2)] 0 ∧ c.u8 32 ≤ 6 ∧ c.u8 33 < poolInsts (c.u8 32)) ∧
    (∃ (s : State) (dt : Nat) (c : Cmd), s.Ready .spareStatus dt c ∧ Clean c [(32, 2)] 0 ∧ c.u8 32 ≤ 6 ∧ c.u8 33 < poolInsts (c.u8 32)) ∧
    (∃ (s : State) (dt : Nat) (c : Cmd), s.Ready .spareSwap dt c ∧ Clean c [(32, 4)] 0 ∧ 3 ≤ c.u8 32 ∧ c.u8 32 ≤ 5) ∧
    (∃ (s : State) (dt : Nat) (p : Nat) (i : Nat) (x : Nat) (n : Nat) (c : Cmd), s.Ready .spareSwap dt c ∧ Clean c [(32, 4)] 0 ∧ p = c.u8 32 ∧ i = c.u8 33 ∧ x = c.u8 34 ∧ n = c.u8 35 ∧ ((p = 0 ∧ i < 8 ∧ x < 8 ∧ (n < 10 ∨ n = 255)) ∨ (p = 1 ∧ i < 8 ∧ x < 8 ∧ (n < 9 ∨ n = 255)) ∨ (p = 2 ∧ i < 6 ∧ x < 16 ∧ (n = 16 ∨ n = 17 ∨ n = 255)) ∨ (p = 6 ∧ i = 0 ∧ x < 4 ∧ (n < 5 ∨ n = 255))) ∧ s.wornPart p i x = none) ∧
    (∃ (s : State) (dt : Nat) (p : Nat) (i : Nat) (x : Nat) (n : Nat) (c : Cmd), s.Ready .spareSwap dt c ∧ Clean c [(32, 4)] 0 ∧ p = c.u8 32 ∧ i = c.u8 33 ∧ x = c.u8 34 ∧ n = c.u8 35 ∧ ((p = 0 ∧ i < 8 ∧ x < 8 ∧ (n < 10 ∨ n = 255)) ∨ (p = 1 ∧ i < 8 ∧ x < 8 ∧ (n < 9 ∨ n = 255)) ∨ (p = 2 ∧ i < 6 ∧ x < 16 ∧ (n = 16 ∨ n = 17 ∨ n = 255)) ∨ (p = 6 ∧ i = 0 ∧ x < 4 ∧ (n < 5 ∨ n = 255))) ∧ s.wornPart p i x = none) ∧
    (∃ (s : State) (dt : Nat) (p : Nat) (i : Nat) (x : Nat) (n : Nat) (c : Cmd) (w : _), s.Ready .spareSwap dt c ∧ Clean c [(32, 4)] 0 ∧ p = c.u8 32 ∧ i = c.u8 33 ∧ x = c.u8 34 ∧ n = c.u8 35 ∧ ((p = 0 ∧ i < 8 ∧ x < 8 ∧ (n < 10 ∨ n = 255)) ∨ (p = 1 ∧ i < 8 ∧ x < 8 ∧ (n < 9 ∨ n = 255)) ∨ (p = 2 ∧ i < 6 ∧ x < 16 ∧ (n = 16 ∨ n = 17 ∨ n = 255)) ∨ (p = 6 ∧ i = 0 ∧ x < 4 ∧ (n < 5 ∨ n = 255))) ∧ s.wornPart p i x = some w ∧ s.pickSpare p i x n = none) ∧
    (∃ (s : State) (dt : Nat) (p : Nat) (i : Nat) (x : Nat) (n : Nat) (c : Cmd) (w : _) (k : _), s.Ready .spareSwap dt c ∧ Clean c [(32, 4)] 0 ∧ p = c.u8 32 ∧ i = c.u8 33 ∧ x = c.u8 34 ∧ n = c.u8 35 ∧ ((p = 0 ∧ i < 8 ∧ x < 8 ∧ (n < 10 ∨ n = 255)) ∨ (p = 1 ∧ i < 8 ∧ x < 8 ∧ (n < 9 ∨ n = 255)) ∨ (p = 2 ∧ i < 6 ∧ x < 16 ∧ (n = 16 ∨ n = 17 ∨ n = 255)) ∨ (p = 6 ∧ i = 0 ∧ x < 4 ∧ (n < 5 ∨ n = 255))) ∧ s.wornPart p i x = some w ∧ s.pickSpare p i x n = some k ∧ (s.mode .serv = false ∨ (p = 0 ∧ s.mode .acq = false))) ∧
    (∃ (s : State) (dt : Nat) (p : Nat) (i : Nat) (x : Nat) (n : Nat) (c : Cmd) (w : _) (k : _), s.Ready .spareSwap dt c ∧ Clean c [(32, 4)] 0 ∧ p = c.u8 32 ∧ i = c.u8 33 ∧ x = c.u8 34 ∧ n = c.u8 35 ∧ ((p = 0 ∧ i < 8 ∧ x < 8 ∧ (n < 10 ∨ n = 255)) ∨ (p = 1 ∧ i < 8 ∧ x < 8 ∧ (n < 9 ∨ n = 255)) ∨ (p = 2 ∧ i < 6 ∧ x < 16 ∧ (n = 16 ∨ n = 17 ∨ n = 255)) ∨ (p = 6 ∧ i = 0 ∧ x < 4 ∧ (n < 5 ∨ n = 255))) ∧ s.wornPart p i x = some w ∧ s.pickSpare p i x n = some k ∧ s.mode .serv = true ∧ (p = 0 → s.mode .acq = true) ∧ (s.swapHolds p i x = true ∨ s.calHolds p i x = true)) ∧
    (∃ (s : State) (dt : Nat) (p : Nat) (i : Nat) (x : Nat) (n : Nat) (c : Cmd) (w : _) (k : _), s.Ready .spareSwap dt c ∧ Clean c [(32, 4)] 0 ∧ p = c.u8 32 ∧ i = c.u8 33 ∧ x = c.u8 34 ∧ n = c.u8 35 ∧ ((p = 0 ∧ i < 8 ∧ x < 8 ∧ (n < 10 ∨ n = 255)) ∨ (p = 1 ∧ i < 8 ∧ x < 8 ∧ (n < 9 ∨ n = 255)) ∨ (p = 2 ∧ i < 6 ∧ x < 16 ∧ (n = 16 ∨ n = 17 ∨ n = 255)) ∨ (p = 6 ∧ i = 0 ∧ x < 4 ∧ (n < 5 ∨ n = 255))) ∧ s.wornPart p i x = some w ∧ s.pickSpare p i x n = some k ∧ s.mode .serv = true ∧ s.swapHolds p i x = false ∧ s.calHolds p i x = false ∧ p = 0 ∧ s.mode .acq = true) ∧
    (∃ (s : State) (dt : Nat) (p : Nat) (i : Nat) (x : Nat) (n : Nat) (c : Cmd) (w : _) (k : _), s.Ready .spareSwap dt c ∧ Clean c [(32, 4)] 0 ∧ p = c.u8 32 ∧ i = c.u8 33 ∧ x = c.u8 34 ∧ n = c.u8 35 ∧ ((p = 0 ∧ i < 8 ∧ x < 8 ∧ (n < 10 ∨ n = 255)) ∨ (p = 1 ∧ i < 8 ∧ x < 8 ∧ (n < 9 ∨ n = 255)) ∨ (p = 2 ∧ i < 6 ∧ x < 16 ∧ (n = 16 ∨ n = 17 ∨ n = 255)) ∨ (p = 6 ∧ i = 0 ∧ x < 4 ∧ (n < 5 ∨ n = 255))) ∧ s.wornPart p i x = some w ∧ s.pickSpare p i x n = some k ∧ s.mode .serv = true ∧ s.swapHolds p i x = false ∧ s.calHolds p i x = false ∧ p = 1) ∧
    (∃ (s : State) (dt : Nat) (p : Nat) (i : Nat) (x : Nat) (n : Nat) (c : Cmd) (w : _) (k : _), s.Ready .spareSwap dt c ∧ Clean c [(32, 4)] 0 ∧ p = c.u8 32 ∧ i = c.u8 33 ∧ x = c.u8 34 ∧ n = c.u8 35 ∧ ((p = 0 ∧ i < 8 ∧ x < 8 ∧ (n < 10 ∨ n = 255)) ∨ (p = 1 ∧ i < 8 ∧ x < 8 ∧ (n < 9 ∨ n = 255)) ∨ (p = 2 ∧ i < 6 ∧ x < 16 ∧ (n = 16 ∨ n = 17 ∨ n = 255)) ∨ (p = 6 ∧ i = 0 ∧ x < 4 ∧ (n < 5 ∨ n = 255))) ∧ s.wornPart p i x = some w ∧ s.pickSpare p i x n = some k ∧ s.mode .serv = true ∧ s.swapHolds p i x = false ∧ s.calHolds p i x = false ∧ p = 2) ∧
    (∃ (s : State) (dt : Nat) (p : Nat) (i : Nat) (x : Nat) (n : Nat) (c : Cmd) (w : _) (k : _), s.Ready .spareSwap dt c ∧ Clean c [(32, 4)] 0 ∧ p = c.u8 32 ∧ i = c.u8 33 ∧ x = c.u8 34 ∧ n = c.u8 35 ∧ ((p = 0 ∧ i < 8 ∧ x < 8 ∧ (n < 10 ∨ n = 255)) ∨ (p = 1 ∧ i < 8 ∧ x < 8 ∧ (n < 9 ∨ n = 255)) ∨ (p = 2 ∧ i < 6 ∧ x < 16 ∧ (n = 16 ∨ n = 17 ∨ n = 255)) ∨ (p = 6 ∧ i = 0 ∧ x < 4 ∧ (n < 5 ∨ n = 255))) ∧ s.wornPart p i x = some w ∧ s.pickSpare p i x n = some k ∧ s.mode .serv = true ∧ s.swapHolds p i x = false ∧ s.calHolds p i x = false ∧ p = 6) ∧
    (∃ (s : State) (dt : Nat) (c : Cmd), s.Ready .sparePolicy dt c ∧ Clean c [(32, 2)] 0 ∧ (c.u8 32 ≤ 2 ∨ c.u8 32 = 6) ∧ c.u8 33 ≤ 2) ∧
    (∃ (s : State) (dt : Nat) (c : Cmd), s.Ready .sparePolicy dt c ∧ Clean c [(32, 2)] 0 ∧ (c.u8 32 ≤ 2 ∨ c.u8 32 = 6) ∧ c.u8 33 ≤ 2) ∧
    (∃ (s : State) (dt : Nat) (c : Cmd), s.Ready .spareApprove dt c ∧ Clean c [(32, 1), (36, 4)] 0 ∧ c.u8 32 ≤ 1 ∧ (∀ p, p ∈ s.spr.proposals → p.num = c.u32 36 → p.expiry ≤ s.now + dt)) ∧
    (∃ (s : State) (dt : Nat) (c : Cmd) (p : Proposal), s.Ready .spareApprove dt c ∧ Clean c [(32, 1), (36, 4)] 0 ∧ c.u8 32 = 1 ∧ p ∈ s.spr.proposals ∧ p.num = c.u32 36 ∧ s.now + dt < p.expiry) ∧
    (∃ (s : State) (dt : Nat) (c : Cmd) (p : Proposal) (r : _) (v : _), s.Ready .spareApprove dt c ∧ Clean c [(32, 1), (36, 4)] 0 ∧ c.u8 32 = 0 ∧ s.spr.proposals = [p] ∧ p.num = c.u32 36 ∧ s.now + dt < p.expiry ∧ plannedSwap p.pool p.isl p.idx 255 none (s.entered .spareApprove dt c) = (some (.final r v), (s.entered .spareApprove dt c))) ∧
    (∃ (s : State) (dt : Nat) (c : Cmd) (p : Proposal) (w : _) (k : _), s.Ready .spareApprove dt c ∧ Clean c [(32, 1), (36, 4)] 0 ∧ c.u8 32 = 0 ∧ s.spr.proposals = [p] ∧ p.num = c.u32 36 ∧ s.now + dt < p.expiry ∧ s.wornPart p.pool p.isl p.idx = some w ∧ s.pickSpare p.pool p.isl p.idx 255 = some k ∧ s.mode .serv = true ∧ s.mode .acq = true ∧ s.swapHolds p.pool p.isl p.idx = false ∧ s.calHolds p.pool p.isl p.idx = false) ∧
    (∃ (s : State) (dt : Nat) (p : Nat) (i : Nat) (n : Nat) (c : Cmd), s.Ready .wearRead dt c ∧ Clean c [(32, 3)] 0 ∧ p = c.u8 32 ∧ i = c.u8 33 ∧ n = c.u8 34 ∧ i < poolInsts p ∧ ((p = 0 ∧ n < 10) ∨ (p = 1 ∧ n < 9) ∨ (p = 2 ∧ n < 18) ∨ (p = 3 ∧ n < 2) ∨ (p = 4 ∧ n < 3) ∨ (p = 5 ∧ n = 0) ∨ (p = 6 ∧ n < 5))) ∧
    (∃ (s : State) (dt : Nat) (p : Nat) (i : Nat) (n : Nat) (c : Cmd), s.Ready .wearRead dt c ∧ Clean c [(32, 3)] 0 ∧ p = c.u8 32 ∧ i = c.u8 33 ∧ n = c.u8 34 ∧ i < poolInsts p ∧ ((p = 0 ∧ n < 10) ∨ (p = 1 ∧ n < 9) ∨ (p = 2 ∧ n < 18) ∨ (p = 3 ∧ n < 2) ∨ (p = 4 ∧ n < 3) ∨ (p = 5 ∧ n = 0) ∨ (p = 6 ∧ n < 5))) :=
  ⟨⟨S0, 1000, pk [(32,1,0),(33,1,7)], by unfold Clean; decide +kernel⟩,
   ⟨SVA, 1000, pk [(32,1,6),(33,1,0)], by unfold Clean; decide +kernel⟩,
   ⟨S0, 1000, pk [(32,1,3),(33,1,13)], by unfold Clean; decide +kernel⟩,
   ⟨S0, 1000, pk [(32,1,5),(33,1,255)], by unfold Clean; decide +kernel⟩,
   ⟨SV, 1000, 0, 7, 7, 9, pk [(33,1,7),(34,1,7),(35,1,9)], by unfold Clean; decide +kernel⟩,
   ⟨SV, 1000, 2, 5, 15, 17, pk [(32,1,2),(33,1,5),(34,1,15),(35,1,17)], by unfold Clean; decide +kernel⟩,
   ⟨SVA, 1000, 0, 7, 7, 7, pk [(33,1,7),(34,1,7),(35,1,7)], 7, by unfold Clean; decide +kernel⟩,
   ⟨SA, 1000, 0, 7, 7, 9, pk [(33,1,7),(34,1,7),(35,1,9)], 7, 9, by unfold Clean; decide +kernel⟩,
   ⟨{SVA with spr := {swaps := [sws]}}, 1000, 0, 7, 7, 9, pk [(33,1,7),(34,1,7),(35,1,9)], 7, 9, by unfold Clean; decide +kernel⟩,
   ⟨SVA, 1000, 0, 7, 7, 9, pk [(33,1,7),(34,1,7),(35,1,9)], 7, 9, by unfold Clean; decide +kernel⟩,
   ⟨{SO with mod := SV.mod}, 1000, 1, 7, 7, 8, pk [(32,1,1),(33,1,7),(34,1,7),(35,1,8)], 7, 8, by unfold Clean; decide +kernel⟩,
   ⟨{SPn P15 with mod := SV.mod}, 1000, 2, 5, 15, 255, pk [(32,1,2),(33,1,5),(34,1,15),(35,1,255)], 15, 16, by unfold Clean; decide +kernel⟩,
   ⟨SV, 1000, 6, 0, 3, 255, pk [(32,1,6),(33,1,0),(34,1,3),(35,1,255)], 3, 4, by unfold Clean; decide +kernel⟩,
   ⟨S0, 1000, pk [(32,1,6),(33,1,2)], by unfold Clean; decide +kernel⟩,
   ⟨S0, 1000, pk [(32,1,2),(33,1,0)], by unfold Clean; decide +kernel⟩,
   ⟨{S0 with spr := {proposals := [⟨3, 0, 7, 7, 7, 5000001000⟩]}}, 1000, pk [(32,1,1),(36,4,3)], by unfold Clean; decide +kernel⟩,
   ⟨{S0 with spr := {proposals := [⟨3, 0, 7, 7, 7, 5000001001⟩]}}, 1000, pk [(32,1,1),(36,4,3)], ⟨3, 0, 7, 7, 7, 5000001001⟩, by unfold Clean; decide +kernel⟩,
   ⟨{SA with spr := {proposals := [prop]}}, 1000, pk [(36,4,1)], prop, stModeConflict, le 2 0xA3, by unfold Clean; decide +kernel⟩,
   ⟨{SVA with spr := {proposals := [prop]}}, 1000, pk [(36,4,1)], prop, 7, 8, by unfold Clean; decide +kernel⟩,
   ⟨SVA, 1000, 0, 7, 9, pk [(33,1,7),(34,1,9)], by unfold Clean; decide +kernel⟩,
   ⟨SVA, 1000, 6, 0, 4, pk [(32,1,6),(33,1,0),(34,1,4)], by unfold Clean; decide +kernel⟩⟩

/-- What meets the hypotheses of `Obligations.WearAndForcedSwaps`, clause by clause. -/
theorem witness_WearAndForcedSwaps :
    (∃ (s : State) (ch : Fin 64), (s.chan ch).pslice = none) ∧
    (∃ (s : State) (p : Nat) (ch : Fin 64) (a : Audit), s.audit (ch / 8) = some a ∧ (s.chan ch).pslice = some p ∧ (a.ch ≠ ch.val ∨ a.pairs < 16)) ∧
    (∃ (s : State) (p : Nat) (ch : Fin 64) (a : Audit), s.audit (ch / 8) = some a ∧ (s.chan ch).pslice = some p ∧ a.ch = ch.val ∧ 16 ≤ a.pairs ∧ a.pct < 200) ∧
    (∃ (s : State) (dt : Nat) (p : Nat) (n : Nat) (t : Nat) (ch : Fin 64) (fl : List Nat), s.audit (ch / 8) = none ∧ (s.chan ch).pslice = some p ∧ (s.slice (ch / 8) p).auditAt = none ∧ s.glideOk ch = true ∧ (s.chan ch).spare = none ∧ s.sliceSwap ch = none ∧ s.canSample ch = true ∧ s.mode .acq = true ∧ (s.slice (ch / 8) n).checked = some t ∧ s.now + dt ≤ t + 10000000000 ∧ (s.slice (ch / 8) n).checkPct < 25 ∧ (s.slice (ch / 8) n).role = 1 ∧ s.sliceHeld (ch / 8) n = false ∧ s.reserved 0 (ch / 8) n = false ∧ n < 10 ∧ (∀ m, m < n → (s.slice (ch / 8) m).role ≠ 1) ∧ ((s.chan ch).twinJoins n).any (shortedIn fl) = false) ∧
    (∃ (s : State) (dt : Nat) (p : Nat) (n : Nat) (t : Nat) (ch : Fin 64) (fl : List Nat), s.audit (ch / 8) = none ∧ (s.chan ch).pslice = some p ∧ (s.slice (ch / 8) p).auditAt = none ∧ s.glideOk ch = true ∧ (s.chan ch).spare = none ∧ s.sliceSwap ch = none ∧ s.canSample ch = true ∧ s.mode .acq = true ∧ (s.slice (ch / 8) n).checked = some t ∧ s.now + dt ≤ t + 10000000000 ∧ (s.slice (ch / 8) n).checkPct < 25 ∧ (s.slice (ch / 8) n).role = 1 ∧ s.sliceHeld (ch / 8) n = false ∧ s.reserved 0 (ch / 8) n = false ∧ n < 10 ∧ (∀ m, m < n → (s.slice (ch / 8) m).role ≠ 1) ∧ ((s.chan ch).twinJoins n).any (shortedIn fl) = true) ∧
    (∃ (s : State) (i : Fin 8) (n : Fin 10), (s.partRole 0 i n = 0 ∨ 5 ≤ s.partRole 0 i n)) ∧
    (∃ (s : State) (i : Fin 8) (n : Fin 10), 1 ≤ s.partRole 0 i n ∧ s.partRole 0 i n ≤ 4 ∧ (s.aisl i).powered = true ∧ (∀ w, w ∈ s.spr.swaps → w.pool = 0 → w.isl = i.val → w.spare = n.val → w.phase ≠ 4)) ∧
    (∃ (s : State) (ch : Fin 64) (w : Swap), s.sliceSwap ch = some w ∧ w.method = 0) ∧
    (∃ (s : State) (dt : Nat) (t : Nat) (ch : Fin 64) (w : Swap), s.sliceSwap ch = some w ∧ w.method = 1 ∧ (s.aisl (ch / 8)).powered = true ∧ (s.chan ch).cfg.pulsed = false ∧ (s.chan ch).change = none ∧ (s.slice (ch / 8) w.spare).checked = some t ∧ t + 10000000000 < s.now + dt) ∧
    (∃ (s : State) (dt : Nat) (t : Nat) (ch : Fin 64) (w : Swap), s.sliceSwap ch = some w ∧ w.method = 1 ∧ (s.aisl (ch / 8)).powered = true ∧ (s.chan ch).cfg.pulsed = false ∧ (s.chan ch).change = none ∧ (s.slice (ch / 8) w.spare).checked = some t ∧ s.now + dt ≤ t + 10000000000 ∧ 25 < (s.slice (ch / 8) w.spare).checkPct ∧ w.fails = false) ∧
    (∃ (s : State) (dt : Nat) (t : Nat) (ch : Fin 64) (w : Swap) (fl : List Nat), s.sliceSwap ch = some w ∧ w.method = 1 ∧ (s.aisl (ch / 8)).powered = true ∧ (s.chan ch).cfg.pulsed = false ∧ (s.chan ch).change = none ∧ (s.slice (ch / 8) w.spare).checked = some t ∧ s.now + dt ≤ t + 10000000000 ∧ (s.slice (ch / 8) w.spare).checkPct ≤ 25 ∧ ((s.chan ch).moved w.spare).any (shortedIn fl) = true ∧ w.fails = false) ∧
    (∃ (s : State) (dt : Nat) (t : Nat) (ch : Fin 64) (w : Swap) (fl : List Nat), s.sliceSwap ch = some w ∧ w.method = 1 ∧ (s.aisl (ch / 8)).powered = true ∧ (s.chan ch).cfg.pulsed = false ∧ (s.chan ch).change = none ∧ (s.slice (ch / 8) w.spare).checked = some t ∧ s.now + dt ≤ t + 10000000000 ∧ (s.slice (ch / 8) w.spare).checkPct ≤ 25 ∧ ((s.chan ch).moved w.spare).any (shortedIn fl) = false) ∧
    (∃ (s : State) (c : Nat) (i : Fin 8) (n : Fin 10), (((List.range 8).find? fun c => (s.chan (i * 8 + c)).pslice = some n.val) = some c)) ∧
    (∃ (s : State) (i : Fin 8) (n : Fin 10), (∀ c, c < 8 → (s.chan (i * 8 + c)).pslice ≠ some n.val) ∧ 5 ≤ s.partRole 0 i n) ∧
    (∃ (s : State) (i : Fin 8) (n : Fin 10), (∀ c, c < 8 → (s.chan (i * 8 + c)).pslice ≠ some n.val) ∧ s.partRole 0 i n < 5 ∧ s.reserved 0 i n = false) ∧
    (∃ (s : State) (ch : Fin 64), ((s.chan ch).cfg.pulsed = false ∨ (s.chan ch).srcOn = none)) ∧
    (∃ (s : State) (ppm : Nat) (ch : Fin 64), (s.chan ch).cfg.pulsed = true ∧ (s.chan ch).srcOn.isSome = true ∧ 999000 ≤ ppm ∧ ppm ≤ 1001000) ∧
    (∃ (s : State) (b : Fin 3) (l : Fin 3), (s.lanes b).roles.getD l 0 ≠ 2) ∧
    (∃ (s : State) (b : Fin 3) (l : Fin 3), (s.lanes b).roles.getD l 0 = 2 ∧ l.val < (s.lanes b).roles.length) ∧
    (∃ (s : State) (b : Fin 3) (l : Fin 3), (s.lanes b).roles.getD l 0 = 2 ∧ l.val < (s.lanes b).roles.length ∧ (s.lanes b).transients = []) ∧
    (∃ (s : State) (p : Fin 524544), s.spr.retiredPages.contains p.val = false ∧ s.spr.pageErrors = []) ∧
    (∃ (s : State) (dt : Nat) (t : Nat) (p : Fin 524544), s.spr.retiredPages.contains p.val = false ∧ s.spr.pageErrors = [(p.val, t)] ∧ s.now + dt < t + 86400000000000) :=
  ⟨⟨S0, 63, by decide +kernel⟩,
   ⟨{(SA.setPartRole 0 7 8 4) with spr := {(SA.setPartRole 0 7 8 4).spr with audits := [(7, some {ch := 63, spare := 8, joinAt := 4, samples := 40, pairs := 15})]}}, 7, 63, {ch := 63, spare := 8, joinAt := 4, samples := 40, pairs := 15}, by decide +kernel⟩,
   ⟨{(SA.setPartRole 0 7 8 4) with spr := {(SA.setPartRole 0 7 8 4).spr with audits := [(7, some {ch := 63, spare := 8, joinAt := 4, samples := 40, pairs := 16, pct := 199})]}}, 7, 63, {ch := 63, spare := 8, joinAt := 4, samples := 40, pairs := 16, pct := 199}, by decide +kernel⟩,
   ⟨SVC 24 4990000000, 1000, 7, 8, 4990000000, 63, [], by decide +kernel⟩,
   ⟨SVC 24 4990000000, 1000, 7, 8, 4990000000, 63, [pathNo 4 17 1 true], by decide +kernel⟩,
   ⟨S0, 7, 7, by decide +kernel⟩,
   ⟨SA, 7, 9, by decide +kernel⟩,
   ⟨{SA with spr := {swaps := [sws]}}, 63, sws, by decide +kernel⟩,
   ⟨SVD 24 4990000000 swd, 9990000001, 4990000000, 63, swd, by decide +kernel⟩,
   ⟨SVD 26 4990000000 swd, 1000, 4990000000, 63, swd, by decide +kernel⟩,
   ⟨SVD 25 4990000000 swd, 1000, 4990000000, 63, swd, [pathNo 3 16 0 true], by decide +kernel⟩,
   ⟨SVD 25 4990000000 swd, 1000, 4990000000, 63, swd, [], by decide +kernel⟩,
   ⟨SA, 7, 7, 7, by decide +kernel⟩,
   ⟨S0.setPartRole 0 7 9 6, 7, 9, by decide +kernel⟩,
   ⟨S0.setPartRole 0 7 9 4, 7, 9, by decide +kernel⟩,
   ⟨S0, 63, by decide +kernel⟩,
   ⟨S0.setChan 63 {C1 with cfg := {C1.cfg with pulsed := true}, srcOn := some 4}, 999000, 63, by decide +kernel⟩,
   ⟨S0, 2, 1, by decide +kernel⟩,
   ⟨{S0 with spr := {be := {roles := [0, 0, 2]}}}, 2, 2, by decide +kernel⟩,
   ⟨{S0 with spr := {be := {roles := [0, 0, 2]}}}, 2, 2, by decide +kernel⟩,
   ⟨S0, 524543, by decide +kernel⟩,
   ⟨{S0 with spr := {pageErrors := [(524543, 5)]}}, 1000, 5, 524543, by decide +kernel⟩⟩

/-- What meets the hypotheses of `Obligations.SensorsAndHealthLog`, clause by clause. -/
theorem witness_SensorsAndHealthLog :
    (∃ (s : State), s.mss.ok = false) ∧
    (∃ (s : State), s.mss.ok = true) ∧
    (∃ (s : State) (k : Fin 40), s.mss.ok = true ∧ s.sensorLost k = true) ∧
    (∃ (s : State) (k : Fin 40) (v : BitVec 16) (x : Sensor) (y : Sensor), x = s.sensor k ∧ s.mss.ok = true ∧ s.sensorLost k = false ∧ y = { x with value := v.toInt, lows := y.lows, highs := y.highs, backs := y.backs, min := y.min, max := y.max, sum := x.sum + v.toInt, count := x.count + 1 } ∧ (x.count = 0 → y.min = v.toInt ∧ y.max = v.toInt) ∧ (x.count ≠ 0 → y.min = min x.min v.toInt ∧ y.max = max x.max v.toInt) ∧ (v.toInt < x.lo → y.lows = x.lows + 1) ∧ (x.lo ≤ v.toInt → y.lows = 0) ∧ (x.hi < v.toInt → y.highs = x.highs + 1) ∧ (v.toInt ≤ x.hi → y.highs = 0) ∧ (x.inside v.toInt = true → y.backs = x.backs + 1) ∧ (x.inside v.toInt = false → y.backs = 0) ∧ 3 ≤ y.lows) ∧
    (∃ (s : State) (k : Fin 40) (v : BitVec 16) (x : Sensor) (y : Sensor), x = s.sensor k ∧ s.mss.ok = true ∧ s.sensorLost k = false ∧ y = { x with value := v.toInt, lows := y.lows, highs := y.highs, backs := y.backs, min := y.min, max := y.max, sum := x.sum + v.toInt, count := x.count + 1 } ∧ (x.count = 0 → y.min = v.toInt ∧ y.max = v.toInt) ∧ (x.count ≠ 0 → y.min = min x.min v.toInt ∧ y.max = max x.max v.toInt) ∧ (v.toInt < x.lo → y.lows = x.lows + 1) ∧ (x.lo ≤ v.toInt → y.lows = 0) ∧ (x.hi < v.toInt → y.highs = x.highs + 1) ∧ (v.toInt ≤ x.hi → y.highs = 0) ∧ (x.inside v.toInt = true → y.backs = x.backs + 1) ∧ (x.inside v.toInt = false → y.backs = 0) ∧ y.lows < 3 ∧ 3 ≤ y.highs) ∧
    (∃ (s : State) (k : Fin 40) (v : BitVec 16) (x : Sensor) (y : Sensor), x = s.sensor k ∧ s.mss.ok = true ∧ s.sensorLost k = false ∧ y = { x with value := v.toInt, lows := y.lows, highs := y.highs, backs := y.backs, min := y.min, max := y.max, sum := x.sum + v.toInt, count := x.count + 1 } ∧ (x.count = 0 → y.min = v.toInt ∧ y.max = v.toInt) ∧ (x.count ≠ 0 → y.min = min x.min v.toInt ∧ y.max = max x.max v.toInt) ∧ (v.toInt < x.lo → y.lows = x.lows + 1) ∧ (x.lo ≤ v.toInt → y.lows = 0) ∧ (x.hi < v.toInt → y.highs = x.highs + 1) ∧ (v.toInt ≤ x.hi → y.highs = 0) ∧ (x.inside v.toInt = true → y.backs = x.backs + 1) ∧ (x.inside v.toInt = false → y.backs = 0) ∧ y.lows < 3 ∧ y.highs < 3 ∧ (x.state = 3 ∨ 3 ≤ y.backs)) ∧
    (∃ (s : State) (k : Fin 40) (v : BitVec 16) (x : Sensor) (y : Sensor), x = s.sensor k ∧ s.mss.ok = true ∧ s.sensorLost k = false ∧ y = { x with value := v.toInt, lows := y.lows, highs := y.highs, backs := y.backs, min := y.min, max := y.max, sum := x.sum + v.toInt, count := x.count + 1 } ∧ (x.count = 0 → y.min = v.toInt ∧ y.max = v.toInt) ∧ (x.count ≠ 0 → y.min = min x.min v.toInt ∧ y.max = max x.max v.toInt) ∧ (v.toInt < x.lo → y.lows = x.lows + 1) ∧ (x.lo ≤ v.toInt → y.lows = 0) ∧ (x.hi < v.toInt → y.highs = x.highs + 1) ∧ (v.toInt ≤ x.hi → y.highs = 0) ∧ (x.inside v.toInt = true → y.backs = x.backs + 1) ∧ (x.inside v.toInt = false → y.backs = 0) ∧ y.lows < 3 ∧ y.highs < 3 ∧ x.state ≠ 3 ∧ y.backs < 3) ∧
    (∃ (s : State) (k : Nat) (n : Nat), n ≠ (s.sensor k).state) ∧
    (∃ (s : State) (dt : Nat), (s.mss.ok = false ∨ s.now + dt < s.mss.summaryAt + 3600000000000 * s.mss.summary)) ∧
    (∃ (s : State) (dt : Nat), s.mss.ok = true ∧ s.mss.summaryAt + 3600000000000 * s.mss.summary ≤ s.now + dt) ∧
    (∃ (s : State), s.mss.batch = []) ∧
    (∃ (s : State), s.mss.batch ≠ []) ∧
    (∃ (s : State), s.coreOn = true) ∧
    (∃ (s : State), s.coreOn = false) ∧
    (∃ (s : State) (dt : Nat) (c : Cmd), s.Ready .sensorRead dt c ∧ Clean c [(32, 2)] 0 ∧ 1 ≤ c.u8 33 ∧ c.u8 33 ≤ 8 ∧ c.u8 32 + c.u8 33 ≤ 40) ∧
    (∃ (s : State) (dt : Nat) (c : Cmd), s.Ready .sensorRead dt c ∧ Clean c [(32, 2)] 0 ∧ (c.u8 33 = 0 ∨ 8 < c.u8 33 ∨ 40 < c.u8 32 + c.u8 33)) ∧
    (∃ (s : State) (dt : Nat) (c : Cmd), s.Ready .healthRead dt c ∧ Clean c [(36, 4), (40, 8), (48, 4)] 0 ∧ c.u64 40 % 64 = 0 ∧ c.u32 48 ≤ 1048576 ∧ s.mss.log ++ s.mss.batch = []) ∧
    (∃ (s : State) (dt : Nat) (c : Cmd) (x : _) (l : _), s.Ready .healthRead dt c ∧ Clean c [(36, 4), (40, 8), (48, 4)] 0 ∧ c.u64 40 % 64 = 0 ∧ c.u32 48 ≤ 1048576 ∧ s.mss.log ++ s.mss.batch = x :: l ∧ ((((s.mss.log ++ s.mss.batch).filter fun x => decide (seqKey s.mss.hseq (c.u32 36) ≤ seqKey s.mss.hseq x.hseq)).take (c.u32 48 / 32)) = [])) ∧
    (∃ (s : State) (dt : Nat) (c : Cmd) (x : _) (y : _) (l : _), s.Ready .healthRead dt c ∧ Clean c [(36, 4), (40, 8), (48, 4)] 0 ∧ c.u64 40 % 64 = 0 ∧ c.u32 48 ≤ 1048576 ∧ s.mss.log ++ s.mss.batch = x :: l ∧ ((((s.mss.log ++ s.mss.batch).filter fun x => decide (seqKey s.mss.hseq (c.u32 36) ≤ seqKey s.mss.hseq x.hseq)).take (c.u32 48 / 32)).getLast? = some y)) ∧
    (∃ (s : State), s.pwr.state ≠ .vigil) ∧
    (∃ (s : State), s.pwr.state = .vigil) :=
  ⟨⟨{S0 with mss := {ok := false}}, by decide +kernel⟩,
   ⟨S0, by decide +kernel⟩,
   ⟨S0.setAisl 7 {lost := true}, 13, by decide +kernel⟩,
   ⟨SS {lo := 10, lows := 2, count := 4}, 39, 9, {lo := 10, lows := 2, count := 4}, {lo := 10, lows := 3, count := 5, value := 9, backs := 0, min := 0, max := 9, sum := 9}, by decide +kernel⟩,
   ⟨SS {hi := 10, highs := 2}, 39, 11, {hi := 10, highs := 2}, {hi := 10, highs := 3, count := 1, value := 11, backs := 0, min := 11, max := 11, sum := 11}, by decide +kernel⟩,
   ⟨SS {state := 3}, 39, 11, {state := 3}, {state := 3, count := 1, value := 11, backs := 1, min := 11, max := 11, sum := 11}, by decide +kernel⟩,
   ⟨SS {}, 39, 11, {}, {count := 1, value := 11, backs := 1, min := 11, max := 11, sum := 11}, by decide +kernel⟩,
   ⟨SS {lows := 2}, 39, 3, by decide +kernel⟩,
   ⟨S0, 1000, by decide +kernel⟩,
   ⟨{S0 with mss := {summary := 0}}, 1000, by decide +kernel⟩,
   ⟨S0, by decide +kernel⟩,
   ⟨{S0 with mss := {batch := [⟨4, 5, 1, 39, [1]⟩]}}, by decide +kernel⟩,
   ⟨{S0 with mss := {batch := [⟨4, 5, 1, 39, [1]⟩]}}, by decide +kernel⟩,
   ⟨SX, by decide +kernel⟩,
   ⟨S0, 1000, pk [(32,1,32),(33,1,8)], by unfold Clean; decide +kernel⟩,
   ⟨S0, 1000, pk [(32,1,33),(33,1,8)], by unfold Clean; decide +kernel⟩,
   ⟨S0, 1000, pk [(36,4,5),(40,8,64),(48,4,1048576)], by unfold Clean; decide +kernel⟩,
   ⟨SS {}, 1000, pk [(36,4,5),(40,8,64),(48,4,0)], ⟨4, 4, 1, 39, [1]⟩, [⟨4, 5, 1, 39, [1]⟩], by unfold Clean; decide +kernel⟩,
   ⟨SS {}, 1000, pk [(36,4,5),(40,8,64),(48,4,1048576)], ⟨4, 4, 1, 39, [1]⟩, ⟨4, 5, 1, 39, [1]⟩, [⟨4, 5, 1, 39, [1]⟩], by unfold Clean; decide +kernel⟩,
   ⟨S0, by decide +kernel⟩,
   ⟨{S0 with pwr := {S0.pwr with state := .vigil}}, by decide +kernel⟩⟩

/-- What meets the hypotheses of `Obligations.ProvenSetAndTamper`, clause by clause. -/
theorem witness_ProvenSetAndTamper :
    (∃ (s : State) (dt : Nat) (c : Cmd), s.Ready .updateWindowSet dt c ∧ Clean c [(32, 1), (40, 8), (48, 8)] 0 ∧ c.u8 32 ≤ 3 ∧ (c.u64 40 ≠ 0 ∨ c.u64 48 ≠ 0) ∧ (c.u64 48 < c.u64 40 + 600000000000 ∨ c.u64 40 + 86400000000000 < c.u64 48 ∨ c.u64 48 ≤ s.now + dt)) ∧
    (∃ (s : State) (dt : Nat) (c : Cmd), s.Ready .updateWindowSet dt c ∧ Clean c [(32, 1), (40, 8), (48, 8)] 0 ∧ c.u8 32 ≤ 3 ∧ (c.u64 40 ≠ 0 ∨ c.u64 48 ≠ 0) ∧ (c.u64 48 < c.u64 40 + 600000000000 ∨ c.u64 40 + 86400000000000 < c.u64 48 ∨ c.u64 48 ≤ s.now + dt)) ∧
    (∃ (s : State) (dt : Nat) (c : Cmd), s.Ready .updateWindowSet dt c ∧ Clean c [(32, 1), (40, 8), (48, 8)] 0 ∧ c.u8 32 ≤ 3 ∧ ((c.u64 40 = 0 ∧ c.u64 48 = 0) ∨ (c.u64 40 + 600000000000 ≤ c.u64 48 ∧ c.u64 48 ≤ c.u64 40 + 86400000000000 ∧ s.now + dt < c.u64 48))) ∧
    (∃ (s : State) (dt : Nat) (c : Cmd), s.Ready .updateWindowSet dt c ∧ Clean c [(32, 1), (40, 8), (48, 8)] 0 ∧ c.u8 32 ≤ 3 ∧ ((c.u64 40 = 0 ∧ c.u64 48 = 0) ∨ (c.u64 40 + 600000000000 ≤ c.u64 48 ∧ c.u64 48 ≤ c.u64 40 + 86400000000000 ∧ s.now + dt < c.u64 48))) ∧
    (∃ (s : State) (dt : Nat) (c : Cmd), s.Ready .provenSetAccept dt c ∧ Clean c [] 0 ∧ 2 ≤ s.mss.outcome) ∧
    (∃ (s : State) (dt : Nat) (c : Cmd), s.Ready .provenSetAccept dt c ∧ Clean c [] 0 ∧ s.mss.outcome < 2) ∧
    (∃ (s : State) (dt : Nat) (t : Nat), s.mss.trial = some t ∧ t + 86400000000000 ≤ s.now + dt ∧ s.pwr.state = .run ∧ s.mod.holdSafe = 0 ∧ s.mss.proposed = false ∧ s.mod.profile = 0) ∧
    (∃ (s : State) (dt : Nat) (t : Nat), s.mss.trial = some t ∧ t + 86400000000000 ≤ s.now + dt ∧ s.pwr.state = .run ∧ s.mod.holdSafe = 0 ∧ s.mss.proposed = false ∧ s.mod.profile ≠ 0) ∧
    (∃ (s : State) (dt : Nat) (t : Nat), s.mss.trial = some t ∧ (s.pwr.state ≠ .run ∨ s.mod.holdSafe ≠ 0 ∨ s.mss.proposed = true ∨ s.now + dt < t + 86400000000000)) ∧
    (∃ (s : State), s.mss.trial = none) ∧
    (∃ (s : State) (dt : Nat) (c : Cmd), s.Ready .securityStatus dt c ∧ Clean c [] 0) ∧
    (∃ (s : State) (dt : Nat) (c : Cmd), s.Ready .tamperClear dt c ∧ Clean c [] 0 ∧ s.sec.live = true) ∧
    (∃ (s : State) (dt : Nat) (c : Cmd), s.Ready .tamperClear dt c ∧ Clean c [] 0 ∧ s.sec.live = false) :=
  ⟨⟨S0, 1000, pk [(32,1,3),(40,8,5000000000),(48,8,604999999999)], by unfold Clean; decide +kernel⟩,
   ⟨S0, 1000, pk [(32,1,3),(40,8,5000000000),(48,8,86405000000001)], by unfold Clean; decide +kernel⟩,
   ⟨S0, 1000, pk [(32,1,3),(40,8,5000000000),(48,8,605000000000)], by unfold Clean; decide +kernel⟩,
   ⟨S0, 1000, pk [(32,1,3)], by unfold Clean; decide +kernel⟩,
   ⟨{S0 with mss := {outcome := 2}}, 1000, pk [], by unfold Clean; decide +kernel⟩,
   ⟨{S0 with mss := {outcome := 1}}, 1000, pk [], by unfold Clean; decide +kernel⟩,
   ⟨{S0 with mss := {trial := some 1000}}, 86400000000000, 1000, by decide +kernel⟩,
   ⟨{S0 with mss := {trial := some 1000}, mod := {S0.mod with profile := 1}}, 86400000000000, 1000, by decide +kernel⟩,
   ⟨{S0 with mss := {trial := some 1000}}, 1000, 1000, by decide +kernel⟩,
   ⟨SH, by decide +kernel⟩,
   ⟨S0, 1000, pk [], by unfold Clean; decide +kernel⟩,
   ⟨{S0 with sec := {live := true}}, 1000, pk [], by unfold Clean; decide +kernel⟩,
   ⟨{S0 with sec := {latched := true}}, 1000, pk [], by unfold Clean; decide +kernel⟩⟩

/-- What meets the hypotheses of `Obligations.SuppliesAndHoldover`, clause by clause. -/
theorem witness_SuppliesAndHoldover :
    (∃ (s : State) (n : Fin 3), s.pwr.p1 = inputOf n) ∧
    (∃ (s : State) (n : Fin 3), s.pwr.p2 = inputOf n) ∧
    (∃ (s : State) (n : Fin 3), s.pwr.p1 ≠ inputOf n ∧ inputOf n = .lost ∧ s.pwr.p2 = .lost) ∧
    (∃ (s : State) (n : Fin 3), s.pwr.p1 ≠ inputOf n ∧ (inputOf n ≠ .lost ∨ s.pwr.p2 ≠ .lost)) ∧
    (∃ (s : State) (n : Fin 3), s.pwr.p2 ≠ inputOf n ∧ inputOf n = .lost ∧ s.pwr.p1 = .lost) ∧
    (∃ (s : State) (n : Fin 3), s.pwr.p2 ≠ inputOf n ∧ (inputOf n ≠ .lost ∨ s.pwr.p1 ≠ .lost)) ∧
    (∃ (s : State) (dt : Nat) (dv : Nat), (dv = 0 ∨ s.pwr.state ≠ .run ∨ ∃ t, s.pwr.capAt = some t ∧ s.now + dt < t + 86400000000000)) ∧
    (∃ (s : State) (dt : Nat) (dv : Nat), dv ≠ 0 ∧ s.pwr.state = .run ∧ (∀ t, s.pwr.capAt = some t → t + 86400000000000 ≤ s.now + dt)) ∧
    (∃ (s : State), s.pwr.holdLow = true) ∧
    (∃ (s : State) (c : _), s.pwr.holdLow = false ∧ s.pwr.holdMf = some c) ∧
    (∃ (s : State) (c : _), s.pwr.holdLow = false ∧ s.pwr.holdMf = some c) ∧
    (∃ (s : State) (dt : Nat) (mv : Nat), s.pwr.state = .run ∧ s.pwr.busUp + 5000000000 + 10000000 * s.pwr.holdMf.getD 3000 < s.now + dt ∧ mv < 4750) ∧
    (∃ (s : State) (dt : Nat) (mv : Nat), (s.pwr.state ≠ .run ∨ 4750 ≤ mv ∨ s.now + dt ≤ s.pwr.busUp + 5000000000 + 10000000 * s.pwr.holdMf.getD 3000)) ∧
    (∃ (mv : Nat), 4750 ≤ mv) ∧
    (∃ (mv : Nat), mv < 4750) ∧
    (∃ (s : State), s.pwr.state ≠ .vigil) ∧
    (∃ (s : State) (mv : Nat), s.pwr.state = .vigil ∧ 2000 ≤ mv) ∧
    (∃ (s : State) (mv : Nat), s.pwr.state = .vigil ∧ mv < 2000) ∧
    (∃ (s : State) (i : Fin 14), (s.coreOn = false ∨ s.islandPowered i = false)) ∧
    (∃ (s : State) (i : Fin 14), s.coreOn = true ∧ s.islandPowered i = true) ∧
    (∃ (s : State), (s.pwr.bothLost = none ∨ s.pwr.state ≠ .run)) ∧
    (∃ (s : State) (dt : Nat) (t : Nat), s.pwr.bothLost = some t ∧ s.now + dt < t + 10000000) ∧
    (∃ (s : State) (dt : Nat) (ve : Nat) (t : Nat), s.pwr.bothLost = some t ∧ s.pwr.state = .run ∧ t + 10000000 ≤ s.now + dt ∧ s.pwr.phase ≠ .asserted ∧ s.pwr.phase ≠ .released ∧ s.pwr.phase ≠ .links ∧ 2200 ≤ ve) ∧
    (∃ (s : State) (dt : Nat) (ve : Nat) (t : Nat), s.pwr.bothLost = some t ∧ s.pwr.state = .run ∧ t + 10000000 ≤ s.now + dt ∧ (s.pwr.phase = .asserted ∨ s.pwr.phase = .released ∨ s.pwr.phase = .links ∨ ve < 2200)) ∧
    (∃ (s : State) (dt : Nat) (t : Nat) (th : Nat), s.pwr.holdover = some (t, th) ∧ s.pwr.state = .holdover ∧ s.pwr.parked = false ∧ t + (th - 300000000) ≤ s.now + dt) ∧
    (∃ (s : State) (dt : Nat) (t : Nat) (th : Nat), s.pwr.holdover = some (t, th) ∧ s.pwr.state = .holdover ∧ s.pwr.parked = false ∧ s.now + dt < t + (th - 300000000)) ∧
    (∃ (s : State), (s.pwr.holdover = none ∨ s.pwr.state ≠ .holdover ∨ s.pwr.parked = true)) ∧
    (∃ (s : State) (dt : Nat) (t : Nat) (th : Nat), s.pwr.holdover = some (t, th) ∧ s.pwr.state = .holdover ∧ s.pwr.parked = true ∧ s.pwr.sealed = false ∧ t + (if th < 300000000 then 0 else th - 200000000) ≤ s.now + dt) ∧
    (∃ (s : State) (dt : Nat) (t : Nat) (th : Nat), s.pwr.holdover = some (t, th) ∧ s.pwr.state = .holdover ∧ s.pwr.parked = true ∧ s.pwr.sealed = false ∧ s.now + dt < t + (if th < 300000000 then 0 else th - 200000000)) ∧
    (∃ (s : State), (s.pwr.holdover = none ∨ s.pwr.state ≠ .holdover ∨ s.pwr.parked = false ∨ s.pwr.sealed = true)) ∧
    (∃ (s : State) (dt : Nat) (t : Nat) (th : Nat), s.pwr.holdover = some (t, th) ∧ s.pwr.state = .holdover ∧ s.pwr.sealed = true ∧ t + th ≤ s.now + dt) ∧
    (∃ (s : State) (dt : Nat) (t : Nat) (th : Nat), s.pwr.holdover = some (t, th) ∧ s.pwr.state = .holdover ∧ s.pwr.sealed = true ∧ s.now + dt < t + th) ∧
    (∃ (s : State), s.inputBack = true ∧ s.pwr.phase ≠ .asserted) ∧
    (∃ (s : State) (mj : Nat), s.inputBack = false ∧ 412 ≤ mj ∧ s.mod.life ≠ .retired) ∧
    (∃ (s : State) (mj : Nat), s.inputBack = false ∧ (mj < 412 ∨ s.mod.life = .retired)) ∧
    (∃ (s : State), (s.pwr.holdover = none ∨ s.pwr.state ≠ .holdover ∨ s.pwr.sealed = false)) ∧
    (∃ (s : State), s.pwr.state = .holdover ∧ s.pwr.sealed = true) ∧
    (∃ (s : State), s.pwr.state = .holdover ∧ s.pwr.sealed = false ∧ s.pwr.parked = true) ∧
    (∃ (s : State), s.pwr.state = .holdover ∧ s.pwr.sealed = false ∧ s.pwr.parked = false) ∧
    (∃ (s : State), s.pwr.state ≠ .holdover) :=
  ⟨⟨S0, 0, by decide +kernel⟩,
   ⟨S0, 0, by decide +kernel⟩,
   ⟨{S0 with pwr := {S0.pwr with p2 := .lost}}, 2, by decide +kernel⟩,
   ⟨{S0 with pwr := {S0.pwr with p1 := .lost, p2 := .lost, bothLost := some 4, state := .vigil}}, 0, by decide +kernel⟩,
   ⟨{S0 with pwr := {S0.pwr with p1 := .lost}}, 2, by decide +kernel⟩,
   ⟨{S0 with pwr := {S0.pwr with p1 := .lost, p2 := .lost, bothLost := some 4, state := .vigil}}, 1, by decide +kernel⟩,
   ⟨S0, 1000, 0, by decide +kernel⟩,
   ⟨S0, 1000, 3, by decide +kernel⟩,
   ⟨{S0 with pwr := {S0.pwr with holdLow := true}}, by decide +kernel⟩,
   ⟨{S0 with pwr := {S0.pwr with holdMf := some 999}}, 999, by decide +kernel⟩,
   ⟨{S0 with pwr := {S0.pwr with holdMf := some 1000}}, 1000, by decide +kernel⟩,
   ⟨{S0 with now := 40000000000}, 1000, 4749, by decide +kernel⟩,
   ⟨S0, 1000, 4749, by decide +kernel⟩,
   ⟨4750, by decide +kernel⟩,
   ⟨4749, by decide +kernel⟩,
   ⟨S0, by decide +kernel⟩,
   ⟨{S0 with pwr := {S0.pwr with state := .vigil}}, 2000, by decide +kernel⟩,
   ⟨{S0 with pwr := {S0.pwr with state := .vigil}}, 1999, by decide +kernel⟩,
   ⟨SX, 13, by decide +kernel⟩,
   ⟨SA, 7, by decide +kernel⟩,
   ⟨S0, by decide +kernel⟩,
   ⟨{S0 with pwr := {S0.pwr with p1 := .lost, p2 := .lost, bothLost := some 4990001001}}, 1000, 4990001001, by decide +kernel⟩,
   ⟨{S0 with pwr := {S0.pwr with p1 := .lost, p2 := .lost, bothLost := some 4990001000}}, 1000, 2200, 4990001000, by decide +kernel⟩,
   ⟨{S0 with pwr := {S0.pwr with p1 := .lost, p2 := .lost, bothLost := some 4990001000}}, 1000, 2199, 4990001000, by decide +kernel⟩,
   ⟨{S0 with pwr := {S0.pwr with state := .holdover, holdover := some (4000000000, 1300001000)}}, 1000, 4000000000, 1300001000, by decide +kernel⟩,
   ⟨SHo 1300002000 false false, 1000, 4000000000, 1300002000, by decide +kernel⟩,
   ⟨S0, by decide +kernel⟩,
   ⟨{S0 with pwr := {S0.pwr with state := .holdover, holdover := some (4000000000, 1200001000), parked := true}}, 1000, 4000000000, 1200001000, by decide +kernel⟩,
   ⟨SHo 1300001000 true false, 1000, 4000000000, 1300001000, by decide +kernel⟩,
   ⟨S0, by decide +kernel⟩,
   ⟨{S0 with pwr := {S0.pwr with state := .holdover, holdover := some (4000000000, 1000001000), parked := true, sealed := true, p1 := .lost, p2 := .lost}}, 1000, 4000000000, 1000001000, by decide +kernel⟩,
   ⟨SHo 1000002000 true true, 1000, 4000000000, 1000002000, by decide +kernel⟩,
   ⟨S0, by decide +kernel⟩,
   ⟨{S0 with pwr := {S0.pwr with p1 := .lost, p2 := .lost}}, 412, by decide +kernel⟩,
   ⟨{S0 with pwr := {S0.pwr with p1 := .lost, p2 := .lost}}, 411, by decide +kernel⟩,
   ⟨S0, by decide +kernel⟩,
   ⟨{S0 with pwr := {S0.pwr with state := .holdover, holdover := some (4000000000, 1000001000), parked := true, sealed := true, p1 := .lost, p2 := .lost}}, by decide +kernel⟩,
   ⟨SHo 1000001000 true false, by decide +kernel⟩,
   ⟨SHo 1000001000 false false, by decide +kernel⟩,
   ⟨S0, by decide +kernel⟩⟩

/-- What meets the hypotheses of `Obligations.DormantVigilAndTamper`, clause by clause. -/
theorem witness_DormantVigilAndTamper :
    (∃ (s : State) (dt : Nat) (c : Cmd), s.Ready .dormantEnter dt c ∧ Clean c [(32, 1), (40, 8)] 0 ∧ c.u8 32 ≤ 31 ∧ s.pwr.state = .holdover) ∧
    (∃ (s : State) (dt : Nat) (c : Cmd), s.Ready .dormantEnter dt c ∧ Clean c [(32, 1), (40, 8)] 0 ∧ c.u8 32 ≤ 31 ∧ s.pwr.state ≠ .holdover ∧ s.rng.isMaster = true ∧ s.mode .ring = true) ∧
    (∃ (s : State) (dt : Nat) (c : Cmd), s.Ready .dormantEnter dt c ∧ Clean c [(32, 1), (40, 8)] 0 ∧ c.u8 32 ≤ 31 ∧ s.pwr.state ≠ .holdover ∧ (s.rng.isMaster = false ∨ s.mode .ring = false) ∧ c.u8 32 = 0) ∧
    (∃ (s : State) (dt : Nat) (c : Cmd), s.Ready .dormantEnter dt c ∧ Clean c [(32, 1), (40, 8)] 0 ∧ c.u8 32 ≤ 31 ∧ s.pwr.state ≠ .holdover ∧ (s.rng.isMaster = false ∨ s.mode .ring = false) ∧ c.u8 32 ≠ 0 ∧ c.u64 40 ≠ 0 ∧ c.u64 40 < max (s.now + dt) c.notBefore + 1000000000) ∧
    (∃ (s : State) (dt : Nat) (c : Cmd), s.Ready .dormantEnter dt c ∧ Clean c [(32, 1), (40, 8)] 0 ∧ c.u8 32 ≤ 31 ∧ s.pwr.state ≠ .holdover ∧ (s.rng.isMaster = false ∨ s.mode .ring = false) ∧ c.u8 32 ≠ 0 ∧ (c.u64 40 = 0 ∨ max (s.now + dt) c.notBefore + 1000000000 ≤ c.u64 40)) ∧
    (∃ (s : State), s.pwr.dormantGoing = none) ∧
    (∃ (s : State) (dt : Nat) (r : DormantReq), s.pwr.dormantGoing = some r ∧ s.pwr.state = .run ∧ (r.limit + 10000000000 ≤ s.now + dt ∨ ((r.limit ≤ s.now + dt ∨ s.replyGone r.flow r.seq = true) ∧ s.liveRegions = []))) ∧
    (∃ (s : State) (dt : Nat) (r : DormantReq), s.pwr.dormantGoing = some r ∧ (s.pwr.state ≠ .run ∨ (s.now + dt < r.limit ∧ s.replyGone r.flow r.seq = false) ∨ (s.liveRegions ≠ [] ∧ s.now + dt < r.limit + 10000000000))) ∧
    (∃ (s : State) (dt : Nat) (r : DormantReq), s.pwr.dormantGoing = some r ∧ (s.pwr.state ≠ .run ∨ (s.now + dt < r.limit ∧ s.replyGone r.flow r.seq = false) ∨ (s.liveRegions ≠ [] ∧ s.now + dt < r.limit + 10000000000))) ∧
    (∃ (s : State) (dt : Nat), s.pwr.state = .dormant ∧ s.pwr.wakeMask.testBit 0 = true ∧ s.pwr.wakeAt ≠ 0 ∧ s.pwr.wakeAt ≤ (s.advance dt).rtcNodeTime) ∧
    (∃ (s : State) (dt : Nat), s.pwr.state = .dormant ∧ (s.pwr.wakeMask.testBit 0 = false ∨ s.pwr.wakeAt = 0 ∨ (s.advance dt).rtcNodeTime < s.pwr.wakeAt)) ∧
    (∃ (s : State) (dt : Nat), s.pwr.state = .dormant ∧ (s.pwr.wakeMask.testBit 0 = false ∨ s.pwr.wakeAt = 0 ∨ (s.advance dt).rtcNodeTime < s.pwr.wakeAt)) ∧
    (∃ (s : State), s.pwr.state = .dormant ∧ s.pwr.wakeMask.testBit 1 = true ∧ s.pwr.resetN = true) ∧
    (∃ (s : State), s.pwr.state = .dormant ∧ (s.pwr.wakeMask.testBit 1 = false ∨ s.pwr.resetN = false)) ∧
    (∃ (s : State), s.pwr.state = .dormant ∧ s.pwr.wakeMask.testBit 2 = true ∧ s.pwr.perstSeen = true ∧ s.pwr.perst = false) ∧
    (∃ (s : State), s.pwr.state = .dormant ∧ (s.pwr.wakeMask.testBit 2 = false ∨ s.pwr.perstSeen = false ∨ s.pwr.perst = true)) ∧
    (∃ (s : State), s.pwr.state = .dormant ∧ s.pwr.onHold = true ∧ s.inputBack = true) ∧
    (∃ (s : State), s.pwr.state = .dormant ∧ (s.pwr.onHold = false ∨ s.inputBack = false)) ∧
    (∃ (s : State), s.pwr.state ≠ .dormant) ∧
    (∃ (s : State), s.pwr.state = .dormant ∧ s.pwr.wakeMask.testBit 3 = true ∧ (s.mod.life ≠ .sealed ∨ s.sec.smbusWake = true)) ∧
    (∃ (s : State) (b : Byte), (b ≠ 0xA5 ∨ s.pwr.state ≠ .dormant ∨ s.pwr.wakeMask.testBit 3 = false ∨ (s.mod.life = .sealed ∧ s.sec.smbusWake = false))) ∧
    (∃ (s : State), s.pwr.state = .dormant ∧ s.inputBack = false) ∧
    (∃ (s : State), s.pwr.state = .dormant ∧ s.inputBack = false) ∧
    (∃ (s : State), (s.pwr.state ≠ .dormant ∨ s.inputBack = true)) ∧
    (∃ (s : State), s.pwr.state = .vigil ∧ s.inputBack = true) ∧
    (∃ (s : State), (s.pwr.state ≠ .vigil ∨ s.inputBack = false)) ∧
    (∃ (s : State), s.coreOn = true) ∧
    (∃ (s : State), s.coreOn = false) :=
  ⟨⟨{S0 with pwr := {S0.pwr with state := .holdover}}, 1000, pk [(32,1,31)], by unfold Clean; decide +kernel⟩,
   ⟨SR, 1000, pk [(32,1,31)], by unfold Clean; decide +kernel⟩,
   ⟨S0, 1000, pk [], by unfold Clean; decide +kernel⟩,
   ⟨S0, 1000, pk [(32,1,31),(40,8,6000000999)], by unfold Clean; decide +kernel⟩,
   ⟨S0, 1000, pk [(32,1,31)], by unfold Clean; decide +kernel⟩,
   ⟨S0, by decide +kernel⟩,
   ⟨{S0 with pwr := {S0.pwr with dormantGoing := some ⟨3, 0, 1000, 1, 2, 3⟩}}, 5000001000, ⟨3, 0, 1000, 1, 2, 3⟩, by decide +kernel⟩,
   ⟨{S0.setFlow 1 {F1 with items := [itm 2 .queued none]} with pwr := {S0.pwr with dormantGoing := some ⟨3, 0, 5000001001, 1, 2, 3⟩}}, 1000, ⟨3, 0, 5000001001, 1, 2, 3⟩, by decide +kernel⟩,
   ⟨{S0 with pwr := {S0.pwr with dormantGoing := some ⟨3, 0, 1000, 1, 2, 3⟩}, pnl := {S0.pnl with regions := [(0, rg)]}}, 1000, ⟨3, 0, 1000, 1, 2, 3⟩, by decide +kernel⟩,
   ⟨{S0 with pwr := {S0.pwr with state := .dormant, wakeMask := 1, wakeAt := 1}, rtc := {cal := {sec := 5}}}, 1000, by decide +kernel⟩,
   ⟨SDo 1 0, 1000, by decide +kernel⟩,
   ⟨SDo 1 5000001001, 1000, by decide +kernel⟩,
   ⟨{S0 with pwr := {S0.pwr with state := .dormant, wakeMask := 2, resetN := true}}, by decide +kernel⟩,
   ⟨SDo 2 5, by decide +kernel⟩,
   ⟨{SDo 4 0 with pwr := {(SDo 4 0).pwr with perstSeen := true}}, by decide +kernel⟩,
   ⟨SDo 4 0, by decide +kernel⟩,
   ⟨{SDo 0 0 with pwr := {(SDo 0 0).pwr with onHold := true}}, by decide +kernel⟩,
   ⟨SDo 31 0, by decide +kernel⟩,
   ⟨S0, by decide +kernel⟩,
   ⟨{S0 with pwr := {S0.pwr with state := .dormant, wakeMask := 8}}, by decide +kernel⟩,
   ⟨SDo 8 0, 0xA4, by decide +kernel⟩,
   ⟨{S0 with pwr := {S0.pwr with state := .dormant, p1 := .lost, p2 := .low}}, by decide +kernel⟩,
   ⟨{S0 with pwr := {S0.pwr with state := .dormant, p1 := .lost, p2 := .lost}}, by decide +kernel⟩,
   ⟨S0, by decide +kernel⟩,
   ⟨{S0 with pwr := {S0.pwr with state := .vigil}}, by decide +kernel⟩,
   ⟨S0, by decide +kernel⟩,
   ⟨S0, by decide +kernel⟩,
   ⟨SX, by decide +kernel⟩⟩

/-- What meets the hypotheses of `Obligations.FullResets`, clause by clause. -/
theorem witness_FullResets :
    (∃ (k : Fin 15), k.val ≠ 0) ∧
    (∃ (k : Fin 15), k.val = 0) ∧
    (∃ (s : State), s.pwr.state = .run ∧ s.pwr.phase ≠ .asserted) ∧
    (∃ (s : State), s.pwr.state = .run ∧ s.pwr.phase ≠ .asserted) ∧
    (∃ (s : State), s.pwr.state = .run ∧ s.pwr.phase ≠ .asserted) ∧
    (∃ (s : State), s.pwr.state = .run ∧ s.pwr.phase ≠ .asserted) ∧
    (∃ (s : State), s.pwr.state = .run ∧ s.pwr.phase ≠ .asserted) ∧
    (∃ (s : State) (b : Bool), s.pwr.state = .run ∧ s.pwr.phase ≠ .asserted ∧ b = true) ∧
    (∃ (s : State) (b : Bool), s.pwr.state = .run ∧ s.pwr.phase ≠ .asserted ∧ b = false ∧ s.cp.resetPending = none) ∧
    (∃ (s : State), s.pwr.state = .run ∧ s.pwr.phase ≠ .asserted ∧ s.host.ready = true) ∧
    (∃ (s : State), s.pwr.state = .run ∧ s.pwr.phase ≠ .asserted ∧ s.host.ready = false) ∧
    (∃ (s : State), s.pwr.state = .run ∧ s.pwr.phase ≠ .asserted ∧ s.host.ready = false) ∧
    (∃ (s : State), s.pwr.state = .run ∧ s.pwr.phase ≠ .asserted) ∧
    (∃ (s : State), (s.pwr.state = .holdover ∨ (s.pwr.state = .run ∧ s.pwr.phase = .asserted))) ∧
    (∃ (s : State), (s.pwr.state = .dormant ∨ s.pwr.state = .vigil)) ∧
    (∃ (s : State), (s.pwr.state = .run ∨ s.pwr.state = .holdover)) ∧
    (∃ (s : State), (s.pwr.state = .dormant ∨ s.pwr.state = .vigil)) ∧
    (∃ (s : State) (dt : Nat) (c : Cmd), s.Ready .deviceReset dt c ∧ Clean c [(32, 1)] 0 ∧ 1 < c.u8 32) ∧
    (∃ (s : State) (dt : Nat) (c : Cmd), s.Ready .deviceReset dt c ∧ Clean c [(32, 1)] 0 ∧ c.u8 32 ≤ 1) ∧
    (∃ (s : State), s.cp.resetPending = none) ∧
    (∃ (s : State) (dt : Nat) (t : Nat) (k : Nat) (f : Nat) (q : Nat), s.cp.resetPending = some (t, k, f, q) ∧ (t ≤ s.now + dt ∨ s.replyGone f q = true) ∧ k = 1) ∧
    (∃ (s : State) (dt : Nat) (t : Nat) (k : Nat) (f : Nat) (q : Nat), s.cp.resetPending = some (t, k, f, q) ∧ (t ≤ s.now + dt ∨ s.replyGone f q = true) ∧ k = 2) ∧
    (∃ (s : State) (dt : Nat) (t : Nat) (k : Nat) (f : Nat) (q : Nat), s.cp.resetPending = some (t, k, f, q) ∧ (t ≤ s.now + dt ∨ s.replyGone f q = true) ∧ k ≠ 1 ∧ k ≠ 2) ∧
    (∃ (s : State) (dt : Nat) (t : Nat) (k : Nat) (f : Nat) (q : Nat), s.cp.resetPending = some (t, k, f, q) ∧ s.now + dt < t ∧ s.replyGone f q = false) ∧
    (∃ (s : State) (k : Nat) (b : Fin 3) (l : Fin 3), (((List.range 3).find? fun l => (s.lanes b).roles.getD l 3 = 1) = some k) ∧ (s.lanes b).roles.getD l 3 = 0) ∧
    (∃ (s : State) (k : Nat) (b : Fin 3) (l : Fin 3), (((List.range 3).find? fun l => (s.lanes b).roles.getD l 3 = 1) = some k) ∧ (s.lanes b).roles.getD l 3 ≠ 0) ∧
    (∃ (s : State) (b : Fin 3) (l : Option (Fin 3)), (l = none ∨ ((List.range 3).find? fun l => (s.lanes b).roles.getD l 3 = 1) = none) ∧ b.val ≠ 2 ∧ s.pwr.state = .run ∧ s.pwr.phase ≠ .asserted) ∧
    (∃ (s : State) (b : Fin 3) (l : Option (Fin 3)), (l = none ∨ ((List.range 3).find? fun l => (s.lanes b).roles.getD l 3 = 1) = none) ∧ b.val ≠ 2 ∧ s.pwr.state = .run ∧ s.pwr.phase ≠ .asserted) ∧
    (∃ (s : State) (b : Fin 3) (l : Option (Fin 3)), (l = none ∨ ((List.range 3).find? fun l => (s.lanes b).roles.getD l 3 = 1) = none) ∧ b.val = 2) ∧
    (∃ (s : State), s.host.speed = 0) ∧
    (∃ (s : State), s.host.speed ≠ 0) :=
  ⟨⟨14, by decide +kernel⟩,
   ⟨0, by decide +kernel⟩,
   ⟨S0, by decide +kernel⟩,
   ⟨S0, by decide +kernel⟩,
   ⟨S0, by decide +kernel⟩,
   ⟨S0, by decide +kernel⟩,
   ⟨S0, by decide +kernel⟩,
   ⟨S0, true, by decide +kernel⟩,
   ⟨S0, false, by decide +kernel⟩,
   ⟨S0, by decide +kernel⟩,
   ⟨{S0 with host := {S0.host with ready := false}, pwr := {S0.pwr with nested := 255}}, by decide +kernel⟩,
   ⟨{S0 with host := {S0.host with ready := false}}, by decide +kernel⟩,
   ⟨S0, by decide +kernel⟩,
   ⟨SX, by decide +kernel⟩,
   ⟨{S0 with pwr := {S0.pwr with state := .vigil}}, by decide +kernel⟩,
   ⟨S0, by decide +kernel⟩,
   ⟨{S0 with pwr := {S0.pwr with state := .dormant}}, by decide +kernel⟩,
   ⟨S0, 1000, pk [(32,1,2)], by unfold Clean; decide +kernel⟩,
   ⟨S0, 1000, pk [(32,1,1)], by unfold Clean; decide +kernel⟩,
   ⟨S0, by decide +kernel⟩,
   ⟨{S1 with cp := {S1.cp with resetPending := some (5000001000, 1, 1, 7)}}, 1000, 5000001000, 1, 1, 7, by decide +kernel⟩,
   ⟨{S1 with cp := {S1.cp with resetPending := some (5000001000, 2, 256, 0)}}, 1000, 5000001000, 2, 256, 0, by decide +kernel⟩,
   ⟨{S1 with cp := {S1.cp with resetPending := some (5000001000, 0, 1, 7)}}, 1000, 5000001000, 0, 1, 7, by decide +kernel⟩,
   ⟨{(S0.setFlow 1 {F1 with items := [itm 7 .queued none]}) with cp := {S1.cp with resetPending := some (5000001001, 0, 1, 7)}}, 1000, 5000001001, 0, 1, 7, by decide +kernel⟩,
   ⟨S0, 2, 2, 1, by decide +kernel⟩,
   ⟨S0, 2, 2, 2, by decide +kernel⟩,
   ⟨S0, 0, none, by decide +kernel⟩,
   ⟨S0, 1, none, by decide +kernel⟩,
   ⟨ph .solved, 2, none, by decide +kernel⟩,
   ⟨{S0 with host := {}}, by decide +kernel⟩,
   ⟨S0, by decide +kernel⟩⟩

/-- What meets the hypotheses of `Obligations.Restart`, clause by clause. -/
theorem witness_Restart :
    (∃ (s : State) (dt : Nat), (s.pwr.islandsKept = false ∨ s.now + dt < s.pwr.assertedAt + 1000000 ∨ s.pwr.resetN = true ∨ s.pwr.heldInReset = true ∨ s.pwr.phase ≠ .asserted ∨ s.pwr.state ≠ .run)) ∧
    (∃ (s : State), s.pwr.islandsKept = true) ∧
    (∃ (s : State) (l : BitVec 9) (h : BitVec 10) (o : _) (set : _), s.pwr.phase = .asserted ∧ s.pwr.state = .run ∧ s.pwr.heldInReset = false ∧ s.pwr.resetN = false ∧ s.pwr.nestedAt = [] ∧ s.pwr.cause ≠ 13 ∧ s.pwr.assertedAt + 1000000 ≤ s.now ∧ (∀ b, b < 3 → (s.lanes b).roles = [0, 0, 1]) ∧ l = 511 ∧ h = 0 ∧ bootChoice s = some (o, set)) ∧
    (∃ (s : State) (l : BitVec 9), s.pwr.phase = .asserted ∧ s.pwr.state = .run ∧ s.pwr.heldInReset = false ∧ s.pwr.resetN = false ∧ s.pwr.nestedAt = [] ∧ s.pwr.cause ≠ 13 ∧ s.pwr.assertedAt + 1000000 ≤ s.now ∧ (∀ b, b < 3 → (s.lanes b).roles = [0, 0, 1]) ∧ l = 511 ∧ bootChoice s = none) ∧
    (∃ (s : State) (l : BitVec 9), s.pwr.phase = .asserted ∧ s.pwr.state = .run ∧ s.pwr.heldInReset = false ∧ s.pwr.resetN = false ∧ s.pwr.nestedAt = [] ∧ s.pwr.cause ≠ 13 ∧ s.pwr.assertedAt + 1000000 ≤ s.now ∧ (∀ b, b < 3 → (s.lanes b).roles = [0, 0, 1]) ∧ l = 0) ∧
    (∃ (s : State), (s.pwr.phase ≠ .released ∨ s.pwr.islandsKept = false)) ∧
    (∃ (s : State) (a : BitVec 14), s.pwr.phase = .released ∧ s.pwr.islandsKept = true ∧ a ≠ 0) ∧
    (∃ (s : State) (a : BitVec 14), s.pwr.phase = .released ∧ s.pwr.islandsKept = true ∧ a = 0) ∧
    (∃ (s : State), s.pwr.phase ≠ .links) ∧
    (∃ (s : State), s.pwr.phase = .links) ∧
    (∃ (h : Bool), h = false) ∧
    (∃ (s : State), s.pwr.phase ≠ .restored) ∧
    (∃ (s : State), s.pwr.phase = .restored) ∧
    (∃ (s : State), s.pwr.phase = .acquiring) ∧
    (∃ (s : State), s.pwr.phase ≠ .acquiring) ∧
    (∃ (s : State), s.pwr.phase = .evaluating ∧ s.pwr.catchup = true ∧ s.alm.inbox = []) ∧
    (∃ (s : State), (s.pwr.phase ≠ .evaluating ∨ s.pwr.catchup = false ∨ s.alm.inbox ≠ [])) ∧
    (∃ (s : State), (s.host.ready = true ∨ s.pwr.perst = true ∨ s.coreOn = false)) ∧
    (∃ (s : State), s.host.ready = false ∧ s.pwr.perst = false ∧ s.coreOn = true) ∧
    (∃ (s : State), s.pwr.islandsKept = true) ∧
    (∃ (s : State) (dt : Nat) (l : BitVec 9) (h : BitVec 10), s.pwr.islandsKept = false ∧ (releaseReset l h (s.advance dt)).pwr.phase ≠ .released) ∧
    (∃ (s : State) (dt : Nat) (l : BitVec 9) (h : BitVec 10), s.pwr.islandsKept = false ∧ (releaseReset l h (s.advance dt)).pwr.phase = .released) :=
  ⟨⟨{SX with now := 5000000000, pwr := {SX.pwr with assertedAt := 4999001001}}, 1000, by decide +kernel⟩,
   ⟨SX, by decide +kernel⟩,
   ⟨{SX with now := 5000001000}, 511, 0, ((bootChoice SX).getD (0, [])).1, ((bootChoice SX).getD (0, [])).2, by decide +kernel⟩,
   ⟨{SX with now := 5000001000, mss := {SX.mss with kinds := [{bankA := none}, {}, {}, {}, {}]}}, 511, by decide +kernel⟩,
   ⟨{SX with now := 5000001000}, 0, by decide +kernel⟩,
   ⟨S0, by decide +kernel⟩,
   ⟨{SX with pwr := {SX.pwr with phase := .released}}, 0x3FFF, by decide +kernel⟩,
   ⟨SXp .released, 0, by decide +kernel⟩,
   ⟨S0, by decide +kernel⟩,
   ⟨SXp .links, by decide +kernel⟩,
   ⟨false, by decide +kernel⟩,
   ⟨S0, by decide +kernel⟩,
   ⟨SXp .restored, by decide +kernel⟩,
   ⟨{SX with pwr := {SX.pwr with phase := .acquiring}}, by decide +kernel⟩,
   ⟨S0, by decide +kernel⟩,
   ⟨{S0 with pwr := {S0.pwr with catchup := true}}, by decide +kernel⟩,
   ⟨S0, by decide +kernel⟩,
   ⟨S0, by decide +kernel⟩,
   ⟨{S0 with host := {S0.host with ready := false}}, by decide +kernel⟩,
   ⟨SX, by decide +kernel⟩,
   ⟨{SX with pwr := {SX.pwr with islandsKept := false}}, 1000, 0, 0, by decide +kernel⟩,
   ⟨{SX with pwr := {SX.pwr with islandsKept := false}}, 1000, 511, 0, by decide +kernel⟩⟩

/-- What meets the hypotheses of `Obligations.UpdatesAndActivations`, clause by clause. -/
theorem witness_UpdatesAndActivations :
    (∃ (s : State) (dt : Nat) (c : Cmd), s.Ready .packageStage dt c ∧ Clean c [(32, 1), (40, 12)] 0 ∧ (c.u8 32) ≤ 4 ∧ c.u64 40 % 4096 ≠ 0) ∧
    (∃ (s : State) (dt : Nat) (c : Cmd), s.Ready .packageStage dt c ∧ Clean c [(32, 1), (40, 12)] 0 ∧ (c.u8 32) ≤ 4 ∧ c.u64 40 % 4096 = 0 ∧ s.pwr.state = .holdover) ∧
    (∃ (s : State) (dt : Nat) (c : Cmd), s.Ready .packageStage dt c ∧ Clean c [(32, 1), (40, 12)] 0 ∧ (c.u8 32) ≤ 4 ∧ c.u64 40 % 4096 = 0 ∧ s.pwr.state ≠ .holdover ∧ s.mode .serv = false ∧ s.mod.holdSafe = 0) ∧
    (∃ (s : State) (dt : Nat) (c : Cmd), s.Ready .packageStage dt c ∧ Clean c [(32, 1), (40, 12)] 0 ∧ (c.u8 32) ≤ 4 ∧ c.u64 40 % 4096 = 0 ∧ s.pwr.state ≠ .holdover ∧ s.updatesAllowed = true ∧ s.provenBank (c.u8 32) = true) ∧
    (∃ (s : State) (dt : Nat) (c : Cmd) (id : _) (e : _), s.Ready .packageStage dt c ∧ Clean c [(32, 1), (40, 12)] 0 ∧ (c.u8 32) ≤ 4 ∧ c.u64 40 % 4096 = 0 ∧ s.pwr.state ≠ .holdover ∧ s.updatesAllowed = true ∧ s.provenBank (c.u8 32) = false ∧ s.jobOn (c.u8 32) = some id ∧ (s.entered .packageStage dt c).cmd id = some e) ∧
    (∃ (s : State) (dt : Nat) (c : Cmd) (env : Env), s.Ready .packageStage dt c ∧ Clean c [(32, 1), (40, 12)] 0 ∧ (c.u8 32) ≤ 4 ∧ c.u64 40 % 4096 = 0 ∧ s.pwr.state ≠ .holdover ∧ s.updatesAllowed = true ∧ s.provenBank (c.u8 32) = false ∧ s.jobOn (c.u8 32) = none ∧ env.dma = none) ∧
    (∃ (s : State) (dt : Nat) (c : Cmd) (env : Env) (l : _) (st : _) (pl : _), s.Ready .packageStage dt c ∧ Clean c [(32, 1), (40, 12)] 0 ∧ (c.u8 32) ≤ 4 ∧ c.u64 40 % 4096 = 0 ∧ s.pwr.state ≠ .holdover ∧ s.updatesAllowed = true ∧ s.provenBank (c.u8 32) = false ∧ s.jobOn (c.u8 32) = none ∧ env.dma = some l ∧ judgePackage (c.u8 32) (l.take (c.u32 48)) s = .inl (.final st pl)) ∧
    (∃ (s : State), (s.mss.stage = [] ∨ s.coreOn = false)) ∧
    (∃ (s : State) (st : Nat) (pl : List Byte) (j : StageJob) (r : List StageJob), s.coreOn = true ∧ s.mss.stage = j :: r ∧ j.bad = some (st, pl)) ∧
    (∃ (s : State) (j : StageJob) (r : List StageJob), s.coreOn = true ∧ s.mss.stage = j :: r ∧ j.bad = none) ∧
    (∃ (s : State) (dt : Nat) (c : Cmd), s.Ready .packageActivate dt c ∧ Clean c [(32, 2)] 0 ∧ (c.u8 32) ≤ 31 ∧ (c.u8 33) ≤ 1 ∧ s.pwr.state = .holdover) ∧
    (∃ (s : State) (dt : Nat) (c : Cmd), s.Ready .packageActivate dt c ∧ Clean c [(32, 2)] 0 ∧ (c.u8 32) ≤ 31 ∧ (c.u8 33) ≤ 1 ∧ s.pwr.state ≠ .holdover ∧ s.mode .serv = false ∧ s.mod.holdSafe = 0) ∧
    (∃ (s : State) (dt : Nat) (c : Cmd) (k : _), s.Ready .packageActivate dt c ∧ Clean c [(32, 2)] 0 ∧ (c.u8 32) ≤ 31 ∧ (c.u8 33) ≤ 1 ∧ s.pwr.state ≠ .holdover ∧ s.updatesAllowed = true ∧ k < 5 ∧ (c.u8 32).testBit k = true ∧ (s.kindOf k).staged = false) ∧
    (∃ (s : State) (dt : Nat) (c : Cmd) (p : _) (v : _), s.Ready .packageActivate dt c ∧ Clean c [(32, 2)] 0 ∧ (c.u8 32) ≤ 31 ∧ (c.u8 33) ≤ 1 ∧ s.pwr.state ≠ .holdover ∧ s.updatesAllowed = true ∧ (∀ k, k < 5 → (c.u8 32).testBit k = true → (s.kindOf k).staged = true) ∧ s.badPair (s.flipped (c.u8 32)) = some p ∧ (v = fun k => (((s.kindOf k).bank ((s.flipped (c.u8 32)).getD k 0)).getD {}).version)) ∧
    (∃ (s : State) (dt : Nat) (c : Cmd), s.Ready .packageActivate dt c ∧ Clean c [(32, 2)] 0 ∧ (c.u8 32) ≤ 31 ∧ (c.u8 33) ≤ 1 ∧ s.pwr.state ≠ .holdover ∧ s.updatesAllowed = true ∧ (∀ k, k < 5 → (c.u8 32).testBit k = true → (s.kindOf k).staged = true) ∧ s.badPair (s.flipped (c.u8 32)) = none ∧ (c.u8 33) = 1 ∧ s.mod.profile = 1) ∧
    (∃ (s : State) (dt : Nat) (c : Cmd), s.Ready .packageActivate dt c ∧ Clean c [(32, 2)] 0 ∧ (c.u8 32) ≤ 31 ∧ (c.u8 33) ≤ 1 ∧ s.pwr.state ≠ .holdover ∧ s.updatesAllowed = true ∧ (∀ k, k < 5 → (c.u8 32).testBit k = true → (s.kindOf k).staged = true) ∧ s.badPair (s.flipped (c.u8 32)) = none ∧ (c.u8 33) = 1 ∧ s.mod.profile ≠ 1 ∧ s.nextWindow (max (s.now + dt) c.notBefore) = none) ∧
    (∃ (s : State) (dt : Nat) (c : Cmd), s.Ready .packageActivate dt c ∧ Clean c [(32, 2)] 0 ∧ (c.u8 32) ≤ 31 ∧ (c.u8 33) ≤ 1 ∧ s.pwr.state ≠ .holdover ∧ s.updatesAllowed = true ∧ (∀ k, k < 5 → (c.u8 32).testBit k = true → (s.kindOf k).staged = true) ∧ s.badPair (s.flipped (c.u8 32)) = none ∧ (c.u8 33) = 0 ∧ s.mod.profile = 0 ∧ (s.entered .packageActivate dt c).openWindow = false) ∧
    (∃ (s : State) (dt : Nat) (c : Cmd) (id : _) (e : _), s.Ready .packageActivate dt c ∧ Clean c [(32, 2)] 0 ∧ (c.u8 32) ≤ 31 ∧ (c.u8 33) ≤ 1 ∧ s.pwr.state ≠ .holdover ∧ s.updatesAllowed = true ∧ (∀ k, k < 5 → (c.u8 32).testBit k = true → (s.kindOf k).staged = true) ∧ s.badPair (s.flipped (c.u8 32)) = none ∧ (((c.u8 33) = 1 ∧ s.mod.profile ≠ 1 ∧ s.nextWindow (max (s.now + dt) c.notBefore) ≠ none) ∨ ((c.u8 33) = 0 ∧ (s.mod.profile ≠ 0 ∨ (s.entered .packageActivate dt c).openWindow = true))) ∧ ((List.range 5).filter (c.u8 32).testBit).findSome? s.jobOn = some id ∧ (s.entered .packageActivate dt c).cmd id = some e) ∧
    (∃ (s : State) (dt : Nat) (c : Cmd) (id : _) (e : _), s.Ready .packageActivate dt c ∧ Clean c [(32, 2)] 0 ∧ (c.u8 32) ≤ 31 ∧ (c.u8 33) ≤ 1 ∧ s.pwr.state ≠ .holdover ∧ s.updatesAllowed = true ∧ (∀ k, k < 5 → (c.u8 32).testBit k = true → (s.kindOf k).staged = true) ∧ s.badPair (s.flipped (c.u8 32)) = none ∧ (((c.u8 33) = 1 ∧ s.mod.profile ≠ 1 ∧ s.nextWindow (max (s.now + dt) c.notBefore) ≠ none) ∨ ((c.u8 33) = 0 ∧ (s.mod.profile ≠ 0 ∨ (s.entered .packageActivate dt c).openWindow = true))) ∧ ((List.range 5).filter (c.u8 32).testBit).findSome? s.jobOn = some id ∧ (s.entered .packageActivate dt c).cmd id = some e) ∧
    (∃ (s : State) (dt : Nat) (c : Cmd) (o : Nat) (cl : Nat) (x : Activation), s.Ready .packageActivate dt c ∧ Clean c [(32, 2)] 0 ∧ (c.u8 32) ≤ 31 ∧ (c.u8 33) ≤ 1 ∧ s.pwr.state ≠ .holdover ∧ s.updatesAllowed = true ∧ (∀ k, k < 5 → (c.u8 32).testBit k = true → (s.kindOf k).staged = true) ∧ s.badPair (s.flipped (c.u8 32)) = none ∧ (c.u8 33) = 1 ∧ s.mod.profile ≠ 1 ∧ s.nextWindow (max (s.now + dt) c.notBefore) = some (o, cl) ∧ (∀ k, k < 5 → (c.u8 32).testBit k = true → s.jobOn k = none) ∧ x = { cmd := s.cp.nextId, mask := (c.u8 32), wh := 1, start := (max (s.now + dt) c.notBefore), phase := 0, opens := o, closes := cl, islands := [], kept := 0 }) ∧
    (∃ (s : State) (dt : Nat) (c : Cmd) (o : Nat) (cl : Nat) (x : Activation), s.Ready .packageActivate dt c ∧ Clean c [(32, 2)] 0 ∧ (c.u8 32) ≤ 31 ∧ (c.u8 33) ≤ 1 ∧ s.pwr.state ≠ .holdover ∧ s.updatesAllowed = true ∧ (∀ k, k < 5 → (c.u8 32).testBit k = true → (s.kindOf k).staged = true) ∧ s.badPair (s.flipped (c.u8 32)) = none ∧ (c.u8 33) = 0 ∧ (s.mod.profile ≠ 0 ∨ (s.entered .packageActivate dt c).openWindow = true) ∧ (s.nextWindow (max (s.now + dt) c.notBefore)).getD (0, 0) = (o, cl) ∧ (∀ k, k < 5 → (c.u8 32).testBit k = true → s.jobOn k = none) ∧ x = { cmd := s.cp.nextId, mask := (c.u8 32), wh := 0, start := (max (s.now + dt) c.notBefore), phase := 0, opens := o, closes := cl, islands := [], kept := 0 }) ∧
    (∃ (s : State), (∀ a, a ∈ s.mss.acts → a.phase ≠ 0)) ∧
    (∃ (s : State) (dt : Nat) (a : Activation), s.mss.acts = [a] ∧ a.phase = 0 ∧ a.opens ≤ s.now + dt ∧ s.now + dt < a.last ∧ s.coreOn = true ∧ s.pwr.state = .run ∧ ((s.alm.points.any fun e => e.2.unack) = false)) ∧
    (∃ (s : State) (dt : Nat) (a : Activation), s.mss.acts = [a] ∧ a.phase = 0 ∧ (s.now + dt < a.opens ∨ a.last ≤ s.now + dt ∨ s.coreOn = false ∨ s.pwr.state ≠ .run ∨ (s.alm.points.any fun e => e.2.unack) = true)) ∧
    (∃ (s : State) (dt : Nat) (a : Activation), s.mss.acts = [a] ∧ a.phase = 0 ∧ s.now + dt < a.last) ∧
    (∃ (s : State) (dt : Nat) (a : Activation), s.mss.acts = [a] ∧ a.phase = 0 ∧ a.last ≤ s.now + dt) ∧
    (∃ (s : State) (i : Fin 14), (s.coreOn = false ∨ ∀ a, a ∈ s.mss.acts → a.phase = 2 → a.islands.head? ≠ some i.val)) ∧
    (∃ (s : State) (i : Fin 14) (a : Activation) (r : List Nat), s.coreOn = true ∧ s.mss.acts = [a] ∧ a.phase = 2 ∧ a.islands = i.val :: r ∧ r ≠ []) ∧
    (∃ (s : State) (i : Fin 14) (a : Activation) (r : List Nat), s.coreOn = true ∧ s.mss.acts = [a] ∧ a.phase = 2 ∧ a.islands = i.val :: r ∧ r ≠ []) ∧
    (∃ (s : State) (i : Fin 14) (a : Activation) (r : List Nat), s.coreOn = true ∧ s.mss.acts = [a] ∧ a.phase = 2 ∧ a.islands = i.val :: r ∧ r = []) ∧
    (∃ (s : State) (i : Fin 14) (b : Bool) (a : Activation) (r : List Nat), s.coreOn = true ∧ s.mss.acts = [a] ∧ a.phase = 2 ∧ a.islands = i.val :: r ∧ b = true) ∧
    (∃ (s : State) (i : Fin 14) (b : Bool) (a : Activation) (r : List Nat), s.coreOn = true ∧ s.mss.acts = [a] ∧ a.phase = 2 ∧ a.islands = i.val :: r ∧ b = false) :=
  ⟨⟨S0, 1000, pk [(32,1,4),(40,8,4097)], by unfold Clean; decide +kernel⟩,
   ⟨{S0 with pwr := {S0.pwr with state := .holdover}}, 1000, pk [(32,1,4),(40,8,8192),(48,4,4096)], by unfold Clean; decide +kernel⟩,
   ⟨S0, 1000, pk [(32,1,0),(40,8,4096)], by unfold Clean; decide +kernel⟩,
   ⟨{SV with mss := {kinds := [{bankB := some {version := 3}}, {}, {}, {}, {}], proven := some ([(1,3),(0,0),(0,0),(0,0),(0,0)], 5)}}, 1000, pk [(32,1,0),(40,8,4096),(48,4,4096)], by unfold Clean; decide +kernel⟩,
   ⟨SJ, 1000, pk [(32,1,0),(40,8,4096),(48,4,4096)], 7, { E0 with op := .packageStage, phase := .job, jobEnd := 9000000000 }, by unfold Clean; decide +kernel⟩,
   ⟨SV, 1000, pk [(32,1,4),(40,8,4096),(48,4,4096)], {}, by unfold Clean; decide +kernel⟩,
   ⟨SV, 1000, pk [(32,1,4),(40,8,4096),(48,4,64)], { dma := some (zeros 64) }, zeros 64, stBadParam, le 2 0x100, by unfold Clean; decide +kernel⟩,
   ⟨S0, by decide +kernel⟩,
   ⟨{SE [{E0 with op := .packageStage, phase := .job, jobEnd := 9000000000}] with mss := {stage := [⟨7,0,1,{},some (0x101,[5])⟩]}}, 0x101, [5], ⟨7,0,1,{},some (0x101,[5])⟩, [], by decide +kernel⟩,
   ⟨{SE [{E0 with op := .packageStage, phase := .job, jobEnd := 9000000000}] with mss := {stage := [⟨7,0,1,{},none⟩]}}, ⟨7,0,1,{},none⟩, [], by decide +kernel⟩,
   ⟨{S0 with pwr := {S0.pwr with state := .holdover}}, 1000, pk [(32,1,31)], by unfold Clean; decide +kernel⟩,
   ⟨S0, 1000, pk [(32,1,31),(33,1,1)], by unfold Clean; decide +kernel⟩,
   ⟨SV, 1000, pk [(32,1,16),(33,1,0)], 4, by unfold Clean; decide +kernel⟩,
   ⟨{SKw [] with mss := {(SKw []).mss with kinds := [{ bankB := some { version := 3, stamps := [] }, staged := true }, {bankA := some {stamps := []}}, {}, {}, {}]}}, 1000, pk [(32,1,1)], (0,1), fun k => ((([{ bankB := some { version := 3, stamps := [] }, staged := true }, {bankA := some {stamps := []}}, {}, {}, {}] : List ImageKind).getD k {}).bank ([1,0,0,0,0].getD k 0) |>.getD {}).version, by unfold Clean; and_intros <;> first | decide +kernel | rfl⟩,
   ⟨{SKw [] with mod := {SV.mod with profile := 1}}, 1000, pk [(32,1,1),(33,1,1)], by unfold Clean; decide +kernel⟩,
   ⟨{SV with mss := {kinds := [{bankB := some {version := 3}, staged := true}, {}, {}, {}, {}]}}, 1000, pk [(32,1,1),(33,1,1)], by unfold Clean; decide +kernel⟩,
   ⟨SKw [(5000001001,9000000000)], 1000, pk [(32,1,1)], by unfold Clean; decide +kernel⟩,
   ⟨SJ, 1000, pk [(32,1,1),(33,1,1)], 7, { E0 with op := .packageStage, phase := .job, jobEnd := 9000000000 }, by unfold Clean; decide +kernel⟩,
   ⟨SJ, 1000, pk [(32,1,1)], 7, { E0 with op := .packageStage, phase := .job, jobEnd := 9000000000 }, by unfold Clean; decide +kernel⟩,
   ⟨SKw [(7000000000,9000000000),(6000000000,8000000000)], 1000, pk [(32,1,1),(33,1,1)], 6000000000, 8000000000, ({ cmd := 5, mask := 1, wh := 1, start := 5000001000, phase := 0, opens := 6000000000, closes := 8000000000, islands := [], kept := 0 } : Activation), by unfold Clean; decide +kernel⟩,
   ⟨SKw [(4000000000,8000000000)], 1000, pk [(32,1,1)], 0, 0, ({ cmd := 5, mask := 1, wh := 0, start := 5000001000, phase := 0, opens := 0, closes := 0, islands := [], kept := 0 } : Activation), by unfold Clean; decide +kernel⟩,
   ⟨{S0 with mss := {acts := [{act with phase := 1}]}}, by decide +kernel⟩,
   ⟨{S0 with mss := {acts := [act]}}, 1000, act, by decide +kernel⟩,
   ⟨{S0 with mss := {acts := [act]}, alm := SP.alm}, 1000, act, by decide +kernel⟩,
   ⟨{S0 with mss := {acts := [act]}}, 1000, act, by decide +kernel⟩,
   ⟨{S0 with mss := {acts := [{act with closes := 5000001000}]}}, 1000, {act with closes := 5000001000}, by decide +kernel⟩,
   ⟨S0, 5, by decide +kernel⟩,
   ⟨{S0 with mss := {acts := [{act with phase := 2}]}}, 0, {act with phase := 2}, [1], by decide +kernel⟩,
   ⟨{S0 with mss := {acts := [{act with phase := 2}]}}, 0, {act with phase := 2}, [1], by decide +kernel⟩,
   ⟨{S0 with mss := {acts := [{act with phase := 2, islands := [13]}]}}, 13, {act with phase := 2, islands := [13]}, [], by decide +kernel⟩,
   ⟨{S0 with mss := {acts := [{act with phase := 2}]}}, 0, true, {act with phase := 2}, [1], by decide +kernel⟩,
   ⟨{S0 with mss := {acts := [{act with phase := 2}]}}, 0, false, {act with phase := 2}, [1], by decide +kernel⟩⟩

/-- What meets the hypotheses of `Obligations.StartsAndBounds`, clause by clause. -/
theorem witness_StartsAndBounds :
    (∃ (s : State) (id : Nat), s.cmd id = none) ∧
    (∃ (s : State) (dt : Nat) (id : Nat) (e : CmdEntry), s.cmd id = some e ∧ (s.now + dt < e.start ∨ s.blocked e = true ∨ e.phase ≠ .waiting ∨ s.coreOn = false)) ∧
    (∃ (s : State) (dt : Nat) (id : Nat) (e : CmdEntry), s.cmd id = some e ∧ (s.now + dt < e.start ∨ s.blocked e = true ∨ e.phase ≠ .waiting ∨ s.coreOn = false)) ∧
    (∃ (s : State) (dt : Nat) (e : CmdEntry), s.coreOn = true ∧ s.cp.exec = [e] ∧ e.phase = .waiting ∧ e.start ≤ s.now + dt) ∧
    (∃ (s : State) (dt : Nat) (e : CmdEntry) (f : CmdEntry), s.coreOn = true ∧ s.cmd e.id = some e ∧ f ∈ s.cp.exec ∧ (s.advance dt).cmdDue f = true ∧ (f.cls < e.cls ∨ (f.cls = e.cls ∧ f.id < e.id))) ∧
    (∃ (s : State) (id : Nat), s.cmd id = none) ∧
    (∃ (s : State) (dt : Nat) (id : Nat) (e : CmdEntry), s.cmd id = some e ∧ (s.now + dt < s.boundFrom e + cmdBound e.op e.c s ∨ (e.phase ≠ .waiting ∧ e.phase ≠ .running))) ∧
    (∃ (s : State) (dt : Nat) (id : Nat) (e : CmdEntry), s.cmd id = some e ∧ s.boundFrom e + cmdBound e.op e.c s ≤ s.now + dt ∧ e.phase = .waiting) ∧
    (∃ (s : State) (dt : Nat) (id : Nat) (e : CmdEntry), s.cmd id = some e ∧ s.boundFrom e + cmdBound e.op e.c s ≤ s.now + dt ∧ e.phase = .running ∧ e.op ≠ .conditionConfigure ∧ e.op ≠ .pinConfigure ∧ changesAtEnd e.op = true) ∧
    (∃ (s : State) (dt : Nat) (id : Nat) (e : CmdEntry), s.cmd id = some e ∧ s.boundFrom e + cmdBound e.op e.c s ≤ s.now + dt ∧ e.phase = .running ∧ e.op ≠ .conditionConfigure ∧ e.op ≠ .pinConfigure ∧ changesAtEnd e.op = false) ∧
    (∃ (s : State) (dt : Nat) (id : Nat) (e : CmdEntry), s.cmd id = some e ∧ s.boundFrom e + cmdBound e.op e.c s ≤ s.now + dt ∧ e.phase = .running ∧ e.op = .conditionConfigure) ∧
    (∃ (s : State) (dt : Nat) (id : Nat) (e : CmdEntry), s.cmd id = some e ∧ s.boundFrom e + cmdBound e.op e.c s ≤ s.now + dt ∧ e.phase = .running ∧ e.op = .pinConfigure) ∧
    (∃ (e : CmdEntry), e.phase ≠ .running) ∧
    (∃ (s : State) (e : CmdEntry) (x : _) (t : _) (k : _) (y : _), e.phase = .running ∧ e.op = .outputWrite ∧ (s.out (chanOf e.c)).staged = some (x, t, k, y)) ∧
    (∃ (s : State) (dt : Nat) (id : Nat) (e : CmdEntry), s.cmd id = some e ∧ (s.now + dt < e.jobEnd ∨ e.phase ≠ .job)) ∧
    (∃ (s : State) (dt : Nat) (id : Nat) (e : CmdEntry), s.cmd id = some e ∧ e.phase = .job ∧ e.jobEnd ≤ s.now + dt ∧ e.op = .packageStage) ∧
    (∃ (s : State) (dt : Nat) (id : Nat) (e : CmdEntry) (w : _), s.cmd id = some e ∧ e.phase = .job ∧ e.jobEnd ≤ s.now + dt ∧ e.op = .spareSwap ∧ ((s.spr.swaps.find? fun w => w.cmd = some id) = some w)) ∧
    (∃ (s : State) (dt : Nat) (id : Nat) (e : CmdEntry) (a : _), s.cmd id = some e ∧ e.phase = .job ∧ e.jobEnd ≤ s.now + dt ∧ e.op = .packageActivate ∧ ((s.mss.acts.find? fun a => a.cmd = id) = some a) ∧ a.phase = 0) ∧
    (∃ (s : State) (dt : Nat) (id : Nat) (e : CmdEntry) (a : _), s.cmd id = some e ∧ e.phase = .job ∧ e.jobEnd ≤ s.now + dt ∧ e.op = .packageActivate ∧ ((s.mss.acts.find? fun a => a.cmd = id) = some a) ∧ a.phase ≠ 0) ∧
    (∃ (s : State) (dt : Nat) (id : Nat) (e : CmdEntry), s.cmd id = some e ∧ e.phase = .job ∧ e.jobEnd ≤ s.now + dt ∧ e.op = .panelUpdate ∧ s.pnl.regions = []) ∧
    (∃ (s : State) (dt : Nat) (id : Nat) (e : CmdEntry), s.cmd id = some e ∧ e.phase = .job ∧ e.jobEnd ≤ s.now + dt ∧ e.op ≠ .packageStage ∧ e.op ≠ .spareSwap ∧ e.op ≠ .packageActivate ∧ e.op ≠ .panelUpdate) ∧
    (∃ (s : State), s.coreOn = false) ∧
    (∃ (s : State) (o : BitVec 16), s.coreOn = true ∧ opcOf o.toNat = none) ∧
    (∃ (s : State) (o : BitVec 16) (c : Cmd) (op : Opc), s.coreOn = true ∧ opcOf o.toNat = some op ∧ c.token = 0 ∧ lifeAllows op s = false) ∧
    (∃ (s : State) (dt : Nat) (o : BitVec 16) (c : Cmd) (g : BitVec 4) (op : Opc) (e : CmdEntry), s.coreOn = true ∧ opcOf o.toNat = some op ∧ c.token = 0 ∧ lifeAllows op s = true ∧ ((s.cp.fwdWindow.filter fun x => x.1 == c.session).length ≤ 1024) ∧ (c.cls = 255 → e.cls = (opRow op).cls) ∧ (c.cls ≠ 255 → e.cls = c.cls) ∧ e = { id := s.cp.nextId, op := op, c := { c with target := 0 }, cls := e.cls, fetched := s.now + dt, start := max (s.now + dt) c.notBefore, mark := 0, phase := .waiting, jobEnd := 0, fromMaster := some g.toNat, work := [] }) ∧
    (∃ (s : State) (o : BitVec 16) (c : Cmd) (op : Opc) (f : Option (Nat × DupEntry)) (d : _), s.coreOn = true ∧ opcOf o.toNat = some op ∧ c.token ≠ 0 ∧ f = s.cp.fwdWindow.find? (fun d => d.1 == c.session && d.2.token == c.token) ∧ f = some d ∧ d.2.digest ≠ crc32c (packetBytes o.toNat c)) ∧
    (∃ (s : State) (o : BitVec 16) (c : Cmd) (op : Opc) (f : Option (Nat × DupEntry)) (d : _) (st : _), s.coreOn = true ∧ opcOf o.toNat = some op ∧ c.token ≠ 0 ∧ f = s.cp.fwdWindow.find? (fun d => d.1 == c.session && d.2.token == c.token) ∧ f = some d ∧ d.2.digest = crc32c (packetBytes o.toNat c) ∧ d.2.status = some st) ∧
    (∃ (s : State) (o : BitVec 16) (c : Cmd) (op : Opc) (f : Option (Nat × DupEntry)) (d : _), s.coreOn = true ∧ opcOf o.toNat = some op ∧ c.token ≠ 0 ∧ f = s.cp.fwdWindow.find? (fun d => d.1 == c.session && d.2.token == c.token) ∧ f = some d ∧ d.2.digest = crc32c (packetBytes o.toNat c) ∧ d.2.status = none ∧ d.2.job = true) ∧
    (∃ (s : State) (o : BitVec 16) (c : Cmd) (op : Opc) (f : Option (Nat × DupEntry)) (d : _), s.coreOn = true ∧ opcOf o.toNat = some op ∧ c.token ≠ 0 ∧ f = s.cp.fwdWindow.find? (fun d => d.1 == c.session && d.2.token == c.token) ∧ f = some d ∧ d.2.digest = crc32c (packetBytes o.toNat c) ∧ d.2.status = none ∧ d.2.job = false) ∧
    (∃ (s : State) (o : BitVec 16) (c : Cmd) (op : Opc), s.coreOn = true ∧ opcOf o.toNat = some op ∧ c.token ≠ 0 ∧ (s.cp.fwdWindow.find? (fun d => d.1 == c.session && d.2.token == c.token)) = none ∧ lifeAllows op s = false) ∧
    (∃ (s : State) (o : BitVec 16) (c : Cmd) (op : Opc), s.coreOn = true ∧ opcOf o.toNat = some op ∧ c.token ≠ 0 ∧ (s.cp.fwdWindow.find? (fun d => d.1 == c.session && d.2.token == c.token)) = none ∧ lifeAllows op s = true) ∧
    (∃ (i : Instr) (op : Opc) (dt : Nat) (c : Cmd) (s : State), i.packet = some (op, dt, c) ∧ ¬ s.Ready op dt c) :=
  ⟨⟨S0, 7, by decide +kernel⟩,
   ⟨SE [{E0 with start := 5000001001}], 1000, 7, {E0 with start := 5000001001}, by decide +kernel⟩,
   ⟨SE [{E0 with phase := .running}], 1000, 7, {E0 with phase := .running}, by decide +kernel⟩,
   ⟨SE [E0], 1000, E0, by decide +kernel⟩,
   ⟨SE [{E0 with id := 6}, E0], 1000, E0, {E0 with id := 6}, by decide +kernel⟩,
   ⟨SE [E0], 6, by decide +kernel⟩,
   ⟨SE [E0], 1000, 7, E0, by decide +kernel⟩,
   ⟨SE [{E0 with start := 1000000}], 1000, 7, {E0 with start := 1000000}, by decide +kernel⟩,
   ⟨SE [ER .modeSet (pk [])], 1000, 7, ER .modeSet (pk []), by decide +kernel⟩,
   ⟨SE [ER .modeRead (pk [])], 1000, 7, ER .modeRead (pk []), by decide +kernel⟩,
   ⟨SE [ER .conditionConfigure (pk [])], 1000, 7, ER .conditionConfigure (pk []), by decide +kernel⟩,
   ⟨SE [ER .pinConfigure (pk [])], 1000, 7, ER .pinConfigure (pk []), by decide +kernel⟩,
   ⟨E0, by decide +kernel⟩,
   ⟨S1.setOut 63 {O1 with staged := some (5, 6000000000, some 7, true)}, ER .outputWrite (pk [(32,1,7),(33,1,7)]), 5, 6000000000, some 7, true, by decide +kernel⟩,
   ⟨SE [{E0 with phase := .job, jobEnd := 5000001001}], 1000, 7, {E0 with phase := .job, jobEnd := 5000001001}, by decide +kernel⟩,
   ⟨SE [{E0 with op := .packageStage, phase := .job, jobEnd := 5000001000}], 1000, 7, {E0 with op := .packageStage, phase := .job, jobEnd := 5000001000}, by decide +kernel⟩,
   ⟨{SE [{E0 with op := .spareSwap, phase := .job, jobEnd := 5000001000}] with spr := {swaps := [{sws with cmd := some 7}]}}, 1000, 7, {E0 with op := .spareSwap, phase := .job, jobEnd := 5000001000}, ({sws with cmd := some 7} : Swap), by decide +kernel⟩,
   ⟨{SE [EJ .packageActivate] with mss := {S0.mss with acts := [act]}}, 1000, 7, EJ .packageActivate, act, by decide +kernel⟩,
   ⟨{SE [EJ .packageActivate] with mss := {S0.mss with acts := [{act with phase := 2}]}}, 1000, 7, EJ .packageActivate, {act with phase := 2}, by decide +kernel⟩,
   ⟨{SE [EJ .panelUpdate] with pnl := {S0.pnl with queue := [up]}}, 1000, 7, EJ .panelUpdate, by decide +kernel⟩,
   ⟨SE [EJ .journalRead], 1000, 7, EJ .journalRead, by decide +kernel⟩,
   ⟨{S0 with pwr := {S0.pwr with phase := .released}}, by decide +kernel⟩,
   ⟨S0, 0xFFFF, by decide +kernel⟩,
   ⟨{S1 with mod := {S0.mod with life := .retired}}, BitVec.ofNat 16 (opRow .programLoad).num, pk [], .programLoad, by decide +kernel⟩,
   ⟨S1, 1000, BitVec.ofNat 16 (opRow .programLoad).num, {pk [] with cls := 255, notBefore := 6000000000}, 15, .programLoad, { id := 5, op := .programLoad, c := {pk [] with cls := 255, notBefore := 6000000000}, cls := (opRow .programLoad).cls, fetched := 5000001000, start := 6000000000, mark := 0, phase := .waiting, jobEnd := 0, fromMaster := some 15, work := [] }, by decide +kernel⟩,
   ⟨SFW (dfw none true 1), BitVec.ofNat 16 (opRow .programLoad).num, cfw, .programLoad, some (0, dfw none true 1), (0, dfw none true 1), by decide +kernel⟩,
   ⟨SFW (dfw (some 3) true kfw), BitVec.ofNat 16 (opRow .programLoad).num, cfw, .programLoad, some (0, dfw (some 3) true kfw), (0, dfw (some 3) true kfw), 3, by decide +kernel⟩,
   ⟨SFW (dfw none true kfw), BitVec.ofNat 16 (opRow .programLoad).num, cfw, .programLoad, some (0, dfw none true kfw), (0, dfw none true kfw), by decide +kernel⟩,
   ⟨SFW (dfw none false kfw), BitVec.ofNat 16 (opRow .programLoad).num, cfw, .programLoad, some (0, dfw none false kfw), (0, dfw none false kfw), by decide +kernel⟩,
   ⟨{S1 with mod := {S0.mod with life := .retired}}, BitVec.ofNat 16 (opRow .programLoad).num, cfw, .programLoad, by decide +kernel⟩,
   ⟨S1, BitVec.ofNat 16 (opRow .programLoad).num, cfw, .programLoad, by decide +kernel⟩,
   ⟨.conditionConfigure 5 (pk []) {}, .conditionConfigure, 5, pk [], SE [{E0 with op := .conditionConfigure, c := pk [], start := 4}], by decide +kernel⟩⟩

/-- What meets the hypotheses of `Obligations.RecorderCommands`, clause by clause. -/
theorem witness_RecorderCommands :
    (∃ (s : State) (dt : Nat) (c : Cmd), s.Ready .recorderStatus dt c ∧ Clean c [] 0) ∧
    (∃ (s : State) (dt : Nat) (c : Cmd), s.Ready .quotaSet dt c ∧ Clean c [(32, 10)] 0 ∧ (([c.u16 32, c.u16 34, c.u16 36, c.u16 38, c.u16 40]).getD 3 0 < 64 ∨ ([c.u16 32, c.u16 34, c.u16 36, c.u16 38, c.u16 40]).getD 4 0 < 64 ∨ 12032 < ([c.u16 32, c.u16 34, c.u16 36, c.u16 38, c.u16 40]).sum + s.rcd.mirrorMax)) ∧
    (∃ (s : State) (dt : Nat) (c : Cmd), s.Ready .quotaSet dt c ∧ Clean c [(32, 10)] 0 ∧ (([c.u16 32, c.u16 34, c.u16 36, c.u16 38, c.u16 40]).getD 3 0 < 64 ∨ ([c.u16 32, c.u16 34, c.u16 36, c.u16 38, c.u16 40]).getD 4 0 < 64 ∨ 12032 < ([c.u16 32, c.u16 34, c.u16 36, c.u16 38, c.u16 40]).sum + s.rcd.mirrorMax)) ∧
    (∃ (s : State) (dt : Nat) (c : Cmd), s.Ready .quotaSet dt c ∧ Clean c [(32, 10)] 0 ∧ 64 ≤ ([c.u16 32, c.u16 34, c.u16 36, c.u16 38, c.u16 40]).getD 3 0 ∧ 64 ≤ ([c.u16 32, c.u16 34, c.u16 36, c.u16 38, c.u16 40]).getD 4 0 ∧ ([c.u16 32, c.u16 34, c.u16 36, c.u16 38, c.u16 40]).sum + s.rcd.mirrorMax ≤ 12032) ∧
    (∃ (s : State) (dt : Nat) (c : Cmd), s.Ready .recordMark dt c ∧ c.restZero [(32, 1)] = true ∧ 2 < c.u8 32) ∧
    (∃ (s : State) (dt : Nat) (c : Cmd), s.Ready .recordMark dt c ∧ c.restZero [(32, 1)] = true ∧ c.u8 32 ≤ 2 ∧ (c.paramLen = 0 ∨ 1004 < c.paramLen)) ∧
    (∃ (s : State) (dt : Nat) (c : Cmd), s.Ready .recordMark dt c ∧ c.restZero [(32, 1)] = true ∧ c.u8 32 ≤ 2 ∧ (c.paramLen = 0 ∨ 1004 < c.paramLen)) ∧
    (∃ (s : State) (dt : Nat) (c : Cmd), s.Ready .recordMark dt c ∧ c.restZero [(32, 1)] = true ∧ c.u8 32 ≤ 2 ∧ 1 ≤ c.paramLen ∧ c.paramLen ≤ 1004 ∧ s.mode .recd = false) ∧
    (∃ (s : State) (dt : Nat) (c : Cmd), s.Ready .recordMark dt c ∧ c.restZero [(32, 1)] = true ∧ c.u8 32 ≤ 2 ∧ 1 ≤ c.paramLen ∧ c.paramLen ≤ 1004 ∧ s.mode .recd = true) ∧
    (∃ (s : State) (dt : Nat) (c : Cmd), s.Ready .recordRead dt c ∧ Clean c [(32, 3), (36, 4), (40, 8), (48, 4), (56, 8)] 0 ∧ (1 < c.u8 32 ∨ 31 < c.u8 33 ∨ 1 < c.u8 34 ∨ c.u32 48 < 1024 ∨ 1048576 < c.u32 48)) ∧
    (∃ (s : State) (dt : Nat) (c : Cmd), s.Ready .recordRead dt c ∧ Clean c [(32, 3), (36, 4), (40, 8), (48, 4), (56, 8)] 0 ∧ c.u8 32 ≤ 1 ∧ c.u8 33 ≤ 31 ∧ c.u8 34 ≤ 1 ∧ 1024 ≤ c.u32 48 ∧ c.u32 48 ≤ 1048576 ∧ c.u64 40 % 64 ≠ 0) ∧
    (∃ (s : State) (dt : Nat) (nx : Nat) (old : Nat) (c : Cmd) (m : Bool) (g : Bool) (l : List Stored) (fr : List Stored) (out : List Stored) (rest : List Stored) (a : Option Nat) (p : List Byte) (t : _) (r : _), s.Ready .recordRead dt c ∧ Clean c [(32, 3), (36, 4), (40, 8), (48, 4), (56, 8)] 0 ∧ c.u8 32 ≤ 1 ∧ c.u8 33 ≤ 31 ∧ c.u8 34 ≤ 1 ∧ 1024 ≤ c.u32 48 ∧ c.u32 48 ≤ 1048576 ∧ c.u64 40 % 64 = 0 ∧ m = decide (c.u8 34 = 1) ∧ l = s.rcd.matching m (c.u8 33) ∧ (c.u8 32 = 0 → a = some (c.u32 36) ∧ fr = l.dropWhile fun t => decide (seqKey (s.rcd.base m) t.rseq < seqKey (s.rcd.base m) (c.u32 36))) ∧ (c.u8 32 = 1 → a = none ∧ fr = l.dropWhile fun t => decide (t.time < c.u64 56)) ∧ out = takeFit (c.u32 48) fr ∧ rest = fr.drop out.length ∧ (∀ t r, rest = t :: r → nx = t.rseq) ∧ (∀ t, rest = [] → out.getLast? = some t → nx = (t.rseq + 1) % 2 ^ 32) ∧ (rest = [] → out = [] → c.u8 32 = 0 → nx = c.u32 36) ∧ (rest = [] → out = [] → c.u8 32 = 1 → m = true → nx = 0) ∧ (rest = [] → out = [] → c.u8 32 = 1 → m = false → nx = s.rcd.next) ∧ (∀ t r, l = t :: r → old = t.rseq) ∧ (l = [] → m = true → old = 0) ∧ (l = [] → m = false → old = s.rcd.next) ∧ (g = s.rcd.gap m (c.u8 33) a (rest.head?.map fun t => t.rseq)) ∧ p = le 4 out.length ++ le 4 (out.flatMap Stored.bytes).length ++ le 4 nx ++ le 4 old ++ le 1 (bit g 0 + bit rest.isEmpty 1) ∧ c.u8 32 = 0 ∧ l = t :: r ∧ seqKey (s.rcd.base m) (c.u32 36) < seqKey (s.rcd.base m) t.rseq) ∧
    (∃ (s : State) (dt : Nat) (nx : Nat) (old : Nat) (c : Cmd) (m : Bool) (g : Bool) (l : List Stored) (fr : List Stored) (out : List Stored) (rest : List Stored) (a : Option Nat) (p : List Byte), s.Ready .recordRead dt c ∧ Clean c [(32, 3), (36, 4), (40, 8), (48, 4), (56, 8)] 0 ∧ c.u8 32 ≤ 1 ∧ c.u8 33 ≤ 31 ∧ c.u8 34 ≤ 1 ∧ 1024 ≤ c.u32 48 ∧ c.u32 48 ≤ 1048576 ∧ c.u64 40 % 64 = 0 ∧ m = decide (c.u8 34 = 1) ∧ l = s.rcd.matching m (c.u8 33) ∧ (c.u8 32 = 0 → a = some (c.u32 36) ∧ fr = l.dropWhile fun t => decide (seqKey (s.rcd.base m) t.rseq < seqKey (s.rcd.base m) (c.u32 36))) ∧ (c.u8 32 = 1 → a = none ∧ fr = l.dropWhile fun t => decide (t.time < c.u64 56)) ∧ out = takeFit (c.u32 48) fr ∧ rest = fr.drop out.length ∧ (∀ t r, rest = t :: r → nx = t.rseq) ∧ (∀ t, rest = [] → out.getLast? = some t → nx = (t.rseq + 1) % 2 ^ 32) ∧ (rest = [] → out = [] → c.u8 32 = 0 → nx = c.u32 36) ∧ (rest = [] → out = [] → c.u8 32 = 1 → m = true → nx = 0) ∧ (rest = [] → out = [] → c.u8 32 = 1 → m = false → nx = s.rcd.next) ∧ (∀ t r, l = t :: r → old = t.rseq) ∧ (l = [] → m = true → old = 0) ∧ (l = [] → m = false → old = s.rcd.next) ∧ (g = s.rcd.gap m (c.u8 33) a (rest.head?.map fun t => t.rseq)) ∧ p = le 4 out.length ++ le 4 (out.flatMap Stored.bytes).length ++ le 4 nx ++ le 4 old ++ le 1 (bit g 0 + bit rest.isEmpty 1) ∧ (c.u8 32 = 1 ∨ ∀ t r, l = t :: r → seqKey (s.rcd.base m) t.rseq ≤ seqKey (s.rcd.base m) (c.u32 36)) ∧ out = []) ∧
    (∃ (s : State) (dt : Nat) (nx : Nat) (old : Nat) (c : Cmd) (m : Bool) (g : Bool) (l : List Stored) (fr : List Stored) (out : List Stored) (rest : List Stored) (a : Option Nat) (p : List Byte), s.Ready .recordRead dt c ∧ Clean c [(32, 3), (36, 4), (40, 8), (48, 4), (56, 8)] 0 ∧ c.u8 32 ≤ 1 ∧ c.u8 33 ≤ 31 ∧ c.u8 34 ≤ 1 ∧ 1024 ≤ c.u32 48 ∧ c.u32 48 ≤ 1048576 ∧ c.u64 40 % 64 = 0 ∧ m = decide (c.u8 34 = 1) ∧ l = s.rcd.matching m (c.u8 33) ∧ (c.u8 32 = 0 → a = some (c.u32 36) ∧ fr = l.dropWhile fun t => decide (seqKey (s.rcd.base m) t.rseq < seqKey (s.rcd.base m) (c.u32 36))) ∧ (c.u8 32 = 1 → a = none ∧ fr = l.dropWhile fun t => decide (t.time < c.u64 56)) ∧ out = takeFit (c.u32 48) fr ∧ rest = fr.drop out.length ∧ (∀ t r, rest = t :: r → nx = t.rseq) ∧ (∀ t, rest = [] → out.getLast? = some t → nx = (t.rseq + 1) % 2 ^ 32) ∧ (rest = [] → out = [] → c.u8 32 = 0 → nx = c.u32 36) ∧ (rest = [] → out = [] → c.u8 32 = 1 → m = true → nx = 0) ∧ (rest = [] → out = [] → c.u8 32 = 1 → m = false → nx = s.rcd.next) ∧ (∀ t r, l = t :: r → old = t.rseq) ∧ (l = [] → m = true → old = 0) ∧ (l = [] → m = false → old = s.rcd.next) ∧ (g = s.rcd.gap m (c.u8 33) a (rest.head?.map fun t => t.rseq)) ∧ p = le 4 out.length ++ le 4 (out.flatMap Stored.bytes).length ++ le 4 nx ++ le 4 old ++ le 1 (bit g 0 + bit rest.isEmpty 1) ∧ (c.u8 32 = 1 ∨ ∀ t r, l = t :: r → seqKey (s.rcd.base m) t.rseq ≤ seqKey (s.rcd.base m) (c.u32 36)) ∧ out = []) ∧
    (∃ (s : State) (dt : Nat) (nx : Nat) (old : Nat) (c : Cmd) (m : Bool) (g : Bool) (l : List Stored) (fr : List Stored) (out : List Stored) (rest : List Stored) (a : Option Nat) (p : List Byte), s.Ready .recordRead dt c ∧ Clean c [(32, 3), (36, 4), (40, 8), (48, 4), (56, 8)] 0 ∧ c.u8 32 ≤ 1 ∧ c.u8 33 ≤ 31 ∧ c.u8 34 ≤ 1 ∧ 1024 ≤ c.u32 48 ∧ c.u32 48 ≤ 1048576 ∧ c.u64 40 % 64 = 0 ∧ m = decide (c.u8 34 = 1) ∧ l = s.rcd.matching m (c.u8 33) ∧ (c.u8 32 = 0 → a = some (c.u32 36) ∧ fr = l.dropWhile fun t => decide (seqKey (s.rcd.base m) t.rseq < seqKey (s.rcd.base m) (c.u32 36))) ∧ (c.u8 32 = 1 → a = none ∧ fr = l.dropWhile fun t => decide (t.time < c.u64 56)) ∧ out = takeFit (c.u32 48) fr ∧ rest = fr.drop out.length ∧ (∀ t r, rest = t :: r → nx = t.rseq) ∧ (∀ t, rest = [] → out.getLast? = some t → nx = (t.rseq + 1) % 2 ^ 32) ∧ (rest = [] → out = [] → c.u8 32 = 0 → nx = c.u32 36) ∧ (rest = [] → out = [] → c.u8 32 = 1 → m = true → nx = 0) ∧ (rest = [] → out = [] → c.u8 32 = 1 → m = false → nx = s.rcd.next) ∧ (∀ t r, l = t :: r → old = t.rseq) ∧ (l = [] → m = true → old = 0) ∧ (l = [] → m = false → old = s.rcd.next) ∧ (g = s.rcd.gap m (c.u8 33) a (rest.head?.map fun t => t.rseq)) ∧ p = le 4 out.length ++ le 4 (out.flatMap Stored.bytes).length ++ le 4 nx ++ le 4 old ++ le 1 (bit g 0 + bit rest.isEmpty 1) ∧ (c.u8 32 = 1 ∨ ∀ t r, l = t :: r → seqKey (s.rcd.base m) t.rseq ≤ seqKey (s.rcd.base m) (c.u32 36)) ∧ out ≠ []) ∧
    (∃ (s : State) (dt : Nat) (c : Cmd), s.Ready .journalRead dt c ∧ Clean c [(32, 1), (36, 4), (40, 8), (48, 4)] 0 ∧ (10 < c.u8 32 ∨ c.u32 48 = 0 ∨ 1048576 < c.u32 48 ∨ regionSize (c.u8 32) < c.u32 36 + c.u32 48)) ∧
    (∃ (s : State) (dt : Nat) (c : Cmd), s.Ready .journalRead dt c ∧ Clean c [(32, 1), (36, 4), (40, 8), (48, 4)] 0 ∧ c.u8 32 ≤ 10 ∧ 0 < c.u32 48 ∧ c.u32 48 ≤ 1048576 ∧ c.u32 36 + c.u32 48 ≤ regionSize (c.u8 32)) ∧
    (∃ (s : State) (dt : Nat) (c : Cmd), s.Ready .mirrorConfigure dt c ∧ Clean c [(32, 3), (36, 6)] 0 ∧ (32 < (c.u8 32) ∨ 32 < (c.u8 33) ∨ ((c.u8 32) ≠ 0 ∧ (c.u8 32) = s.rng.node) ∨ ((c.u8 33) ≠ 0 ∧ (c.u8 33) = s.rng.node))) ∧
    (∃ (s : State) (dt : Nat) (c : Cmd), s.Ready .mirrorConfigure dt c ∧ Clean c [(32, 3), (36, 6)] 0 ∧ (c.u8 32) ≤ 32 ∧ (c.u8 33) ≤ 32 ∧ ((c.u8 32) = 0 ∨ (c.u8 32) ≠ s.rng.node) ∧ ((c.u8 33) = 0 ∨ (c.u8 33) ≠ s.rng.node) ∧ (4 < c.u8 34 ∨ c.u32 36 < 1000 ∨ 10000000 < c.u32 36)) ∧
    (∃ (s : State) (dt : Nat) (c : Cmd), s.Ready .mirrorConfigure dt c ∧ Clean c [(32, 3), (36, 6)] 0 ∧ (c.u8 32) ≤ 32 ∧ (c.u8 33) ≤ 32 ∧ ((c.u8 32) = 0 ∨ (c.u8 32) ≠ s.rng.node) ∧ ((c.u8 33) = 0 ∨ (c.u8 33) ≠ s.rng.node) ∧ (4 < c.u8 34 ∨ c.u32 36 < 1000 ∨ 10000000 < c.u32 36)) ∧
    (∃ (s : State) (dt : Nat) (c : Cmd), s.Ready .mirrorConfigure dt c ∧ Clean c [(32, 3), (36, 6)] 0 ∧ (c.u8 32) ≤ 32 ∧ (c.u8 33) ≤ 32 ∧ ((c.u8 32) = 0 ∨ (c.u8 32) ≠ s.rng.node) ∧ ((c.u8 33) = 0 ∨ (c.u8 33) ≠ s.rng.node) ∧ c.u8 34 ≤ 4 ∧ 1000 ≤ c.u32 36 ∧ c.u32 36 ≤ 10000000 ∧ quotaOk ([0, 1, 2, 3, 4].map s.rcd.q) (c.u16 40) = false) ∧
    (∃ (s : State) (dt : Nat) (c : Cmd) (f : Failure), s.Ready .mirrorConfigure dt c ∧ Clean c [(32, 3), (36, 6)] 0 ∧ (c.u8 32) ≤ 32 ∧ (c.u8 33) ≤ 32 ∧ ((c.u8 32) = 0 ∨ (c.u8 32) ≠ s.rng.node) ∧ ((c.u8 33) = 0 ∨ (c.u8 33) ≠ s.rng.node) ∧ c.u8 34 ≤ 4 ∧ 1000 ≤ c.u32 36 ∧ c.u32 36 ≤ 10000000 ∧ quotaOk ([0, 1, 2, 3, 4].map s.rcd.q) (c.u16 40) = true ∧ (c.u8 32) ≠ 0 ∧ ringTests (s.entered .mirrorConfigure dt c) (s.entered .mirrorConfigure dt c).testFlows [] (some ((c.u8 32), c.u32 36)) = some f) ∧
    (∃ (s : State) (dt : Nat) (c : Cmd), s.Ready .mirrorConfigure dt c ∧ Clean c [(32, 3), (36, 6)] 0 ∧ (c.u8 32) ≤ 32 ∧ (c.u8 33) ≤ 32 ∧ ((c.u8 32) = 0 ∨ (c.u8 32) ≠ s.rng.node) ∧ ((c.u8 33) = 0 ∨ (c.u8 33) ≠ s.rng.node) ∧ c.u8 34 ≤ 4 ∧ 1000 ≤ c.u32 36 ∧ c.u32 36 ≤ 10000000 ∧ quotaOk ([0, 1, 2, 3, 4].map s.rcd.q) (c.u16 40) = true ∧ ((c.u8 32) = 0 ∨ ringTests (s.entered .mirrorConfigure dt c) (s.entered .mirrorConfigure dt c).testFlows [] (some ((c.u8 32), c.u32 36)) = none)) ∧
    (∃ (s : State) (dt : Nat) (c : Cmd), s.Ready .mirrorConfigure dt c ∧ Clean c [(32, 3), (36, 6)] 0 ∧ (c.u8 32) ≤ 32 ∧ (c.u8 33) ≤ 32 ∧ ((c.u8 32) = 0 ∨ (c.u8 32) ≠ s.rng.node) ∧ ((c.u8 33) = 0 ∨ (c.u8 33) ≠ s.rng.node) ∧ c.u8 34 ≤ 4 ∧ 1000 ≤ c.u32 36 ∧ c.u32 36 ≤ 10000000 ∧ quotaOk ([0, 1, 2, 3, 4].map s.rcd.q) (c.u16 40) = true ∧ ((c.u8 32) = 0 ∨ ringTests (s.entered .mirrorConfigure dt c) (s.entered .mirrorConfigure dt c).testFlows [] (some ((c.u8 32), c.u32 36)) = none)) :=
  ⟨⟨S0, 1000, pk [], by unfold Clean; decide +kernel⟩,
   ⟨S0, 1000, pk [(38,2,63),(40,2,64)], by unfold Clean; decide +kernel⟩,
   ⟨S0, 1000, pk [(32,2,11905),(38,2,64),(40,2,64)], by unfold Clean; decide +kernel⟩,
   ⟨S0, 1000, pk [(32,2,11904),(38,2,64),(40,2,64)], by unfold Clean; decide +kernel⟩,
   ⟨S0, 1000, pk [(32,1,3)], by decide +kernel⟩,
   ⟨S0, 1000, pk [(32,1,2)], by decide +kernel⟩,
   ⟨S0, 1000, pk [(32,1,2)] (zeros 1005), by decide +kernel⟩,
   ⟨{S0 with mod := {S0.mod with cmd := 0}}, 1000, pk [(32,1,2)] [7], by decide +kernel⟩,
   ⟨S0, 1000, pk [(32,1,2)] [7, 8, 9], by decide +kernel⟩,
   ⟨S0, 1000, pk [(32,1,2),(40,8,64),(48,4,1024)], by unfold Clean; decide +kernel⟩,
   ⟨S0, 1000, pk [(32,1,1),(33,1,31),(40,8,65),(48,4,1024)], by unfold Clean; decide +kernel⟩,
   ⟨SRd, 1000, 10, 9, pk [(33,1,31),(36,4,5),(48,4,1024)], false, SRd.rcd.gap false 31 (some 5) none, [rec0], [rec0], [rec0], [], some 5, rdP [rec0] 10 9 (SRd.rcd.gap false 31 (some 5) none) true, rec0, [], by unfold Clean; and_intros <;> first | decide +kernel | rfl | exact .inl (by decide +kernel) | exact .inr (by intro t r h; cases h; decide +kernel) | (intros; simp_all; first | done | (subst_vars; rfl) | (rename_i h; obtain ⟨h, -⟩ := h; subst h; rfl))⟩,
   ⟨SRd, 1000, 10, 9, pk [(33,1,31),(36,4,10),(48,4,1024)], false, SRd.rcd.gap false 31 (some 10) none, [rec0], [], [], [], some 10, rdP [] 10 9 (SRd.rcd.gap false 31 (some 10) none) true, by unfold Clean; and_intros <;> first | decide +kernel | rfl | exact .inl (by decide +kernel) | exact .inr (by intro t r h; cases h; decide +kernel) | (intros; simp_all; first | done | (subst_vars; rfl) | (rename_i h; obtain ⟨h, -⟩ := h; subst h; rfl))⟩,
   ⟨SRd, 1000, 10, 9, pk [(32,1,1),(33,1,31),(48,4,1024),(56,8,6)], false, SRd.rcd.gap false 31 none none, [rec0], [], [], [], none, rdP [] 10 9 (SRd.rcd.gap false 31 none none) true, by unfold Clean; and_intros <;> first | decide +kernel | rfl | exact .inl (by decide +kernel) | exact .inr (by intro t r h; cases h; decide +kernel) | (intros; simp_all; first | done | (subst_vars; rfl) | (rename_i h; obtain ⟨h, -⟩ := h; subst h; rfl))⟩,
   ⟨SRd, 1000, 10, 9, pk [(32,1,1),(33,1,31),(48,4,1024),(56,8,5)], false, SRd.rcd.gap false 31 none none, [rec0], [rec0], [rec0], [], none, rdP [rec0] 10 9 (SRd.rcd.gap false 31 none none) true, by unfold Clean; and_intros <;> first | decide +kernel | rfl | exact .inl (by decide +kernel) | exact .inr (by intro t r h; cases h; decide +kernel) | (intros; simp_all; first | done | (subst_vars; rfl) | (rename_i h; obtain ⟨h, -⟩ := h; subst h; rfl))⟩,
   ⟨S0, 1000, pk [(32,1,11),(40,8,64)], by unfold Clean; decide +kernel⟩,
   ⟨S0, 1000, pk [(36,4,8188),(40,8,64),(48,4,4)], by unfold Clean; decide +kernel⟩,
   ⟨S0, 1000, pk [(32,1,33),(36,4,1000)], by unfold Clean; decide +kernel⟩,
   ⟨S0, 1000, pk [(33,1,2),(34,1,5),(36,4,1000)], by unfold Clean; decide +kernel⟩,
   ⟨S0, 1000, pk [(33,1,2),(34,1,4),(36,4,999)], by unfold Clean; decide +kernel⟩,
   ⟨S0, 1000, pk [(33,1,2),(34,1,4),(36,4,1000),(40,2,8705)], by unfold Clean; decide +kernel⟩,
   ⟨SRX, 1000, pk [(32,1,2),(34,1,4),(36,4,1000)], (ringTests (SRX.entered .mirrorConfigure 1000 (pk [(32,1,2),(34,1,4),(36,4,1000)])) (SRX.entered .mirrorConfigure 1000 (pk [(32,1,2),(34,1,4),(36,4,1000)])).testFlows [] (some (2, 1000))).getD ⟨0,0,0,0,0,0⟩, by unfold Clean; decide +kernel⟩,
   ⟨S0, 1000, pk [(33,1,2),(34,1,4),(36,4,1000),(40,2,8704)], by unfold Clean; decide +kernel⟩,
   ⟨SR, 1000, pk [(32,1,2),(34,1,0),(36,4,1000)], by unfold Clean; decide +kernel⟩⟩

/-- What meets the hypotheses of `Obligations.RecorderEvents`, clause by clause. -/
theorem witness_RecorderEvents :
    (∃ (s : State), s.rcd.staging = [] ∧ s.rcd.overflow = []) ∧
    (∃ (s : State) (t : Stored) (r : List Stored) (g : _), s.rcd.staging = t :: r ∧ s.rcd.overflow = [] ∧ ({ s.rcd with staging := r, catchup := s.rcd.catchup - 1 }).segments.find? (Segment.fits t) = some g ∧ g.used + t.len ≤ 262144) ∧
    (∃ (s : State) (dt : Nat) (t : Stored) (r : List Stored) (u : Recorder) (g : _) (v : _), s.rcd.staging = t :: r ∧ s.rcd.overflow = [] ∧ u = { s.rcd with staging := r, catchup := s.rcd.catchup - 1 } ∧ t.mirrored = false ∧ u.segments.find? (Segment.fits t) = some g ∧ 262144 < g.used + t.len ∧ (Recorder.allocate t.sev (s.now + dt) { u with segments := u.segments.map fun h => if h.block = g.block then { h with closed := true } else h } = some v)) ∧
    (∃ (s : State) (dt : Nat) (t : Stored) (r : List Stored) (u : Recorder) (v : _), s.rcd.staging = t :: r ∧ s.rcd.overflow = [] ∧ u = { s.rcd with staging := r, catchup := s.rcd.catchup - 1 } ∧ t.mirrored = false ∧ u.segments.find? (Segment.fits t) = none ∧ u.allocate t.sev (s.now + dt) = some v) ∧
    (∃ (s : State) (dt : Nat) (t : Stored) (r : List Stored) (u : Recorder) (v : _), s.rcd.staging = t :: r ∧ s.rcd.overflow = [] ∧ u = { s.rcd with staging := r, catchup := s.rcd.catchup - 1 } ∧ t.mirrored = true ∧ u.segments.find? (Segment.fits t) = none ∧ u.allocateMirror (s.now + dt) = some v) ∧
    (∃ (s : State) (dt : Nat) (t : Stored) (r : List Stored) (u : Recorder), s.rcd.staging = t :: r ∧ s.rcd.overflow = [] ∧ u = { s.rcd with staging := r, catchup := s.rcd.catchup - 1 } ∧ t.mirrored = false ∧ u.segments.find? (Segment.fits t) = none ∧ u.allocate t.sev (s.now + dt) = none) ∧
    (∃ (s : State) (dt : Nat) (t : Stored) (r : List Stored) (u : Recorder), s.rcd.staging = t :: r ∧ s.rcd.overflow = [] ∧ u = { s.rcd with staging := r, catchup := s.rcd.catchup - 1 } ∧ t.mirrored = true ∧ u.segments.find? (Segment.fits t) = none ∧ u.allocateMirror (s.now + dt) = none) ∧
    (∃ (s : State) (dt : Nat), (s.rcd.reclaiming = false ∨ s.now + dt < s.rcd.reclaimAt + 10000000)) ∧
    (∃ (s : State) (dt : Nat), (s.rcd.reclaiming = false ∨ s.now + dt < s.rcd.reclaimAt + 10000000)) ∧
    (∃ (s : State) (dt : Nat) (o : Option Segment), s.rcd.reclaiming = true ∧ s.rcd.reclaimAt + 10000000 ≤ s.now + dt ∧ (o = oldestSeg (s.rcd.base false) (s.rcd.segments.filter fun g => g.closed && !g.mirrored && decide (s.rcd.q g.sev < s.rcd.held g.sev))) ∧ (s.rcd.reservedAll ≤ s.rcd.freeSegs ∨ o = none)) ∧
    (∃ (s : State) (dt : Nat) (g : _), s.rcd.reclaiming = true ∧ s.rcd.reclaimAt + 10000000 ≤ s.now + dt ∧ s.rcd.freeSegs < s.rcd.reservedAll ∧ ((oldestSeg (s.rcd.base false) (s.rcd.segments.filter fun g => g.closed && !g.mirrored && decide (s.rcd.q g.sev < s.rcd.held g.sev))) = some g)) ∧
    (∃ (s : State) (n : Nat), (∀ g, g ∈ s.rcd.segments → g.block = n → g.closed = false)) ∧
    (∃ (s : State) (bits : Nat) (g : Segment), s.rcd.segments.find? (fun h => h.block == g.block) = some g ∧ g.closed = true ∧ (bits ≤ 16 ∨ s.rcd.nextBlock = none)) ∧
    (∃ (s : State) (bits : Nat) (g : Segment) (b : _), s.rcd.segments.find? (fun h => h.block == g.block) = some g ∧ g.closed = true ∧ 16 < bits ∧ s.rcd.nextBlock = some b) ∧
    (∃ (s : State) (n : Nat), (n ∈ s.rcd.retired ∨ 12800 ≤ n)) ∧
    (∃ (s : State) (n : Nat), (n ∈ s.rcd.retired ∨ 12800 ≤ n)) ∧
    (∃ (s : State) (n : Nat), n ∉ s.rcd.retired ∧ n < 12800 ∧ 0 < s.rcd.spares) ∧
    (∃ (s : State) (n : Nat), n ∉ s.rcd.retired ∧ n < 12800 ∧ s.rcd.spares = 0) ∧
    (∃ (s : State) (n : Fin 33) (l : List StoredRecord), (n.val = 0 ∨ n.val ≠ s.rcd.mirFrom ∨ s.mode .ring = false ∨ l = [])) ∧
    (∃ (s : State) (n : Fin 33) (l : List StoredRecord), (n.val = 0 ∨ n.val ≠ s.rcd.mirFrom ∨ s.mode .ring = false ∨ l = [])) ∧
    (∃ (s : State) (n : Fin 33) (l : List StoredRecord) (x : StoredRecord), n.val ≠ 0 ∧ n.val = s.rcd.mirFrom ∧ s.mode .ring = true ∧ l.getLast? = some x ∧ (∀ y, y ∈ l → y.sev ≤ 4) ∧ (usedBytes s.rcd.staging + (l.map fun y => 16 + y.body.length).sum ≤ 524288)) ∧
    (∃ (s : State) (n : Fin 33) (l : List StoredRecord) (x : StoredRecord), n.val ≠ 0 ∧ n.val = s.rcd.mirFrom ∧ s.mode .ring = true ∧ l.getLast? = some x ∧ (524288 < usedBytes s.rcd.staging + (l.map fun y => 16 + y.body.length).sum)) ∧
    (∃ (s : State) (n : Fin 33), (n.val = 0 ∨ n.val ≠ s.rcd.mirTo)) ∧
    (∃ (s : State) (n : Fin 33) (w : Word), n.val ≠ 0 ∧ n.val = s.rcd.mirTo ∧ s.rcd.mirSent = true ∧ seqKey s.rcd.next w.toNat < seqKey s.rcd.next s.rcd.mirCursor) ∧
    (∃ (s : State) (n : Fin 33) (w : Word), n.val ≠ 0 ∧ n.val = s.rcd.mirTo ∧ (s.rcd.mirSent = false ∨ seqKey s.rcd.next s.rcd.mirCursor ≤ seqKey s.rcd.next w.toNat)) ∧
    (∃ (s : State) (dt : Nat), (s.rcd.mirTo = 0 ∨ ∃ t, s.rcd.mirWait = some t ∧ s.now + dt < t + 20000000)) ∧
    (∃ (s : State) (dt : Nat), (s.rcd.mirTo = 0 ∨ ∃ t, s.rcd.mirWait = some t ∧ s.now + dt < t + 20000000)) ∧
    (∃ (s : State) (dt : Nat) (t : Nat), s.rcd.mirTo ≠ 0 ∧ s.rcd.mirWait = some t ∧ t + 20000000 ≤ s.now + dt) ∧
    (∃ (s : State), s.rcd.mirTo ≠ 0 ∧ s.rcd.mirWait = none) :=
  ⟨⟨S0, by decide +kernel⟩,
   ⟨{S0 with rcd := {staging := [rec0], segments := [seg0]}}, rec0, [], seg0, by decide +kernel⟩,
   ⟨SRk {staging := [rec0], segments := [{seg0 with used := 262127}]}, 1000, rec0, [], {segments := [{seg0 with used := 262127}], staging := []}, {seg0 with used := 262127}, (Recorder.allocate 3 5000001000 {segments := [{seg0 with used := 262127, closed := true}]}).getD {}, by decide +kernel⟩,
   ⟨SRk {staging := [rec0]}, 1000, rec0, [], {}, (Recorder.allocate 3 5000001000 {}).getD {}, by decide +kernel⟩,
   ⟨SRk {staging := [{rec0 with mirrored := true}], mirrorMax := 1}, 1000, {rec0 with mirrored := true}, [], {mirrorMax := 1}, (Recorder.allocateMirror 5000001000 {mirrorMax := 1}).getD {}, by decide +kernel⟩,
   ⟨SRk {staging := [rec0], segLost := 12288}, 1000, rec0, [], {segLost := 12288}, by decide +kernel⟩,
   ⟨SRk {staging := [{rec0 with mirrored := true}]}, 1000, {rec0 with mirrored := true}, [], {}, by decide +kernel⟩,
   ⟨S0, 1000, by decide +kernel⟩,
   ⟨{S0 with rcd := {reclaiming := true, reclaimAt := 4990001001}}, 1000, by decide +kernel⟩,
   ⟨SRk {reclaiming := true, reclaimAt := 4990001000}, 1000, none, by decide +kernel⟩,
   ⟨{S0 with rcd := {reclaiming := true, reclaimAt := 4990001000, quota := [0, 512, 1024, 1024, 512], segLost := 9300, segments := [{seg0 with sev := 0, closed := true}]}}, 1000, {seg0 with sev := 0, closed := true}, by decide +kernel⟩,
   ⟨{S0 with rcd := {segments := [seg0]}}, 8, by decide +kernel⟩,
   ⟨{S0 with rcd := {segments := [{seg0 with closed := true}]}}, 16, {seg0 with closed := true}, by decide +kernel⟩,
   ⟨{S0 with rcd := {segments := [{seg0 with closed := true}]}}, 17, {seg0 with closed := true}, (({S0 with rcd := {segments := [{seg0 with closed := true}]}} : State).rcd.nextBlock).getD 9, by decide +kernel⟩,
   ⟨{S0 with rcd := {retired := [4]}}, 4, by decide +kernel⟩,
   ⟨S0, 12800, by decide +kernel⟩,
   ⟨S0, 12799, by decide +kernel⟩,
   ⟨SRk {spares := 0}, 0, by decide +kernel⟩,
   ⟨S0, 0, [], by decide +kernel⟩,
   ⟨{S0 with rcd := {mirFrom := 2}}, 3, [], by decide +kernel⟩,
   ⟨{SR with rcd := {mirFrom := 2}}, 2, [{sev := 4, fmt := 1, rseq := 5, time := 6, body := [1]}], {sev := 4, fmt := 1, rseq := 5, time := 6, body := [1]}, by decide +kernel⟩,
   ⟨{SR with rcd := {mirFrom := 2}}, 2, List.replicate 31000 {sev := 4, fmt := 1, rseq := 5, time := 6, body := [1]}, {sev := 4, fmt := 1, rseq := 5, time := 6, body := [1]}, by decide +kernel⟩,
   ⟨S0, 2, by decide +kernel⟩,
   ⟨SRk {mirTo := 2, mirSent := true, mirCursor := 8, next := 9}, 2, 7, by decide +kernel⟩,
   ⟨{S0 with rcd := {mirTo := 2}}, 2, 7, by decide +kernel⟩,
   ⟨S0, 1000, by decide +kernel⟩,
   ⟨{SR with rcd := {mirTo := 2, mirWait := some 4980001001}}, 1000, by decide +kernel⟩,
   ⟨{SR with rcd := {mirTo := 2, mirWait := some 4980001000}}, 1000, 4980001000, by decide +kernel⟩,
   ⟨{SR with rcd := {mirTo := 2}}, by decide +kernel⟩⟩

/-- What meets the hypotheses of `Obligations.SegmentAllocation`, clause by clause. -/
theorem witness_SegmentAllocation :
    (∃ (r : Recorder) (sev : Nat), (r.segments.map (·.block)).Nodup ∧ 1 ≤ r.freeSegs ∧ (r.held sev < r.q sev ∨ r.reservedOthers sev ≤ r.freeSegs - 1)) ∧
    (∃ (r : Recorder) (sev : Nat), (r.segments.map (·.block)).Nodup ∧ (r.freeSegs = 0 ∨ (r.q sev ≤ r.held sev ∧ r.freeSegs - 1 < r.reservedOthers sev)) ∧ (((r.segments.filter fun g => g.closed && !g.mirrored && (g.sev == sev || (decide (g.sev < sev) && decide (r.q g.sev < r.held g.sev))))) = [])) ∧
    (∃ (r : Recorder) (sev : Nat), (r.segments.map (·.block)).Nodup ∧ (r.freeSegs = 0 ∨ (r.q sev ≤ r.held sev ∧ r.freeSegs - 1 < r.reservedOthers sev)) ∧ (((r.segments.filter fun g => g.closed && !g.mirrored && (g.sev == sev || (decide (g.sev < sev) && decide (r.q g.sev < r.held g.sev))))) ≠ [])) ∧
    (∃ (r : Recorder) (sev : Nat) (now : Nat) (t : _) (g : _), (r.segments.map (·.block)).Nodup ∧ r.allocate sev now = some t ∧ g ∈ r.segments ∧ g ∉ t.segments) ∧
    (∃ (r : Recorder) (now : Nat) (t : _) (g : _), (r.segments.map (·.block)).Nodup ∧ r.allocateMirror now = some t ∧ g ∈ r.segments ∧ g ∉ t.segments) ∧
    (∃ (r : Recorder) (sev : Nat) (vs : List Segment), (r.segments.map (·.block)).Nodup ∧ (vs = (r.segments.filter fun g => g.closed && !g.mirrored && (g.sev == sev || (decide (g.sev < sev) && decide (r.q g.sev < r.held g.sev)))))) :=
  ⟨⟨{}, 4, by decide +kernel⟩,
   ⟨{segLost := 12288}, 4, by decide +kernel⟩,
   ⟨{segLost := 12287, segments := [{seg0 with closed := true}]}, 3, by decide +kernel⟩,
   ⟨{segLost := 12287, segments := [{seg0 with closed := true}]}, 3, 5, (({segLost := 12287, segments := [{seg0 with closed := true}]} : Recorder).allocate 3 5).getD {}, {seg0 with closed := true}, by decide +kernel⟩,
   ⟨{segments := [{seg0 with closed := true, mirrored := true}]}, 5, (({segments := [{seg0 with closed := true, mirrored := true}]} : Recorder).allocateMirror 5).getD {}, {seg0 with closed := true, mirrored := true}, by decide +kernel⟩,
   ⟨{mirrorMax := 7}, 4, [], by decide +kernel⟩⟩

/-- What meets the hypotheses of `Obligations.PanelCommands`, clause by clause. -/
theorem witness_PanelCommands :
    (∃ (s : State) (dt : Nat) (c : Cmd) (b : _), s.Ready .panelConfigure dt c ∧ Clean c [(32, 11), (44, 2)] 0 ∧ 256 ≤ (c.u16 32) ∧ (c.u16 32) ≤ 2048 ∧ (c.u16 32) % 8 = 0 ∧ 64 ≤ (c.u16 34) ∧ (c.u16 34) ≤ 1536 ∧ (c.u16 34) % 8 = 0 ∧ (c.u16 32) / 8 + 44 ≤ (c.u16 36) ∧ (c.u16 36) ≤ 1023 ∧ 20 ≤ c.u16 38 ∧ c.u16 38 ≤ 330 ∧ (c.u16 40) < 2 ^ 15 ∧ (∀ k, k < 5 → (c.u16 40) % 8 = k ∨ (c.u16 40) / 8 % 8 = k ∨ (c.u16 40) / 64 % 8 = k ∨ (c.u16 40) / 512 % 8 = k ∨ (c.u16 40) / 4096 % 8 = k) ∧ 1 ≤ c.u8 42 ∧ c.u8 42 ≤ 100 ∧ c.u16 44 ≤ 600 ∧ s.activeSet = some b ∧ 1000 * wfFrameUs b < ((c.u16 34) + 4) * ((c.u16 36) * 40)) ∧
    (∃ (s : State) (dt : Nat) (c : Cmd), s.Ready .panelConfigure dt c ∧ Clean c [(32, 11), (44, 2)] 0 ∧ 256 ≤ (c.u16 32) ∧ (c.u16 32) ≤ 2048 ∧ (c.u16 32) % 8 = 0 ∧ 64 ≤ (c.u16 34) ∧ (c.u16 34) ≤ 1536 ∧ (c.u16 34) % 8 = 0 ∧ (c.u16 32) / 8 + 44 ≤ (c.u16 36) ∧ (c.u16 36) ≤ 1023 ∧ 20 ≤ c.u16 38 ∧ c.u16 38 ≤ 330 ∧ (c.u16 40) < 2 ^ 15 ∧ (∀ k, k < 5 → (c.u16 40) % 8 = k ∨ (c.u16 40) / 8 % 8 = k ∨ (c.u16 40) / 64 % 8 = k ∨ (c.u16 40) / 512 % 8 = k ∨ (c.u16 40) / 4096 % 8 = k) ∧ 1 ≤ c.u8 42 ∧ c.u8 42 ≤ 100 ∧ c.u16 44 ≤ 600 ∧ (∀ b, s.activeSet = some b → ((c.u16 34) + 4) * ((c.u16 36) * 40) ≤ 1000 * wfFrameUs b) ∧ (s.pnl.queue ≠ [] ∨ s.liveRegions ≠ [])) ∧
    (∃ (s : State) (dt : Nat) (c : Cmd), s.Ready .panelConfigure dt c ∧ Clean c [(32, 11), (44, 2)] 0 ∧ 256 ≤ (c.u16 32) ∧ (c.u16 32) ≤ 2048 ∧ (c.u16 32) % 8 = 0 ∧ 64 ≤ (c.u16 34) ∧ (c.u16 34) ≤ 1536 ∧ (c.u16 34) % 8 = 0 ∧ (c.u16 32) / 8 + 44 ≤ (c.u16 36) ∧ (c.u16 36) ≤ 1023 ∧ 20 ≤ c.u16 38 ∧ c.u16 38 ≤ 330 ∧ (c.u16 40) < 2 ^ 15 ∧ (∀ k, k < 5 → (c.u16 40) % 8 = k ∨ (c.u16 40) / 8 % 8 = k ∨ (c.u16 40) / 64 % 8 = k ∨ (c.u16 40) / 512 % 8 = k ∨ (c.u16 40) / 4096 % 8 = k) ∧ 1 ≤ c.u8 42 ∧ c.u8 42 ≤ 100 ∧ c.u16 44 ≤ 600 ∧ (∀ b, s.activeSet = some b → ((c.u16 34) + 4) * ((c.u16 36) * 40) ≤ 1000 * wfFrameUs b) ∧ s.pnl.queue = [] ∧ s.liveRegions = []) ∧
    (∃ (s : State) (dt : Nat) (c : Cmd), s.Ready .panelConfigure dt c ∧ Clean c [(32, 11), (44, 2)] 0 ∧ 256 ≤ (c.u16 32) ∧ (c.u16 32) ≤ 2048 ∧ (c.u16 32) % 8 = 0 ∧ 64 ≤ (c.u16 34) ∧ (c.u16 34) ≤ 1536 ∧ (c.u16 34) % 8 = 0 ∧ (c.u16 32) / 8 + 44 ≤ (c.u16 36) ∧ (c.u16 36) ≤ 1023 ∧ 20 ≤ c.u16 38 ∧ c.u16 38 ≤ 330 ∧ (c.u16 40) < 2 ^ 15 ∧ (∀ k, k < 5 → (c.u16 40) % 8 = k ∨ (c.u16 40) / 8 % 8 = k ∨ (c.u16 40) / 64 % 8 = k ∨ (c.u16 40) / 512 % 8 = k ∨ (c.u16 40) / 4096 % 8 = k) ∧ 1 ≤ c.u8 42 ∧ c.u8 42 ≤ 100 ∧ c.u16 44 ≤ 600 ∧ (∀ b, s.activeSet = some b → ((c.u16 34) + 4) * ((c.u16 36) * 40) ≤ 1000 * wfFrameUs b) ∧ s.pnl.queue = [] ∧ s.liveRegions = []) ∧
    (∃ (s : State) (dt : Nat) (c : Cmd) (env : Env), s.Ready .waveformLoad dt c ∧ Clean c [(40, 12)] 0 ∧ c.u64 40 % 4096 = 0 ∧ 0 < c.u32 48 ∧ c.u32 48 ≤ 4194304 ∧ env.dma = none) ∧
    (∃ (s : State) (dt : Nat) (c : Cmd) (env : Env) (l : _) (i : _), s.Ready .waveformLoad dt c ∧ Clean c [(40, 12)] 0 ∧ c.u64 40 % 4096 = 0 ∧ 0 < c.u32 48 ∧ c.u32 48 ≤ 4194304 ∧ env.dma = some l ∧ wfBad (fitBytes (c.u32 48) l) = some i) ∧
    (∃ (s : State) (dt : Nat) (c : Cmd) (env : Env) (l : _), s.Ready .waveformLoad dt c ∧ Clean c [(40, 12)] 0 ∧ c.u64 40 % 4096 = 0 ∧ 0 < c.u32 48 ∧ c.u32 48 ≤ 4194304 ∧ env.dma = some l ∧ wfBad (fitBytes (c.u32 48) l) = none ∧ s.pnl.height ≠ 0 ∧ 1000 * wfFrameUs (fitBytes (c.u32 48) l) < (s.pnl.height + 4) * (s.pnl.lineClk * 40)) ∧
    (∃ (s : State) (dt : Nat) (c : Cmd) (env : Env) (l : _), s.Ready .waveformLoad dt c ∧ Clean c [(40, 12)] 0 ∧ c.u64 40 % 4096 = 0 ∧ 0 < c.u32 48 ∧ c.u32 48 ≤ 4194304 ∧ env.dma = some l ∧ wfBad (fitBytes (c.u32 48) l) = none ∧ (s.pnl.height = 0 ∨ (s.pnl.height + 4) * (s.pnl.lineClk * 40) ≤ 1000 * wfFrameUs (fitBytes (c.u32 48) l)) ∧ s.slotHeld (1 - s.pnl.active) = true) ∧
    (∃ (s : State) (dt : Nat) (c : Cmd) (env : Env) (l : _), s.Ready .waveformLoad dt c ∧ Clean c [(40, 12)] 0 ∧ c.u64 40 % 4096 = 0 ∧ 0 < c.u32 48 ∧ c.u32 48 ≤ 4194304 ∧ env.dma = some l ∧ wfBad (fitBytes (c.u32 48) l) = none ∧ (s.pnl.height = 0 ∨ (s.pnl.height + 4) * (s.pnl.lineClk * 40) ≤ 1000 * wfFrameUs (fitBytes (c.u32 48) l)) ∧ s.slotHeld (1 - s.pnl.active) = false) ∧
    (∃ (s : State), s.pnl.active ≤ 1) ∧
    (∃ (s : State) (dt : Nat) (c : Cmd), s.Ready .panelWrite dt c ∧ Clean c [(32, 16)] 0 ∧ ((rectOf c 32).w = 0 ∨ (rectOf c 32).h = 0 ∨ s.pnl.width < (rectOf c 32).x + (rectOf c 32).w ∨ s.pnl.height < (rectOf c 32).y + (rectOf c 32).h)) ∧
    (∃ (s : State) (dt : Nat) (c : Cmd), s.Ready .panelWrite dt c ∧ Clean c [(32, 16)] 0 ∧ (rectOf c 32).w ≠ 0 ∧ (rectOf c 32).h ≠ 0 ∧ s.inPanel (rectOf c 32) = true ∧ s.hitsActive (rectOf c 32) = true) ∧
    (∃ (s : State) (dt : Nat) (c : Cmd), s.Ready .panelWrite dt c ∧ Clean c [(32, 16)] 0 ∧ (rectOf c 32).w ≠ 0 ∧ (rectOf c 32).h ≠ 0 ∧ s.inPanel (rectOf c 32) = true ∧ s.hitsActive (rectOf c 32) = false ∧ s.hitsTile (rectOf c 32) none = true) ∧
    (∃ (s : State) (dt : Nat) (c : Cmd) (env : Env), s.Ready .panelWrite dt c ∧ Clean c [(32, 16)] 0 ∧ (rectOf c 32).w ≠ 0 ∧ (rectOf c 32).h ≠ 0 ∧ s.inPanel (rectOf c 32) = true ∧ s.hitsActive (rectOf c 32) = false ∧ s.hitsTile (rectOf c 32) none = false ∧ env.dma = none) ∧
    (∃ (s : State) (dt : Nat) (c : Cmd) (env : Env) (l : _), s.Ready .panelWrite dt c ∧ Clean c [(32, 16)] 0 ∧ (rectOf c 32).w ≠ 0 ∧ (rectOf c 32).h ≠ 0 ∧ s.inPanel (rectOf c 32) = true ∧ s.hitsActive (rectOf c 32) = false ∧ s.hitsTile (rectOf c 32) none = false ∧ env.dma = some l) ∧
    (∃ (s : State) (dt : Nat) (c : Cmd), s.Ready .panelUpdate dt c ∧ Clean c [(32, 9)] 0 ∧ (c.u8 40) ≤ 15 ∧ ((rectOf c 32).x % 8 ≠ 0 ∨ (rectOf c 32).w % 8 ≠ 0 ∨ (rectOf c 32).w < 8 ∨ (rectOf c 32).h < 8 ∨ s.inPanel (rectOf c 32) = false)) ∧
    (∃ (s : State) (dt : Nat) (c : Cmd), s.Ready .panelUpdate dt c ∧ Clean c [(32, 9)] 0 ∧ (c.u8 40) ≤ 15 ∧ ((rectOf c 32).x % 8 ≠ 0 ∨ (rectOf c 32).w % 8 ≠ 0 ∨ (rectOf c 32).w < 8 ∨ (rectOf c 32).h < 8 ∨ s.inPanel (rectOf c 32) = false)) ∧
    (∃ (s : State) (dt : Nat) (c : Cmd), s.Ready .panelUpdate dt c ∧ Clean c [(32, 9)] 0 ∧ (c.u8 40) ≤ 15 ∧ (rectOf c 32).x % 8 = 0 ∧ (rectOf c 32).w % 8 = 0 ∧ 8 ≤ (rectOf c 32).w ∧ 8 ≤ (rectOf c 32).h ∧ s.inPanel (rectOf c 32) = true ∧ s.railsShort = true) ∧
    (∃ (s : State) (dt : Nat) (c : Cmd), s.Ready .panelUpdate dt c ∧ Clean c [(32, 9)] 0 ∧ (c.u8 40) ≤ 15 ∧ (rectOf c 32).x % 8 = 0 ∧ (rectOf c 32).w % 8 = 0 ∧ 8 ≤ (rectOf c 32).w ∧ 8 ≤ (rectOf c 32).h ∧ s.inPanel (rectOf c 32) = true ∧ s.railsShort = false ∧ s.pnl.tempOut = true ∧ (c.u8 40) ≠ 3) ∧
    (∃ (s : State) (dt : Nat) (c : Cmd), s.Ready .panelUpdate dt c ∧ Clean c [(32, 9)] 0 ∧ (c.u8 40) ≤ 15 ∧ (rectOf c 32).x % 8 = 0 ∧ (rectOf c 32).w % 8 = 0 ∧ 8 ≤ (rectOf c 32).w ∧ 8 ≤ (rectOf c 32).h ∧ s.inPanel (rectOf c 32) = true ∧ s.railsShort = false ∧ (s.pnl.tempOut = false ∨ (c.u8 40) = 3) ∧ s.activeSet = none) ∧
    (∃ (s : State) (dt : Nat) (c : Cmd) (b : _), s.Ready .panelUpdate dt c ∧ Clean c [(32, 9)] 0 ∧ (c.u8 40) ≤ 15 ∧ (rectOf c 32).x % 8 = 0 ∧ (rectOf c 32).w % 8 = 0 ∧ 8 ≤ (rectOf c 32).w ∧ 8 ≤ (rectOf c 32).h ∧ s.inPanel (rectOf c 32) = true ∧ s.railsShort = false ∧ (s.pnl.tempOut = false ∨ (c.u8 40) = 3) ∧ s.activeSet = some b ∧ wfMode b (c.u8 40) = none) ∧
    (∃ (s : State) (dt : Nat) (c : Cmd) (b : _), s.Ready .panelUpdate dt c ∧ Clean c [(32, 9)] 0 ∧ (c.u8 40) ≤ 15 ∧ (rectOf c 32).x % 8 = 0 ∧ (rectOf c 32).w % 8 = 0 ∧ 8 ≤ (rectOf c 32).w ∧ 8 ≤ (rectOf c 32).h ∧ s.inPanel (rectOf c 32) = true ∧ s.railsShort = false ∧ (s.pnl.tempOut = false ∨ (c.u8 40) = 3) ∧ s.activeSet = some b ∧ (wfMode b (c.u8 40)).isSome = true ∧ s.hitsTile (rectOf c 32) none = true) ∧
    (∃ (s : State) (dt : Nat) (c : Cmd) (b : _), s.Ready .panelUpdate dt c ∧ Clean c [(32, 9)] 0 ∧ (c.u8 40) ≤ 15 ∧ (rectOf c 32).x % 8 = 0 ∧ (rectOf c 32).w % 8 = 0 ∧ 8 ≤ (rectOf c 32).w ∧ 8 ≤ (rectOf c 32).h ∧ s.inPanel (rectOf c 32) = true ∧ s.railsShort = false ∧ (s.pnl.tempOut = false ∨ (c.u8 40) = 3) ∧ s.activeSet = some b ∧ (wfMode b (c.u8 40)).isSome = true ∧ s.hitsTile (rectOf c 32) none = false ∧ s.mode .panel = false) ∧
    (∃ (s : State) (dt : Nat) (c : Cmd) (b : _), s.Ready .panelUpdate dt c ∧ Clean c [(32, 9)] 0 ∧ (c.u8 40) ≤ 15 ∧ (rectOf c 32).x % 8 = 0 ∧ (rectOf c 32).w % 8 = 0 ∧ 8 ≤ (rectOf c 32).w ∧ 8 ≤ (rectOf c 32).h ∧ s.inPanel (rectOf c 32) = true ∧ s.railsShort = false ∧ (s.pnl.tempOut = false ∨ (c.u8 40) = 3) ∧ s.activeSet = some b ∧ (wfMode b (c.u8 40)).isSome = true ∧ s.hitsTile (rectOf c 32) none = false ∧ s.mode .panel = true ∧ (s.pwr.state ≠ .run ∨ s.pwr.dormantGoing ≠ none)) ∧
    (∃ (s : State) (dt : Nat) (c : Cmd) (b : _), s.Ready .panelUpdate dt c ∧ Clean c [(32, 9)] 0 ∧ (c.u8 40) ≤ 15 ∧ (rectOf c 32).x % 8 = 0 ∧ (rectOf c 32).w % 8 = 0 ∧ 8 ≤ (rectOf c 32).w ∧ 8 ≤ (rectOf c 32).h ∧ s.inPanel (rectOf c 32) = true ∧ s.railsShort = false ∧ (s.pnl.tempOut = false ∨ (c.u8 40) = 3) ∧ s.activeSet = some b ∧ (wfMode b (c.u8 40)).isSome = true ∧ s.hitsTile (rectOf c 32) none = false ∧ s.mode .panel = true ∧ s.pwr.state = .run ∧ s.pwr.dormantGoing = none ∧ 64 ≤ s.pnl.queue.length) ∧
    (∃ (s : State) (dt : Nat) (c : Cmd) (b : _), s.Ready .panelUpdate dt c ∧ Clean c [(32, 9)] 0 ∧ (c.u8 40) ≤ 15 ∧ (rectOf c 32).x % 8 = 0 ∧ (rectOf c 32).w % 8 = 0 ∧ 8 ≤ (rectOf c 32).w ∧ 8 ≤ (rectOf c 32).h ∧ s.inPanel (rectOf c 32) = true ∧ s.railsShort = false ∧ (s.pnl.tempOut = false ∨ (c.u8 40) = 3) ∧ s.activeSet = some b ∧ (wfMode b (c.u8 40)).isSome = true ∧ s.hitsTile (rectOf c 32) none = false ∧ s.mode .panel = true ∧ s.pwr.state = .run ∧ s.pwr.dormantGoing = none ∧ s.pnl.queue.length < 64) ∧
    (∃ (s : State) (dt : Nat) (c : Cmd), s.Ready .tileImageLoad dt c ∧ Clean c [(32, 10), (48, 8)] 0 ∧ (c.u16 32) ≤ 511 ∧ (rectOf c 34).x % 8 = 0 ∧ (rectOf c 34).w % 8 = 0 ∧ 8 ≤ (rectOf c 34).w ∧ (rectOf c 34).w ≤ 512 ∧ 8 ≤ (rectOf c 34).h ∧ (rectOf c 34).h ≤ 512 ∧ (s.pnl.tiles.foldl (fun (k : Nat) t => match t.2 with | some t' => if t.1 = (c.u16 32) then k else k + t'.images.length | none => k) 0) + 4 * tileSize (rectOf c 34) ≤ 16777216 ∧ s.inPanel (rectOf c 34) = false) ∧
    (∃ (s : State) (dt : Nat) (c : Cmd), s.Ready .tileImageLoad dt c ∧ Clean c [(32, 10), (48, 8)] 0 ∧ (c.u16 32) ≤ 511 ∧ (rectOf c 34).x % 8 = 0 ∧ (rectOf c 34).w % 8 = 0 ∧ 8 ≤ (rectOf c 34).w ∧ (rectOf c 34).w ≤ 512 ∧ 8 ≤ (rectOf c 34).h ∧ (rectOf c 34).h ≤ 512 ∧ (s.pnl.tiles.foldl (fun (k : Nat) t => match t.2 with | some t' => if t.1 = (c.u16 32) then k else k + t'.images.length | none => k) 0) + 4 * tileSize (rectOf c 34) ≤ 16777216 ∧ s.inPanel (rectOf c 34) = true ∧ s.hitsTile (rectOf c 34) (some (c.u16 32)) = true) ∧
    (∃ (s : State) (dt : Nat) (c : Cmd), s.Ready .tileImageLoad dt c ∧ Clean c [(32, 10), (48, 8)] 0 ∧ (c.u16 32) ≤ 511 ∧ (rectOf c 34).x % 8 = 0 ∧ (rectOf c 34).w % 8 = 0 ∧ 8 ≤ (rectOf c 34).w ∧ (rectOf c 34).w ≤ 512 ∧ 8 ≤ (rectOf c 34).h ∧ (rectOf c 34).h ≤ 512 ∧ (s.pnl.tiles.foldl (fun (k : Nat) t => match t.2 with | some t' => if t.1 = (c.u16 32) then k else k + t'.images.length | none => k) 0) + 4 * tileSize (rectOf c 34) ≤ 16777216 ∧ s.inPanel (rectOf c 34) = true ∧ s.hitsTile (rectOf c 34) (some (c.u16 32)) = false ∧ s.hitsActive (rectOf c 34) = true) ∧
    (∃ (s : State) (dt : Nat) (c : Cmd) (env : Env), s.Ready .tileImageLoad dt c ∧ Clean c [(32, 10), (48, 8)] 0 ∧ (c.u16 32) ≤ 511 ∧ (rectOf c 34).x % 8 = 0 ∧ (rectOf c 34).w % 8 = 0 ∧ 8 ≤ (rectOf c 34).w ∧ (rectOf c 34).w ≤ 512 ∧ 8 ≤ (rectOf c 34).h ∧ (rectOf c 34).h ≤ 512 ∧ (s.pnl.tiles.foldl (fun (k : Nat) t => match t.2 with | some t' => if t.1 = (c.u16 32) then k else k + t'.images.length | none => k) 0) + 4 * tileSize (rectOf c 34) ≤ 16777216 ∧ s.inPanel (rectOf c 34) = true ∧ s.hitsTile (rectOf c 34) (some (c.u16 32)) = false ∧ s.hitsActive (rectOf c 34) = false ∧ env.dma = none) ∧
    (∃ (s : State) (dt : Nat) (c : Cmd) (env : Env) (l : _), s.Ready .tileImageLoad dt c ∧ Clean c [(32, 10), (48, 8)] 0 ∧ (c.u16 32) ≤ 511 ∧ (rectOf c 34).x % 8 = 0 ∧ (rectOf c 34).w % 8 = 0 ∧ 8 ≤ (rectOf c 34).w ∧ (rectOf c 34).w ≤ 512 ∧ 8 ≤ (rectOf c 34).h ∧ (rectOf c 34).h ≤ 512 ∧ (s.pnl.tiles.foldl (fun (k : Nat) t => match t.2 with | some t' => if t.1 = (c.u16 32) then k else k + t'.images.length | none => k) 0) + 4 * tileSize (rectOf c 34) ≤ 16777216 ∧ s.inPanel (rectOf c 34) = true ∧ s.hitsTile (rectOf c 34) (some (c.u16 32)) = false ∧ s.hitsActive (rectOf c 34) = false ∧ env.dma = some l) ∧
    (∃ (s : State) (dt : Nat) (c : Cmd), s.Ready .panelStatus dt c ∧ Clean c [] 0) ∧
    (∃ (s : State) (dt : Nat) (c : Cmd), s.Ready .panelPower dt c ∧ Clean c [(32, 1), (44, 2)] 0 ∧ c.u8 32 = 0 ∧ c.u16 44 ≤ 600) ∧
    (∃ (s : State) (dt : Nat) (c : Cmd), s.Ready .panelPower dt c ∧ Clean c [(32, 1), (44, 2)] 0 ∧ c.u8 32 = 1 ∧ (s.pnl.queue ≠ [] ∨ s.liveRegions ≠ [])) ∧
    (∃ (s : State) (dt : Nat) (c : Cmd) (env : Env) (v : List Int), s.Ready .panelPower dt c ∧ Clean c [(32, 1), (44, 2)] 0 ∧ v = [env.sense.getD 0 0, env.sense.getD 1 0, env.sense.getD 2 0, env.sense.getD 3 0, env.sense.getD 4 0] ∧ c.u8 32 = 1 ∧ s.pnl.queue = [] ∧ s.liveRegions = [] ∧ (∀ k, k ∈ s.railOrder → s.railOk k (v.getD k 0) = true)) ∧
    (∃ (s : State) (dt : Nat) (c : Cmd) (env : Env) (v : List Int) (k : _), s.Ready .panelPower dt c ∧ Clean c [(32, 1), (44, 2)] 0 ∧ v = [env.sense.getD 0 0, env.sense.getD 1 0, env.sense.getD 2 0, env.sense.getD 3 0, env.sense.getD 4 0] ∧ c.u8 32 = 1 ∧ s.pnl.queue = [] ∧ s.liveRegions = [] ∧ ((s.railOrder.find? fun k => !s.railOk k (v.getD k 0)) = some k)) :=
  ⟨⟨SD, 1000, pk [(32,2,256),(34,2,600),(36,2,1023),(38,2,330),(40,2,0x408B),(42,1,100),(44,2,600)], wfS, by unfold Clean; decide +kernel⟩,
   ⟨{S0 with pnl := {queue := [up]}}, 1000, pcf, by unfold Clean; decide +kernel⟩,
   ⟨S0, 1000, pcf, by unfold Clean; decide +kernel⟩,
   ⟨S0, 1000, pk [(32,2,2048),(34,2,1536),(36,2,300),(38,2,20),(40,2,0x408B),(42,1,1)], by unfold Clean; decide +kernel⟩,
   ⟨S0, 1000, pk [(40,8,4096),(48,4,1)], {}, by unfold Clean; decide +kernel⟩,
   ⟨S0, 1000, pk [(40,8,4096),(48,4,1)], {dma := some []}, [], 0, by unfold Clean; decide +kernel⟩,
   ⟨{SD with pnl := {SD.pnl with height := 1024}}, 1000, pk [(40,8,4096),(48,4,1136)], {dma := some wfB}, wfB, by decide +kernel, by unfold Clean; decide +kernel, by decide +kernel, by decide +kernel, by decide +kernel, rfl, wfB_load, by decide +kernel, by decide +kernel⟩,
   ⟨{S0 with pnl := {regions := [(3, {rg with set := 1, live := false})]}}, 1000, pk [(40,8,4096),(48,4,1136)], {dma := some wfB}, wfB, by decide +kernel, by unfold Clean; decide +kernel, by decide +kernel, by decide +kernel, by decide +kernel, rfl, wfB_load, by decide +kernel, by decide +kernel⟩,
   ⟨S0, 1000, pk [(40,8,4096),(48,4,1136)], {dma := some wfB}, wfB, by decide +kernel, by unfold Clean; decide +kernel, by decide +kernel, by decide +kernel, by decide +kernel, rfl, wfB_load, by decide +kernel, by decide +kernel⟩,
   ⟨SD, by decide +kernel⟩,
   ⟨SD, 1000, pk [(32,2,1017),(36,2,8),(38,2,8),(40,8,64)], by unfold Clean; decide +kernel⟩,
   ⟨{SD with pnl := {SD.pnl with regions := [(3, rg)]}}, 1000, pk [(32,2,7),(36,2,8),(38,2,8)], by unfold Clean; decide +kernel⟩,
   ⟨{SD with pnl := {SD.pnl with tiles := [(3, some ⟨⟨8,0,8,8⟩,[],0,none,false⟩)]}}, 1000, pk [(32,2,7),(36,2,8),(38,2,8)], by unfold Clean; decide +kernel⟩,
   ⟨SD, 1000, pk [(32,2,7),(36,2,8),(38,2,8)], {}, by unfold Clean; decide +kernel⟩,
   ⟨SD, 1000, pk [(32,2,1016),(34,2,255),(36,2,8),(38,2,1)], {dma := some [0x21,0x43,0x65,0x87]}, [0x21,0x43,0x65,0x87], by unfold Clean; decide +kernel⟩,
   ⟨SD, 1000, pk [(32,2,7),(36,2,8),(38,2,8),(40,1,15)], by unfold Clean; decide +kernel⟩,
   ⟨SD, 1000, pk [(32,2,8),(36,2,8),(38,2,7),(40,1,15)], by unfold Clean; decide +kernel⟩,
   ⟨SDs, 1000, pk [(32,2,8),(36,2,8),(38,2,8),(40,1,15)], by unfold Clean; decide +kernel⟩,
   ⟨{SD with pnl := {SD.pnl with tempOut := true}}, 1000, pk [(32,2,8),(36,2,8),(38,2,8),(40,1,1)], by unfold Clean; decide +kernel⟩,
   ⟨{SD with pnl := {SD.pnl with set0 := none}}, 1000, pk [(32,2,8),(36,2,8),(38,2,8),(40,1,15)], by unfold Clean; decide +kernel⟩,
   ⟨SD, 1000, pk [(32,2,8),(36,2,8),(38,2,8),(40,1,15)], wfS, by unfold Clean; decide +kernel⟩,
   ⟨{SD with pnl := {SD.pnl with tiles := [(3, some ⟨⟨8,0,8,8⟩,[],0,none,false⟩)]}}, 1000, pk [(32,2,8),(36,2,8),(38,2,8),(40,1,1)], wfS, by unfold Clean; decide +kernel⟩,
   ⟨{SD with mod := {cmd := 0}}, 1000, pk [(32,2,8),(36,2,8),(38,2,8),(40,1,1)], wfS, by unfold Clean; decide +kernel⟩,
   ⟨{SD with pwr := {S0.pwr with state := .holdover}}, 1000, pk [(32,2,8),(36,2,8),(38,2,8),(40,1,1)], wfS, by unfold Clean; decide +kernel⟩,
   ⟨{SD with pnl := {SD.pnl with queue := List.replicate 64 up}}, 1000, pk [(32,2,8),(36,2,8),(38,2,8),(40,1,1)], wfS, by unfold Clean; decide +kernel⟩,
   ⟨SD, 1000, pk [(32,2,1016),(34,2,248),(36,2,8),(38,2,8),(40,1,3)], wfS, by unfold Clean; decide +kernel⟩,
   ⟨SD, 1000, pk [(32,2,511),(34,2,1024),(38,2,8),(40,2,8),(48,8,64)], by unfold Clean; decide +kernel⟩,
   ⟨{SD with pnl := {SD.pnl with tiles := [(3, some ⟨⟨8,0,8,8⟩,[],0,none,false⟩)]}}, 1000, pk [(32,2,511),(34,2,8),(38,2,8),(40,2,8),(48,8,64)], by unfold Clean; decide +kernel⟩,
   ⟨{SD with pnl := {SD.pnl with regions := [(3, rg)]}}, 1000, pk [(32,2,511),(38,2,512),(40,2,8),(48,8,64)], by unfold Clean; decide +kernel⟩,
   ⟨SD, 1000, pk [(32,2,511),(38,2,8),(40,2,8),(48,8,64)], {}, by unfold Clean; decide +kernel⟩,
   ⟨SD, 1000, pk [(32,2,511),(38,2,8),(40,2,8),(48,8,64)], {dma := some (zeros 128)}, zeros 128, by unfold Clean; decide +kernel⟩,
   ⟨S0, 1000, pk [], by unfold Clean; decide +kernel⟩,
   ⟨SD, 1000, pk [(32,1,0),(44,2,600)], by unfold Clean; decide +kernel⟩,
   ⟨{SD with pnl := {SD.pnl with queue := [up]}}, 1000, pk [(32,1,1)], by unfold Clean; decide +kernel⟩,
   ⟨SD, 1000, pk [(32,1,1)], {sense := [15000, -15000, 22000, -20000, -1500]}, [15000, -15000, 22000, -20000, -1500], by unfold Clean; decide +kernel⟩,
   ⟨SD, 1000, pk [(32,1,1)], {sense := [15751, -15000, 22000, -20000, -1500]}, [15751, -15000, 22000, -20000, -1500], 0, by unfold Clean; decide +kernel⟩⟩

/-- What meets the hypotheses of `Obligations.PanelEvents`, clause by clause. -/
theorem witness_PanelEvents :
    (∃ (s : State), (s.pnl.railsUp = true ∨ s.updateDue = false ∨ s.mode .panel = false ∨ s.pwr.holdMv < 3000 ∨ s.railsShort = true ∨ s.pwr.state ≠ .run)) ∧
    (∃ (s : State) (v : Vector Int 5), s.pnl.railsUp = false ∧ s.updateDue = true ∧ s.mode .panel = true ∧ 3000 ≤ s.pwr.holdMv ∧ s.railsShort = false ∧ s.pwr.state = .run ∧ (∀ k, k ∈ s.railOrder → s.railOk k (v.toList.getD k 0) = true)) ∧
    (∃ (s : State) (v : Vector Int 5) (k : _), s.pnl.railsUp = false ∧ s.updateDue = true ∧ s.mode .panel = true ∧ 3000 ≤ s.pwr.holdMv ∧ s.railsShort = false ∧ s.pwr.state = .run ∧ ((s.railOrder.find? fun k => !s.railOk k (v.toList.getD k 0)) = some k)) ∧
    (∃ (s : State) (dt : Nat), (s.pnl.railsUp = false ∨ s.liveRegions ≠ [] ∨ (s.mode .panel = true ∧ s.now + dt < s.pnl.idleAt + 100000000 * s.pnl.railHold))) ∧
    (∃ (s : State) (dt : Nat), (s.pnl.railsUp = false ∨ s.liveRegions ≠ [] ∨ (s.mode .panel = true ∧ s.now + dt < s.pnl.idleAt + 100000000 * s.pnl.railHold))) ∧
    (∃ (s : State) (dt : Nat), s.pnl.railsUp = true ∧ s.liveRegions = [] ∧ (s.mode .panel = false ∨ s.pnl.idleAt + 100000000 * s.pnl.railHold ≤ s.now + dt)) ∧
    (∃ (s : State) (k : Fin 5) (mv : Int), (s.pnl.railsUp = false ∨ s.railOk k mv = true)) ∧
    (∃ (s : State) (k : Fin 5) (mv : Int), s.pnl.railsUp = true ∧ s.railOk k mv = false) ∧
    (∃ (s : State) (dt : Nat) (t : Nat), s.pnl.tempAt = some t ∧ s.now + dt < t + 1000000000) ∧
    (∃ (s : State) (dt : Nat) (v : Int), (∀ t, s.pnl.tempAt = some t → t + 1000000000 ≤ s.now + dt) ∧ -400 ≤ v ∧ v ≤ 850 ∧ s.activeSet = none) ∧
    (∃ (s : State) (dt : Nat) (v : Int) (b : List Byte), (∀ t, s.pnl.tempAt = some t → t + 1000000000 ≤ s.now + dt) ∧ -400 ≤ v ∧ v ≤ 850 ∧ s.activeSet = some b) ∧
    (∃ (s : State) (dt : Nat) (v : Int), (∀ t, s.pnl.tempAt = some t → t + 1000000000 ≤ s.now + dt) ∧ (v < -400 ∨ 850 < v)) ∧
    (∃ (s : State) (dt : Nat), (∀ t, s.pnl.tempAt = some t → t + 1000000000 ≤ s.now + dt)) ∧
    (∃ (s : State), s.pnl.sensorFault = none) ∧
    (∃ (s : State) (dt : Nat) (t : Nat), s.pnl.sensorFault = some t ∧ s.now + dt < t + 60000000000) ∧
    (∃ (s : State) (dt : Nat) (t : Nat), s.pnl.sensorFault = some t ∧ t + 60000000000 ≤ s.now + dt) ∧
    (∃ (s : State), s.railsShort = false ∧ (s.pnl.railsUp = false ∨ s.mode .panel = false ∨ s.pwr.state ≠ .run ∨ s.pwr.dormantGoing ≠ none ∨ s.activeSet = none ∨ s.nextUpdate = none)) ∧
    (∃ (s : State), s.railsShort = true ∧ s.pnl.queue = []) ∧
    (∃ (s : State) (u : _) (id : _) (ses : _), s.railsShort = true ∧ s.pnl.queue = [u] ∧ u.src = .host id ses) ∧
    (∃ (s : State) (b : List Byte) (u : Update), s.pnl.railsUp = true ∧ s.mode .panel = true ∧ s.pwr.state = .run ∧ s.pwr.dormantGoing = none ∧ s.railsShort = false ∧ s.activeSet = some b ∧ s.nextUpdate = some u ∧ (u.src = .balance ∨ (∃ n, u.src = .recovery n) ∨ ∃ n, u.src = .tile n)) ∧
    (∃ (s : State) (dt : Nat) (v : Option Int) (b : List Byte) (u : Update) (id : _) (ses : _), s.pnl.railsUp = true ∧ s.mode .panel = true ∧ s.pwr.state = .run ∧ s.pwr.dormantGoing = none ∧ s.railsShort = false ∧ s.activeSet = some b ∧ s.nextUpdate = some u ∧ u.src = .host id ses ∧ ((panelTemp v (s.advance dt)).pnl.tempOut = false ∨ u.mode = 3)) ∧
    (∃ (s : State) (dt : Nat) (v : Option Int) (b : List Byte) (u : Update) (id : _) (ses : _), s.pnl.railsUp = true ∧ s.mode .panel = true ∧ s.pwr.state = .run ∧ s.pwr.dormantGoing = none ∧ s.railsShort = false ∧ s.activeSet = some b ∧ s.nextUpdate = some u ∧ u.src = .host id ses ∧ (panelTemp v (s.advance dt)).pnl.tempOut = true ∧ u.mode ≠ 3) ∧
    (∃ (s : State) (dt : Nat), (s.pnl.railsUp = false ∨ s.liveRegions = [] ∨ ∃ t, s.pnl.frameAt = some t ∧ s.now + dt < t + s.framePeriod)) ∧
    (∃ (s : State) (dt : Nat) (n : Nat) (r : Region), s.pnl.railsUp = true ∧ (∀ t, s.pnl.frameAt = some t → t + s.framePeriod ≤ s.now + dt) ∧ s.pnl.regions = [(n, r)] ∧ r.live = true ∧ r.stop = false ∧ r.frame < r.frames) ∧
    (∃ (s : State) (dt : Nat) (n : Nat) (r : Region), s.pnl.railsUp = true ∧ (∀ t, s.pnl.frameAt = some t → t + s.framePeriod ≤ s.now + dt) ∧ s.pnl.regions = [(n, r)] ∧ r.live = true ∧ r.stop = false ∧ r.frames ≤ r.frame) ∧
    (∃ (s : State) (dt : Nat) (n : Nat) (r : Region), s.pnl.railsUp = true ∧ (∀ t, s.pnl.frameAt = some t → t + s.framePeriod ≤ s.now + dt) ∧ s.pnl.regions = [(n, r)] ∧ r.live = true ∧ r.stop = true ∧ r.frame % 4 ≠ 0 ∧ r.frame < r.frames) ∧
    (∃ (s : State) (dt : Nat) (n : Nat) (r : Region), s.pnl.railsUp = true ∧ (∀ t, s.pnl.frameAt = some t → t + s.framePeriod ≤ s.now + dt) ∧ s.pnl.regions = [(n, r)] ∧ r.live = true ∧ r.stop = true ∧ (r.frame % 4 = 0 ∨ r.frames ≤ r.frame)) ∧
    (∃ (s : State) (dt : Nat), (∀ u t, u ∈ s.pnl.queue → u.limit = some t → s.now + dt < t)) ∧
    (∃ (s : State) (dt : Nat) (t : Nat) (u : Update) (r : List Update) (id : _) (ses : _), s.pnl.queue = u :: r ∧ u.limit = some t ∧ t ≤ s.now + dt ∧ u.src = .host id ses) ∧
    (∃ (s : State) (dt : Nat) (t : Nat) (u : Update) (r : List Update), s.pnl.queue = u :: r ∧ u.limit = some t ∧ t ≤ s.now + dt ∧ (u.src = .balance ∨ (∃ n, u.src = .recovery n) ∨ ∃ n, u.src = .tile n)) ∧
    (∃ (s : State) (dt : Nat) (t : Nat) (u : Update) (r : List Update), s.pnl.queue = u :: r ∧ u.limit = some t ∧ t ≤ s.now + dt ∧ (u.src = .balance ∨ (∃ n, u.src = .recovery n) ∨ ∃ n, u.src = .tile n)) ∧
    (∃ (s : State) (n : Fin 24), s.pnl.height ≤ n.val * 64) ∧
    (∃ (s : State) (n : Fin 24), n.val * 64 < s.pnl.height) :=
  ⟨⟨S0, by decide +kernel⟩,
   ⟨SDq [up] [] false, #v[15000, -15000, 22000, -20000, -1500], by decide +kernel⟩,
   ⟨SDq [up] [] false, #v[15000, -15000, 22000, -18000, 0], 3, by decide +kernel⟩,
   ⟨S0, 1000, by decide +kernel⟩,
   ⟨{SD with pnl := {SD.pnl with railsUp := true, idleAt := 3000001001}}, 1000, by decide +kernel⟩,
   ⟨{SD with pnl := {SD.pnl with railsUp := true, idleAt := 3000001000}}, 1000, by decide +kernel⟩,
   ⟨SDq [] [] true, 4, -1550, by decide +kernel⟩,
   ⟨SDq [] [] true, 4, -1551, by decide +kernel⟩,
   ⟨{SD with pnl := {SD.pnl with tempAt := some 4000001001}}, 1000, 4000001001, by decide +kernel⟩,
   ⟨{S0 with pnl := {tempAt := some 4000001000}}, 1000, 850, by decide +kernel⟩,
   ⟨{SD with pnl := {SD.pnl with tempAt := some 4000001000}}, 1000, 850, wfS, by decide +kernel⟩,
   ⟨{SD with pnl := {SD.pnl with tempAt := some 4000001000}}, 1000, 851, by decide +kernel⟩,
   ⟨{S0 with pnl := {tempAt := some 4000001000}}, 1000, by decide +kernel⟩,
   ⟨S0, by decide +kernel⟩,
   ⟨{SD with pnl := {SD.pnl with sensorFault := some 1000}}, 1000, 1000, by decide +kernel⟩,
   ⟨{SD with now := 61000000000, pnl := {SD.pnl with sensorFault := some 1000001000}}, 1000, 1000001000, by decide +kernel⟩,
   ⟨S0, by decide +kernel⟩,
   ⟨SDs, by decide +kernel⟩,
   ⟨{SE [EJ .panelUpdate] with pnl := {SD.pnl with queue := [up]}, spr := SDs.spr}, up, 7, 0, by decide +kernel⟩,
   ⟨{SD with pnl := {SD.pnl with railsUp := true, queue := [{up with src := .balance}], target := [(16392, 3)]}}, wfS, {up with src := .balance}, by and_intros <;> first | decide +kernel | exact .inl rfl | exact .inr (.inr ⟨_, rfl⟩) | (intros; simp_all; done)⟩,
   ⟨{SD with pnl := {SD.pnl with railsUp := true, queue := [up]}}, 1000, some 200, wfS, up, 7, 0, by and_intros <;> first | decide +kernel | exact .inl rfl | exact .inr (.inr ⟨_, rfl⟩) | (intros; simp_all; done)⟩,
   ⟨{SD with pnl := {SD.pnl with railsUp := true, queue := [up]}}, 1000, some (-10), wfS, up, 7, 0, by decide +kernel⟩,
   ⟨S0, 1000, by decide +kernel⟩,
   ⟨{SD with pnl := {SD.pnl with railsUp := true, frameAt := some 4988001000, regions := [(3, rg)]}}, 1000, 3, rg, by decide +kernel⟩,
   ⟨{SD with pnl := {SD.pnl with railsUp := true, frameAt := some 4988001000, regions := [(3, {rg with frame := 5})]}}, 1000, 3, {rg with frame := 5}, by decide +kernel⟩,
   ⟨{SDq [] [(3, rgs 3)] true with pnl := {(SDq [] [(3, rgs 3)] true).pnl with frameAt := some 4988001000}}, 1000, 3, rgs 3, by decide +kernel⟩,
   ⟨SDq [] [(3, rgs 4)] true, 1000, 3, rgs 4, by decide +kernel⟩,
   ⟨{SD with pnl := {SD.pnl with queue := [up]}}, 1000, by intro u t h e; rw [List.mem_singleton.mp h] at e; cases e; decide +kernel⟩,
   ⟨{SE [{E0 with op := .panelUpdate, phase := .job, jobEnd := 9000000000}] with pnl := {SD.pnl with queue := [{up with limit := some 5000001000}]}}, 1000, 5000001000, {up with limit := some 5000001000}, [], 7, 0, by decide +kernel⟩,
   ⟨SDq [{up with src := .tile 3, limit := some 5000001000}] [] true, 1000, 5000001000, {up with src := .tile 3, limit := some 5000001000}, [], by and_intros <;> first | decide +kernel | exact .inl rfl | exact .inr (.inr ⟨_, rfl⟩) | (intros; simp_all; done)⟩,
   ⟨SDq [{up with src := .balance, limit := some 5000001000}] [] true, 1000, 5000001000, {up with src := .balance, limit := some 5000001000}, [], by and_intros <;> first | decide +kernel | exact .inl rfl | exact .inr (.inr ⟨_, rfl⟩) | (intros; simp_all; done)⟩,
   ⟨SD, 4, by decide +kernel⟩,
   ⟨SD, 3, by decide +kernel⟩⟩

/-- What meets the hypotheses of `Obligations.CommandFrames`, clause by clause. -/
theorem witness_CommandFrames :
    (∃ (s : State) (t : State) (i : Instr) (dt : Nat) (c : Cmd) (env : Env), i ∈ [.deviceReset dt c env, .modeRead dt c env, .channelRead dt c env, .tableRead dt c env, .pinRead dt c env, .pointRead dt c env, .programStatus dt c env, .variableRead dt c env, .ringStatus dt c env, .spareStatus dt c env, .wearRead dt c env, .recorderStatus dt c env, .quotaSet dt c env, .mirrorConfigure dt c env, .recordMark dt c env, .panelStatus dt c env, .sensorRead dt c env, .securityStatus dt c env, .sessionClose dt c env, .sessionRead dt c env, .echo dt c env, .flowOpen dt c env, .flowClose dt c env, .flowRead dt c env, .streamOpen dt c env, .streamClose dt c env, .budgetRead dt c env] ∧ exec i s = .next t) ∧
    (∃ (s : State) (t : State) (i : Instr) (dt : Nat) (c : Cmd) (env : Env), i ∈ [.firstoutReset dt c env] ∧ exec i s = .next t) ∧
    (∃ (s : State) (t : State) (i : Instr) (dt : Nat) (c : Cmd) (env : Env), i ∈ [.blankConfigure dt c env, .crosspointTest dt c env, .tableLoad dt c env, .outputWrite dt c env, .outputFaultClear dt c env, .outputHoldSet dt c env] ∧ exec i s = .next t) ∧
    (∃ (s : State) (t : State) (i : Instr) (dt : Nat) (c : Cmd) (env : Env), i ∈ [.digitalWrite dt c env, .counterReset dt c env, .digitalHoldSet dt c env] ∧ exec i s = .next t) ∧
    (∃ (s : State) (t : State) (i : Instr) (dt : Nat) (c : Cmd) (env : Env), i ∈ [.modeSet dt c env, .startWordSet dt c env, .profileSet dt c env, .seal dt c env, .debugClose dt c env] ∧ exec i s = .next t) ∧
    (∃ (s : State) (t : State) (i : Instr) (dt : Nat) (c : Cmd) (env : Env), i ∈ [.packageStage dt c env, .updateWindowSet dt c env] ∧ exec i s = .next t) ∧
    (∃ (s : State) (t : State) (i : Instr) (dt : Nat) (c : Cmd) (env : Env), i ∈ [.panelConfigure dt c env, .waveformLoad dt c env, .panelWrite dt c env, .panelUpdate dt c env, .tileImageLoad dt c env] ∧ exec i s = .next t) ∧
    (∃ (s : State) (t : State) (i : Instr) (dt : Nat) (c : Cmd) (env : Env), i ∈ [.programLoad dt c env, .programStart dt c env, .programStop dt c env, .variableForce dt c env, .setConfigure dt c env] ∧ exec i s = .next t) ∧
    (∃ (s : State) (t : State) (i : Instr) (dt : Nat) (c : Cmd) (env : Env), i ∈ [.dormantEnter dt c env] ∧ exec i s = .next t) ∧
    (∃ (s : State) (t : State) (i : Instr) (dt : Nat) (c : Cmd) (env : Env), i ∈ [.ringConfigure dt c env, .ringKeySet dt c env, .pairConfigure dt c env, .masterHandover dt c env] ∧ exec i s = .next t) ∧
    (∃ (s : State) (t : State) (i : Instr) (dt : Nat) (c : Cmd) (env : Env), i ∈ [.clockRead dt c env, .clockShift dt c env, .clockAlarmSet dt c env, .trimCurveLoad dt c env] ∧ exec i s = .next t) ∧
    (∃ (s : State) (t : State) (i : Instr) (dt : Nat) (c : Cmd) (env : Env), i ∈ [.tamperClear dt c env] ∧ exec i s = .next t) ∧
    (∃ (s : State) (t : State) (i : Instr) (dt : Nat) (c : Cmd) (env : Env), i ∈ [.recordRead dt c env, .healthRead dt c env] ∧ exec i s = .next t) ∧
    (∃ (s : State) (t : State) (i : Instr) (dt : Nat) (c : Cmd) (env : Env), i ∈ [.pinConfigure dt c env, .groupConfigure dt c env, .digitalFaultClear dt c env] ∧ exec i s = .next t) ∧
    (∃ (s : State) (t : State) (i : Instr) (dt : Nat) (c : Cmd) (env : Env), i ∈ [.channelConfigure dt c env, .conditionConfigure dt c env, .outputConfigure dt c env, .outputParallel dt c env, .sparePolicy dt c env] ∧ exec i s = .next t) ∧
    (∃ (s : State) (t : State) (i : Instr) (dt : Nat) (c : Cmd) (env : Env), i ∈ [.ownerKeyInstall dt c env, .ownerKeyRotate dt c env] ∧ exec i s = .next t) ∧
    (∃ (s : State) (t : State) (i : Instr) (dt : Nat) (c : Cmd) (env : Env), i ∈ [.provenSetAccept dt c env] ∧ exec i s = .next t) ∧
    (∃ (s : State) (t : State) (i : Instr) (dt : Nat) (c : Cmd) (env : Env), i ∈ [.cycleConfigure dt c env] ∧ exec i s = .next t) ∧
    (∃ (s : State) (t : State) (i : Instr) (dt : Nat) (c : Cmd) (env : Env), i ∈ [.leapSet dt c env] ∧ exec i s = .next t) ∧
    (∃ (s : State) (t : State) (i : Instr) (dt : Nat) (c : Cmd) (env : Env), i ∈ [.journalRead dt c env] ∧ exec i s = .next t) ∧
    (∃ (s : State) (t : State) (i : Instr) (dt : Nat) (c : Cmd) (env : Env), i ∈ [.dutySet dt c env, .tileBind dt c env] ∧ exec i s = .next t) ∧
    (∃ (s : State) (t : State) (i : Instr) (dt : Nat) (c : Cmd) (env : Env), i ∈ [.panelPower dt c env] ∧ exec i s = .next t) ∧
    (∃ (s : State) (t : State) (i : Instr) (dt : Nat) (c : Cmd) (env : Env), i ∈ [.channelCalibrate dt c env] ∧ exec i s = .next t) ∧
    (∃ (s : State) (t : State) (i : Instr) (dt : Nat) (c : Cmd) (env : Env), i ∈ [.spareSwap dt c env, .spareApprove dt c env] ∧ exec i s = .next t) ∧
    (∃ (s : State) (t : State) (i : Instr) (dt : Nat) (c : Cmd) (env : Env), i ∈ [.sessionOpen dt c env] ∧ exec i s = .next t) ∧
    (∃ (s : State) (t : State) (i : Instr) (dt : Nat) (c : Cmd) (env : Env), i ∈ [.alarmGroupConfigure dt c env, .chainConfigure dt c env, .callConfigure dt c env] ∧ exec i s = .next t) ∧
    (∃ (s : State) (t : State) (i : Instr) (dt : Nat) (c : Cmd) (env : Env), i ∈ [.pointConfigure dt c env, .alarmAck dt c env, .alarmSilence dt c env, .alarmShelve dt c env, .pointService dt c env, .derivedConfigure dt c env] ∧ exec i s = .next t) ∧
    (∃ (s : State) (t : State) (i : Instr) (dt : Nat) (c : Cmd) (env : Env), i ∈ [.timeConfigure dt c env] ∧ exec i s = .next t) ∧
    (∃ (s : State) (t : State) (i : Instr) (dt : Nat) (c : Cmd) (env : Env), i ∈ [.channelSimulate dt c env, .pinSimulate dt c env] ∧ exec i s = .next t) :=
  ⟨⟨S0, nx (exec (.deviceReset (5 : Nat) (pk [] : Cmd) ({} : Env) : Instr) (S0 : State)), .deviceReset (5 : Nat) (pk [] : Cmd) ({} : Env), 5, pk [], {}, .head _, rfl⟩,
   ⟨S0, nx (exec (.firstoutReset (5 : Nat) (pk [] : Cmd) ({} : Env) : Instr) (S0 : State)), .firstoutReset (5 : Nat) (pk [] : Cmd) ({} : Env), 5, pk [], {}, .head _, rfl⟩,
   ⟨S0, nx (exec (.blankConfigure (5 : Nat) (pk [] : Cmd) ({} : Env) : Instr) (S0 : State)), .blankConfigure (5 : Nat) (pk [] : Cmd) ({} : Env), 5, pk [], {}, .head _, rfl⟩,
   ⟨S0, nx (exec (.digitalWrite (5 : Nat) (pk [] : Cmd) ({} : Env) : Instr) (S0 : State)), .digitalWrite (5 : Nat) (pk [] : Cmd) ({} : Env), 5, pk [], {}, .head _, rfl⟩,
   ⟨S0, nx (exec (.modeSet (5 : Nat) (pk [] : Cmd) ({} : Env) : Instr) (S0 : State)), .modeSet (5 : Nat) (pk [] : Cmd) ({} : Env), 5, pk [], {}, .head _, rfl⟩,
   ⟨S0, nx (exec (.packageStage (5 : Nat) (pk [] : Cmd) ({} : Env) : Instr) (S0 : State)), .packageStage (5 : Nat) (pk [] : Cmd) ({} : Env), 5, pk [], {}, .head _, rfl⟩,
   ⟨S0, nx (exec (.panelConfigure (5 : Nat) (pk [] : Cmd) ({} : Env) : Instr) (S0 : State)), .panelConfigure (5 : Nat) (pk [] : Cmd) ({} : Env), 5, pk [], {}, .head _, rfl⟩,
   ⟨S0, nx (exec (.programLoad (5 : Nat) (pk [] : Cmd) ({} : Env) : Instr) (S0 : State)), .programLoad (5 : Nat) (pk [] : Cmd) ({} : Env), 5, pk [], {}, .head _, rfl⟩,
   ⟨S0, nx (exec (.dormantEnter (5 : Nat) (pk [] : Cmd) ({} : Env) : Instr) (S0 : State)), .dormantEnter (5 : Nat) (pk [] : Cmd) ({} : Env), 5, pk [], {}, .head _, rfl⟩,
   ⟨S0, nx (exec (.ringConfigure (5 : Nat) (pk [] : Cmd) ({} : Env) : Instr) (S0 : State)), .ringConfigure (5 : Nat) (pk [] : Cmd) ({} : Env), 5, pk [], {}, .head _, rfl⟩,
   ⟨S0, nx (exec (.clockRead (5 : Nat) (pk [] : Cmd) ({} : Env) : Instr) (S0 : State)), .clockRead (5 : Nat) (pk [] : Cmd) ({} : Env), 5, pk [], {}, .head _, rfl⟩,
   ⟨S0, nx (exec (.tamperClear (5 : Nat) (pk [] : Cmd) ({} : Env) : Instr) (S0 : State)), .tamperClear (5 : Nat) (pk [] : Cmd) ({} : Env), 5, pk [], {}, .head _, rfl⟩,
   ⟨S0, nx (exec (.recordRead (5 : Nat) (pk [] : Cmd) ({} : Env) : Instr) (S0 : State)), .recordRead (5 : Nat) (pk [] : Cmd) ({} : Env), 5, pk [], {}, .head _, rfl⟩,
   ⟨S0, nx (exec (.pinConfigure (5 : Nat) (pk [] : Cmd) ({} : Env) : Instr) (S0 : State)), .pinConfigure (5 : Nat) (pk [] : Cmd) ({} : Env), 5, pk [], {}, .head _, rfl⟩,
   ⟨S0, nx (exec (.channelConfigure (5 : Nat) (pk [] : Cmd) ({} : Env) : Instr) (S0 : State)), .channelConfigure (5 : Nat) (pk [] : Cmd) ({} : Env), 5, pk [], {}, .head _, rfl⟩,
   ⟨S0, nx (exec (.ownerKeyInstall (5 : Nat) (pk [] : Cmd) ({} : Env) : Instr) (S0 : State)), .ownerKeyInstall (5 : Nat) (pk [] : Cmd) ({} : Env), 5, pk [], {}, .head _, rfl⟩,
   ⟨S0, nx (exec (.provenSetAccept (5 : Nat) (pk [] : Cmd) ({} : Env) : Instr) (S0 : State)), .provenSetAccept (5 : Nat) (pk [] : Cmd) ({} : Env), 5, pk [], {}, .head _, rfl⟩,
   ⟨S0, nx (exec (.cycleConfigure (5 : Nat) (pk [] : Cmd) ({} : Env) : Instr) (S0 : State)), .cycleConfigure (5 : Nat) (pk [] : Cmd) ({} : Env), 5, pk [], {}, .head _, rfl⟩,
   ⟨S0, nx (exec (.leapSet (5 : Nat) (pk [] : Cmd) ({} : Env) : Instr) (S0 : State)), .leapSet (5 : Nat) (pk [] : Cmd) ({} : Env), 5, pk [], {}, .head _, rfl⟩,
   ⟨S0, nx (exec (.journalRead (5 : Nat) (pk [] : Cmd) ({} : Env) : Instr) (S0 : State)), .journalRead (5 : Nat) (pk [] : Cmd) ({} : Env), 5, pk [], {}, .head _, rfl⟩,
   ⟨S0, nx (exec (.dutySet (5 : Nat) (pk [] : Cmd) ({} : Env) : Instr) (S0 : State)), .dutySet (5 : Nat) (pk [] : Cmd) ({} : Env), 5, pk [], {}, .head _, rfl⟩,
   ⟨S0, nx (exec (.panelPower (5 : Nat) (pk [] : Cmd) ({} : Env) : Instr) (S0 : State)), .panelPower (5 : Nat) (pk [] : Cmd) ({} : Env), 5, pk [], {}, .head _, rfl⟩,
   ⟨S0, nx (exec (.channelCalibrate (5 : Nat) (pk [] : Cmd) ({} : Env) : Instr) (S0 : State)), .channelCalibrate (5 : Nat) (pk [] : Cmd) ({} : Env), 5, pk [], {}, .head _, rfl⟩,
   ⟨S0, nx (exec (.spareSwap (5 : Nat) (pk [] : Cmd) ({} : Env) : Instr) (S0 : State)), .spareSwap (5 : Nat) (pk [] : Cmd) ({} : Env), 5, pk [], {}, .head _, rfl⟩,
   ⟨S0, nx (exec (.sessionOpen (5 : Nat) (pk [] : Cmd) ({} : Env) : Instr) (S0 : State)), .sessionOpen (5 : Nat) (pk [] : Cmd) ({} : Env), 5, pk [], {}, .head _, rfl⟩,
   ⟨S0, nx (exec (.alarmGroupConfigure (5 : Nat) (pk [] : Cmd) ({} : Env) : Instr) (S0 : State)), .alarmGroupConfigure (5 : Nat) (pk [] : Cmd) ({} : Env), 5, pk [], {}, .head _, rfl⟩,
   ⟨S0, nx (exec (.pointConfigure (5 : Nat) (pk [] : Cmd) ({} : Env) : Instr) (S0 : State)), .pointConfigure (5 : Nat) (pk [] : Cmd) ({} : Env), 5, pk [], {}, .head _, rfl⟩,
   ⟨S0, nx (exec (.timeConfigure (5 : Nat) (pk [] : Cmd) ({} : Env) : Instr) (S0 : State)), .timeConfigure (5 : Nat) (pk [] : Cmd) ({} : Env), 5, pk [], {}, .head _, rfl⟩,
   ⟨S0, nx (exec (.channelSimulate (5 : Nat) (pk [] : Cmd) ({} : Env) : Instr) (S0 : State)), .channelSimulate (5 : Nat) (pk [] : Cmd) ({} : Env), 5, pk [], {}, .head _, rfl⟩⟩

/-- What meets the hypotheses of `Obligations.EventFrames`, clause by clause. -/
theorem witness_EventFrames :
    (∃ (s : State) (t : State) (i : Instr) (dt : Nat) (src : Fin 33) (l : List PeerSample), i ∈ [.samplesFrame dt src l] ∧ exec i s = .next t) ∧
    (∃ (s : State) (t : State) (i : Instr) (dt : Nat) (readback : Nat) (isl : Fin 8) (rate : Fin 17) (ch : Fin 64) (code : BitVec 24) (term : Fin 32), i ∈ [.sampleStrobe dt isl rate, .waveformWord dt ch ⟨code, readback⟩, .clampEnd dt isl term, .clampReclose dt isl term, .blankInputAssert dt isl, .blankInputDeassert dt isl, .pulseSourceOn dt ch, .pulseWindowOpen dt ch] ∧ exec i s = .next t) ∧
    (∃ (s : State) (t : State) (i : Instr) (dt : Nat) (opcode : BitVec 16) (c : Cmd) (rights : BitVec 4) (ses : Fin 64) (token : Word), i ∈ [.forwardedCommandReceive dt opcode c rights, .dupWindowExpiry dt ses token] ∧ exec i s = .next t) ∧
    (∃ (s : State) (t : State) (i : Instr) (dt : Nat) (ma : Nat) (pin : Fin 96), i ∈ [.driverCurrentLimit dt pin ma] ∧ exec i s = .next t) ∧
    (∃ (s : State) (t : State) (i : Instr) (dt : Nat) (pf : Fin 3) (vector : Fin 264) (cleared : Bool) (aspm : Bool), i ∈ [.msixVectorUnmask dt pf vector, .memorySpaceDisable dt pf cleared, .l1Entry dt aspm, .pcieCorrectableError dt, .smbusStatusRead dt] ∧ exec i s = .next t) ∧
    (∃ (s : State) (t : State) (i : Instr) (dt : Nat), i ∈ [.logSummary dt] ∧ exec i s = .next t) ∧
    (∃ (s : State) (t : State) (i : Instr) (dt : Nat), i ∈ [.panelRailDown dt] ∧ exec i s = .next t) ∧
    (∃ (s : State) (t : State) (i : Instr) (dt : Nat) (cycle : Nat) (src : Fin 33) (l : List ExportValue) (l2 : List RemoteValue) (set : Fin 16) (signature : Word) (members : BitVec 32) (missing : BitVec 32) (reduce : Bool) (sets : BitVec 16) (go : BitVec 16) (mismatch : BitVec 16), i ∈ [.importGather dt, .exportFrameReceive dt src cycle l, .outputFrameReceive dt src cycle l2, .readyFrameReceive dt src cycle set signature members reduce, .decisionFrameReceive dt src cycle sets go mismatch missing] ∧ exec i s = .next t) ∧
    (∃ (s : State) (t : State) (i : Instr) (dt : Nat) (src : Fin 6) (data : Byte), i ∈ [.dormantWake dt src, .vigilPowerOn dt, .catchupEnd dt, .smbusWake dt data] ∧ exec i s = .next t) ∧
    (∃ (s : State) (t : State) (i : Instr) (dt : Nat) (seg : Nat) (bits : Nat), i ∈ [.quotaReclaim dt, .nandScrub dt seg bits, .checkpointWrite dt] ∧ exec i s = .next t) ∧
    (∃ (s : State) (t : State) (i : Instr) (dt : Nat) (t1 : Nat) (t2 : Nat) (t3 : Nat) (t4 : Nat) (kind : Nat) (index : Nat) (port : Fin 2) (src : Fin 33) (dst : Fin 33) (add : Bool), i ∈ [.linkWordSend dt port, .masterLost dt, .announceSend dt, .ringKeyGraceEnd dt, .delayExchange dt port t1 t2 t3 t4, .syncSend dt, .ppsOutPulse dt, .subscribeFrame dt ⟨src, dst⟩ add kind index, .ringTxClockLoss dt] ∧ exec i s = .next t) ∧
    (∃ (s : State) (t : State) (i : Instr) (dt : Nat) (value : Word) (date : Bool) (ok : Bool) (temp : Int), i ∈ [.rtcSnapWrite dt value, .rtcHaltSet dt, .rtcCalendarWrite dt date value, .rtcShiftWrite dt value, .rtcSrcRetry dt, .trimWindow dt temp, .rtcSrcRetryEnd dt ok] ∧ exec i s = .next t) ∧
    (∃ (s : State) (t : State) (i : Instr) (dt : Nat), i ∈ [.tamperNRelease dt] ∧ exec i s = .next t) ∧
    (∃ (s : State) (t : State) (i : Instr) (dt : Nat), i ∈ [.proposalLapse dt] ∧ exec i s = .next t) ∧
    (∃ (s : State) (t : State) (i : Instr) (dt : Nat) (isl : Fin 14), i ∈ [.islandLinkLost dt isl, .islandLinkSilent dt isl, .islandLinkRestored dt isl] ∧ exec i s = .next t) ∧
    (∃ (s : State) (t : State) (i : Instr) (dt : Nat) (count : Nat) (flow : Fin 256) (src : Fin 33) (sev : Fin 5) (r : PeerRecord), i ∈ [.streamBlockComplete dt flow, .recordFrame dt src flow sev r, .recordCopyNand dt count] ∧ exec i s = .next t) ∧
    (∃ (s : State) (t : State) (i : Instr) (dt : Nat) (port : Fin 2), i ∈ [.portLockStable dt port, .linkEpochRenew dt port] ∧ exec i s = .next t) ∧
    (∃ (s : State) (t : State) (i : Instr) (dt : Nat) (ch : Fin 64), i ∈ [.achChRawRead dt ch, .achOutRbiRead dt ch] ∧ exec i s = .next t) ∧
    (∃ (s : State) (t : State) (i : Instr) (dt : Nat) (ses : Fin 64) (value : Word), i ∈ [.sessionRingEnable dt ses value] ∧ exec i s = .next t) ∧
    (∃ (s : State) (t : State) (i : Instr) (dt : Nat) (pin : Fin 96), i ∈ [.dchPinStatusRead dt pin] ∧ exec i s = .next t) ∧
    (∃ (s : State) (t : State) (i : Instr) (dt : Nat) (pf : Fin 2) (flow : Fin 256), i ∈ [.flushingReadIssue dt pf, .msixMessageDue dt flow] ∧ exec i s = .next t) ∧
    (∃ (s : State) (t : State) (i : Instr) (dt : Nat), i ∈ [.logBatchWrite dt] ∧ exec i s = .next t) ∧
    (∃ (s : State) (t : State) (i : Instr) (dt : Nat), i ∈ [.rtcSubsecRead dt] ∧ exec i s = .next t) ∧
    (∃ (s : State) (t : State) (i : Instr) (dt : Nat), i ∈ [.solve dt, .setDecision dt] ∧ exec i s = .next t) ∧
    (∃ (s : State) (t : State) (i : Instr) (dt : Nat), i ∈ [.holdoverPanelPark dt] ∧ exec i s = .next t) ∧
    (∃ (s : State) (t : State) (i : Instr) (dt : Nat) (src : Fin 33) (recs : List StoredRecord), i ∈ [.mirrorFrame dt src recs] ∧ exec i s = .next t) ∧
    (∃ (s : State) (t : State) (i : Instr) (dt : Nat) (group : Fin 256), i ∈ [.reflashEnd dt group] ∧ exec i s = .next t) ∧
    (∃ (s : State) (t : State) (i : Instr) (dt : Nat) (id : Nat) (code : Word) (payload : List Byte) (ses : Fin 64), i ∈ [.forwardAnswerReceive dt id code payload, .forwardNoAnswer dt id, .sessionGrantExpiry dt ses] ∧ exec i s = .next t) ∧
    (∃ (s : State) (t : State) (i : Instr) (dt : Nat) (group : Fin 256), i ∈ [.firstOutDecide dt group] ∧ exec i s = .next t) ∧
    (∃ (s : State) (t : State) (i : Instr) (dt : Nat) (isl : Fin 8) (dev : Vector Int 3) (term : Fin 32), i ∈ [.referenceVote dt isl dev, .clampOnset dt isl term, .blankHoldExpiry dt isl, .longBlanking dt isl, .outputHoldExpiry dt isl] ∧ exec i s = .next t) ∧
    (∃ (s : State) (t : State) (i : Instr) (dt : Nat) (ma : Nat) (ua : Nat) (mv : Nat) (pin : Fin 96) (isl : Fin 6), i ∈ [.openOnDetect dt pin ma, .wireBreakDetect dt pin ua, .lplusStateChange dt isl mv] ∧ exec i s = .next t) ∧
    (∃ (s : State) (t : State) (i : Instr) (dt : Nat), i ∈ [.dbgEnFall dt, .debugExpiry dt] ∧ exec i s = .next t) ∧
    (∃ (s : State) (t : State) (i : Instr) (dt : Nat), i ∈ [.mssHeartbeatLoss dt] ∧ exec i s = .next t) ∧
    (∃ (s : State) (t : State) (i : Instr) (dt : Nat) (t1 : Option Int) (band : Fin 24) (bad : Bool), i ∈ [.panelTempRead dt t1, .panelSensorTimeout dt, .frameMemoryScrub dt band bad] ∧ exec i s = .next t) ∧
    (∃ (s : State) (t : State) (i : Instr) (dt : Nat), i ∈ [.solveOverrun dt] ∧ exec i s = .next t) ∧
    (∃ (s : State) (t : State) (i : Instr) (dt : Nat) (mv : Nat) (dv : Nat) (input : Fin 2) (state : Fin 3), i ∈ [.supplyInputChange dt input state mv, .holdCapMeasure dt dv mv, .holdLowCheck dt mv, .holdCharged dt mv] ∧ exec i s = .next t) ∧
    (∃ (s : State) (t : State) (i : Instr) (dt : Nat) (port : Fin 2) (word : BitVec 56) (cause : Fin 9) (node : Fin 33) (src : Fin 33) (kcv : Word) (epoch : Word) (rseq : Word) (dup : Bool) (alarm : Bool) (absent : Bool) (los : Bool) (ev : RingEvent) (diag : List Byte), i ∈ [.linkWordReceive dt port word, .portDown dt port cause, .linkWordTimeout dt port, .linkUpFrame dt port node kcv epoch dup, .ringEventFrame dt src ev, .standbyTakeover dt, .nodeAdmit dt node, .electionEnd dt, .splitHeal dt, .handoverSwitch dt, .ringKeySwitch dt, .timeHoldoverTimeout dt, .timeFreeTimeout dt, .ppsInLoss dt, .mirrorAckFrame dt src rseq, .mirrorResend dt, .sfpDiagPoll dt port diag alarm, .sfpModuleEvent dt port absent los] ∧ exec i s = .next t) ∧
    (∃ (s : State) (t : State) (i : Instr) (dt : Nat) (xtal2 : Bool), i ∈ [.rtcOscFail dt xtal2] ∧ exec i s = .next t) ∧
    (∃ (s : State) (t : State) (i : Instr) (dt : Nat) (block2 : Nat) (block : Fin 3) (lane : Fin 3) (cause : Fin 3) (ok : Bool) (page : Fin 524544), i ∈ [.laneSelfTestEnd dt block lane ok, .pageCorrectedError dt page, .nandBlockFail dt block2 cause] ∧ exec i s = .next t) ∧
    (∃ (s : State) (t : State) (i : Instr) (dt : Nat) (pf : Fin 2) (flow : Fin 256) (value : Word), i ∈ [.flushReadTimeout dt pf, .flwHeadWrite dt flow value, .flwCtlArm dt flow value] ∧ exec i s = .next t) ∧
    (∃ (s : State) (t : State) (i : Instr) (dt : Nat), i ∈ [.alarmEvalResume dt] ∧ exec i s = .next t) ∧
    (∃ (s : State) (t : State) (i : Instr) (dt : Nat) (ch : Fin 64), i ∈ [.setPointApply dt ch] ∧ exec i s = .next t) ∧
    (∃ (s : State) (t : State) (i : Instr) (dt : Nat) (ch : Fin 64), i ∈ [.calCaptureEnd dt ch] ∧ exec i s = .next t) ∧
    (∃ (s : State) (t : State) (i : Instr) (dt : Nat) (t1 : Option Int), i ∈ [.panelUpdateStart dt t1, .panelFrame dt, .panelQueueTimeout dt] ∧ exec i s = .next t) ∧
    (∃ (s : State) (t : State) (i : Instr) (dt : Nat) (node : Fin 33), i ∈ [.memberDrop dt node] ∧ exec i s = .next t) ∧
    (∃ (s : State) (t : State) (i : Instr) (dt : Nat) (ma : Nat) (pin : Fin 96) (still : Bool) (isl : Fin 6) (quad : Fin 4) (cur : Vector Nat 4), i ∈ [.shortLimitTimeout dt pin still ma, .shortRetry dt pin, .thermalShutdown dt pin, .thermalReenable dt pin, .groupMemberCheck dt isl quad cur, .digitalHoldExpiry dt isl] ∧ exec i s = .next t) ∧
    (∃ (s : State) (t : State) (i : Instr) (dt : Nat) (mj : Nat), i ∈ [.holdoverSeal dt mj] ∧ exec i s = .next t) ∧
    (∃ (s : State) (t : State) (i : Instr) (dt : Nat), i ∈ [.rtcHaltRelease dt, .rtcHaltTimeout dt] ∧ exec i s = .next t) ∧
    (∃ (s : State) (t : State) (i : Instr) (dt : Nat) (port : Fin 2) (f : RingFrame), i ∈ [.ringFrameReceive dt port f] ∧ exec i s = .next t) ∧
    (∃ (s : State) (t : State) (i : Instr) (dt : Nat), i ∈ [.hostReady dt] ∧ exec i s = .next t) ∧
    (∃ (s : State) (t : State) (i : Instr) (dt : Nat) (ses : Fin 64) (value : BitVec 16) (opcode : BitVec 16) (c : Cmd) (err : Option (Fin 3)) (pf : Fin 2) (speed : Fin 4) (width : Fin 5) (pf2 : Fin 3) (cleared : Bool) (entered : Bool) (kind : PcieError) (status : Word) (header : List Byte), i ∈ [.glbSesDbWrite dt ses value, .commandFetch dt ses opcode c err, .itemWriteDue dt, .flushingReadCompletion dt pf, .linkWidthChange dt speed width, .linkDown dt, .busMasterDisable dt pf2 cleared, .d3hotEntry dt pf2 entered, .pcieUncorrectableError dt pf2 kind status header] ∧ exec i s = .next t) ∧
    (∃ (s : State) (t : State) (i : Instr) (dt : Nat) (index : Fin 40) (v : Option (BitVec 16)), i ∈ [.sensorSample dt index v] ∧ exec i s = .next t) ∧
    (∃ (s : State) (t : State) (i : Instr) (dt : Nat) (count : Nat) (isl : Fin 8) (acked : Bool), i ∈ [.sampleFrameReceive dt isl count acked] ∧ exec i s = .next t) ∧
    (∃ (s : State) (t : State) (i : Instr) (dt : Nat) (pin : Fin 96) (rising : Bool), i ∈ [.countEdge dt pin rising, .doStateApply dt pin] ∧ exec i s = .next t) ∧
    (∃ (s : State) (t : State) (i : Instr) (dt : Nat) (ch : Fin 64), i ∈ [.channelSwitchClose dt ch] ∧ exec i s = .next t) ∧
    (∃ (s : State) (t : State) (i : Instr) (dt : Nat) (mv : Nat) (isl : Fin 6), i ∈ [.railSwapStep dt ⟨isl, mv⟩] ∧ exec i s = .next t) ∧
    (∃ (s : State) (t : State) (i : Instr) (dt : Nat) (port : Fin 2) (f : CycleFrame), i ∈ [.cycleFrameReceive dt port f] ∧ exec i s = .next t) ∧
    (∃ (s : State) (t : State) (i : Instr) (dt : Nat), i ∈ [.rtcSecond dt] ∧ exec i s = .next t) ∧
    (∃ (s : State) (t : State) (i : Instr) (dt : Nat) (rail : Fin 5) (mv : Int), i ∈ [.railFault dt rail mv] ∧ exec i s = .next t) ∧
    (∃ (s : State) (t : State) (i : Instr) (dt : Nat), i ∈ [.programAutostart dt] ∧ exec i s = .next t) ∧
    (∃ (s : State) (t : State) (i : Instr) (dt : Nat) (isl : Fin 14) (share : Fin 101) (ok : BitVec 2), i ∈ [.supplyPhaseCheck dt isl share ok] ∧ exec i s = .next t) ∧
    (∃ (s : State) (t : State) (i : Instr) (dt : Nat), i ∈ [.dutySelectorStable dt, .dutySelectorInvalid dt] ∧ exec i s = .next t) ∧
    (∃ (s : State) (t : State) (i : Instr) (dt : Nat) (mv : Nat), i ∈ [.vbatLow dt mv] ∧ exec i s = .next t) ∧
    (∃ (s : State) (t : State) (i : Instr) (dt : Nat) (offset : Nat) (size : Nat) (pf : Fin 3), i ∈ [.register64LowRead dt pf ⟨offset, size⟩] ∧ exec i s = .next t) ∧
    (∃ (s : State) (t : State) (i : Instr) (dt : Nat), i ∈ [.hostRefclkLoss dt, .activationWindowExpiry dt, .stageJobEnd dt] ∧ exec i s = .next t) ∧
    (∃ (s : State) (t : State) (i : Instr) (dt : Nat), i ∈ [.trialProven dt] ∧ exec i s = .next t) ∧
    (∃ (s : State) (t : State) (i : Instr) (dt : Nat) (mvOn : Nat) (mvOff : Nat) (ua : Nat) (mohm : Nat) (ma : Nat) (pct : Nat) (mv : Nat) (level : Nat) (ch : Fin 64) (fails : List Nat) (pin : Fin 96) (rose : Option Bool) (isl : Fin 8) (slice : Fin 10) (env : Env), i ∈ [.excitationChange dt ⟨ch, fails⟩, .offStateTest dt pin mvOn ⟨mvOff, ua⟩, .ronMeasure dt pin mohm ⟨ma, rose⟩, .spareReferenceCheck dt isl slice pct, .directSwap dt ⟨ch, fails⟩, .cellSwapVolt dt ch mv level env] ∧ exec i s = .next t) ∧
    (∃ (s : State) (t : State) (i : Instr) (dt : Nat) (point : Fin 4096) (sup : Bool) (index : Fin 256) (chain : Fin 16), i ∈ [.alarmSample dt, .delayExpiry dt point, .staleTimeout dt point sup, .votePartnerTimeout dt point, .faultSourceChange dt index, .suppressionRelease dt point, .silenceExpiry dt point, .shelveExpiry dt point, .escalationStepDue dt point, .ackPinEdge dt chain, .silencePinEdge dt chain] ∧ exec i s = .next t) ∧
    (∃ (s : State) (t : State) (i : Instr) (dt : Nat), i ∈ [.cycleSnap dt] ∧ exec i s = .next t) ∧
    (∃ (s : State) (t : State) (i : Instr) (dt : Nat) (ppm : Nat) (excursion : Nat) (ch : Fin 64) (r : Reading) (r2 : Readback) (fails : List Nat) (isl : Fin 8) (slice : Fin 10), i ∈ [.precisionSample dt ch r, .pulseReadbackCheck dt ch ppm, .outputReadbackSample dt ch r2, .sliceAudit dt ⟨ch, fails⟩ excursion, .forcedSliceSwap dt isl slice] ∧ exec i s = .next t) ∧
    (∃ (s : State) (t : State) (i : Instr) (dt : Nat) (mv : Vector Int 5) (ripple : Vector Nat 4), i ∈ [.panelRailUp dt mv ripple] ∧ exec i s = .next t) ∧
    (∃ (s : State) (t : State) (i : Instr) (dt : Nat), i ∈ [.cycleCommit dt] ∧ exec i s = .next t) ∧
    (∃ (s : State) (t : State) (i : Instr) (dt : Nat) (since : Nat) (pin : Fin 96) (level : Bool), i ∈ [.inputTransitionAccepted dt pin level since, .inputPeriodicSample dt pin, .countSample dt pin, .freqGateEnd dt pin] ∧ exec i s = .next t) ∧
    (∃ (s : State) (t : State) (i : Instr) (dt : Nat) (answer : BitVec 14), i ∈ [.restartLinksUp dt answer] ∧ exec i s = .next t) ∧
    (∃ (s : State) (t : State) (i : Instr) (dt : Nat) (time : Nat) (dir : Fin 2) (src : Fin 33) (hops : Fin 32) (falling : Bool), i ∈ [.syncReceive dt dir src hops time, .ppsInEdge dt falling] ∧ exec i s = .next t) ∧
    (∃ (s : State) (t : State) (i : Instr) (dt : Nat) (lanes : BitVec 9) (hashBad : BitVec 10), i ∈ [.resetRelease dt lanes hashBad] ∧ exec i s = .next t) ∧
    (∃ (s : State) (t : State) (i : Instr) (dt : Nat) (isl : Fin 14) (answered : Bool) (ms : Fin 201), i ∈ [.islandImageRestart dt isl answered ms] ∧ exec i s = .next t) ∧
    (∃ (s : State) (t : State) (i : Instr) (dt : Nat) (id : Nat), i ∈ [.jobBoundReached dt id] ∧ exec i s = .next t) ∧
    (∃ (s : State) (t : State) (i : Instr) (dt : Nat), i ∈ [.tamperAssert dt] ∧ exec i s = .next t) :=
  ⟨⟨S0, nx (exec (.samplesFrame (5 : Nat) (0 : Fin 33) ([] : List PeerSample) : Instr) (S0 : State)), .samplesFrame (5 : Nat) (0 : Fin 33) ([] : List PeerSample), 5, 0, [], .head _, rfl⟩,
   ⟨S0, nx (exec (.sampleStrobe (5 : Nat) (0 : Fin 8) (0 : Fin 17) : Instr) (S0 : State)), .sampleStrobe (5 : Nat) (0 : Fin 8) (0 : Fin 17), 5, 5, 0, 0, 0, 0, 0, .head _, rfl⟩,
   ⟨S0, nx (exec (.forwardedCommandReceive (5 : Nat) (0 : BitVec 16) (pk [] : Cmd) (0 : BitVec 4) : Instr) (S0 : State)), .forwardedCommandReceive (5 : Nat) (0 : BitVec 16) (pk [] : Cmd) (0 : BitVec 4), 5, 0, pk [], 0, 0, 0, .head _, rfl⟩,
   ⟨S0, nx (exec (.driverCurrentLimit (5 : Nat) (0 : Fin 96) (5 : Nat) : Instr) (S0 : State)), .driverCurrentLimit (5 : Nat) (0 : Fin 96) (5 : Nat), 5, 5, 0, .head _, rfl⟩,
   ⟨S0, nx (exec (.msixVectorUnmask (5 : Nat) (0 : Fin 3) (0 : Fin 264) : Instr) (S0 : State)), .msixVectorUnmask (5 : Nat) (0 : Fin 3) (0 : Fin 264), 5, 0, 0, true, true, .head _, rfl⟩,
   ⟨S0, nx (exec (.logSummary (5 : Nat) : Instr) (S0 : State)), .logSummary (5 : Nat), 5, .head _, rfl⟩,
   ⟨S0, nx (exec (.panelRailDown (5 : Nat) : Instr) (S0 : State)), .panelRailDown (5 : Nat), 5, .head _, rfl⟩,
   ⟨S0, nx (exec (.importGather (5 : Nat) : Instr) (S0 : State)), .importGather (5 : Nat), 5, 5, 0, [], [], 0, 0, 0, 0, true, 0, 0, 0, .head _, rfl⟩,
   ⟨S0, nx (exec (.dormantWake (5 : Nat) (0 : Fin 6) : Instr) (S0 : State)), .dormantWake (5 : Nat) (0 : Fin 6), 5, 0, 0, .head _, rfl⟩,
   ⟨S0, nx (exec (.quotaReclaim (5 : Nat) : Instr) (S0 : State)), .quotaReclaim (5 : Nat), 5, 5, 5, .head _, rfl⟩,
   ⟨S0, nx (exec (.linkWordSend (5 : Nat) (0 : Fin 2) : Instr) (S0 : State)), .linkWordSend (5 : Nat) (0 : Fin 2), 5, 5, 5, 5, 5, 5, 5, 0, 0, 0, true, .head _, rfl⟩,
   ⟨S0, nx (exec (.rtcSnapWrite (5 : Nat) (0 : Word) : Instr) (S0 : State)), .rtcSnapWrite (5 : Nat) (0 : Word), 5, 0, true, true, 5, .head _, rfl⟩,
   ⟨S0, nx (exec (.tamperNRelease (5 : Nat) : Instr) (S0 : State)), .tamperNRelease (5 : Nat), 5, .head _, rfl⟩,
   ⟨S0, nx (exec (.proposalLapse (5 : Nat) : Instr) (S0 : State)), .proposalLapse (5 : Nat), 5, .head _, rfl⟩,
   ⟨S0, nx (exec (.islandLinkLost (5 : Nat) (0 : Fin 14) : Instr) (S0 : State)), .islandLinkLost (5 : Nat) (0 : Fin 14), 5, 0, .head _, rfl⟩,
   ⟨S0, nx (exec (.streamBlockComplete (5 : Nat) (0 : Fin 256) : Instr) (S0 : State)), .streamBlockComplete (5 : Nat) (0 : Fin 256), 5, 5, 0, 0, 0, ⟨5, 5, 5, 1, 0, [], 5⟩, .head _, rfl⟩,
   ⟨S0, nx (exec (.portLockStable (5 : Nat) (0 : Fin 2) : Instr) (S0 : State)), .portLockStable (5 : Nat) (0 : Fin 2), 5, 0, .head _, rfl⟩,
   ⟨S0, nx (exec (.achChRawRead (5 : Nat) (0 : Fin 64) : Instr) (S0 : State)), .achChRawRead (5 : Nat) (0 : Fin 64), 5, 0, .head _, rfl⟩,
   ⟨S0, nx (exec (.sessionRingEnable (5 : Nat) (0 : Fin 64) (0 : Word) : Instr) (S0 : State)), .sessionRingEnable (5 : Nat) (0 : Fin 64) (0 : Word), 5, 0, 0, .head _, rfl⟩,
   ⟨S0, nx (exec (.dchPinStatusRead (5 : Nat) (0 : Fin 96) : Instr) (S0 : State)), .dchPinStatusRead (5 : Nat) (0 : Fin 96), 5, 0, .head _, rfl⟩,
   ⟨S0, nx (exec (.flushingReadIssue (5 : Nat) (0 : Fin 2) : Instr) (S0 : State)), .flushingReadIssue (5 : Nat) (0 : Fin 2), 5, 0, 0, .head _, rfl⟩,
   ⟨S0, nx (exec (.logBatchWrite (5 : Nat) : Instr) (S0 : State)), .logBatchWrite (5 : Nat), 5, .head _, rfl⟩,
   ⟨S0, nx (exec (.rtcSubsecRead (5 : Nat) : Instr) (S0 : State)), .rtcSubsecRead (5 : Nat), 5, .head _, rfl⟩,
   ⟨S0, nx (exec (.solve (5 : Nat) : Instr) (S0 : State)), .solve (5 : Nat), 5, .head _, rfl⟩,
   ⟨S0, nx (exec (.holdoverPanelPark (5 : Nat) : Instr) (S0 : State)), .holdoverPanelPark (5 : Nat), 5, .head _, rfl⟩,
   ⟨S0, nx (exec (.mirrorFrame (5 : Nat) (0 : Fin 33) ([] : List StoredRecord) : Instr) (S0 : State)), .mirrorFrame (5 : Nat) (0 : Fin 33) ([] : List StoredRecord), 5, 0, [], .head _, rfl⟩,
   ⟨S0, nx (exec (.reflashEnd (5 : Nat) (0 : Fin 256) : Instr) (S0 : State)), .reflashEnd (5 : Nat) (0 : Fin 256), 5, 0, .head _, rfl⟩,
   ⟨S0, nx (exec (.forwardAnswerReceive (5 : Nat) (5 : Nat) (0 : Word) ([] : List Byte) : Instr) (S0 : State)), .forwardAnswerReceive (5 : Nat) (5 : Nat) (0 : Word) ([] : List Byte), 5, 5, 0, [], 0, .head _, rfl⟩,
   ⟨S0, nx (exec (.firstOutDecide (5 : Nat) (0 : Fin 256) : Instr) (S0 : State)), .firstOutDecide (5 : Nat) (0 : Fin 256), 5, 0, .head _, rfl⟩,
   ⟨S0, nx (exec (.referenceVote (5 : Nat) (0 : Fin 8) (#v[0, 0, 0] : Vector Int 3) : Instr) (S0 : State)), .referenceVote (5 : Nat) (0 : Fin 8) (#v[0, 0, 0] : Vector Int 3), 5, 0, #v[0, 0, 0], 0, .head _, rfl⟩,
   ⟨S0, nx (exec (.openOnDetect (5 : Nat) (0 : Fin 96) (5 : Nat) : Instr) (S0 : State)), .openOnDetect (5 : Nat) (0 : Fin 96) (5 : Nat), 5, 5, 5, 5, 0, 0, .head _, rfl⟩,
   ⟨S0, nx (exec (.dbgEnFall (5 : Nat) : Instr) (S0 : State)), .dbgEnFall (5 : Nat), 5, .head _, rfl⟩,
   ⟨S0, nx (exec (.mssHeartbeatLoss (5 : Nat) : Instr) (S0 : State)), .mssHeartbeatLoss (5 : Nat), 5, .head _, rfl⟩,
   ⟨S0, nx (exec (.panelTempRead (5 : Nat) (none : Option Int) : Instr) (S0 : State)), .panelTempRead (5 : Nat) (none : Option Int), 5, none, 0, true, .head _, rfl⟩,
   ⟨S0, nx (exec (.solveOverrun (5 : Nat) : Instr) (S0 : State)), .solveOverrun (5 : Nat), 5, .head _, rfl⟩,
   ⟨S0, nx (exec (.supplyInputChange (5 : Nat) (0 : Fin 2) (0 : Fin 3) (5 : Nat) : Instr) (S0 : State)), .supplyInputChange (5 : Nat) (0 : Fin 2) (0 : Fin 3) (5 : Nat), 5, 5, 5, 0, 0, .head _, rfl⟩,
   ⟨S0, nx (exec (.linkWordReceive (5 : Nat) (0 : Fin 2) (0 : BitVec 56) : Instr) (S0 : State)), .linkWordReceive (5 : Nat) (0 : Fin 2) (0 : BitVec 56), 5, 0, 0, 0, 0, 0, 0, 0, 0, true, true, true, true, .portDown 0 0, [], .head _, rfl⟩,
   ⟨S0, nx (exec (.rtcOscFail (5 : Nat) (true : Bool) : Instr) (S0 : State)), .rtcOscFail (5 : Nat) (true : Bool), 5, true, .head _, rfl⟩,
   ⟨S0, nx (exec (.laneSelfTestEnd (5 : Nat) (0 : Fin 3) (0 : Fin 3) (true : Bool) : Instr) (S0 : State)), .laneSelfTestEnd (5 : Nat) (0 : Fin 3) (0 : Fin 3) (true : Bool), 5, 5, 0, 0, 0, true, 0, .head _, rfl⟩,
   ⟨S0, nx (exec (.flushReadTimeout (5 : Nat) (0 : Fin 2) : Instr) (S0 : State)), .flushReadTimeout (5 : Nat) (0 : Fin 2), 5, 0, 0, 0, .head _, rfl⟩,
   ⟨S0, nx (exec (.alarmEvalResume (5 : Nat) : Instr) (S0 : State)), .alarmEvalResume (5 : Nat), 5, .head _, rfl⟩,
   ⟨S0, nx (exec (.setPointApply (5 : Nat) (0 : Fin 64) : Instr) (S0 : State)), .setPointApply (5 : Nat) (0 : Fin 64), 5, 0, .head _, rfl⟩,
   ⟨S0, nx (exec (.calCaptureEnd (5 : Nat) (0 : Fin 64) : Instr) (S0 : State)), .calCaptureEnd (5 : Nat) (0 : Fin 64), 5, 0, .head _, rfl⟩,
   ⟨S0, nx (exec (.panelUpdateStart (5 : Nat) (none : Option Int) : Instr) (S0 : State)), .panelUpdateStart (5 : Nat) (none : Option Int), 5, none, .head _, rfl⟩,
   ⟨S0, nx (exec (.memberDrop (5 : Nat) (0 : Fin 33) : Instr) (S0 : State)), .memberDrop (5 : Nat) (0 : Fin 33), 5, 0, .head _, rfl⟩,
   ⟨S0, nx (exec (.shortLimitTimeout (5 : Nat) (0 : Fin 96) (true : Bool) (5 : Nat) : Instr) (S0 : State)), .shortLimitTimeout (5 : Nat) (0 : Fin 96) (true : Bool) (5 : Nat), 5, 5, 0, true, 0, 0, #v[0, 0, 0, 0], .head _, rfl⟩,
   ⟨S0, nx (exec (.holdoverSeal (5 : Nat) (5 : Nat) : Instr) (S0 : State)), .holdoverSeal (5 : Nat) (5 : Nat), 5, 5, .head _, rfl⟩,
   ⟨S0, nx (exec (.rtcHaltRelease (5 : Nat) : Instr) (S0 : State)), .rtcHaltRelease (5 : Nat), 5, .head _, rfl⟩,
   ⟨S0, nx (exec (.ringFrameReceive (5 : Nat) (0 : Fin 2) (frm : RingFrame) : Instr) (S0 : State)), .ringFrameReceive (5 : Nat) (0 : Fin 2) (frm : RingFrame), 5, 0, frm, .head _, rfl⟩,
   ⟨S0, nx (exec (.hostReady (5 : Nat) : Instr) (S0 : State)), .hostReady (5 : Nat), 5, .head _, rfl⟩,
   ⟨S0, nx (exec (.glbSesDbWrite (5 : Nat) (0 : Fin 64) (0 : BitVec 16) : Instr) (S0 : State)), .glbSesDbWrite (5 : Nat) (0 : Fin 64) (0 : BitVec 16), 5, 0, 0, 0, pk [], none, 0, 0, 0, 0, true, true, .internal, 0, [], .head _, rfl⟩,
   ⟨S0, nx (exec (.sensorSample (5 : Nat) (0 : Fin 40) (none : Option (BitVec 16)) : Instr) (S0 : State)), .sensorSample (5 : Nat) (0 : Fin 40) (none : Option (BitVec 16)), 5, 0, none, .head _, rfl⟩,
   ⟨S0, nx (exec (.sampleFrameReceive (5 : Nat) (0 : Fin 8) (5 : Nat) (true : Bool) : Instr) (S0 : State)), .sampleFrameReceive (5 : Nat) (0 : Fin 8) (5 : Nat) (true : Bool), 5, 5, 0, true, .head _, rfl⟩,
   ⟨S0, nx (exec (.countEdge (5 : Nat) (0 : Fin 96) (true : Bool) : Instr) (S0 : State)), .countEdge (5 : Nat) (0 : Fin 96) (true : Bool), 5, 0, true, .head _, rfl⟩,
   ⟨S0, nx (exec (.channelSwitchClose (5 : Nat) (0 : Fin 64) : Instr) (S0 : State)), .channelSwitchClose (5 : Nat) (0 : Fin 64), 5, 0, .head _, rfl⟩,
   ⟨S0, nx (exec (.railSwapStep (5 : Nat) ⟨(0 : Fin 6), (5 : Nat)⟩ : Instr) (S0 : State)), .railSwapStep (5 : Nat) ⟨(0 : Fin 6), (5 : Nat)⟩, 5, 5, 0, .head _, rfl⟩,
   ⟨S0, nx (exec (.cycleFrameReceive (5 : Nat) (0 : Fin 2) (⟨1, 9, 5, 1, 0, 0, 0, 0, 0, 0, 0⟩ : CycleFrame) : Instr) (S0 : State)), .cycleFrameReceive (5 : Nat) (0 : Fin 2) (⟨1, 9, 5, 1, 0, 0, 0, 0, 0, 0, 0⟩ : CycleFrame), 5, 0, ⟨1, 9, 5, 1, 0, 0, 0, 0, 0, 0, 0⟩, .head _, rfl⟩,
   ⟨S0, nx (exec (.rtcSecond (5 : Nat) : Instr) (S0 : State)), .rtcSecond (5 : Nat), 5, .head _, rfl⟩,
   ⟨S0, nx (exec (.railFault (5 : Nat) (0 : Fin 5) (5 : Int) : Instr) (S0 : State)), .railFault (5 : Nat) (0 : Fin 5) (5 : Int), 5, 0, 5, .head _, rfl⟩,
   ⟨S0, nx (exec (.programAutostart (5 : Nat) : Instr) (S0 : State)), .programAutostart (5 : Nat), 5, .head _, rfl⟩,
   ⟨S0, nx (exec (.supplyPhaseCheck (5 : Nat) (0 : Fin 14) (0 : Fin 101) (0 : BitVec 2) : Instr) (S0 : State)), .supplyPhaseCheck (5 : Nat) (0 : Fin 14) (0 : Fin 101) (0 : BitVec 2), 5, 0, 0, 0, .head _, rfl⟩,
   ⟨S0, nx (exec (.dutySelectorStable (5 : Nat) : Instr) (S0 : State)), .dutySelectorStable (5 : Nat), 5, .head _, rfl⟩,
   ⟨S0, nx (exec (.vbatLow (5 : Nat) (5 : Nat) : Instr) (S0 : State)), .vbatLow (5 : Nat) (5 : Nat), 5, 5, .head _, rfl⟩,
   ⟨S0, nx (exec (.register64LowRead (5 : Nat) (0 : Fin 3) ⟨(5 : Nat), (5 : Nat)⟩ : Instr) (S0 : State)), .register64LowRead (5 : Nat) (0 : Fin 3) ⟨(5 : Nat), (5 : Nat)⟩, 5, 5, 5, 0, .head _, rfl⟩,
   ⟨S0, nx (exec (.hostRefclkLoss (5 : Nat) : Instr) (S0 : State)), .hostRefclkLoss (5 : Nat), 5, .head _, rfl⟩,
   ⟨S0, nx (exec (.trialProven (5 : Nat) : Instr) (S0 : State)), .trialProven (5 : Nat), 5, .head _, rfl⟩,
   ⟨S0, nx (exec (.excitationChange (5 : Nat) ⟨(0 : Fin 64), ([] : List Nat)⟩ : Instr) (S0 : State)), .excitationChange (5 : Nat) ⟨(0 : Fin 64), ([] : List Nat)⟩, 5, 5, 5, 5, 5, 5, 5, 5, 5, 0, [], 0, none, 0, 0, {}, .head _, rfl⟩,
   ⟨S0, nx (exec (.alarmSample (5 : Nat) : Instr) (S0 : State)), .alarmSample (5 : Nat), 5, 0, true, 0, 0, .head _, rfl⟩,
   ⟨S0, nx (exec (.cycleSnap (5 : Nat) : Instr) (S0 : State)), .cycleSnap (5 : Nat), 5, .head _, rfl⟩,
   ⟨S0, nx (exec (.precisionSample (5 : Nat) (0 : Fin 64) (⟨0, 5, none, none, 0, []⟩ : Reading) : Instr) (S0 : State)), .precisionSample (5 : Nat) (0 : Fin 64) (⟨0, 5, none, none, 0, []⟩ : Reading), 5, 5, 5, 0, ⟨0, 5, none, none, 0, []⟩, rdb, [], 0, 0, .head _, rfl⟩,
   ⟨S0, nx (exec (.panelRailUp (5 : Nat) (#v[0, 0, 0, 0, 0] : Vector Int 5) (#v[0, 0, 0, 0] : Vector Nat 4) : Instr) (S0 : State)), .panelRailUp (5 : Nat) (#v[0, 0, 0, 0, 0] : Vector Int 5) (#v[0, 0, 0, 0] : Vector Nat 4), 5, #v[0, 0, 0, 0, 0], #v[0, 0, 0, 0], .head _, rfl⟩,
   ⟨S0, nx (exec (.cycleCommit (5 : Nat) : Instr) (S0 : State)), .cycleCommit (5 : Nat), 5, .head _, rfl⟩,
   ⟨S0, nx (exec (.inputTransitionAccepted (5 : Nat) (0 : Fin 96) (true : Bool) (5 : Nat) : Instr) (S0 : State)), .inputTransitionAccepted (5 : Nat) (0 : Fin 96) (true : Bool) (5 : Nat), 5, 5, 0, true, .head _, rfl⟩,
   ⟨S0, nx (exec (.restartLinksUp (5 : Nat) (0 : BitVec 14) : Instr) (S0 : State)), .restartLinksUp (5 : Nat) (0 : BitVec 14), 5, 0, .head _, rfl⟩,
   ⟨S0, nx (exec (.syncReceive (5 : Nat) (0 : Fin 2) (0 : Fin 33) (0 : Fin 32) (5 : Nat) : Instr) (S0 : State)), .syncReceive (5 : Nat) (0 : Fin 2) (0 : Fin 33) (0 : Fin 32) (5 : Nat), 5, 5, 0, 0, 0, true, .head _, rfl⟩,
   ⟨S0, nx (exec (.resetRelease (5 : Nat) (0 : BitVec 9) (0 : BitVec 10) : Instr) (S0 : State)), .resetRelease (5 : Nat) (0 : BitVec 9) (0 : BitVec 10), 5, 0, 0, .head _, rfl⟩,
   ⟨S0, nx (exec (.islandImageRestart (5 : Nat) (0 : Fin 14) (true : Bool) (0 : Fin 201) : Instr) (S0 : State)), .islandImageRestart (5 : Nat) (0 : Fin 14) (true : Bool) (0 : Fin 201), 5, 0, true, 0, .head _, rfl⟩,
   ⟨S0, nx (exec (.jobBoundReached (5 : Nat) (5 : Nat) : Instr) (S0 : State)), .jobBoundReached (5 : Nat) (5 : Nat), 5, 5, .head _, rfl⟩,
   ⟨S0, nx (exec (.tamperAssert (5 : Nat) : Instr) (S0 : State)), .tamperAssert (5 : Nat), 5, .head _, rfl⟩⟩

/-! ### Clauses that rest on a free predicate of `Config`

What is free (signatures, digests, peers' rates) stands as a premise. -/

/-- A package of these header bytes around a payload. -/
def pkgOf (head digest body : List Byte) : List Byte := head ++ fitBytes 48 digest ++ zeros 176 ++ body

theorem pkgOf_drop (fields : List (Nat × Nat × Nat)) (d b : List Byte) (h : (ex 32 fields).length = 32) : (pkgOf (ex 32 fields) d b).drop 256 = b := by
  apply List.drop_left'
  simp only [List.length_append, h, fitBytes, zeros, List.length_replicate, List.length_take]
  omega

theorem pkgOf_length (fields : List (Nat × Nat × Nat)) (d b : List Byte) (h : (ex 32 fields).length = 32) :
    (pkgOf (ex 32 fields) d b).length = 256 + b.length := by
  simp only [pkgOf, List.length_append, h, fitBytes, zeros, List.length_replicate, List.length_take]
  omega

/-- A program image of one block: variable 64 is the negation of variable 65. -/
def imgOf (crc : Nat) (body : List Byte) : List Byte :=
  ex 56 [(0,4,0x31504744),(4,2,1),(8,4,1),(12,4,66),(32,4,64),(36,4,64),(40,4,64),(44,4,328),(48,8,7)] ++ le 4 crc ++ zeros 4 ++ body
def imgBody : List Byte :=
  (List.range 66).flatMap (fun v => le 2 (if v < 64 then sysType v else 0) ++ [0xFF, 0xFF]) ++
  ex 32 [(0,2,0x0104),(4,2,0xFFFF),(6,2,0xFFFF),(8,2,65),(10,2,0xFFFF),(12,4,0xFFFFFFFF),(16,4,0xFFFFFFFF),(20,2,0xFFFF),(22,2,64),(24,4,0xFFFFFFFF)]
def imgB : List Byte := imgOf (crc32c imgBody) imgBody

theorem imgB_header : headerBad imgB = none := by
  have c : crc32c (imgB.drop 64) = hdr imgB 56 4 := by
    have g (v : Nat) (b : List Byte) : hdr (imgOf v b) 56 4 = v % 2 ^ 32 := by
      show (BitVec.ofNat 8 v).toNat + 256 * ((BitVec.ofNat 8 (v / 256)).toNat + 256 * ((BitVec.ofNat 8 (v / 256 / 256)).toNat +
        256 * ((BitVec.ofNat 8 (v / 256 / 256 / 256)).toNat + 256 * 0))) = v % 2 ^ 32
      simp only [BitVec.toNat_ofNat]; omega
    have d (v : Nat) (b : List Byte) : (imgOf v b).drop 64 = b := rfl
    have l (b : List Byte) : crc32c b < 2 ^ 32 := by unfold crc32c; exact BitVec.isLt _
    have m (b : List Byte) : crc32c ((imgOf (crc32c b) b).drop 64) = hdr (imgOf (crc32c b) b) 56 4 := by
      rw [d, g, Nat.mod_eq_of_lt (l b)]
    exact m imgBody
  unfold headerBad
  dsimp only
  rw [c]
  simp only [ne_eq, not_true_eq_false, decide_false]
  decide +kernel

theorem imgB_vars : (imageOf imgB).vars = (List.range 66).map fun v => { typ := if v < 64 then sysType v else 0, init := 0xFFFF } := by decide +kernel
theorem imgB_blocks : (imageOf imgB).blocks =
    [⟨0x0104, false, 0xFFFF, 0xFFFF, [65, 0xFFFF, 0xFFFF, 0xFFFF, 0xFFFF, 0xFFFF, 0xFFFF], [64, 0xFFFF, 0xFFFF], 0⟩] := by decide +kernel
theorem imgB_reserved : reservedBad imgB = none := by decide +kernel

theorem firstBad_none (l : List (Option Bad)) (h : l.all (·.isNone) = true) : firstBad l = none := by
  induction l with
  | nil => rfl
  | cons a r ih =>
    simp only [List.all_cons, Bool.and_eq_true, Option.isNone_iff_eq_none] at h
    rw [h.1]; exact ih h.2

theorem imgB_checks (i : Image) (hv : i.vars = (List.range 66).map fun v => { typ := if v < 64 then sysType v else 0, init := 0xFFFF })
    (hc : i.consts = []) (hb : i.binds = []) (hk : i.blocks =
      [⟨0x0104, false, 0xFFFF, 0xFFFF, [65, 0xFFFF, 0xFFFF, 0xFFFF, 0xFFFF, 0xFFFF, 0xFFFF], [64, 0xFFFF, 0xFFFF], 0⟩]) :
    firstBad ([none] ++
      (i.vars.zipIdx.map fun (v, k) => firstBad [
        badIf (decide (k < 64) && v.typ ≠ sysType k) 0x0A k 0,
        badIf (v.init ≠ 0xFFFF && decide (i.consts.length ≤ v.init)) 5 k 0,
        badIf (v.typ = 2 && v.init ≠ 0xFFFF && !f32Finite (constAs 2 (i.consts.getD v.init 0)).real) 0x0B k 0]) ++
      [badIf (decide (1024 < (i.vars.filter (·.retain)).length)) 0x0C 0 0] ++
      (i.blocks.zipIdx.map fun (b, k) => blockBad i b k) ++
      [badIf (!distinct i.writers) 6 0 0, badIf (!distinct (i.blocks.flatMap Blk.resources)) 8 0 0, none]) = none := by
  obtain ⟨_, _, _, _, _, _, _, _, _⟩ := i
  subst hv hc hb hk
  apply firstBad_none
  simp only [List.all_append, Bool.and_eq_true]
  refine ⟨⟨⟨⟨rfl, ?_⟩, ?_⟩, ?_⟩, ?_⟩ <;> rfl

theorem image_good (l : List Byte) (s : State) (h : headerBad l = none) (r : reservedBad l = none)
    (v : (imageOf l).vars = (List.range 66).map fun v => { typ := if v < 64 then sysType v else 0, init := 0xFFFF })
    (c : (imageOf l).consts = []) (e : (imageOf l).binds = []) (k : (imageOf l).blocks =
      [⟨0x0104, false, 0xFFFF, 0xFFFF, [65, 0xFFFF, 0xFFFF, 0xFFFF, 0xFFFF, 0xFFFF, 0xFFFF], [64, 0xFFFF, 0xFFFF], 0⟩]) : imageBad l s = none := by
  unfold imageBad
  rw [h, r]
  generalize imageOf l = i at *
  have b : bindsBad i s = none := by
    unfold bindsBad
    rw [e]; rfl
  dsimp only
  rw [b]
  exact imgB_checks i v c e k

/-- The loader accepts the image. -/
theorem imgB_good (s : State) : imageBad imgB s = none :=
  image_good imgB s imgB_header imgB_reserved imgB_vars (by decide +kernel) (by decide +kernel) imgB_blocks

/-- A package of that image signed as in OPEN (R557), and one of KIND 0 without payload. -/
def pkgB : List Byte :=
  pkgOf (ex 32 [(0,4,0x4B504744),(4,2,1),(6,1,5),(7,1,2),(16,2,0xFFFF),(20,4,360)]) (Config.sha384 imgB) imgB
def pkg0 : List Byte := pkgOf (ex 32 [(0,4,0x4B504744),(4,2,1),(16,2,0xFFFF)]) (Config.sha384 []) []
def pl : Cmd := pk [(32,1,1),(40,8,4096),(48,4,616)]

theorem pkgB_payload : pkgPayload pkgB = imgB := by
  have d : pkgB.drop 256 = imgB := pkgOf_drop _ _ _ rfl
  have n : imgB.length = 360 := by decide +kernel
  rw [pkgPayload, d, show leAt pkgB 20 4 = 360 by decide +kernel, List.take_of_length_le (Nat.le_of_eq n)]

theorem pl_takes_pkgB : pkgB.take (pl.u32 48) = pkgB := by
  have m : imgB.length = 360 := by decide +kernel
  have n : pkgB.length = 616 := by rw [pkgB, pkgOf_length _ _ _ (by decide +kernel), m]
  rw [show pl.u32 48 = 616 by decide +kernel, List.take_of_length_le (Nat.le_of_eq n)]

theorem witness_program_load (h : packageBad pkgB (SG.entered .programLoad 1000 pl) = none) :
    ∃ (s : State) (dt : Nat) (c : Cmd) (env : Env) (l : List Byte) (i : Image), s.Ready .programLoad dt c ∧ Clean c [(32, 1), (40, 12)] 0 ∧
      c.u8 32 ≤ 1 ∧ c.u64 40 % 4096 = 0 ∧ c.u32 48 ≠ 0 ∧ c.u32 48 ≤ 2097152 ∧
      (s.prg.slot ≠ c.u8 32 ∨ (s.prg.stateNum ≠ 2 ∧ s.prg.stateNum ≠ 3)) ∧ env.dma = some l ∧
      packageBad (l.take (c.u32 48)) (s.entered .programLoad dt c) = none ∧ pkgKind l = 5 ∧
      imageBad (pkgPayload l) (s.entered .programLoad dt c) = none ∧ i = imageOf (pkgPayload l) :=
  ⟨SG, 1000, pl, { dma := some pkgB }, pkgB, _, by decide +kernel, by unfold Clean; decide +kernel, by decide +kernel, by decide +kernel,
    by decide +kernel, by decide +kernel, by decide +kernel, rfl, by rw [pl_takes_pkgB]; exact h, by decide +kernel,
    by rw [pkgB_payload]; exact imgB_good _, rfl⟩

/-- A package of a program image without bytes. -/
def pkgE : List Byte := pkgOf (ex 32 [(0,4,0x4B504744),(4,2,1),(6,1,5),(7,1,2),(16,2,0xFFFF)]) (Config.sha384 []) []
def ple : Cmd := pk [(32,1,1),(40,8,4096),(48,4,256)]

theorem witness_program_load_of_a_bad_image (h : packageBad pkgE (SG.entered .programLoad 1000 ple) = none) :
    ∃ (s : State) (dt : Nat) (c : Cmd) (env : Env) (l : List Byte) (b : Bad), s.Ready .programLoad dt c ∧ Clean c [(32, 1), (40, 12)] 0 ∧
      c.u8 32 ≤ 1 ∧ c.u64 40 % 4096 = 0 ∧ c.u32 48 ≠ 0 ∧ c.u32 48 ≤ 2097152 ∧
      (s.prg.slot ≠ c.u8 32 ∨ (s.prg.stateNum ≠ 2 ∧ s.prg.stateNum ≠ 3)) ∧ env.dma = some l ∧
      packageBad (l.take (c.u32 48)) (s.entered .programLoad dt c) = none ∧ pkgKind l = 5 ∧
      imageBad (pkgPayload l) (s.entered .programLoad dt c) = some b := by
  have n : pkgE.length = 256 := by rw [pkgE, pkgOf_length _ _ _ (by decide +kernel)]; rfl
  have t : pkgE.take (ple.u32 48) = pkgE := by
    rw [show ple.u32 48 = 256 by decide +kernel, List.take_of_length_le (Nat.le_of_eq n)]
  have d : pkgPayload pkgE = [] := by
    rw [pkgPayload, show pkgE.drop 256 = [] from pkgOf_drop _ _ _ rfl]; rfl
  exact ⟨SG, 1000, ple, { dma := some pkgE }, pkgE, (1, 0, 0), by decide +kernel, by unfold Clean; decide +kernel, by decide +kernel,
    by decide +kernel, by decide +kernel, by decide +kernel, by decide +kernel, rfl, by rw [t]; exact h, by decide +kernel, by rw [d]; rfl⟩

theorem witness_package_stage (h : packageBad pkg0 SV = none) :
    ∃ (s : State) (dt : Nat) (c : Cmd) (env : Env) (l : List Byte) (b : Bank), s.Ready .packageStage dt c ∧ Clean c [(32, 1), (40, 12)] 0 ∧ c.u8 32 ≤ 4 ∧ c.u64 40 % 4096 = 0 ∧
      s.pwr.state ≠ .holdover ∧ s.updatesAllowed = true ∧ s.jobOn (c.u8 32) = none ∧ s.provenBank (c.u8 32) = false ∧ env.dma = some l ∧
      judgePackage (c.u8 32) (l.take (c.u32 48)) s = .inr b := by
  let c := pk [(40,8,4096),(48,4,256)]
  have t : pkg0.take (c.u32 48) = pkg0 := by
    have n : pkg0.length = 256 := by rw [pkg0, pkgOf_length _ _ _ (by decide +kernel)]; rfl
    rw [show c.u32 48 = 256 by decide +kernel, List.take_of_length_le (Nat.le_of_eq n)]
  refine ⟨SV, 1000, c, { dma := some pkg0 }, pkg0, imageOfPackage pkg0 [], by decide +kernel, by unfold Clean; decide +kernel, by decide +kernel, by decide +kernel,
    by decide +kernel, by decide +kernel, by decide +kernel, by decide +kernel, rfl, ?_⟩
  rw [t, show c.u8 32 = 0 by decide +kernel, judgePackage, if_neg (by decide +kernel : ¬ pkgKind pkg0 ≠ 0), h]
  rfl

/-- An owner key. -/
def SKo : State := { S0 with mod := { S0.mod with life := .sealed }, sec := { ownerKey := some [4] } }

/-- SESSION_OPEN of session 63 with the grant of the owner for it, and OWNER_KEY_ROTATE. -/
def so : Cmd := pk [(32,1,63),(40,8,64)] (ex 480 [(128,2,1),(130,1,15),(132,8,serialNo),(140,8,6000000000),(148,8,0x8000000000000000)])
def kr : Cmd := pk [] (ex 224 [(0,1,4)])

theorem witness_session_open (h : grantOk (SKo.entered .sessionOpen 1000 so) 63 (fitBytes 480 so.ext) = true) :
    ∃ (s : State) (dt : Nat) (c : Cmd) (x : List Byte) (n : Nat), s.Ready .sessionOpen dt c ∧ x = fitBytes 480 c.ext ∧ n = c.u8 32 ∧ Clean c [(32, 1), (40, 8)] 480 ∧
      c.paramLen = 480 ∧ zeroAt x [(97, 31), (131, 1), (156, 4), (257, 31)] = true ∧ c.u64 40 % 64 = 0 ∧ leAt x 128 2 = 1 ∧ byteAt x 130 ≤ 15 ∧
      n ≤ 63 ∧ s.sessionOpen n = false ∧ grantOk (s.entered .sessionOpen dt c) n x = true :=
  ⟨SKo, 1000, so, _, 63, by decide +kernel, rfl, by decide +kernel, by unfold Clean; decide +kernel, by decide +kernel, by decide +kernel, by decide +kernel,
    by decide +kernel, by decide +kernel, by decide +kernel, by decide +kernel, h⟩

theorem witness_owner_key_rotate
    (h : Config.ecdsaOk [4] (Config.sha384 ((fitBytes 224 kr.ext).take 97 ++ le 8 serialNo)) (((fitBytes 224 kr.ext).drop 128).take 96) = true) :
    ∃ (s : State) (dt : Nat) (c : Cmd) (x k : List Byte), s.Ready .ownerKeyRotate dt c ∧ x = fitBytes 224 c.ext ∧ Clean c [] 224 ∧ c.paramLen = 224 ∧ zeroAt x [(97, 31)] = true ∧
      byteAt (x.take 97) 0 = 4 ∧ s.sec.ownerSlots < 8 ∧ s.sec.ownerKey = some k ∧
      Config.ecdsaOk k (Config.sha384 (x.take 97 ++ le 8 serialNo)) ((x.drop 128).take 96) = true :=
  ⟨SKo, 1000, kr, _, [4], by decide +kernel, rfl, by unfold Clean; decide +kernel, by decide +kernel, by decide +kernel, by decide +kernel, by decide +kernel, rfl, h⟩

theorem witness_pair_configure (h : mkRat (SR.chan 63).rate.1 (SR.chan 63).rate.2 = Config.peerRate 2 1 5)
    (k : subscriptionsFail (SR.entered .pairConfigure 1000 (pk [(34,1,63),(35,1,2),(36,1,5)])) (SR.newSubs [(1, 2, 5)]) = none) :
    ∃ (s : State) (dt : Nat) (c : Cmd), s.Ready .pairConfigure dt c ∧ Clean c [(32, 5)] 0 ∧ c.u8 32 ≤ 31 ∧ c.u8 33 = 0 ∧ c.u8 34 ≤ 63 ∧ c.u8 36 ≤ 63 ∧ 1 ≤ c.u8 35 ∧
      c.u8 35 ≤ 32 ∧ c.u8 35 ≠ s.rng.node ∧ mkRat (s.chan (c.u8 34)).rate.1 (s.chan (c.u8 34)).rate.2 = Config.peerRate (c.u8 35) 1 (c.u8 36) ∧
      subscriptionsFail (s.entered .pairConfigure dt c) (s.newSubs [(1, c.u8 35, c.u8 36)]) = none :=
  ⟨SR, 1000, pk [(34,1,63),(35,1,2),(36,1,5)], by decide +kernel, by unfold Clean; decide +kernel, by decide +kernel, by decide +kernel, by decide +kernel,
    by decide +kernel, by decide +kernel, by decide +kernel, by decide +kernel, h, k⟩

theorem witness_pair_of_another_rate (h : mkRat (SR.chan 63).rate.1 (SR.chan 63).rate.2 ≠ Config.peerRate 2 1 5) :
    ∃ (s : State) (dt : Nat) (c : Cmd), s.Ready .pairConfigure dt c ∧ Clean c [(32, 5)] 0 ∧ c.u8 32 ≤ 31 ∧ c.u8 33 = 0 ∧ c.u8 34 ≤ 63 ∧
      c.u8 36 ≤ 63 ∧ 1 ≤ c.u8 35 ∧ c.u8 35 ≤ 32 ∧ c.u8 35 ≠ s.rng.node ∧
      mkRat (s.chan (c.u8 34)).rate.1 (s.chan (c.u8 34)).rate.2 ≠ Config.peerRate (c.u8 35) 1 (c.u8 36) :=
  ⟨SR, 1000, pk [(34,1,63),(35,1,2),(36,1,5)], by decide +kernel, by unfold Clean; decide +kernel, by decide +kernel, by decide +kernel,
    by decide +kernel, by decide +kernel, by decide +kernel, by decide +kernel, by decide +kernel, h⟩

theorem witness_ring_key_set (k : Nat) (h : Config.unwrapKey none (fitBytes 40 (ex 40 [(0,1,9)])) = some k) :
    ∃ (s : State) (dt : Nat) (c : Cmd) (j : Nat), s.Ready .ringKeySet dt c ∧ c.u8 32 ≤ 1 ∧ c.u8 33 = 0 ∧ Clean c [(32, 2)] 40 ∧ c.paramLen = 40 ∧
      c.u8 32 ≠ s.rng.keySlot ∧ ((s.session c.session).key ≠ none ∨ s.nullKeyOk = true) ∧
      Config.unwrapKey (s.session c.session).key (fitBytes 40 c.ext) = some j :=
  ⟨SR, 1000, pk [(32,1,1)] (ex 40 [(0,1,9)]), k, by decide +kernel, by decide +kernel, by decide +kernel, by unfold Clean; decide +kernel,
    by decide +kernel, by decide +kernel, by decide +kernel, h⟩

/-- DEBUG_OPEN of the sealed node with a token for level FULL, a debug alarm in service. -/
def SKd : State := { S0.setPoint 5 (pt [(0,1,6),(1,1,5),(2,2,176)]) with mod := SKo.mod, sec := SKo.sec }
def tk : Cmd := pk [(32,1,2)] (ex 128 [(0,2,1),(2,1,2),(4,8,serialNo),(20,8,6000000000)])

theorem witness_debug_open (h : tokenOk (SKd.entered .debugOpen 1000 tk) 2 (fitBytes 128 tk.ext) = true) :
    ∃ (s : State) (dt : Nat) (c : Cmd) (env : Env) (x : List Byte), s.Ready .debugOpen dt c ∧ x = fitBytes 128 c.ext ∧ Clean c [(32, 1)] 128 ∧
      c.paramLen = 128 ∧ zeroAt x [(3, 1), (28, 4)] = true ∧ leAt x 0 2 = 1 ∧ 1 ≤ byteAt x 2 ∧ byteAt x 2 ≤ 2 ∧ s.mod.life = .sealed ∧
      1 ≤ c.u8 32 ∧ c.u8 32 ≤ 2 ∧ env.sense = [1] ∧ tokenOk (s.entered .debugOpen dt c) (c.u8 32) x = true ∧ s.debugAlarm = true ∧
      s.pwr.state ≠ .holdover :=
  ⟨SKd, 1000, tk, { sense := [1] }, _, by decide +kernel, rfl, by unfold Clean; decide +kernel, by decide +kernel, by decide +kernel,
    by decide +kernel, by decide +kernel, by decide +kernel, by decide +kernel, by decide +kernel, by decide +kernel, rfl, h, by decide +kernel,
    by decide +kernel⟩

end Sys2Proof.Tests
end

section
/-! PROOFS. The identity register of a node (R2). -/

namespace Sys2Proof.Machine

@[simp] theorem State.advance_reaches (s : State) (dt pf : Nat) : (s.advance dt).reaches pf = s.reaches pf := rfl

/-- Offset 0 of PF0 is GLB_ID, 32 bits wide, in every state (R2, R271). -/
@[simp] theorem State.regOf_glbId (s : State) : s.regOf 0 0 = some (glbId, false) := rfl

theorem exec_register64LowRead (s : State) (dt : Nat) (pf : Fin 3) (r : RegRead) :
    exec (.register64LowRead dt pf r) s = execRegister64LowRead dt pf r s := rfl

/-- An aligned 32-bit read of a function that the host reaches is a `readWord` at the instant of the access (R249). -/
theorem exec_register64LowRead_word {s : State} {pf : Fin 3} {off : Nat} (dt : Nat) (hr : s.reaches pf.val = true) (ha : off % 4 = 0) :
    exec (.register64LowRead dt pf ⟨off, 4⟩) s = .next (readWord pf.val off (s.advance dt)) := by
  simp [exec_register64LowRead, execRegister64LowRead, hr, ha]

/-- A 32-bit register of PF0 below the island blocks answers its value and changes nothing else: the reads with an effect of their own
(R79, R118, R165, the clock's latch) all lie above, and only a 64-bit register latches a high half (R249). -/
theorem readWord_pf0_narrow {s : State} {off v : Nat} (h : s.regOf 0 off = some (v, false)) (ho : off < 0x20000) :
    readWord 0 off s = s.reads v := by
  have hAch : ¬ 0x20000 ≤ off := by omega
  have hDch : ¬ 0x30000 ≤ off := by omega
  have hClock : off ≠ 0x50108 := by omega
  simp [readWord, readValueOf, h, hAch, hDch, hClock]

/-- Settles O7: offset 0 of PF0 holds `glbId` in every state, and a 32-bit read there answers it without a side effect. -/
theorem deviceIdentity : Obligations.DeviceIdentity := by
  intro s dt hr
  calc exec (.register64LowRead dt 0 ⟨0, 4⟩) s
      _ = .next (readWord 0 0 (s.advance dt)) := exec_register64LowRead_word dt hr rfl
      _ = .next ((s.advance dt).reads glbId) := by rw [readWord_pf0_narrow (s.advance dt).regOf_glbId (by decide)]
      _ = .next ((s.advance dt).reads 0x64960002) := rfl

end Sys2Proof.Machine
end

section
/-! PROOFS. The sample instants of a rate and the last of them not after a Node Time (R53). -/

namespace Sys2Proof.Machine

/-- The k-th sample instant of a rate of `r.1 / r.2` S/s (R53). -/
def sampleInstant (r : Nat × Nat) (k : Nat) : Nat := k * 1000000000 * r.2 / r.1

/-- The number of the last sample instant of `r` not after `now`: `sampleInstant_le_iff` shows that it is, `gridFloor_eq` that `gridFloor` takes
it. -/
def sampleIndex (r : Nat × Nat) (now : Nat) : Nat := ((now + 1) * r.1 - 1) / (1000000000 * r.2)

theorem gridFloor_eq (r : Nat × Nat) (now : Nat) : gridFloor r now = sampleInstant r (sampleIndex r now) := by
  rw [sampleInstant, Nat.mul_comm (sampleIndex r now)]
  rfl

/-- Later numbers have later or equal instants. -/
theorem sampleInstant_mono (r : Nat × Nat) {j k : Nat} (h : j ≤ k) : sampleInstant r j ≤ sampleInstant r k :=
  Nat.div_le_div_right (Nat.mul_le_mul_right _ (Nat.mul_le_mul_right _ h))

/-- The quotient rounded down is at most `now` when its exact value is below `now + 1`, which is what the - 1 inside the index is for. -/
theorem sampleInstant_le_iff {r : Nat × Nat} (hn : 0 < r.1) (hm : 0 < r.2) {k now : Nat} :
    sampleInstant r k ≤ now ↔ k ≤ sampleIndex r now := by
  have hEnd : 0 < (now + 1) * r.1 := Nat.mul_pos now.succ_pos hn
  calc sampleInstant r k ≤ now
      _ ↔ k * 1000000000 * r.2 / r.1 < now + 1 := Nat.lt_succ_iff.symm
      _ ↔ k * 1000000000 * r.2 < (now + 1) * r.1 := Nat.div_lt_iff_lt_mul hn
      _ ↔ k * (1000000000 * r.2) ≤ (now + 1) * r.1 - 1 := by rw [Nat.mul_assoc, Nat.le_sub_one_iff_lt hEnd]
      _ ↔ k ≤ sampleIndex r now := (Nat.le_div_iff_mul_le (Nat.mul_pos (by decide) hm)).symm

/-- Settles O8: `gridFloor` is the instant of the index of `now`, and an instant is not after `now` exactly when its number is at most that index. -/
theorem sampleInstants : Obligations.SampleInstants := by
  intro n m now hn hm
  have hLe : ∀ k, sampleInstant (n, m) k ≤ now ↔ k ≤ sampleIndex (n, m) now := fun _ => sampleInstant_le_iff hn hm
  rw [gridFloor_eq]
  exact ⟨⟨sampleIndex (n, m) now, rfl⟩, (hLe _).mpr (Nat.le_refl _), fun k hk => sampleInstant_mono (n, m) ((hLe k).mp hk)⟩

end Sys2Proof.Machine
end

section
/-! PROOFS. How the recorder finds a segment for a record, and what it erases for one (R475, R483). -/

namespace Sys2Proof.Machine

/-! ### The oldest of some segments -/

@[simp] theorem oldestSeg_eq_none_iff {base : Nat} {l : List Segment} : oldestSeg base l = none ↔ l = [] := by
  cases l with
  | nil => simp [oldestSeg]
  | cons g l => cases h : oldestSeg base l <;> simp [oldestSeg, h]

/-- What `oldestSeg` answers is one of the segments, and none of them is older (R473). -/
theorem oldestSeg_eq_some {base : Nat} {l : List Segment} {v : Segment} (h : oldestSeg base l = some v) :
    v ∈ l ∧ ∀ w ∈ l, v.age base ≤ w.age base := by
  induction l generalizing v with
  | nil => simp [oldestSeg] at h
  | cons g l ih =>
    cases ho : oldestSeg base l with
    | none =>
      obtain rfl : l = [] := oldestSeg_eq_none_iff.mp ho
      obtain rfl : g = v := by simpa [oldestSeg] using h
      simp
    | some o =>
      obtain ⟨hMem, hOld⟩ := ih ho
      obtain rfl : (if o.age base < g.age base then o else g) = v := by simpa [oldestSeg, ho] using h
      split
      case isTrue hLt => exact ⟨List.mem_cons_of_mem g hMem, List.forall_mem_cons.mpr ⟨Nat.le_of_lt hLt, hOld⟩⟩
      case isFalse hGe =>
        exact ⟨List.mem_cons_self, List.forall_mem_cons.mpr ⟨Nat.le_refl _, fun w hw => Nat.le_trans (Nat.not_lt.mp hGe) (hOld w hw)⟩⟩

/-! ### Opening and erasing a segment -/

/-- The segment that `openSeg` appends. -/
def Recorder.newSegment (sev : Nat) (mir : Bool) (now : Nat) (r : Recorder) : Segment :=
  { sev := sev, mirrored := mir, closed := false, block := r.nextBlock.getD 0, used := 0, recs := [], scrubbed := now }

@[simp] theorem Recorder.openSeg_segments (sev : Nat) (mir : Bool) (now : Nat) (r : Recorder) :
    (r.openSeg sev mir now).segments = r.segments ++ [r.newSegment sev mir now] := rfl

@[simp] theorem Recorder.openSeg_sevOver (sev : Nat) (mir : Bool) (now : Nat) (r : Recorder) :
    (r.openSeg sev mir now).sevOver = r.sevOver := rfl

@[simp] theorem Recorder.overwrite_segments (v : Segment) (r : Recorder) :
    (r.overwrite v).segments = r.segments.filter fun h => h.block ≠ v.block := by
  cases h : v.mirrored <;> simp [Recorder.overwrite, Recorder.erase, h]

theorem Recorder.overwrite_sevOver_own {v : Segment} (h : v.mirrored = false) (r : Recorder) :
    (r.overwrite v).sevOver = addAt r.sevOver v.sev v.recs.length := by
  simp [Recorder.overwrite, Recorder.erase, h]

/-- Opening a segment loses none. -/
theorem Recorder.mem_openSeg_segments {r : Recorder} {g : Segment} (sev : Nat) (mir : Bool) (now : Nat) (hg : g ∈ r.segments) :
    g ∈ (r.openSeg sev mir now).segments :=
  List.mem_append_left _ hg

/-- Where no block is listed twice, the block tells which segment it is. -/
theorem eq_of_block_eq {l : List Segment} {g v : Segment} (hBlocks : (l.map (·.block)).Nodup) (hg : g ∈ l) (hv : v ∈ l)
    (hBlock : g.block = v.block) : g = v := by
  induction l with
  | nil => cases hg
  | cons s l ih =>
    obtain ⟨hNew, hRest⟩ := List.nodup_cons.mp hBlocks
    have hOther : ∀ w ∈ l, w.block ≠ s.block := fun w hw h => hNew (List.mem_map.mpr ⟨w, hw, h⟩)
    obtain rfl | hgTail := List.mem_cons.mp hg <;> obtain rfl | hvTail := List.mem_cons.mp hv
    · rfl
    · exact absurd hBlock.symm (hOther v hvTail)
    · exact absurd hBlock (hOther g hgTail)
    · exact ih hRest hgTail hvTail

/-- While no two segments share a block, erasing a held one to open another loses that one alone. -/
theorem Recorder.eq_of_lost_openSeg_overwrite {r : Recorder} {v g : Segment} {sev now : Nat} {mir : Bool}
    (hBlocks : (r.segments.map (·.block)).Nodup) (hv : v ∈ r.segments) (hg : g ∈ r.segments)
    (hLost : g ∉ ((r.overwrite v).openSeg sev mir now).segments) : g = v := by
  have hErased : g ∉ (r.overwrite v).segments := mt (mem_openSeg_segments sev mir now) hLost
  have hBlock : g.block = v.block := by simpa [hg] using hErased
  exact eq_of_block_eq hBlocks hg hv hBlock

/-! ### The two allocations -/

theorem Recorder.mem_victims_iff {r : Recorder} {sev : Nat} {g : Segment} :
    g ∈ r.victims sev ↔
      g ∈ r.segments ∧ g.closed = true ∧ g.mirrored = false ∧ (g.sev = sev ∨ (g.sev < sev ∧ r.q g.sev < r.held g.sev)) := by
  simp [Recorder.victims, and_assoc]

theorem Recorder.allocate_of_free {r : Recorder} {sev : Nat} (now : Nat) (hFree : 1 ≤ r.freeSegs)
    (hLeft : r.held sev < r.q sev ∨ r.reservedOthers sev ≤ r.freeSegs - 1) :
    r.allocate sev now = some (r.openSeg sev false now) :=
  if_pos ⟨hFree, hLeft⟩

/-- Without a free segment that may be taken, the oldest victim's place is taken, if there is one. -/
theorem Recorder.allocate_of_not_free {r : Recorder} {sev : Nat} (now : Nat)
    (h : r.freeSegs = 0 ∨ (r.q sev ≤ r.held sev ∧ r.freeSegs - 1 < r.reservedOthers sev)) :
    r.allocate sev now = (oldestSeg (r.base false) (r.victims sev)).map fun v => (r.overwrite v).openSeg sev false now := by
  have hFull : ¬(1 ≤ r.freeSegs ∧ (r.held sev < r.q sev ∨ r.reservedOthers sev ≤ r.freeSegs - 1)) := by omega
  rw [Recorder.allocate, if_neg hFull]
  cases oldestSeg (r.base false) (r.victims sev) <;> rfl

/-- What an allocation for an own record can do: open a segment, with nothing erased or after one of the victims (R475). -/
theorem Recorder.allocate_cases {r t : Recorder} {sev now : Nat} (h : r.allocate sev now = some t) :
    t = r.openSeg sev false now ∨ ∃ v ∈ r.victims sev, t = (r.overwrite v).openSeg sev false now := by
  unfold Recorder.allocate at h
  split at h
  · exact .inl (Option.some.inj h).symm
  · split at h
    · cases h
    next v hv => exact .inr ⟨v, (oldestSeg_eq_some hv).1, (Option.some.inj h).symm⟩

/-- What an allocation for mirrored records can do: open a segment, with nothing erased or after a closed mirrored one (R483). -/
theorem Recorder.allocateMirror_cases {r t : Recorder} {now : Nat} (h : r.allocateMirror now = some t) :
    t = r.openSeg 0 true now ∨
      ∃ v ∈ r.segments, v.mirrored = true ∧ v.closed = true ∧ t = (r.overwrite v).openSeg 0 true now := by
  unfold Recorder.allocateMirror at h
  split at h
  · exact .inl (Option.some.inj h).symm
  · split at h
    · cases h
    next v hv =>
      obtain ⟨hMem, hKind⟩ := List.mem_filter.mp (oldestSeg_eq_some hv).1
      obtain ⟨hMir, hClosed⟩ := Bool.and_eq_true_iff.mp hKind
      exact .inr ⟨v, hMem, hMir, hClosed, (Option.some.inj h).symm⟩

/-- An own record erases a victim or nothing (R475). -/
theorem Recorder.mem_victims_of_lost {r t : Recorder} {sev now : Nat} {g : Segment} (hBlocks : (r.segments.map (·.block)).Nodup)
    (h : r.allocate sev now = some t) (hg : g ∈ r.segments) (hLost : g ∉ t.segments) : g ∈ r.victims sev := by
  obtain rfl | ⟨v, hv, rfl⟩ := Recorder.allocate_cases h
  · exact absurd (mem_openSeg_segments sev false now hg) hLost
  · have hHeld : v ∈ r.segments := (mem_victims_iff.mp hv).1
    rwa [eq_of_lost_openSeg_overwrite hBlocks hHeld hg hLost]

/-- Mirrored records erase a closed mirrored segment or nothing (R483). -/
theorem Recorder.closed_mirrored_of_lost {r t : Recorder} {now : Nat} {g : Segment} (hBlocks : (r.segments.map (·.block)).Nodup)
    (h : r.allocateMirror now = some t) (hg : g ∈ r.segments) (hLost : g ∉ t.segments) :
    g.closed = true ∧ g.mirrored = true := by
  obtain rfl | ⟨v, hv, hMir, hClosed, rfl⟩ := Recorder.allocateMirror_cases h
  · exact absurd (mem_openSeg_segments 0 true now hg) hLost
  · obtain rfl : g = v := eq_of_lost_openSeg_overwrite hBlocks hv hg hLost
    exact ⟨hClosed, hMir⟩

theorem Recorder.reservedOthers_eq_sum (r : Recorder) (k : Nat) :
    r.reservedOthers k = (([0, 1, 2, 3, 4].filter (· ≠ k)).map fun m => r.q m - r.held m).sum + (r.mirrorMax - r.mirUsed) :=
  congrArg (· + _) List.sum_eq_foldl.symm

/-- Settles O56: the branches of `allocate` one by one, then what the cases of each allocation can have erased. -/
theorem segmentAllocation : Obligations.SegmentAllocation := by
  intro r sev now vs hBlocks hvs
  obtain rfl : vs = r.victims sev := hvs
  refine ⟨fun hFree hLeft => ?free, fun hFull hNone => ?refused, fun hFull hSome => ?victim,
    fun t ht g hg hLost => ?own, fun t ht g hg hLost => ?mirrored, r.reservedOthers_eq_sum⟩
  case free =>
    exact ⟨_, _, Recorder.allocate_of_free now hFree hLeft, Recorder.openSeg_segments .., rfl, rfl, Recorder.openSeg_sevOver ..⟩
  case refused => rw [Recorder.allocate_of_not_free now hFull, oldestSeg_eq_none_iff.mpr hNone, Option.map_none]
  case victim =>
    obtain ⟨v, hv⟩ := Option.ne_none_iff_exists'.mp (mt oldestSeg_eq_none_iff.mp hSome)
    obtain ⟨hMem, hOldest⟩ := oldestSeg_eq_some hv
    obtain ⟨-, -, hOwn, -⟩ := Recorder.mem_victims_iff.mp hMem
    refine ⟨(r.overwrite v).openSeg sev false now, v, (r.overwrite v).newSegment sev false now, ?_, hMem, hOldest, ?_, rfl, rfl, ?_⟩
    · rw [Recorder.allocate_of_not_free now hFull, hv, Option.map_some]
    · rw [Recorder.openSeg_segments, Recorder.overwrite_segments]
    · rw [Recorder.openSeg_sevOver, Recorder.overwrite_sevOver_own hOwn]
  case own => exact (Recorder.mem_victims_iff.mp (Recorder.mem_victims_of_lost hBlocks ht hg hLost)).2
  case mirrored => exact Recorder.closed_mirrored_of_lost hBlocks ht hg hLost

end Sys2Proof.Machine
end
